-- ==== Sys2Proof/Word.lean ====
section
/-!
DEFINITION. The word types of the K48 block model: the widths that the manual itself works in.
Nothing here computes; every field, sign or byte-order helper stands under Sys2Proof/Machine/.
-/
namespace Sys2Proof

/-- One byte. -/
abbrev Byte := BitVec 8

/-- A 32-bit word: every register, packet word and schedule word (R2, R100, R426). -/
abbrev Word := BitVec 32

/-- A 128-bit flit or memory word (R362, R328). -/
abbrev Flit := BitVec 128

/-- A full chain time: bits [63:9] nanoseconds, bits [8:0] fine time (R140). -/
abbrev CT := BitVec 64

/-- A frame number (R9). -/
abbrev FN := BitVec 48

end Sys2Proof
end

