-- ==== Sys2Proof/Syntax.lean ====
section
/-!
DEFINITION. The commands of the block: one constructor of Instr for each row of spec/opcode_table.json, in the
table's order, and the plain data that the rows carry as operands. A row that the manual describes as an event
(an edge on a ball, a flit that arrives, a timer that ends) carries what the outside world brings with it; what
the device itself holds is read from State.
-/
namespace Sys2Proof

/-- A request that a command port has taken in: the header fields of R100 but for FORMAT, OPCODE (named by the row) and
LENGTH (the number of payload words), with the port and, for the chain ports, the lane it arrived on (R107, R103). -/
structure Req where
  port    : Nat
  lane    : Nat
  tag     : BitVec 16
  node    : BitVec 16
  flags   : BitVec 8
  param   : BitVec 24
  payload : List Word
  deriving DecidableEq, Repr

/-- A rind, field by field (R208); reserved fields keep what arrived so that a forwarded curd is unchanged. -/
structure Rind where
  source      : BitVec 16
  seq         : BitVec 16
  fn          : Word
  type        : Byte
  length      : Byte
  rev         : BitVec 4
  reserved    : BitVec 6
  invPresent  : Bool
  rangeSwitch : Bool
  shortPre    : Bool
  rawNoGain   : Bool
  poisoned    : Bool
  compressed  : Bool
  lost        : BitVec 16
  covered     : Byte
  reservedLow : Byte
  deriving DecidableEq, Repr

/-- A curd: its rind and its payload flits. The trailer is formed when it is sent (R368). -/
structure Curd where
  rind    : Rind
  payload : List Flit
  deriving DecidableEq, Repr

/-- The content of a CAP link flit (R363). -/
structure Cap where
  maxRev : BitVec 4
  gen    : BitVec 2
  lane   : BitVec 6
  node   : BitVec 16
  epoch  : BitVec 16
  major  : Byte
  seen   : Bool
  deriving DecidableEq, Repr

/-- What the memory met in one read: the outcomes of R329 that the stored mark does not already say, the region-tag outcome of R336, a
class-S block miscorrected for errors in more than four bytes (R328), and a class-L word in which every byte fails parity, which reads as
poisoned (R329). -/
inductive FindingKind where
  | corrected
  | uncorrectable
  | tag
  | miscorrected
  | allParity
  deriving DecidableEq, Repr

/-- One such finding at an address: of the 64-byte block for class S, of the 16-byte word otherwise. `vat` names the
space (R426's vat space, or the window space). -/
structure Finding where
  vat  : Bool
  addr : Nat
  kind : FindingKind
  deriving DecidableEq, Repr

/-- The word that an engine's fetch delivered (R268), but for the opcode, which the row names; `poisoned` when the
fetch read it as poisoned (R256, code 0x05). -/
structure EngWord where
  pred     : BitVec 3
  d        : BitVec 5
  a        : BitVec 5
  b        : BitVec 5
  f        : BitVec 6
  imm      : Word
  poisoned : Bool
  deriving DecidableEq, Repr

/-- What a calibration run measured (R191): counts per bin for both paths with the stops lost; means at the three
reference steps for each range (even digitiser, then odd); or the interleave estimate with its residual. -/
inductive CalMeasure where
  | density (timing trailing : List Nat) (lost : Nat)
  | sweep (even odd : List (Int × Int × Int))
  | interleave (dt : Int) (residual : Nat)
  deriving DecidableEq, Repr

/-- What an Ethernet frame that arrives carries, as far as R389 to R399 tell frames apart. -/
inductive EthBody where
  | arpRequest (targetIp senderIp : Word) (senderMac : BitVec 48)
  | udp (srcIp dstIp : Word) (srcPort dstPort : BitVec 16) (ipOk udpSumOk : Bool) (payload : List Word)
  | ptp (dstIp : Word) (port : BitVec 16) (ipOk udpSumOk : Bool) (msg : List Word)
  | icmp
  | pause
  | other
  deriving DecidableEq, Repr

/-- An Ethernet frame on the uplink: destination and source address, tag, FCS result, body. -/
structure EthFrame where
  dst    : BitVec 48
  src    : BitVec 48
  vlan   : Option (BitVec 12)
  fcsOk  : Bool
  body   : EthBody
  deriving DecidableEq, Repr

/-- A foreign master's Announce data set as far as the default best master clock algorithm compares it
(IEEE 1588-2019, named by R397). -/
structure PtpMaster where
  identity  : BitVec 64
  priority1 : Byte
  clockClass : Byte
  accuracy  : Byte
  variance  : BitVec 16
  priority2 : Byte
  steps     : BitVec 16
  utcOffset : BitVec 16
  deriving DecidableEq, Repr

/-- What the boot ROM takes from the Basic Flash Parameter Table (R84): the 1-1-2 and 1-1-4 fast reads offered, 4-byte addressing, the page
size in bytes, the instruction of the 4 KiB erase. -/
structure FlashPar where
  dual    : Bool
  quad    : Bool
  addr4   : Bool
  page    : Nat
  erase4k : Byte
  deriving DecidableEq, Repr

/-- The commands of the block. -/
inductive Instr where
  -- opcodes of R116 and what they start
  | echo (r : Req)
  | identify (r : Req)
  | resetDevice (r : Req)
  | resetDeviceReset
  | healthReport (r : Req)
  | enumerate (r : Req)
  | featureEpoch (r : Req)
  | noticeSubscribe (r : Req)
  | csrRead (r : Req)
  | csrWrite (r : Req)
  | csrReadBlock (r : Req)
  | csrWriteBlock (r : Req)
  | csrModify (r : Req)
  | registerWrite (port : Nat) (addr value : Word)
  | snapshotRead (addr : Word)
  | rcRead (port : Nat) (addr : Word)
  | stampRead (port n : Nat)
  | missRead (port : Nat)
  | quarantineRead (port : Nat)
  | memRead (r : Req) (found : List Finding)
  | memWrite (r : Req) (found : List Finding)
  | readModifyWrite (vat : Bool) (addr : Nat) (bytes : List (Nat × Byte)) (found : List Finding)
  | regionSet (r : Req)
  | regionReady (region : Nat)
  | regionRead (r : Req)
  | spareRow (r : Req)
  | rowMoveDone (stack : Nat) (found : List Finding)
  | writeBack (vat : Bool) (addr : Nat)
  | imageErase (r : Req)
  | imageEraseDone
  | imageWrite (r : Req)
  | imageWriteDone
  | imageVerify (r : Req)
  | imageVerifyDone
  | imageArm (r : Req)
  | imageConfirm (r : Req)
  | imageInfo (r : Req)
  | bootGo (r : Req)
  | schedLoad (r : Req)
  | schedCommit (r : Req)
  | scheduleSwap
  | shadowCopyDone
  | schedRead (r : Req)
  | kernelLoad (r : Req)
  | kernelInfo (r : Req)
  | trigArm (r : Req)
  | trigArmTakesEffect
  | trigDisarm (r : Req)
  | trigDisarmTakesEffect
  | trigForce (r : Req)
  | segmentRead (r : Req) (found : List Finding)
  | calRun (r : Req)
  | calRunDone (ch : Nat) (m : CalMeasure)
  | linkTrain (r : Req)
  | linkTrainTimeout (lane : Nat)
  | linkStatus (r : Req)
  | rosterLoad (r : Req)
  | rosterRead (r : Req)
  | linkRtt (r : Req)
  | pressJob (r : Req) (found : List Finding)
  | pressFlush (r : Req) (found : List Finding)
  | timeSet (r : Req)
  | timeRead (r : Req)
  | freqMeasure (r : Req)
  | freqMeasureDone (stamps : List CT) (lost : Nat)
  | pulseSet (r : Req)
  | pulseRise (k : Nat)
  | pulseFall (k : Nat)
  | hkSeqLoad (r : Req)
  | hkSeqStart (r : Req)
  | hkRead (r : Req)
  | bistRun (r : Req)
  | bistDone (failed : BitVec 6) (target : BitVec 4) (unit : BitVec 12) (addr : Word)
  | testmuxSet (r : Req)
  -- writes with a row of their own
  | runStart (port : Nat)
  | runStop (port : Nat)
  | lastTick
  | frameSwitchArm (port : Nat)
  | periodSwitch
  | frameTick
  | rwfTakeEffect
  | laneCfgHoldExpiry (lane : Nat)
  | returnSwitch (port : Nat)
  | returnSwitchDone
  | oscTrimStep
  | activeRoleWrite (port : Nat) (value : Word)
  | readmit (port : Nat)
  | forceSwap (port : Nat)
  | watchdogFeed (port : Nat) (value : Word)
  | watchdogEnable (port : Nat) (value : Word)
  | biasKey (port : Nat) (value : Word)
  | biasKeyClose
  | biasEnableWrite (port : Nat) (value : Word)
  | modeWrite (port : Nat) (value : Word)
  | referenceTakeBack (port : Nat) (value : Word)
  | cmpArm (port : Nat)
  | ctCompare
  | cntClear (port : Nat) (value : Word)
  | logClear (port : Nat)
  | deepIdleEnter (port lane : Nat)
  | deepIdleWake (port lane : Nat)
  | mergeEnable (port : Nat) (value : Word)
  | uplinkEnable (port : Nat) (value : Word)
  -- supplies, resets, clocks, boot
  | supplyGood (n : Nat)
  | supplyBad (n : Nat)
  | supplyWarn (n : Nat)
  | powerOnReset (supply : Option Nat)
  | rstNReset
  | watchdogExpiry
  | clockLossReset
  | fuseCrcExhaustion
  | resetHoldEnd
  | domainRelease
  | fuseLoad (failRow : Option Nat)
  | xtalWaitExpiry (khz : Nat)
  | pllLock
  | dividerRampDone
  | pllUnlock (pll : Nat)
  | fallbackSwitch
  | forcedSwitch
  | oscReadyTimeout
  | ckOscFail
  | primaryOk
  | bootRomStart
  | bootAttempt (sfdp : Option FlashPar)
  | downloadTimeout
  -- ports
  | packetReceive (port lane : Nat) (words : List Word)
  | mgmtWrite (words : List Word)
  | mgmtRead (complete : Bool)
  | mgmtStatus
  | cmdDataCapture
  | cmdDataUpdate (valid : Bool) (w : Word)
  | jtagInstruction (code : Byte)
  | testLogicReset
  | outstandingTimeout (tag node : BitVec 16)
  -- control pair
  | mismatch (kind : BitVec 2) (unmatched : Nat) (addr : Word) (tag : BitVec 16)
  | arbitration (aPasses bPasses : Bool)
  | failOver
  | standbySelftestSlice (passes : Bool)
  | demotedSelftest (passes : Bool)
  | resyncDone
  | takeBack
  -- schedule entries
  | transfer (entry : Nat)
  | dmaDescriptor (ch : Nat) (found : List Finding)
  | dmaDescriptorDone (ch : Nat)
  | kernelRun (entry : Nat)
  | kernelRunComplete (cluster : Nat)
  | curdEmission (entry : Nat)
  | housekeepingStep (entry : Nat)
  | scrubStep (entry : Nat) (found : List Finding)
  | pressEntry (entry : Nat)
  | transientBufferReadout (entry : Nat) (found : List Finding)
  | entryAbort (entry : Nat)
  | curdDeadline (path : Nat)
  -- channels, hits, rennet
  | tdcStop (ch : Nat) (trailing : Bool) (cycle : Byte) (coarse : BitVec 12) (bin : BitVec 9)
  | autorangeDrop (ch : Nat)
  | autorangeRise (ch : Nat)
  | invIntervalEnd (ch : Nat)
  | hitForm (ch : Nat)
  | totWaitExpiry (ch : Nat)
  | hitFrameClose (parityErrors stagePoison : List Nat)
  | patternFire (k : Nat) (cycle : CT)
  | trigInEdge (t : CT)
  | autoTimeout
  | triggerDecision
  | trigOutPulse
  | recordComplete
  | rearmComplete
  -- engine instructions (R274); e = 16 × cluster + engine
  | nop (e : Nat) (w : EngWord)
  | halt (e : Nat) (w : EngWord)
  | br (e : Nat) (w : EngWord)
  | brdec (e : Nat) (w : EngWord)
  | id (e : Nat) (w : EngWord)
  | time (e : Nat) (w : EngWord)
  | li (e : Nat) (w : EngWord)
  | addi (e : Nat) (w : EngWord)
  | add (e : Nat) (w : EngWord)
  | sub (e : Nat) (w : EngWord)
  | slli (e : Nat) (w : EngWord)
  | srai (e : Nat) (w : EngWord)
  | cmp (e : Nat) (w : EngWord)
  | cmpi (e : Nat) (w : EngWord)
  | agset (e : Nat) (w : EngWord)
  | agget (e : Nat) (w : EngWord)
  | setlen (e : Nat) (w : EngWord)
  | agexp (e : Nat) (w : EngWord)
  | agidx (e : Nat) (w : EngWord)
  | ld (e : Nat) (w : EngWord) (found : List Finding)
  | ldp (e : Nat) (w : EngWord) (found : List Finding)
  | st (e : Nat) (w : EngWord)
  | stp (e : Nat) (w : EngWord)
  | vadd (e : Nat) (w : EngWord)
  | vsub (e : Nat) (w : EngWord)
  | vsra (e : Nat) (w : EngWord)
  | vand (e : Nat) (w : EngWord)
  | vor (e : Nat) (w : EngWord)
  | vxor (e : Nat) (w : EngWord)
  | vmov (e : Nat) (w : EngWord)
  | vtag (e : Nat) (w : EngWord)
  | vget (e : Nat) (w : EngWord)
  | vsplat (e : Nat) (w : EngWord)
  | mac8 (e : Nat) (w : EngWord)
  | mac4 (e : Nat) (w : EngWord)
  | mac16 (e : Nat) (w : EngWord)
  | bclr (e : Nat) (w : EngWord)
  | movs (e : Nat) (w : EngWord)
  | emit (e : Nat) (w : EngWord)
  | resultAdmission (cluster : Nat)
  | trig (e : Nat) (w : EngWord) (apart : Bool)
  -- merge, epoch, time
  | mergeClose (path : Nat) (found : List Finding)
  | mergeSlotEmpty
  | epochSwitch
  | ppsEdge (t : CT)
  | refPresent (which : Nat)
  | refLost (which : Nat)
  | ppsLost
  | epochWrap
  | servoUpdate
  | exchangeTimeout
  | holdLimitExpiry
  | ptpOffsetEstimate (offset : Int) (n : Nat)
  | ptpSyncTimeout
  -- lanes and the Casud link
  | bringupStepComplete (lane : Nat)
  | bringupTimeout (lane : Nat)
  | laneDown (lane : Nat)
  | laneRefclkLost
  | curdReceive (lane : Nat) (c : Curd) (crcOk : Bool)
  | damagedCodeword (lane : Nat) (curdFlits : Bool)
  | cap (lane : Nat) (c : Cap)
  | slot (lane : Nat) (number : Byte) (free : Bool) (source : BitVec 16) (fn : FN)
  | slotOpen (lane number : Nat)
  | takeover (lane : Nat)
  | tsSync (lane : Nat) (seq : Byte) (t2 : CT)
  | tsReq (lane : Nat) (seq : Byte) (t4 : CT)
  | tsData (lane : Nat) (seq : Byte) (t1 : CT) (d41 : Word)
  | timeExchangeStart (lane : Nat)
  | frame (lane : Nat) (period : BitVec 21) (fn : FN) (epoch : Word) (aligned switchPending : Bool)
  | frameSw (lane : Nat) (switchFn : FN) (nextPeriod : BitVec 21)
  | trigFlit (lane : Nat) (origin : BitVec 16) (sources : BitVec 10) (t : CT)
  | sleep (lane : Nat)
  | linkUnknown (lane : Nat) (kind : Byte)
  | carriageSend (lane : Nat)
  | cdcTimeout (r : Req)
  | cdcDrop (lane : Nat) (carriage : Bool)
  -- uplink
  | euUp
  | euDown
  | ethFrameReceive (fr : EthFrame)
  -- housekeeping
  | hkConnect
  | hkSettleEnd
  | hkConversionEnd (microvolt2p23 : Int)
  | hkResultPublish
  | sensorFault (source kind : Nat)
  | dieSensorRead (values : List (BitVec 16))
  -- vat and late rows
  | stackTrainingDone (stack : Nat) (ok : Bool)
  | stackTempRead (stack : Nat) (value : BitVec 16)
  | powerOff
  | rstNRelease
  | laneRefclkReturn
  | signalDetection (lane : Nat)
  | bringupSignalLoss (lane : Nat)
  | digitiserSample (ch : Nat) (code : BitVec 12)
  | oscSettled
  | trigOutFall
  | ptpDelayReq
  deriving DecidableEq, Repr

end Sys2Proof
end

