-- ==== Sys2Proof/Machine/Bits.lean ====
section
/-!
DEFINITION. Bit fields, signed values, byte order and the CRC-32C of R101: the helpers that every meaning shares.
-/
namespace Sys2Proof.Machine

/-- Bits [hi:lo] of a word as a number (R2). -/
def fld (w : Word) (hi lo : Nat) : Nat := w.toNat / 2 ^ lo % 2 ^ (hi + 1 - lo)

/-- Bits [hi:lo] of a 128-bit flit as a number. -/
def ffld (f : Flit) (hi lo : Nat) : Nat := f.toNat / 2 ^ lo % 2 ^ (hi + 1 - lo)

/-- A field value at its place. -/
def at32 (lo v : Nat) : Word := BitVec.ofNat 32 (v * 2 ^ lo)

/-- One bit at its place when the flag holds. -/
def bit32 (i : Nat) (b : Bool) : Word := if b then BitVec.ofNat 32 (2 ^ i) else 0

/-- Two's complement reading of the n low bits of a number. -/
def sx (n v : Nat) : Int := if v % 2 ^ n < 2 ^ (n - 1) then (v % 2 ^ n : Nat) else (v % 2 ^ n : Nat) - (2 ^ n : Nat)

/-- The n low bits of an integer as a number. -/
def low (n : Nat) (i : Int) : Nat := (i % (2 ^ n : Nat)).toNat

/-- An integer as a 32-bit word. -/
def w32 (i : Int) : Word := BitVec.ofNat 32 (low 32 i)

/-- Saturation of an integer to n signed bits. -/
def sat (n : Nat) (i : Int) : Int :=
  if i < -((2 ^ (n - 1) : Nat) : Int) then -((2 ^ (n - 1) : Nat) : Int)
  else if i > ((2 ^ (n - 1) : Nat) : Int) - 1 then ((2 ^ (n - 1) : Nat) : Int) - 1 else i

/-- Signed n-bit difference a − b (R415). -/
def sdiff (n a b : Nat) : Int := sx n ((a + 2 ^ n - b % 2 ^ n) % 2 ^ n)

/-- Ceiling of a quotient. -/
def cdiv (a b : Nat) : Nat := (a + b - 1) / b

/-- Low and high word of a 64-bit value. -/
def lo32 (v : Nat) : Word := BitVec.ofNat 32 v
def hi32 (v : Nat) : Word := BitVec.ofNat 32 (v / 2 ^ 32)

/-- The four bytes of a word, most significant first (R101). -/
def bytesOf (w : Word) : List Byte :=
  [BitVec.ofNat 8 (w.toNat / 2 ^ 24), BitVec.ofNat 8 (w.toNat / 2 ^ 16), BitVec.ofNat 8 (w.toNat / 2 ^ 8), BitVec.ofNat 8 w.toNat]

/-- The sixteen bytes of a flit, most significant first. -/
def flitBytes (f : Flit) : List Byte := (List.range 16).map fun i => BitVec.ofNat 8 (f.toNat / 2 ^ (120 - 8 * i))

/-- The four words of a flit, most significant first. -/
def flitWords (f : Flit) : List Word := (List.range 4).map fun i => BitVec.ofNat 32 (f.toNat / 2 ^ (96 - 32 * i))

/-- A flit of four words, most significant first; missing words are zero (R376). -/
def flitOfWords (ws : List Word) : Flit :=
  BitVec.ofNat 128 ((((ws.getD 0 0).toNat * 2 ^ 32 + (ws.getD 1 0).toNat) * 2 ^ 32 + (ws.getD 2 0).toNat) * 2 ^ 32 + (ws.getD 3 0).toNat)

/-- Words cut into flits, the last padded with zero words. -/
def flitsOfWords (ws : List Word) : List Flit :=
  (List.range (cdiv ws.length 4)).map fun i => flitOfWords ((ws.drop (4 * i)).take 4)

/-- One bit step of the reflected Castagnoli CRC. -/
def crcBit (c : Word) : Word := if c.getLsbD 0 then (c >>> 1) ^^^ 0x82F63B78 else c >>> 1

/-- One byte into the CRC. -/
def crcByte (c : Word) (b : Byte) : Word :=
  let c := c ^^^ b.setWidth 32
  crcBit (crcBit (crcBit (crcBit (crcBit (crcBit (crcBit (crcBit c)))))))

/-- CRC-32C of bytes (R101). -/
def crc32c (bs : List Byte) : Word := (bs.foldl crcByte 0xFFFFFFFF) ^^^ 0xFFFFFFFF

/-- CRC-32C of words, each most significant byte first. -/
def crcWords (ws : List Word) : Word := crc32c (ws.flatMap bytesOf)

/-- Little-endian value of bytes. -/
def leNat : List Byte → Nat
  | [] => 0
  | b :: bs => b.toNat + 256 * leNat bs

/-- Little-endian bytes of a number. -/
def leBytes : Nat → Nat → List Byte
  | 0, _ => []
  | n + 1, v => BitVec.ofNat 8 v :: leBytes n (v / 256)

/-- Number of elements that satisfy a test. -/
def count {α : Type} (p : α → Bool) (l : List α) : Nat := (l.filter p).length

/-- Insertion into a sorted list and the sort made of it; equal elements keep their order. -/
def insertBy {α : Type} (le : α → α → Bool) (x : α) : List α → List α
  | [] => [x]
  | y :: ys => if le y x then y :: insertBy le x ys else x :: y :: ys
def sortBy {α : Type} (le : α → α → Bool) (l : List α) : List α := l.foldl (fun acc x => insertBy le x acc) []

/-- One element of a list replaced. -/
def setAt {α : Type} (l : List α) (i : Nat) (x : α) : List α := l.take i ++ (if i < l.length then x :: l.drop (i + 1) else [])

/-- The first element that satisfies a test removed. -/
def eraseFirst {α : Type} (p : α → Bool) : List α → List α
  | [] => []
  | x :: xs => if p x then xs else x :: eraseFirst p xs

end Sys2Proof.Machine
end

