-- ==== Sys2Proof/Config.lean ====
section
/-!
DEFINITION. What the manual leaves open: the free values. Each draw takes the next index from the counter `free` of State, so
no two draws need agree and no proof can see a value.
-/
namespace Sys2Proof.Config

/-- The n-th value that the manual leaves open. -/
opaque freeNat : Nat → Nat

/-- The channels of a spectrum from its filter outputs w[0] to w[m - 1]: components and the exponent tag of the block. The manual gives the
transform as an exact sum and its arithmetic as 16+16 complex with truncation, not the value of each bit (R293). -/
opaque transform : List Int → List (Int × Int) × Nat

/-- The values of a beam curd and their exponent, from its channels: channel, exponent of each source's data, and for each spectrum the pairs of
weight (gain, delay) and datum; whether it is a power curd, and LOG2_KP. The manual gives the sum, not the width and truncation of each
step (R303, R304). -/
opaque beamSum : Bool → Nat → List (Nat × List Nat × List (List (((Int × Int) × Int) × (Int × Int)))) → List Int × Nat

end Sys2Proof.Config
end

