-- ==== Sys2Proof/Machine/SMap.lean ====
section
/-!
DEFINITION. Sparse maps: the one representation of everything the device has many of (registers by address, lanes,
channels, engines, memory bytes). A map lists only what differs from its default, keys rising, so that equal
contents are equal lists.
-/
namespace Sys2Proof.Machine

/-- A sparse map from numbers: the pairs that differ from the default, keys strictly rising. -/
abbrev SMap (α : Type) := List (Nat × α)

/-- The value at a key: what is listed for it, or the default. -/
def SMap.get {α : Type} (dflt : α) : SMap α → Nat → α
  | [], _ => dflt
  | (k, v) :: m, key => if k = key then v else SMap.get dflt m key

/-- What is listed for a key, when anything is. -/
def SMap.find {α : Type} : SMap α → Nat → Option α
  | [], _ => none
  | (k, v) :: m, key => if k = key then some v else SMap.find m key

/-- The map with nothing listed for a key. -/
def SMap.erase {α : Type} : SMap α → Nat → SMap α
  | [], _ => []
  | (k, v) :: m, key => if k = key then SMap.erase m key else (k, v) :: SMap.erase m key

/-- A pair put in its place before the first greater key. -/
def SMap.insert {α : Type} : SMap α → Nat → α → SMap α
  | [], key, val => [(key, val)]
  | (k, v) :: m, key, val => if key < k then (key, val) :: (k, v) :: m else (k, v) :: SMap.insert m key val

/-- The map with a value at a key; the default is not listed. -/
def SMap.set {α : Type} [DecidableEq α] (dflt : α) (m : SMap α) (key : Nat) (val : α) : SMap α :=
  if val = dflt then SMap.erase m key else SMap.insert (SMap.erase m key) key val

/-- The map with a value listed at a key, whatever the value. -/
def SMap.put {α : Type} (m : SMap α) (key : Nat) (val : α) : SMap α :=
  SMap.insert (SMap.erase m key) key val

/-- Keys strictly rising from a lower bound, and no value equal to the default. -/
def SMap.wfFrom {α : Type} [DecidableEq α] (dflt : α) : Nat → SMap α → Bool
  | _, [] => true
  | lo, (k, v) :: m => decide (lo ≤ k) && decide (v ≠ dflt) && SMap.wfFrom dflt (k + 1) m

/-- The canonical form. -/
def SMap.wf {α : Type} [DecidableEq α] (dflt : α) (m : SMap α) : Bool := SMap.wfFrom dflt 0 m

end Sys2Proof.Machine
end

