-- ==== Sys2Proof/Machine/Reg.lean ====
section
/-!
DEFINITION. The registers of the CSR space: every register of the address map (R426 to R430) by name, its address, the register
that an address holds, and for each register its constant Reset value and the bits of each access code (R3 to R5), as the
register tables of the chapters give them.
-/
namespace Sys2Proof.Machine

/-- Every register by name; an array's indices are operands. A statistics counter is named by the address of its low word
(R39). -/
inductive Reg where
  | deviceId
  | variant
  | idResources
  | idRole
  | gsEventSummary
  | gsIrqEn
  | gsAlertEn
  | gsCntSat
  | gsCntSatEn
  | gsCntClear
  | crResetCause
  | crReleaseStatus
  | crBootStatus
  | crStraps
  | crFuseStatus
  | crFwVersion
  | crClkStatus
  | crClkEvents
  | crClkCtrl
  | crOscTrim
  | pmSupplyGood
  | pmWarn
  | pmWarnEn
  | cpStatus
  | cpEvents
  | cpEventEn
  | cpCtrl
  | cpWdogCfg
  | cpWdogFeed
  | cpMismatchInfo
  | cpMismatchAddr
  | cmdPortStatus (n : Nat)
  | cmdPortSubscribe (n : Nat)
  | cmdPortNoticeSeq (n : Nat)
  | cmdEvents
  | cmdEventEn
  | tcStatus
  | tcEvents
  | tcEventEn
  | tcSrcCfg
  | tcCtLo
  | tcCtHi
  | tcEpoch
  | tcLtLo
  | tcLtHi
  | tcHt
  | tcFnLo
  | tcFnHi
  | tcRefaFreq
  | tcRefbFreq
  | tcPpsDelay
  | tcAsym
  | tcHoldLimit
  | tcOffset
  | tcRtt
  | tcSteer
  | tcStampEn
  | tcStampLo (n : Nat)
  | tcStampHi (n : Nat)
  | tcStampStat (n : Nat)
  | tcFramePeriod
  | tcFrameNext
  | tcFrameSwitchLo
  | tcFrameSwitchHi
  | tcFrameCtrl
  | tcPulseCfg (k : Nat)
  | tcPulseStartLo (k : Nat)
  | tcPulseStartHi (k : Nat)
  | tcPulsePeriodLo (k : Nat)
  | tcPulsePeriodHi (k : Nat)
  | tcPulseWidth (k : Nat)
  | caChCfg (n : Nat)
  | caChAuto (n : Nat)
  | caChLe (n : Nat)
  | caChCf (n : Nat)
  | caChTdc (n : Nat)
  | caChWin (n : Nat)
  | caChStatus (n : Nat)
  | caEvents
  | caEventEn
  | caBiasKey
  | caBiasCtrl
  | caPairStatus
  | caDiscLo
  | caDiscHi
  | mdChOffset (n : Nat) (r : Nat)
  | mdChGain (n : Nat) (r : Nat)
  | mdChSkew (n : Nat)
  | mdChIlv (n : Nat)
  | mdChCrc (n : Nat)
  | mdEvents
  | mdEventEn
  | mdBin (n : Nat) (p : Nat) (k : Nat)
  | hbChZs (n : Nat)
  | hbChWin (n : Nat)
  | hbChSnip (n : Nat)
  | hbChBase (n : Nat)
  | hbChBudget (n : Nat)
  | hbChStatus (n : Nat)
  | hbEvents
  | hbEventEn
  | hbCfg
  | hbStage
  | trStatus
  | trEvents
  | trEventEn
  | trCfg
  | trSrcEn
  | trBudget
  | trTbCfg
  | trTbSram
  | trTbChmaskLo
  | trTbChmaskHi
  | trRoChmaskLo
  | trRoChmaskHi
  | trTbDepth
  | trOutCfg
  | trCmpTargetLo
  | trCmpTargetHi
  | trCmpPeriod
  | trCmpCtrl
  | trPatCareLo (k : Nat)
  | trPatCareHi (k : Nat)
  | trPatValueLo (k : Nat)
  | trPatValueHi (k : Nat)
  | trMissLo
  | trMissHi
  | trMissStat
  | eaStatus (c : Nat) (e : Nat)
  | eaFlags (c : Nat) (e : Nat)
  | eaOvfBanks (c : Nat) (e : Nat)
  | eaPc (c : Nat) (e : Nat)
  | eaAgBase (c : Nat) (e : Nat) (k : Nat)
  | eaAgStep (c : Nat) (e : Nat) (k : Nat)
  | eaAgLen (c : Nat) (e : Nat) (k : Nat)
  | eaAgPend (c : Nat) (e : Nat) (k : Nat)
  | eaAgIndex (c : Nat) (e : Nat) (k : Nat)
  | eaCCtrl (c : Nat)
  | eaCStatus (c : Nat)
  | eaCResBudget (c : Nat)
  | eaCDmaStatus (c : Nat)
  | eaEvents
  | eaEventEn
  | scStatus
  | scEvents
  | scEventEn
  | scPathCfg (p : Nat)
  | scPathMatch (p : Nat)
  | scMergeCfg
  | scMergeSlot
  | scMergePathsLo
  | scMergePathsHi
  | scMergeSinkLo
  | scMergeSinkHi
  | scMergeInmaskLo
  | scMergeInmaskHi
  | scMergeEvents
  | scMergeEventEn
  | vtStatus
  | vtEvents
  | vtEventEn
  | vtInflight
  | vtTemp (s : Nat)
  | vtRegionBaseLo (r : Nat)
  | vtRegionBaseHi (r : Nat)
  | vtRegionSizeLo (r : Nat)
  | vtRegionSizeHi (r : Nat)
  | vtRegionCfg (r : Nat)
  | vtRegionPolicy (r : Nat)
  | igEvents
  | igEventEn
  | igLogStatus
  | igLogCtrl
  | igDefaultOwner
  | igSpareStatus (s : Nat)
  | igSoftSel
  | igSoftEntry
  | igScrubCursorLo (k : Nat)
  | igScrubCursorHi (k : Nat)
  | igLogW (k : Nat) (w : Nat)
  | prStatus
  | prEvents
  | prEventEn
  | lkLCfg (n : Nat)
  | lkLStatus (n : Nat)
  | lkLAsym (n : Nat)
  | lkLRtt (n : Nat)
  | lkLTxdelay (n : Nat)
  | lkLSlotOfs (n : Nat)
  | lkEvents
  | lkEventEn
  | lkNodeId
  | lkEpoch
  | lkRefCfg
  | lkNoticePort
  | lkRelay
  | lkQuar0
  | lkQuar (w : Nat)
  | lkQuarStat
  | euCfg
  | euStatus
  | euEvents
  | euEventEn
  | euMacLo
  | euMacHi
  | euIp
  | euDstMacLo
  | euDstMacHi
  | euDstIp
  | euPorts
  | euDstPort
  | euIpopt
  | euMaxPayload
  | euPtpCfg
  | euPtpAsym
  | euPtpStatus
  | euPtpMasterLo
  | euPtpMasterHi
  | hkStatus
  | hkEvents
  | hkEventEn
  | hkCfg
  | hkExcCfg (k : Nat)
  | hkFault
  | hkDieLimit
  | hkDieHottest
  | hkDie (s : Nat)
  | hkDieB (s : Nat)
  | hkEntW0 (k : Nat)
  | hkEntW1 (k : Nat)
  | hkEntLo (k : Nat)
  | hkEntHi (k : Nat)
  | hkResValue (k : Nat)
  | hkResStat (k : Nat)
  | hkResTime (k : Nat)
  | tdStatus
  | tdEvents
  | tdEventEn
  | tdAtestSel
  | tdDtestSel
  | tdBistResult
  | tdIdcode
  | cntLo (a : Nat)
  | cntHi (a : Nat)
  deriving DecidableEq, Repr

/-- The address of a register (R428). -/
def Reg.addr : Reg → Nat
  | .deviceId => 0x0
  | .variant => 0x4
  | .idResources => 0x8
  | .idRole => 0xC
  | .gsEventSummary => 0x20
  | .gsIrqEn => 0x24
  | .gsAlertEn => 0x28
  | .gsCntSat => 0x30
  | .gsCntSatEn => 0x34
  | .gsCntClear => 0x38
  | .crResetCause => 0x10000
  | .crReleaseStatus => 0x10004
  | .crBootStatus => 0x10008
  | .crStraps => 0x1000C
  | .crFuseStatus => 0x10010
  | .crFwVersion => 0x10014
  | .crClkStatus => 0x20000
  | .crClkEvents => 0x20004
  | .crClkCtrl => 0x20008
  | .crOscTrim => 0x2000C
  | .pmSupplyGood => 0x30000
  | .pmWarn => 0x30004
  | .pmWarnEn => 0x30008
  | .cpStatus => 0x40000
  | .cpEvents => 0x40004
  | .cpEventEn => 0x40008
  | .cpCtrl => 0x4000C
  | .cpWdogCfg => 0x40010
  | .cpWdogFeed => 0x40014
  | .cpMismatchInfo => 0x40018
  | .cpMismatchAddr => 0x4001C
  | .cmdPortStatus n => 0x50000 + n * 0x40
  | .cmdPortSubscribe n => 0x50004 + n * 0x40
  | .cmdPortNoticeSeq n => 0x50008 + n * 0x40
  | .cmdEvents => 0x50200
  | .cmdEventEn => 0x50204
  | .tcStatus => 0x80000
  | .tcEvents => 0x80004
  | .tcEventEn => 0x80008
  | .tcSrcCfg => 0x8000C
  | .tcCtLo => 0x80010
  | .tcCtHi => 0x80014
  | .tcEpoch => 0x80018
  | .tcLtLo => 0x80020
  | .tcLtHi => 0x80024
  | .tcHt => 0x80028
  | .tcFnLo => 0x80030
  | .tcFnHi => 0x80034
  | .tcRefaFreq => 0x80040
  | .tcRefbFreq => 0x80044
  | .tcPpsDelay => 0x80048
  | .tcAsym => 0x8004C
  | .tcHoldLimit => 0x80050
  | .tcOffset => 0x80054
  | .tcRtt => 0x80058
  | .tcSteer => 0x8005C
  | .tcStampEn => 0x80060
  | .tcStampLo n => 0x80080 + n * 0x10
  | .tcStampHi n => 0x80084 + n * 0x10
  | .tcStampStat n => 0x80088 + n * 0x10
  | .tcFramePeriod => 0x80100
  | .tcFrameNext => 0x80104
  | .tcFrameSwitchLo => 0x80108
  | .tcFrameSwitchHi => 0x8010C
  | .tcFrameCtrl => 0x80110
  | .tcPulseCfg k => 0x80200 + k * 0x20
  | .tcPulseStartLo k => 0x80204 + k * 0x20
  | .tcPulseStartHi k => 0x80208 + k * 0x20
  | .tcPulsePeriodLo k => 0x8020C + k * 0x20
  | .tcPulsePeriodHi k => 0x80210 + k * 0x20
  | .tcPulseWidth k => 0x80214 + k * 0x20
  | .caChCfg n => 0x100000 + n * 0x400
  | .caChAuto n => 0x100004 + n * 0x400
  | .caChLe n => 0x100008 + n * 0x400
  | .caChCf n => 0x10000C + n * 0x400
  | .caChTdc n => 0x100010 + n * 0x400
  | .caChWin n => 0x100014 + n * 0x400
  | .caChStatus n => 0x100018 + n * 0x400
  | .caEvents => 0x10C000
  | .caEventEn => 0x10C004
  | .caBiasKey => 0x10C008
  | .caBiasCtrl => 0x10C00C
  | .caPairStatus => 0x10C010
  | .caDiscLo => 0x10C020
  | .caDiscHi => 0x10C024
  | .mdChOffset n r => 0x120000 + n * 0x200 + r * 0x4
  | .mdChGain n r => 0x120010 + n * 0x200 + r * 0x4
  | .mdChSkew n => 0x120020 + n * 0x200
  | .mdChIlv n => 0x120024 + n * 0x200
  | .mdChCrc n => 0x12002C + n * 0x200
  | .mdEvents => 0x127000
  | .mdEventEn => 0x127004
  | .mdBin n p k => 0x128000 + n * 0x800 + p * 0x400 + k * 0x4
  | .hbChZs n => 0x140000 + n * 0x100
  | .hbChWin n => 0x140004 + n * 0x100
  | .hbChSnip n => 0x140008 + n * 0x100
  | .hbChBase n => 0x14000C + n * 0x100
  | .hbChBudget n => 0x140010 + n * 0x100
  | .hbChStatus n => 0x140014 + n * 0x100
  | .hbEvents => 0x14C000
  | .hbEventEn => 0x14C004
  | .hbCfg => 0x14C008
  | .hbStage => 0x14C00C
  | .trStatus => 0x160000
  | .trEvents => 0x160004
  | .trEventEn => 0x160008
  | .trCfg => 0x16000C
  | .trSrcEn => 0x160010
  | .trBudget => 0x160014
  | .trTbCfg => 0x160018
  | .trTbSram => 0x16001C
  | .trTbChmaskLo => 0x160020
  | .trTbChmaskHi => 0x160024
  | .trRoChmaskLo => 0x160028
  | .trRoChmaskHi => 0x16002C
  | .trTbDepth => 0x160030
  | .trOutCfg => 0x160034
  | .trCmpTargetLo => 0x160040
  | .trCmpTargetHi => 0x160044
  | .trCmpPeriod => 0x160048
  | .trCmpCtrl => 0x16004C
  | .trPatCareLo k => 0x160080 + k * 0x10
  | .trPatCareHi k => 0x160084 + k * 0x10
  | .trPatValueLo k => 0x160088 + k * 0x10
  | .trPatValueHi k => 0x16008C + k * 0x10
  | .trMissLo => 0x1600C0
  | .trMissHi => 0x1600C4
  | .trMissStat => 0x1600C8
  | .eaStatus c e => 0x200000 + c * 0x10000 + e * 0x1000
  | .eaFlags c e => 0x200004 + c * 0x10000 + e * 0x1000
  | .eaOvfBanks c e => 0x200008 + c * 0x10000 + e * 0x1000
  | .eaPc c e => 0x20000C + c * 0x10000 + e * 0x1000
  | .eaAgBase c e k => 0x200100 + c * 0x10000 + e * 0x1000 + k * 0x20
  | .eaAgStep c e k => 0x200104 + c * 0x10000 + e * 0x1000 + k * 0x20
  | .eaAgLen c e k => 0x200108 + c * 0x10000 + e * 0x1000 + k * 0x20
  | .eaAgPend c e k => 0x20010C + c * 0x10000 + e * 0x1000 + k * 0x20
  | .eaAgIndex c e k => 0x200110 + c * 0x10000 + e * 0x1000 + k * 0x20
  | .eaCCtrl c => 0x200800 + c * 0x10000
  | .eaCStatus c => 0x200804 + c * 0x10000
  | .eaCResBudget c => 0x200808 + c * 0x10000
  | .eaCDmaStatus c => 0x20080C + c * 0x10000
  | .eaEvents => 0x200C00
  | .eaEventEn => 0x200C04
  | .scStatus => 0x300000
  | .scEvents => 0x300004
  | .scEventEn => 0x300008
  | .scPathCfg p => 0x301000 + p * 0x10
  | .scPathMatch p => 0x301004 + p * 0x10
  | .scMergeCfg => 0x302000
  | .scMergeSlot => 0x302004
  | .scMergePathsLo => 0x302008
  | .scMergePathsHi => 0x30200C
  | .scMergeSinkLo => 0x302010
  | .scMergeSinkHi => 0x302014
  | .scMergeInmaskLo => 0x302018
  | .scMergeInmaskHi => 0x30201C
  | .scMergeEvents => 0x302020
  | .scMergeEventEn => 0x302024
  | .vtStatus => 0x400000
  | .vtEvents => 0x400004
  | .vtEventEn => 0x400008
  | .vtInflight => 0x40000C
  | .vtTemp s => 0x400010 + s * 0x4
  | .vtRegionBaseLo r => 0x401000 + r * 0x20
  | .vtRegionBaseHi r => 0x401004 + r * 0x20
  | .vtRegionSizeLo r => 0x401008 + r * 0x20
  | .vtRegionSizeHi r => 0x40100C + r * 0x20
  | .vtRegionCfg r => 0x401010 + r * 0x20
  | .vtRegionPolicy r => 0x401014 + r * 0x20
  | .igEvents => 0x420000
  | .igEventEn => 0x420004
  | .igLogStatus => 0x420008
  | .igLogCtrl => 0x42000C
  | .igDefaultOwner => 0x420010
  | .igSpareStatus s => 0x420020 + s * 0x4
  | .igSoftSel => 0x420030
  | .igSoftEntry => 0x420034
  | .igScrubCursorLo k => 0x420100 + k * 0x8
  | .igScrubCursorHi k => 0x420104 + k * 0x8
  | .igLogW k w => 0x421000 + k * 0x10 + w * 0x4
  | .prStatus => 0x440000
  | .prEvents => 0x440004
  | .prEventEn => 0x440008
  | .lkLCfg n => 0x500000 + n * 0x800
  | .lkLStatus n => 0x500004 + n * 0x800
  | .lkLAsym n => 0x500008 + n * 0x800
  | .lkLRtt n => 0x50000C + n * 0x800
  | .lkLTxdelay n => 0x500010 + n * 0x800
  | .lkLSlotOfs n => 0x500014 + n * 0x800
  | .lkEvents => 0x518000
  | .lkEventEn => 0x518004
  | .lkNodeId => 0x518008
  | .lkEpoch => 0x51800C
  | .lkRefCfg => 0x518010
  | .lkNoticePort => 0x518014
  | .lkRelay => 0x518018
  | .lkQuar0 => 0x518020
  | .lkQuar w => 0x518024 + w * 0x4
  | .lkQuarStat => 0x518030
  | .euCfg => 0x580000
  | .euStatus => 0x580004
  | .euEvents => 0x580008
  | .euEventEn => 0x58000C
  | .euMacLo => 0x580010
  | .euMacHi => 0x580014
  | .euIp => 0x580018
  | .euDstMacLo => 0x58001C
  | .euDstMacHi => 0x580020
  | .euDstIp => 0x580024
  | .euPorts => 0x580028
  | .euDstPort => 0x58002C
  | .euIpopt => 0x580030
  | .euMaxPayload => 0x580034
  | .euPtpCfg => 0x580040
  | .euPtpAsym => 0x580044
  | .euPtpStatus => 0x580048
  | .euPtpMasterLo => 0x58004C
  | .euPtpMasterHi => 0x580050
  | .hkStatus => 0x600000
  | .hkEvents => 0x600004
  | .hkEventEn => 0x600008
  | .hkCfg => 0x60000C
  | .hkExcCfg k => 0x600020 + k * 0x4
  | .hkFault => 0x600050
  | .hkDieLimit => 0x600060
  | .hkDieHottest => 0x600064
  | .hkDie s => 0x600070 + s * 0x4
  | .hkDieB s => 0x6000A0 + s * 0x4
  | .hkEntW0 k => 0x600200 + k * 0x10
  | .hkEntW1 k => 0x600204 + k * 0x10
  | .hkEntLo k => 0x600208 + k * 0x10
  | .hkEntHi k => 0x60020C + k * 0x10
  | .hkResValue k => 0x600400 + k * 0x10
  | .hkResStat k => 0x600404 + k * 0x10
  | .hkResTime k => 0x600408 + k * 0x10
  | .tdStatus => 0x700000
  | .tdEvents => 0x700004
  | .tdEventEn => 0x700008
  | .tdAtestSel => 0x70000C
  | .tdDtestSel => 0x700010
  | .tdBistResult => 0x700014
  | .tdIdcode => 0x700018
  | .cntLo a => a
  | .cntHi a => a + 4

/-- The constant part of a register: Reset value and the bits that RW, RWF and W1C cover; every other bit is not stored. -/
structure RegInfo where
  reset : Word := 0
  rw    : Word := 0
  rwf   : Word := 0
  w1c   : Word := 0
  deriving DecidableEq, Repr

/-- The Reset value and the access masks of each register, from its register table. Resets that a fuse or strap sets stand in
Reg.resetIn. -/
def Reg.info : Reg → RegInfo
  | .deviceId => { reset := 0x4B480001 }
  | .variant => {}
  | .idResources => {}
  | .idRole => { rw := 0x3 }
  | .gsEventSummary => {}
  | .gsIrqEn => { rw := 0x7FFFF }
  | .gsAlertEn => { reset := 0x200F, rw := 0x7FFFF }
  | .gsCntSat => { w1c := 0x7FFFF }
  | .gsCntSatEn => { reset := 0x7FFFF, rw := 0x7FFFF }
  | .gsCntClear => {}
  | .crResetCause => { reset := 0x1F00001 }
  | .crReleaseStatus => { reset := 0x1000 }
  | .crBootStatus => {}
  | .crStraps => {}
  | .crFuseStatus => {}
  | .crFwVersion => {}
  | .crClkStatus => {}
  | .crClkEvents => { w1c := 0x3F }
  | .crClkCtrl => {}
  | .crOscTrim => { reset := 0x2000, rw := 0x3F }
  | .pmSupplyGood => { reset := 0x7FF }
  | .pmWarn => { w1c := 0x7FF }
  | .pmWarnEn => { reset := 0x7FF, rw := 0x7FF }
  | .cpStatus => { reset := 0x40000000 }
  | .cpEvents => { w1c := 0x3F }
  | .cpEventEn => { reset := 0x3F, rw := 0x3F }
  | .cpCtrl => { rw := 0x9 }
  | .cpWdogCfg => { reset := 0x3E8, rw := 0x7FF }
  | .cpWdogFeed => {}
  | .cpMismatchInfo => {}
  | .cpMismatchAddr => {}
  | .cmdPortStatus _ => {}
  | .cmdPortSubscribe _ => {}
  | .cmdPortNoticeSeq _ => {}
  | .cmdEvents => { w1c := 0x1 }
  | .cmdEventEn => { reset := 0x1, rw := 0x1 }
  | .tcStatus => {}
  | .tcEvents => { w1c := 0x1FFF }
  | .tcEventEn => { reset := 0x1FFF, rw := 0x1FFF }
  | .tcSrcCfg => { reset := 0x620, rw := 0xFF7 }
  | .tcCtLo => {}
  | .tcCtHi => {}
  | .tcEpoch => {}
  | .tcLtLo => {}
  | .tcLtHi => {}
  | .tcHt => {}
  | .tcFnLo => {}
  | .tcFnHi => {}
  | .tcRefaFreq => { reset := 0x2710, rw := 0x3FFFF }
  | .tcRefbFreq => { reset := 0x2710, rw := 0x3FFFF }
  | .tcPpsDelay => { rw := 0xFFFFFFFF }
  | .tcAsym => { rw := 0xFFFFFFFF }
  | .tcHoldLimit => { reset := 0x64, rw := 0xFFFF }
  | .tcOffset => {}
  | .tcRtt => {}
  | .tcSteer => {}
  | .tcStampEn => { rw := 0x3 }
  | .tcStampLo _ => {}
  | .tcStampHi _ => {}
  | .tcStampStat _ => {}
  | .tcFramePeriod => { reset := 0x800 }
  | .tcFrameNext => { reset := 0x800, rw := 0x1FFFFF }
  | .tcFrameSwitchLo => { rw := 0xFFFFFFFF }
  | .tcFrameSwitchHi => { rw := 0xFFFF }
  | .tcFrameCtrl => { rw := 0x1, w1c := 0x20 }
  | .tcPulseCfg _ => {}
  | .tcPulseStartLo _ => {}
  | .tcPulseStartHi _ => {}
  | .tcPulsePeriodLo _ => {}
  | .tcPulsePeriodHi _ => {}
  | .tcPulseWidth _ => {}
  | .caChCfg _ => { rwf := 0xF1 }
  | .caChAuto _ => { reset := 0x100010, rwf := 0xFF0FFF }
  | .caChLe _ => { reset := 0x40050, rwf := 0xF0FFF }
  | .caChCf _ => { reset := 0x500203, rwf := 0xFFF070F }
  | .caChTdc _ => { reset := 0x4, rwf := 0xF }
  | .caChWin _ => { reset := 0x90000000, rwf := 0x9FFF0FFF }
  | .caChStatus _ => {}
  | .caEvents => { w1c := 0x7 }
  | .caEventEn => { reset := 0x7, rw := 0x7 }
  | .caBiasKey => {}
  | .caBiasCtrl => { reset := 0xF00, rw := 0xF0F }
  | .caPairStatus => {}
  | .caDiscLo => {}
  | .caDiscHi => {}
  | .mdChOffset _ _ => { rwf := 0xFFFF }
  | .mdChGain _ _ => { reset := 0x4000, rwf := 0xFFFF }
  | .mdChSkew _ => { rwf := 0xFFFFFFFF }
  | .mdChIlv _ => { rwf := 0xFF }
  | .mdChCrc _ => { reset := 0xA62F3E0D }
  | .mdEvents => { w1c := 0x3 }
  | .mdEventEn => { reset := 0x3, rw := 0x3 }
  | .mdBin _ _ k => { reset := BitVec.ofNat 32 ((2 * k + 1) * 0x10000 + 2 * k), rw := 0x1FF01FF }
  | .hbChZs _ => { reset := 0x9, rwf := 0xFFF000B }
  | .hbChWin _ => { reset := 0x31004, rwf := 0xFFFFF }
  | .hbChSnip _ => { reset := 0x80200, rwf := 0xFF3F01 }
  | .hbChBase _ => { rwf := 0xFFFFFFFF }
  | .hbChBudget _ => { rwf := 0xFFFF }
  | .hbChStatus _ => { reset := 0x1000000 }
  | .hbEvents => { w1c := 0x7 }
  | .hbEventEn => { reset := 0x7, rw := 0x7 }
  | .hbCfg => { reset := 0xFF1000, rwf := 0xFF3F01 }
  | .hbStage => { rwf := 0x1FFF0FFF }
  | .trStatus => {}
  | .trEvents => { w1c := 0x7F }
  | .trEventEn => { reset := 0x7F, rw := 0x7F }
  | .trCfg => { reset := 0x100, rwf := 0xFFFFFFFF }
  | .trSrcEn => { rwf := 0xFF01FF }
  | .trBudget => { rwf := 0xFFFF01FF }
  | .trTbCfg => { rwf := 0xC000003F }
  | .trTbSram => { rwf := 0x1FFF0FFF }
  | .trTbChmaskLo => { rwf := 0xFFFFFFFF }
  | .trTbChmaskHi => { rwf := 0xFFFF }
  | .trRoChmaskLo => { rwf := 0xFFFFFFFF }
  | .trRoChmaskHi => { rwf := 0xFFFF }
  | .trTbDepth => {}
  | .trOutCfg => { reset := 0x4000000, rw := 0xFF8FFFFF }
  | .trCmpTargetLo => { rw := 0xFFFFFFFF }
  | .trCmpTargetHi => { rw := 0xFFFFFFFF }
  | .trCmpPeriod => { rw := 0xFFFFFFFF }
  | .trCmpCtrl => {}
  | .trPatCareLo _ => { rwf := 0xFFFFFFFF }
  | .trPatCareHi _ => { rwf := 0x803FFFFF }
  | .trPatValueLo _ => { rwf := 0xFFFFFFFF }
  | .trPatValueHi _ => { rwf := 0xFFFF }
  | .trMissLo => {}
  | .trMissHi => {}
  | .trMissStat => {}
  | .eaStatus _ _ => {}
  | .eaFlags _ _ => { w1c := 0xF }
  | .eaOvfBanks _ _ => { w1c := 0xFF }
  | .eaPc _ _ => { rw := 0x1FFF }
  | .eaAgBase _ _ _ => { rw := 0x3FFFF }
  | .eaAgStep _ _ _ => { reset := 0x1, rw := 0xF0FFFFF }
  | .eaAgLen _ _ _ => { rw := 0x1FFFF }
  | .eaAgPend _ _ _ => { rw := 0x8001FFFF }
  | .eaAgIndex _ _ _ => { rw := 0x1FFFF }
  | .eaCCtrl _ => { rw := 0x80000000 }
  | .eaCStatus _ => {}
  | .eaCResBudget _ => { rwf := 0xFFFF }
  | .eaCDmaStatus _ => {}
  | .eaEvents => { w1c := 0xFF }
  | .eaEventEn => { reset := 0x7F, rw := 0xFF }
  | .scStatus => {}
  | .scEvents => { w1c := 0x3 }
  | .scEventEn => { reset := 0x3, rw := 0x3 }
  | .scPathCfg _ => { reset := 0x20000, rwf := 0x9FFF1FFF }
  | .scPathMatch _ => { rwf := 0xFF }
  | .scMergeCfg => { rwf := 0x80003F3F }
  | .scMergeSlot => { rwf := 0xFFFFF }
  | .scMergePathsLo => { rwf := 0xFFFFFFFF }
  | .scMergePathsHi => { rwf := 0xFFFFFFFF }
  | .scMergeSinkLo => { rwf := 0xFFFFFFFF }
  | .scMergeSinkHi => { rwf := 0xFFFFFFFF }
  | .scMergeInmaskLo => { rwf := 0xFFFFFFFE }
  | .scMergeInmaskHi => { rwf := 0xFFFF }
  | .scMergeEvents => { w1c := 0x1F }
  | .scMergeEventEn => { reset := 0x1F, rw := 0x1F }
  | .vtStatus => {}
  | .vtEvents => { w1c := 0x7 }
  | .vtEventEn => { reset := 0x7, rw := 0x7 }
  | .vtInflight => {}
  | .vtTemp _ => {}
  | .vtRegionBaseLo _ => {}
  | .vtRegionBaseHi _ => {}
  | .vtRegionSizeLo _ => {}
  | .vtRegionSizeHi _ => {}
  | .vtRegionCfg _ => {}
  | .vtRegionPolicy _ => {}
  | .igEvents => { w1c := 0x7F }
  | .igEventEn => { reset := 0x7E, rw := 0x7F }
  | .igLogStatus => {}
  | .igLogCtrl => {}
  | .igDefaultOwner => { rw := 0x7 }
  | .igSpareStatus _ => {}
  | .igSoftSel => { rw := 0xFFF }
  | .igSoftEntry => {}
  | .igScrubCursorLo _ => {}
  | .igScrubCursorHi _ => {}
  | .igLogW _ _ => {}
  | .prStatus => {}
  | .prEvents => { w1c := 0x3 }
  | .prEventEn => { reset := 0x3, rw := 0x3 }
  | .lkLCfg _ => { reset := 0x203F0000, rw := 0x10000000, rwf := 0xEF3F0000 }
  | .lkLStatus _ => {}
  | .lkLAsym _ => { rw := 0xFFFFFFFF }
  | .lkLRtt _ => {}
  | .lkLTxdelay _ => {}
  | .lkLSlotOfs _ => {}
  | .lkEvents => { w1c := 0x1FF }
  | .lkEventEn => { reset := 0x1FE, rw := 0x1FF }
  | .lkNodeId => {}
  | .lkEpoch => {}
  | .lkRefCfg => { rw := 0x1 }
  | .lkNoticePort => { rw := 0x7 }
  | .lkRelay => { rwf := 0x1FFF0FFF }
  | .lkQuar0 => {}
  | .lkQuar _ => {}
  | .lkQuarStat => {}
  | .euCfg => { reset := 0x2C0000, rwf := 0xFE3F0FFF }
  | .euStatus => {}
  | .euEvents => { w1c := 0x1F }
  | .euEventEn => { reset := 0x1E, rw := 0x1F }
  | .euMacLo => { rw := 0xFFFFFFFF }
  | .euMacHi => { rw := 0xFFFF }
  | .euIp => { rw := 0xFFFFFFFF }
  | .euDstMacLo => { rw := 0xFFFFFFFF }
  | .euDstMacHi => { rw := 0xFFFF }
  | .euDstIp => { rw := 0xFFFFFFFF }
  | .euPorts => { rw := 0xFFFFFFFF }
  | .euDstPort => { rw := 0xFFFF }
  | .euIpopt => { reset := 0x40, rw := 0x3FFF }
  | .euMaxPayload => { reset := 0x1030, rwf := 0x3FFF }
  | .euPtpCfg => { rw := 0x80FF0F00 }
  | .euPtpAsym => { rw := 0xFFFFFFFF }
  | .euPtpStatus => {}
  | .euPtpMasterLo => {}
  | .euPtpMasterHi => {}
  | .hkStatus => {}
  | .hkEvents => { w1c := 0x1F }
  | .hkEventEn => { reset := 0x1E, rw := 0x1F }
  | .hkCfg => { reset := 0x1001404, rw := 0x11FFF07 }
  | .hkExcCfg k => if k < 8 then { reset := 0x11900, rw := 0x11F07 } else { reset := 0x10000, rw := 0x10000 }
  | .hkFault => { w1c := 0x3FFFFFFF }
  | .hkDieLimit => { rw := 0xFFFF }
  | .hkDieHottest => {}
  | .hkDie _ => {}
  | .hkDieB _ => {}
  | .hkEntW0 _ => {}
  | .hkEntW1 _ => {}
  | .hkEntLo _ => { reset := 0x800000, rw := 0xFFFFFF }
  | .hkEntHi _ => { reset := 0x7FFFFF, rw := 0xFFFFFF }
  | .hkResValue _ => {}
  | .hkResStat _ => {}
  | .hkResTime _ => {}
  | .tdStatus => { reset := 0x2 }
  | .tdEvents => { w1c := 0x3 }
  | .tdEventEn => { reset := 0x3, rw := 0x3 }
  | .tdAtestSel => { rw := 0xFFFF }
  | .tdDtestSel => { rw := 0x3F1F }
  | .tdBistResult => {}
  | .tdIdcode => { reset := 0x1B48021D }
  | .cntLo _ => {}
  | .cntHi _ => {}

/-- The index of an address in an array of n elements. -/
def arr1 (base n s a : Nat) (f : Nat → Reg) : Option Reg :=
  if base ≤ a ∧ (a - base) % s = 0 ∧ (a - base) / s < n then some (f ((a - base) / s)) else none

/-- The indices of an address in an array of arrays. -/
def arr2 (base n s m t a : Nat) (f : Nat → Nat → Reg) : Option Reg :=
  if base ≤ a ∧ (a - base) / s < n then arr1 0 m t ((a - base) % s) (f ((a - base) / s)) else none

/-- The indices of an address in an array three deep. -/
def arr3 (base n s m t l u a : Nat) (f : Nat → Nat → Nat → Reg) : Option Reg :=
  if base ≤ a ∧ (a - base) / s < n then arr2 0 m t l u ((a - base) % s) (f ((a - base) / s)) else none

/-- The registers of one block that stand alone. -/
def regsGs : SMap Reg :=
  [(0x0, .deviceId),
   (0x4, .variant),
   (0x8, .idResources),
   (0xC, .idRole),
   (0x20, .gsEventSummary),
   (0x24, .gsIrqEn),
   (0x28, .gsAlertEn),
   (0x30, .gsCntSat),
   (0x34, .gsCntSatEn),
   (0x38, .gsCntClear),
   (0x40, .cntLo 0x40),
   (0x44, .cntHi 0x40),
   (0x48, .cntLo 0x48),
   (0x4C, .cntHi 0x48)]

/-- The register at an address of that block. -/
def regAtGs (a : Nat) : Option Reg :=
  SMap.find regsGs a

/-- The registers of one block that stand alone. -/
def regsCr : SMap Reg :=
  [(0x10000, .crResetCause),
   (0x10004, .crReleaseStatus),
   (0x10008, .crBootStatus),
   (0x1000C, .crStraps),
   (0x10010, .crFuseStatus),
   (0x10014, .crFwVersion),
   (0x20000, .crClkStatus),
   (0x20004, .crClkEvents),
   (0x20008, .crClkCtrl),
   (0x2000C, .crOscTrim),
   (0x30000, .pmSupplyGood),
   (0x30004, .pmWarn),
   (0x30008, .pmWarnEn)]

/-- The register at an address of that block. -/
def regAtCr (a : Nat) : Option Reg :=
  SMap.find regsCr a

/-- The registers of one block that stand alone. -/
def regsCp : SMap Reg :=
  [(0x40000, .cpStatus),
   (0x40004, .cpEvents),
   (0x40008, .cpEventEn),
   (0x4000C, .cpCtrl),
   (0x40010, .cpWdogCfg),
   (0x40014, .cpWdogFeed),
   (0x40018, .cpMismatchInfo),
   (0x4001C, .cpMismatchAddr),
   (0x40020, .cntLo 0x40020),
   (0x40024, .cntHi 0x40020),
   (0x40028, .cntLo 0x40028),
   (0x4002C, .cntHi 0x40028)]

/-- The register at an address of that block. -/
def regAtCp (a : Nat) : Option Reg :=
  SMap.find regsCp a

/-- The registers of one block that stand alone. -/
def regsCmd : SMap Reg :=
  [(0x50200, .cmdEvents),
   (0x50204, .cmdEventEn)]

/-- The register at an address of that block. -/
def regAtCmd (a : Nat) : Option Reg :=
  SMap.find regsCmd a
    <|> arr1 0x50000 5 0x40 a Reg.cmdPortStatus
    <|> arr1 0x50004 5 0x40 a Reg.cmdPortSubscribe
    <|> arr1 0x50008 5 0x40 a Reg.cmdPortNoticeSeq
    <|> arr2 0x50010 5 0x40 4 0x8 a (fun n k => .cntLo (0x50010 + n * 0x40 + k * 0x8))
    <|> arr2 0x50014 5 0x40 4 0x8 a (fun n k => .cntHi (0x50010 + n * 0x40 + k * 0x8))

/-- The registers of one block that stand alone. -/
def regsTc : SMap Reg :=
  [(0x80000, .tcStatus),
   (0x80004, .tcEvents),
   (0x80008, .tcEventEn),
   (0x8000C, .tcSrcCfg),
   (0x80010, .tcCtLo),
   (0x80014, .tcCtHi),
   (0x80018, .tcEpoch),
   (0x80020, .tcLtLo),
   (0x80024, .tcLtHi),
   (0x80028, .tcHt),
   (0x80030, .tcFnLo),
   (0x80034, .tcFnHi),
   (0x80040, .tcRefaFreq),
   (0x80044, .tcRefbFreq),
   (0x80048, .tcPpsDelay),
   (0x8004C, .tcAsym),
   (0x80050, .tcHoldLimit),
   (0x80054, .tcOffset),
   (0x80058, .tcRtt),
   (0x8005C, .tcSteer),
   (0x80060, .tcStampEn),
   (0x80100, .tcFramePeriod),
   (0x80104, .tcFrameNext),
   (0x80108, .tcFrameSwitchLo),
   (0x8010C, .tcFrameSwitchHi),
   (0x80110, .tcFrameCtrl)]

/-- The register at an address of that block. -/
def regAtTc (a : Nat) : Option Reg :=
  SMap.find regsTc a
    <|> arr1 0x80080 2 0x10 a Reg.tcStampLo
    <|> arr1 0x80084 2 0x10 a Reg.tcStampHi
    <|> arr1 0x80088 2 0x10 a Reg.tcStampStat
    <|> arr1 0x80200 4 0x20 a Reg.tcPulseCfg
    <|> arr1 0x80204 4 0x20 a Reg.tcPulseStartLo
    <|> arr1 0x80208 4 0x20 a Reg.tcPulseStartHi
    <|> arr1 0x8020C 4 0x20 a Reg.tcPulsePeriodLo
    <|> arr1 0x80210 4 0x20 a Reg.tcPulsePeriodHi
    <|> arr1 0x80214 4 0x20 a Reg.tcPulseWidth
    <|> arr1 0x800C0 2 0x8 a (fun n => .cntLo (0x800C0 + n * 0x8))
    <|> arr1 0x800C4 2 0x8 a (fun n => .cntHi (0x800C0 + n * 0x8))

/-- The registers of one block that stand alone. -/
def regsCa : SMap Reg :=
  [(0x10C000, .caEvents),
   (0x10C004, .caEventEn),
   (0x10C008, .caBiasKey),
   (0x10C00C, .caBiasCtrl),
   (0x10C010, .caPairStatus),
   (0x10C020, .caDiscLo),
   (0x10C024, .caDiscHi)]

/-- The register at an address of that block. -/
def regAtCa (a : Nat) : Option Reg :=
  SMap.find regsCa a
    <|> arr1 0x100000 48 0x400 a Reg.caChCfg
    <|> arr1 0x100004 48 0x400 a Reg.caChAuto
    <|> arr1 0x100008 48 0x400 a Reg.caChLe
    <|> arr1 0x10000C 48 0x400 a Reg.caChCf
    <|> arr1 0x100010 48 0x400 a Reg.caChTdc
    <|> arr1 0x100014 48 0x400 a Reg.caChWin
    <|> arr1 0x100018 48 0x400 a Reg.caChStatus
    <|> arr2 0x100040 48 0x400 6 0x8 a (fun n k => .cntLo (0x100040 + n * 0x400 + k * 0x8))
    <|> arr2 0x100044 48 0x400 6 0x8 a (fun n k => .cntHi (0x100040 + n * 0x400 + k * 0x8))

/-- The registers of one block that stand alone. -/
def regsMd : SMap Reg :=
  [(0x127000, .mdEvents),
   (0x127004, .mdEventEn)]

/-- The register at an address of that block. -/
def regAtMd (a : Nat) : Option Reg :=
  SMap.find regsMd a
    <|> arr2 0x120000 48 0x200 3 0x4 a Reg.mdChOffset
    <|> arr2 0x120010 48 0x200 3 0x4 a Reg.mdChGain
    <|> arr1 0x120020 48 0x200 a Reg.mdChSkew
    <|> arr1 0x120024 48 0x200 a Reg.mdChIlv
    <|> arr1 0x12002C 48 0x200 a Reg.mdChCrc
    <|> arr3 0x128000 48 0x800 2 0x400 0x100 0x4 a Reg.mdBin

/-- The registers of one block that stand alone. -/
def regsHb : SMap Reg :=
  [(0x14C000, .hbEvents),
   (0x14C004, .hbEventEn),
   (0x14C008, .hbCfg),
   (0x14C00C, .hbStage)]

/-- The register at an address of that block. -/
def regAtHb (a : Nat) : Option Reg :=
  SMap.find regsHb a
    <|> arr1 0x140000 48 0x100 a Reg.hbChZs
    <|> arr1 0x140004 48 0x100 a Reg.hbChWin
    <|> arr1 0x140008 48 0x100 a Reg.hbChSnip
    <|> arr1 0x14000C 48 0x100 a Reg.hbChBase
    <|> arr1 0x140010 48 0x100 a Reg.hbChBudget
    <|> arr1 0x140014 48 0x100 a Reg.hbChStatus
    <|> arr2 0x140040 48 0x100 5 0x8 a (fun n k => .cntLo (0x140040 + n * 0x100 + k * 0x8))
    <|> arr2 0x140044 48 0x100 5 0x8 a (fun n k => .cntHi (0x140040 + n * 0x100 + k * 0x8))

/-- The registers of one block that stand alone. -/
def regsTr : SMap Reg :=
  [(0x160000, .trStatus),
   (0x160004, .trEvents),
   (0x160008, .trEventEn),
   (0x16000C, .trCfg),
   (0x160010, .trSrcEn),
   (0x160014, .trBudget),
   (0x160018, .trTbCfg),
   (0x16001C, .trTbSram),
   (0x160020, .trTbChmaskLo),
   (0x160024, .trTbChmaskHi),
   (0x160028, .trRoChmaskLo),
   (0x16002C, .trRoChmaskHi),
   (0x160030, .trTbDepth),
   (0x160034, .trOutCfg),
   (0x160040, .trCmpTargetLo),
   (0x160044, .trCmpTargetHi),
   (0x160048, .trCmpPeriod),
   (0x16004C, .trCmpCtrl),
   (0x1600C0, .trMissLo),
   (0x1600C4, .trMissHi),
   (0x1600C8, .trMissStat)]

/-- The register at an address of that block. -/
def regAtTr (a : Nat) : Option Reg :=
  SMap.find regsTr a
    <|> arr1 0x160080 4 0x10 a Reg.trPatCareLo
    <|> arr1 0x160084 4 0x10 a Reg.trPatCareHi
    <|> arr1 0x160088 4 0x10 a Reg.trPatValueLo
    <|> arr1 0x16008C 4 0x10 a Reg.trPatValueHi
    <|> arr1 0x160100 8 0x8 a (fun k => .cntLo (0x160100 + k * 0x8))
    <|> arr1 0x160104 8 0x8 a (fun k => .cntHi (0x160100 + k * 0x8))

/-- The registers of one block that stand alone. -/
def regsEa : SMap Reg :=
  [(0x200C00, .eaEvents),
   (0x200C04, .eaEventEn)]

/-- The register at an address of that block. -/
def regAtEa (a : Nat) : Option Reg :=
  SMap.find regsEa a
    <|> arr2 0x200000 16 0x10000 16 0x1000 a Reg.eaStatus
    <|> arr2 0x200004 16 0x10000 16 0x1000 a Reg.eaFlags
    <|> arr2 0x200008 16 0x10000 16 0x1000 a Reg.eaOvfBanks
    <|> arr2 0x20000C 16 0x10000 16 0x1000 a Reg.eaPc
    <|> arr3 0x200100 16 0x10000 16 0x1000 4 0x20 a Reg.eaAgBase
    <|> arr3 0x200104 16 0x10000 16 0x1000 4 0x20 a Reg.eaAgStep
    <|> arr3 0x200108 16 0x10000 16 0x1000 4 0x20 a Reg.eaAgLen
    <|> arr3 0x20010C 16 0x10000 16 0x1000 4 0x20 a Reg.eaAgPend
    <|> arr3 0x200110 16 0x10000 16 0x1000 4 0x20 a Reg.eaAgIndex
    <|> arr1 0x200800 16 0x10000 a Reg.eaCCtrl
    <|> arr1 0x200804 16 0x10000 a Reg.eaCStatus
    <|> arr1 0x200808 16 0x10000 a Reg.eaCResBudget
    <|> arr1 0x20080C 16 0x10000 a Reg.eaCDmaStatus
    <|> arr2 0x200840 16 0x10000 4 0x8 a (fun c k => .cntLo (0x200840 + c * 0x10000 + k * 0x8))
    <|> arr2 0x200844 16 0x10000 4 0x8 a (fun c k => .cntHi (0x200840 + c * 0x10000 + k * 0x8))

/-- The registers of one block that stand alone. -/
def regsSc : SMap Reg :=
  [(0x300000, .scStatus),
   (0x300004, .scEvents),
   (0x300008, .scEventEn),
   (0x302000, .scMergeCfg),
   (0x302004, .scMergeSlot),
   (0x302008, .scMergePathsLo),
   (0x30200C, .scMergePathsHi),
   (0x302010, .scMergeSinkLo),
   (0x302014, .scMergeSinkHi),
   (0x302018, .scMergeInmaskLo),
   (0x30201C, .scMergeInmaskHi),
   (0x302020, .scMergeEvents),
   (0x302024, .scMergeEventEn)]

/-- The register at an address of that block. -/
def regAtSc (a : Nat) : Option Reg :=
  SMap.find regsSc a
    <|> arr1 0x301000 64 0x10 a Reg.scPathCfg
    <|> arr1 0x301004 64 0x10 a Reg.scPathMatch
    <|> arr1 0x300010 3 0x8 a (fun k => .cntLo (0x300010 + k * 0x8))
    <|> arr1 0x300014 3 0x8 a (fun k => .cntHi (0x300010 + k * 0x8))
    <|> arr1 0x301008 64 0x10 a (fun p => .cntLo (0x301008 + p * 0x10))
    <|> arr1 0x30100C 64 0x10 a (fun p => .cntHi (0x301008 + p * 0x10))
    <|> arr1 0x302040 8 0x8 a (fun k => .cntLo (0x302040 + k * 0x8))
    <|> arr1 0x302044 8 0x8 a (fun k => .cntHi (0x302040 + k * 0x8))

/-- The registers of one block that stand alone. -/
def regsVt : SMap Reg :=
  [(0x400000, .vtStatus),
   (0x400004, .vtEvents),
   (0x400008, .vtEventEn),
   (0x40000C, .vtInflight)]

/-- The register at an address of that block. -/
def regAtVt (a : Nat) : Option Reg :=
  SMap.find regsVt a
    <|> arr1 0x400010 4 0x4 a Reg.vtTemp
    <|> arr1 0x401000 64 0x20 a Reg.vtRegionBaseLo
    <|> arr1 0x401004 64 0x20 a Reg.vtRegionBaseHi
    <|> arr1 0x401008 64 0x20 a Reg.vtRegionSizeLo
    <|> arr1 0x40100C 64 0x20 a Reg.vtRegionSizeHi
    <|> arr1 0x401010 64 0x20 a Reg.vtRegionCfg
    <|> arr1 0x401014 64 0x20 a Reg.vtRegionPolicy

/-- The registers of one block that stand alone. -/
def regsIg : SMap Reg :=
  [(0x420000, .igEvents),
   (0x420004, .igEventEn),
   (0x420008, .igLogStatus),
   (0x42000C, .igLogCtrl),
   (0x420010, .igDefaultOwner),
   (0x420030, .igSoftSel),
   (0x420034, .igSoftEntry)]

/-- The register at an address of that block. -/
def regAtIg (a : Nat) : Option Reg :=
  SMap.find regsIg a
    <|> arr1 0x420020 4 0x4 a Reg.igSpareStatus
    <|> arr1 0x420100 4 0x8 a Reg.igScrubCursorLo
    <|> arr1 0x420104 4 0x8 a Reg.igScrubCursorHi
    <|> arr2 0x421000 64 0x10 4 0x4 a Reg.igLogW
    <|> arr1 0x420040 8 0x8 a (fun k => .cntLo (0x420040 + k * 0x8))
    <|> arr1 0x420044 8 0x8 a (fun k => .cntHi (0x420040 + k * 0x8))

/-- The registers of one block that stand alone. -/
def regsPr : SMap Reg :=
  [(0x440000, .prStatus),
   (0x440004, .prEvents),
   (0x440008, .prEventEn)]

/-- The register at an address of that block. -/
def regAtPr (a : Nat) : Option Reg :=
  SMap.find regsPr a
    <|> arr2 0x440040 4 0x40 6 0x8 a (fun u k => .cntLo (0x440040 + u * 0x40 + k * 0x8))
    <|> arr2 0x440044 4 0x40 6 0x8 a (fun u k => .cntHi (0x440040 + u * 0x40 + k * 0x8))

/-- The registers of one block that stand alone. -/
def regsLk : SMap Reg :=
  [(0x518000, .lkEvents),
   (0x518004, .lkEventEn),
   (0x518008, .lkNodeId),
   (0x51800C, .lkEpoch),
   (0x518010, .lkRefCfg),
   (0x518014, .lkNoticePort),
   (0x518018, .lkRelay),
   (0x518020, .lkQuar0),
   (0x518030, .lkQuarStat)]

/-- The register at an address of that block. -/
def regAtLk (a : Nat) : Option Reg :=
  SMap.find regsLk a
    <|> arr1 0x500000 48 0x800 a Reg.lkLCfg
    <|> arr1 0x500004 48 0x800 a Reg.lkLStatus
    <|> arr1 0x500008 48 0x800 a Reg.lkLAsym
    <|> arr1 0x50000C 48 0x800 a Reg.lkLRtt
    <|> arr1 0x500010 48 0x800 a Reg.lkLTxdelay
    <|> arr1 0x500014 48 0x800 a Reg.lkLSlotOfs
    <|> arr1 0x518024 3 0x4 a Reg.lkQuar
    <|> arr2 0x500040 48 0x800 16 0x8 a (fun n k => .cntLo (0x500040 + n * 0x800 + k * 0x8))
    <|> arr2 0x500044 48 0x800 16 0x8 a (fun n k => .cntHi (0x500040 + n * 0x800 + k * 0x8))

/-- The registers of one block that stand alone. -/
def regsEu : SMap Reg :=
  [(0x580000, .euCfg),
   (0x580004, .euStatus),
   (0x580008, .euEvents),
   (0x58000C, .euEventEn),
   (0x580010, .euMacLo),
   (0x580014, .euMacHi),
   (0x580018, .euIp),
   (0x58001C, .euDstMacLo),
   (0x580020, .euDstMacHi),
   (0x580024, .euDstIp),
   (0x580028, .euPorts),
   (0x58002C, .euDstPort),
   (0x580030, .euIpopt),
   (0x580034, .euMaxPayload),
   (0x580040, .euPtpCfg),
   (0x580044, .euPtpAsym),
   (0x580048, .euPtpStatus),
   (0x58004C, .euPtpMasterLo),
   (0x580050, .euPtpMasterHi)]

/-- The register at an address of that block. -/
def regAtEu (a : Nat) : Option Reg :=
  SMap.find regsEu a
    <|> arr1 0x580100 7 0x8 a (fun k => .cntLo (0x580100 + k * 0x8))
    <|> arr1 0x580104 7 0x8 a (fun k => .cntHi (0x580100 + k * 0x8))

/-- The registers of one block that stand alone. -/
def regsHk : SMap Reg :=
  [(0x600000, .hkStatus),
   (0x600004, .hkEvents),
   (0x600008, .hkEventEn),
   (0x60000C, .hkCfg),
   (0x600050, .hkFault),
   (0x600060, .hkDieLimit),
   (0x600064, .hkDieHottest)]

/-- The register at an address of that block. -/
def regAtHk (a : Nat) : Option Reg :=
  SMap.find regsHk a
    <|> arr1 0x600020 10 0x4 a Reg.hkExcCfg
    <|> arr1 0x600070 4 0x4 a Reg.hkDie
    <|> arr1 0x6000A0 4 0x4 a Reg.hkDieB
    <|> arr1 0x600200 32 0x10 a Reg.hkEntW0
    <|> arr1 0x600204 32 0x10 a Reg.hkEntW1
    <|> arr1 0x600208 32 0x10 a Reg.hkEntLo
    <|> arr1 0x60020C 32 0x10 a Reg.hkEntHi
    <|> arr1 0x600400 32 0x10 a Reg.hkResValue
    <|> arr1 0x600404 32 0x10 a Reg.hkResStat
    <|> arr1 0x600408 32 0x10 a Reg.hkResTime
    <|> arr1 0x600080 3 0x8 a (fun k => .cntLo (0x600080 + k * 0x8))
    <|> arr1 0x600084 3 0x8 a (fun k => .cntHi (0x600080 + k * 0x8))

/-- The registers of one block that stand alone. -/
def regsTd : SMap Reg :=
  [(0x700000, .tdStatus),
   (0x700004, .tdEvents),
   (0x700008, .tdEventEn),
   (0x70000C, .tdAtestSel),
   (0x700010, .tdDtestSel),
   (0x700014, .tdBistResult),
   (0x700018, .tdIdcode)]

/-- The register at an address of that block. -/
def regAtTd (a : Nat) : Option Reg :=
  SMap.find regsTd a

/-- The register that an address holds, on a device with every resource (R427, R428). -/
def regAt (a : Nat) : Option Reg :=
  if 0x0 ≤ a ∧ a < 0x10000 then regAtGs a
  else if 0x10000 ≤ a ∧ a < 0x40000 then regAtCr a
  else if 0x40000 ≤ a ∧ a < 0x50000 then regAtCp a
  else if 0x50000 ≤ a ∧ a < 0x60000 then regAtCmd a
  else if 0x80000 ≤ a ∧ a < 0x100000 then regAtTc a
  else if 0x100000 ≤ a ∧ a < 0x120000 then regAtCa a
  else if 0x120000 ≤ a ∧ a < 0x140000 then regAtMd a
  else if 0x140000 ≤ a ∧ a < 0x160000 then regAtHb a
  else if 0x160000 ≤ a ∧ a < 0x200000 then regAtTr a
  else if 0x200000 ≤ a ∧ a < 0x300000 then regAtEa a
  else if 0x300000 ≤ a ∧ a < 0x400000 then regAtSc a
  else if 0x400000 ≤ a ∧ a < 0x420000 then regAtVt a
  else if 0x420000 ≤ a ∧ a < 0x440000 then regAtIg a
  else if 0x440000 ≤ a ∧ a < 0x500000 then regAtPr a
  else if 0x500000 ≤ a ∧ a < 0x580000 then regAtLk a
  else if 0x580000 ≤ a ∧ a < 0x600000 then regAtEu a
  else if 0x600000 ≤ a ∧ a < 0x700000 then regAtHk a
  else if 0x700000 ≤ a ∧ a < 0x710000 then regAtTd a
  else none

end Sys2Proof.Machine
end

