-- ==== Sys2Proof/Machine/State.lean ====
section
/-!
DEFINITION. The state of the K48 as plain data: what the fuses and balls fix, supplies, clocks, boot, ports, control pair, time
core, scheduler and curds, channels, hits, rennet, engines, memories and integrity, press, lanes, uplink, housekeeping, test
access; the registers as one sparse map by address with the RWF values still pending; and the queue of waiting commands.
Every structure's default values are its reset values.
-/
namespace Sys2Proof.Machine

/-- A statistics counter of R39: 48 bits and the overflow bit of R416. -/
structure Counter where
  value : BitVec 48 := 0
  ovf   : Bool := false
  deriving DecidableEq, Repr

/-- The twelve variants of R41. -/
inductive Variant where
  | f24s | f24e | f48s | f48e | c32s | c32e | c128s | x64s | x128s | x128e | b64s | d128s
  deriving DecidableEq, Repr

/-- The levels of the strap balls, or their sampled values (R82). -/
structure Straps where
  bootSel     : BitVec 3 := 0
  clkMode     : BitVec 2 := 0
  xtalWait    : BitVec 2 := 0
  portTrust   : Bool := false
  uplinkClass : BitVec 2 := 0
  deriving DecidableEq, Repr

/-- What the fuse array holds (R83, R86, R93, R107, R341). -/
structure Fuses where
  variant    : Variant := .d128s
  trim       : BitVec 6 := 0x20
  trustLock  : Bool := false
  sigReq     : Bool := false
  keyHash0   : BitVec 256 := 0
  keyHash1   : BitVec 256 := 0
  keyRevoke  : BitVec 2 := 0
  minSec     : BitVec 6 := 0
  upLane     : BitVec 6 := 0
  upMac      : BitVec 48 := 0
  upIp       : Word := 0
  upPorts    : Word := 0
  /-- factory repairs: the vat address of each repaired row's first byte (R341). -/
  repairs    : List Nat := []
  /-- the SRAM redundancy settings of R341, as the fuse row holds them. -/
  sramRedundancy : BitVec 224 := 0
  deriving DecidableEq, Repr

/-- Supplies, the release order and the reset causes (R55 to R58, R72 to R79). -/
structure Power where
  good       : BitVec 11 := 0x7FF
  /-- steps of R77 released, 0 to 11. -/
  released   : Nat := 0
  /-- step 2 complete: start-up switch and CTRL ramp done. -/
  clockDone  : Bool := false
  /-- step 3 complete: a load passed and the trim stands at the fused value, or no load is made (R76). -/
  fuseDone   : Bool := false
  /-- an internal reset is held (R74). -/
  hold       : Bool := false
  /-- RST_N is low and honoured (R74). -/
  rstLow     : Bool := false
  /-- the always-on supplies are down (R57). -/
  off        : Bool := false
  /-- CR_RESET_CAUSE (R79), kept through every reset. -/
  cause      : Word := 0x01F00001
  /-- a bring-up after fuse-CRC exhaustion: no fuse load is made (R76). -/
  noFuse     : Bool := false
  /-- codes of the sources that can still fire in the oscillator cycle of the last reset (R79). -/
  cycle      : List Nat := []
  deriving DecidableEq, Repr

/-- The clock unit (R59 to R71). -/
structure Clocks where
  trim       : BitVec 6 := 0x20
  oscReady   : Bool := false
  oscOk      : Bool := false
  primaryOk  : Bool := false
  fallback   : Bool := false
  returning  : Bool := false
  lockSys    : Bool := false
  lockCtrl   : Bool := false
  lockVat    : Bool := false
  /-- start-up checks of the primary clock made so far (R63). -/
  checks     : Nat := 0
  /-- the start-up PLLs have been enabled on a reference. -/
  enabled    : Bool := false
  /-- the start-up PLLs run from the primary clock. -/
  onPrimary  : Bool := false
  /-- a primary trip is latched while OSC_READY is 0 (R67). -/
  latched    : Bool := false
  /-- the external clock of CLK_MODE 0b10, as measured, in MHz (R58's table). -/
  extMhz     : Nat := 0
  /-- divider of the CTRL, CORE and engine ramps in force; 0 while the gate is closed (R64). -/
  rampCtrl   : Nat := 0
  rampCore   : Nat := 0
  rampEng    : Nat := 0
  deriving DecidableEq, Repr

/-- One boot record copy (R88). -/
structure BootRec where
  seq    : Word
  active : Byte
  armed  : Byte
  tries  : Byte
  deriving DecidableEq, Repr

/-- What a running flash operation is for (R97, R114). -/
inductive FlashOp where
  | erase | write | verify
  deriving DecidableEq, Repr

/-- Fuse load, boot ROM and images (R83 to R97, R451). -/
structure Boot where
  sampled    : Straps := {}
  fuseTries  : Nat := 0
  failRow    : BitVec 5 := 0
  passed     : Bool := false
  /-- CR_BOOT_STATUS.STATE: 0 ROM, 1 firmware, 2 rind mode. -/
  state      : BitVec 2 := 0
  /-- the ROM has started (release of the control pair). -/
  romOn      : Bool := false
  attempt    : Nat := 0
  /-- attempts made in this bring-up. -/
  tried      : Nat := 0
  source     : BitVec 2 := 0
  slot       : BitVec 2 := 0
  lastFail   : Byte := 0
  reason     : Byte := 0
  fwVersion  : Word := 0
  linkRev    : BitVec 4 := 1
  /-- a download attempt waits on its port (R93). -/
  downloading : Bool := false
  /-- the preferred slot of this bring-up, 0 A or 1 B (R90). -/
  preferred  : Nat := 0
  /-- failed attempts of the armed slot in this bring-up (R92). -/
  armFails   : Nat := 0
  /-- result of the last IMAGE_VERIFY of slots A and B and of the RAM image: none since erased or written (R96). -/
  verA       : Option Byte := none
  verB       : Option Byte := none
  verRam     : Option Byte := none
  /-- flash operations under way with their slots and requests, oldest first (R96, R97, R114). -/
  flashOps   : List (FlashOp × Nat × Req) := []
  /-- what the ROM took from the flash's parameter table in the last attempt that read one, and BOOT_SCK in MHz (R84). -/
  flashPar   : Option FlashPar := none
  sckMhz     : Nat := 10
  /-- ENTRY of the running image: where both processors start in their memory (R85). -/
  entry      : Word := 0
  deriving DecidableEq, Repr

/-- A notice that waits on a port (R125). -/
structure Notice where
  block  : Nat
  code   : BitVec 16
  tag    : BitVec 16
  ct     : CT
  count  : Word
  detail : Word
  /-- the node that sent it, for a notice of the chain handed to LK_NOTICE_PORT (R378); none for an own one. -/
  node   : Option (BitVec 16) := none
  deriving DecidableEq, Repr

/-- A command port (R107 to R112, R126). -/
structure Port where
  cls       : BitVec 2 := 0
  /-- replies that wait for the host, at most 16 on ports 0 and 1; those that wait for room there. -/
  replies   : List (List Word) := []
  late      : List (List Word) := []
  /-- a READ has shifted out part of a notice, and the next one starts it again (R112). -/
  begun     : Bool := false
  notices   : List Notice := []
  mask      : BitVec 19 := 0
  seq       : BitVec 16 := 0
  /-- a WRITE was discarded since the last STATUS (R111). -/
  discarded : Bool := false
  deriving DecidableEq, Repr

/-- A long command under way (R114). -/
structure Long where
  op   : BitVec 12
  /-- the resource it names: slot, channel, lane, or 0. -/
  res  : Nat
  req  : Req
  deriving DecidableEq, Repr

/-- An outstanding forwarded request (R378). -/
structure Outstanding where
  tag    : BitVec 16
  target : BitVec 16
  port   : Nat
  deriving DecidableEq, Repr

/-- Where a datagram came from, for the replies of port 4 (R390, R393). -/
structure EthPeer where
  mac  : BitVec 48 := 0
  ip   : Word := 0
  port : BitVec 16 := 0
  deriving DecidableEq, Repr

/-- The command ports together and the queue of R113. -/
structure Ports where
  port     : SMap Port := []
  /-- commands waiting for the control pair, oldest first, at most 64. -/
  queue    : List (BitVec 12 × Req) := []
  long     : List Long := []
  /-- the RESET_DEVICE reset is scheduled; the flag tells that it waits for no reply (R121). -/
  resetDue : Option Bool := none
  outstanding : List Outstanding := []
  nodeId   : BitVec 16 := 0
  /-- words of the packet that CMD_DATA is taking in, and words of the oldest packet already captured (R446). -/
  jtagRx   : List Word := []
  jtagTx   : Nat := 0
  /-- the lane of the NOTICE_SUBSCRIBE that last set port 3's mask (R103). -/
  noticeLane : Nat := 0
  /-- HEALTH_REPORT word 14 (R122). -/
  refused  : BitVec 16 := 0
  unexecuted : BitVec 16 := 0
  /-- the word CMD_DATA takes next belongs to a notice (R446). -/
  jtagNotice : Bool := false
  /-- first parts of carriage packets of two parts, by the lane they came on (R376). -/
  parts    : List (Nat × Curd) := []
  /-- reply addresses of port 4 by TAG, and the notice address (R390, R393). -/
  peers    : SMap EthPeer := []
  noticePeer : EthPeer := {}
  /-- IRQ_N and ALERT_N drivers enabled by the boot ROM (R124). -/
  drivers  : Bool := false
  deriving DecidableEq, Repr

/-- The control pair (R129 to R139). -/
structure Pair where
  /-- processor B is in control. -/
  inB       : Bool := false
  /-- 0 healthy, 1 resynchronising, 2 demoted, 3 self-test running. -/
  standby   : BitVec 2 := 0
  repaired  : Bool := false
  passes    : Nat := 0
  failovers : BitVec 16 := 0
  unresolved : BitVec 16 := 0
  sliceFails : BitVec 16 := 0
  /-- the output gate is open. -/
  gate      : Bool := true
  /-- the self-test of R131 runs. -/
  testing   : Bool := false
  /-- the command to be re-executed: its opcode and request, when the gate closed on one. -/
  interrupted : Option (BitVec 12 × Req) := none
  /-- the controller changed and its gate has yet to open (R132); true when the change was at a boundary. -/
  swapping  : Option Bool := none
  /-- the standby has resynchronised since the last change of controller (R137). -/
  resynced  : Bool := false
  /-- FORCE_SWAP and READMIT as they read. -/
  force     : Bool := false
  readmit   : Bool := false
  kind      : BitVec 2 := 0
  unmatched : BitVec 6 := 0
  misTag    : BitVec 16 := 0
  misAddr   : Word := 0
  /-- CP_WDOG_CFG.EN, and the period of the count under way. -/
  wdogOn    : Bool := false
  wdogPeriod : BitVec 11 := 0x3E8
  wdogPaused : Bool := false
  /-- the push tags of R135: the counter, its value at the start of the command, the last tag each block accepted. -/
  pushTag   : BitVec 16 := 0
  startTag  : BitVec 16 := 0
  lastTag   : SMap (BitVec 16) := []
  replaying : Bool := false
  /-- the last command executed (R131, R132). -/
  lastCmd   : Option (BitVec 12 × Req) := none
  /-- SERVICE before the BIST_RUN under way (R137). -/
  service   : Option Bool := none
  /-- that command is compared: the standby was healthy when it started (R136); the reply that it gave. -/
  compared  : Bool := true
  lastReply : Option (List Word) := none
  /-- what waits for the gate to open: replies with port, lane and TAG; events with the ports they go to, detail and time (R130,
  R133). -/
  heldReplies : List (Nat × Nat × BitVec 16 × List Word) := []
  heldEvents  : List (List Nat × Nat × Nat × Word × CT) := []
  deriving DecidableEq, Repr

/-- A pulse output (R155, R156). -/
structure Pulse where
  mode    : BitVec 2 := 0
  armed   : Bool := false
  start   : CT := 0
  /-- the next rise. -/
  next    : CT := 0
  period  : BitVec 48 := 0
  width   : Word := 0
  high    : Bool := false
  /-- the fall of the pulse in progress. -/
  fall    : CT := 0
  /-- settings that wait for the falling edge: mode, start, period, width. -/
  queued  : Option (BitVec 2 × CT × BitVec 48 × Word) := none
  deriving DecidableEq, Repr

/-- A frequency measurement under way (R157, R158). -/
structure FreqRun where
  req     : Req
  source  : BitVec 3
  div     : Nat
  gateMs  : Nat
  opened  : Bool := false
  /-- CT at which the gate opened. -/
  start   : CT := 0
  /-- CT stepped, ALIGNED was 0, since the gate opened. -/
  stepped : Bool := false
  unaligned : Bool := false
  deriving DecidableEq, Repr

/-- A pending period switch (R14 to R17): announced or armed. -/
structure Switch where
  fn     : FN
  period : BitVec 21
  deriving DecidableEq, Repr

/-- The time core (R7 to R18, R140 to R161). -/
structure Time where
  ct        : CT := 0
  epoch     : Word := 0
  lt        : BitVec 64 := 0
  /-- fine part of local time below 1 ns, and what is below a fine unit, in 2⁻⁴⁰ of one. -/
  ltFine    : BitVec 9 := 0
  ltFrac    : BitVec 40 := 0
  fn        : FN := 0
  period    : BitVec 21 := 0x800
  /-- the frame origin O in ns of E (R7). -/
  org       : BitVec 87 := 0
  /-- E of the last tick. -/
  tickE     : BitVec 87 := 0
  /-- RUN as last written, RUN in force, a stop awaits its tick (R13). -/
  run       : Bool := false
  ticking   : Bool := false
  stopping  : Bool := false
  /-- the tick of the stop has come (LAST_TICK), the tick of SWITCH_FN has come (PERIOD_SWITCH). -/
  stopNow   : Bool := false
  switchNow : Bool := false
  /-- the next tick is the first after ticks started (R9). -/
  first     : Bool := false
  aligned   : Bool := false
  upAligned : Bool := false
  switchDone : Bool := false
  switch    : Option Switch := none
  /-- the active schedule failed a check at NEXT_PERIOD (R17): held until the switch, then in force. -/
  infeasible : Bool := false
  infForce  : Bool := false
  /-- the committed schedule failed a check at NEXT_PERIOD (R17). -/
  infShadow : Bool := false
  /-- a follower has taken P, O and FN (R453); it has taken them since ALIGNED was last cleared (R150). -/
  taken     : Bool := false
  fresh     : Bool := false
  state     : BitVec 3 := 0
  pllRef    : BitVec 2 := 0
  pllLock   : Bool := false
  refA      : Bool := false
  refB      : Bool := false
  pps       : Bool := false
  /-- the level of the ball PPS_IN, which every edge of it turns over (R160); no reset reaches it. -/
  ppsIn     : Bool := false
  /-- TIME_SET awaiting its edge (R145). -/
  setCt     : Option (CT × Word) := none
  /-- local time in fine units of the last PPS_IN edge, and the edges in a row spaced 1 s ± 100 µs (R144). -/
  ppsLast   : Option Nat := none
  ppsRun    : Nat := 0
  /-- the offset that CT phase is slewed out of (R146). -/
  slew      : Int := 0
  /-- the expected chain time of the next PPS edge less TC_PPS_DELAY, once TIME_SET has applied (R146). -/
  ppsNext   : Option CT := none
  jumps     : Nat := 0
  /-- TIME_SET has applied in ROOT_REF (R145). -/
  timeSet   : Bool := false
  /-- CT has stepped since ALIGNED was cleared by R153. -/
  stepped   : Bool := false
  /-- ALIGNED was cleared under R146 or R398: it waits for the host (R12). -/
  waitHost  : Bool := false
  /-- ALIGNED was cleared by a fallback (R153): it waits for the return. -/
  waitReturn : Bool := false
  /-- 2 theta of each exchange since the last update, newest last; updates in a row within 100 ps (R149, R150). -/
  thetas    : List Int := []
  within    : Nat := 0
  /-- the first average since entry to ACQUIRE or since exchanges resumed is still to come. -/
  firstAvg  : Bool := true
  /-- P, FN and epoch of the last FRAME flit from upstream, when one has come. -/
  upPeriod  : BitVec 21 := 0x800
  upFn      : FN := 0
  upEpoch   : Word := 0
  upSeen    : Bool := false
  /-- local time at which that FRAME flit came. -/
  upLt      : BitVec 64 := 0
  offset    : Word := 0
  rtt       : Word := 0
  steer     : Word := 0
  /-- TC_HOLD_LIMIT runs (R152). -/
  holding   : Bool := false
  ptpGood   : Nat := 0
  pulses    : SMap Pulse := []
  freq      : Option FreqRun := none
  /-- stamp FIFOs of PPS_IN and TRIG_IN: stamp and OVF (R160). -/
  stamps0   : List (CT × Bool) := []
  stamps1   : List (CT × Bool) := []
  deriving DecidableEq, Repr

/-- A schedule entry (R20). -/
structure Entry where
  w0 : Word
  w1 : Word
  w2 : Word
  w3 : Word
  deriving DecidableEq, Repr

/-- A curd that the device holds for a path (R33, R35, R379). -/
structure Held where
  curd   : Curd
  path   : Nat
  /-- 0 of the device's own origin, 1 relayed, 2 merged. -/
  kind   : Nat
  /-- formed and waiting for emission, and from which chain time on. -/
  ready  : Bool := true
  readyAt : Option CT := none
  /-- arrival lane, 0x3F for an own curd. -/
  lane   : Nat := 0x3F
  /-- bytes in the relay buffer. -/
  bytes  : Nat := 0
  /-- the schedule entry on which the curd depends (R26, R27), when one still works for it. -/
  dep    : Option Nat := none
  /-- the one lane that may carry it, for an EXCHANGE curd (R299). -/
  out    : Option Nat := none
  deriving DecidableEq, Repr

/-- A roster (R371). -/
structure Roster where
  slots     : Nat
  slotFlits : Nat
  reserve   : Nat
  start     : Nat
  owners    : List (BitVec 16)
  deriving DecidableEq, Repr

/-- A parameter block copy (R289, R315). -/
structure ParamCopy where
  cluster : Nat
  handle  : Nat
  words   : List Word
  deriving DecidableEq, Repr

/-- The scheduler and the curds it moves (R19 to R40, R452). -/
structure Sched where
  active    : List Entry := []
  shadow    : List Entry := []
  bank      : Bool := false
  /-- COMMIT_PENDING, the swap awaits its tick, the copy awaits its end. -/
  commit    : Bool := false
  swapDue   : Bool := false
  copyDue   : Bool := false
  /-- the tick that swaps has come (R25). -/
  swapNow   : Bool := false
  /-- entries of the active schedule under way in this frame; entries whose START has been served in it. -/
  running   : List Nat := []
  begun     : List Nat := []
  params    : List ParamCopy := []
  paramsDue : List ParamCopy := []
  /-- shadow rosters: lane × 2 + DIR; none clears (R374). -/
  rosterDue : SMap (Option Roster) := []
  held      : List Held := []
  seq       : SMap (BitVec 16) := []
  /-- lost-curd amounts to add to the next curd of a stream: source × 256 + type (R33). -/
  carry     : SMap Nat := []
  /-- origin frame of the last curd formed of an own stream: source × 256 + type (R34). -/
  formed    : SMap Word := []
  /-- paths that raised SC_LOSS in this frame (R33). -/
  lossNow   : List Nat := []
  deriving DecidableEq, Repr

/-- A curd held by the merge ring (R308 to R313). -/
structure Merged where
  curd   : Curd
  path   : Nat
  lane   : Nat
  /-- vat address of its first flit. -/
  addr   : Nat
  /-- its origin frame has closed: the curd has been ordered for emission or delivered to the event builder. -/
  closed : Bool := false
  /-- a sequence gap was revealed by this curd (R319). -/
  gap    : Bool := false
  deriving DecidableEq, Repr

/-- The merge and the event builder (R308 to R321). -/
structure Merge where
  held      : List Merged := []
  /-- bytes written in each slot of the ring (R311). -/
  used      : SMap Nat := []
  /-- curds of a merged path discarded, by path × 2^32 + origin frame (R319 INPUT_LOST). -/
  discarded : SMap Nat := []
  /-- of these, the origin frames of which a discarded curd revealed a sequence gap (R319 GAP). -/
  gaps      : List Nat := []
  /-- merged paths whose close of this tick is still to come; the slot of this tick is still to be emptied. -/
  closeDue  : List Nat := []
  emptyDue  : Bool := false
  /-- triggers whose events are still to be built: T, trigger number (R317). -/
  triggers  : List (CT × BitVec 16) := []
  /-- flits of EV_BUDGET used in this frame; SC_EV_WHEY raised in it (R318). -/
  evUsed    : Nat := 0
  evWhey    : Bool := false
  deriving DecidableEq, Repr

/-- Why an INV interval runs (R166). -/
inductive InvCause where
  | enable | range
  deriving DecidableEq, Repr

/-- A corrected sample as the hit builder keeps it (R185, R193). -/
structure Sample where
  ct    : CT
  y     : Int
  range : BitVec 2
  inv   : Bool
  /-- INV because of a range change (R169). -/
  rc    : Bool
  ovr   : Bool
  deriving DecidableEq, Repr

/-- A raw sample on its way through mordant: after the gain step (R185). -/
structure RawSample where
  ct    : CT
  code  : BitVec 12
  e     : Int
  /-- the value after the interleave step, once its neighbours are known. -/
  z     : Option Int
  range : BitVec 2
  inv   : Bool
  rc    : Bool
  ovr   : Bool
  odd   : Bool
  /-- MD_CHn_ILV and the skew of MD_CHn_SKEW in force at its instant (R188). -/
  ilv   : Nat := 0
  skew  : Nat := 0
  deriving DecidableEq, Repr

/-- A stop in a channel's FIFO: path, raw stamp fields and flags (R174 to R177). -/
structure Stop where
  trailing    : Bool
  cycle       : Byte
  coarse      : BitVec 12
  bin         : BitVec 9
  rangeSwitch : Bool
  thrSettle   : Bool
  /-- FN of the frame whose tick it counts from. -/
  fn          : FN
  /-- E of that tick. -/
  tick        : BitVec 87
  /-- the corrected stamp, by the constants in force at its raw stamp (R187, R188). -/
  corrected   : Int := 0
  /-- of its frame: P in ns, TOT_WAIT, POLARITY and TOT_EN, and whether the pair interleaves (R14, R25, R165). -/
  period      : Nat := 0
  wait        : Nat := 0
  neg         : Bool := false
  useTot      : Bool := false
  paired      : Bool := false
  /-- the trailing stop that would be paired with it was lost (R196). -/
  trailLost   : Bool := false
  deriving DecidableEq, Repr

/-- A timing stop that waits for its trailing stop (R196). -/
structure OpenHit where
  stop   : Stop
  /-- TOT found; none yet. -/
  tot    : Option Nat := none
  /-- no trailing stop will be paired. -/
  closed : Bool := false
  deriving DecidableEq, Repr

/-- An analogue channel and its mordant (R162 to R192). -/
structure Chan where
  range     : BitVec 2 := 0
  inv       : Option InvCause := none
  /-- chain time at which the INV interval started, and whether stops are discarded in it. -/
  invFrom   : CT := 0
  drop      : Bool := false
  /-- an over-range sample that starts a drop has been seen and the drop's INV interval has not ended (R169). -/
  dropping  : Bool := false
  /-- the drop is detected and the input stage has yet to switch. -/
  dropDue   : Bool := false
  /-- instant of the last sample of each digitiser of the stream (even, odd). -/
  lastEven  : Option CT := none
  lastOdd   : Option CT := none
  quiet     : Nat := 0
  quietNow  : Bool := true
  disc      : Bool := false
  fifo      : List Stop := []
  /-- when the last stop left the FIFO towards mordant (R176). -/
  drained   : Option CT := none
  lastTiming   : Option CT := none
  lastTrailing : Option CT := none
  /-- the last trailing stop's timing stop was lost or discarded (R175). -/
  timingLost   : Bool := false
  settleUntil  : Option CT := none
  /-- the raw sample corrected last of the stream, and those that await their neighbours, newest last. -/
  prior     : Option RawSample := none
  raw       : List RawSample := []
  history   : List Sample := []
  hits      : List OpenHit := []
  lastRise  : Option CT := none
  lastStamp : Option CT := none
  /-- a calibration under way: procedure, parameter, apply. -/
  cal       : Option (BitVec 2 × Word × Bool) := none
  deriving DecidableEq, Repr

/-- An admitted hit item: record and snippet flits (R199 to R202). -/
structure Item where
  ch     : Nat
  fine   : Nat
  fn     : FN
  flits  : List Flit
  rangeSwitch : Bool
  inv    : Bool
  poison : Bool := false
  /-- its flits that the arbiter has yet to take to staging (R206). -/
  left   : Nat := 0
  deriving DecidableEq, Repr

/-- What the hit builder keeps of a frame for its items: P in ns, BUDGET and the channel's registers at its tick, flits used (R25, R201). -/
structure HitFrame where
  fn     : FN
  period : Nat
  budget : Nat
  zs     : Word
  win    : Word
  snip   : Word
  base   : Word
  used   : Nat := 0
  deriving DecidableEq, Repr

/-- A word of a transport FIFO: data, a parity bit for each byte, the end mark of an item, the mask of its valid bytes (R205). -/
structure FifoWord where
  data   : Flit
  parity : BitVec 16
  last   : Bool
  mask   : BitVec 16
  deriving DecidableEq, Repr

/-- The hit builder of one channel: its admission point and its transport (R201 to R206). -/
structure HitChan where
  /-- the open budgets, oldest frame first (R201). -/
  frames  : List HitFrame := []
  /-- 32-bit words of admitted items that have yet to enter the chain, with their end marks (R203). -/
  queue   : List (Word × Bool) := []
  /-- the eight stages of the fall-through chain, the first one first (R203). -/
  chain   : List (Option (Word × Bool)) := List.replicate 8 none
  /-- 32-bit writes that do not fill a word of the FIFO yet (R204). -/
  packing : List Word := []
  fifo    : List FifoWord := []
  /-- words admitted, written and read since reset; the copies of the read and the write pointer in the two flops of the other side
  (R204). -/
  adm     : Nat := 0
  wr      : Nat := 0
  rd      : Nat := 0
  rdSync  : Nat × Nat := (0, 0)
  wrSync  : Nat × Nat := (0, 0)
  /-- the item at the head is partly read (R206). -/
  mid     : Bool := false
  deriving DecidableEq, Repr

/-- The hit builder (R193 to R214). -/
structure Hits where
  chan    : SMap HitChan := []
  items   : List Item := []
  wheyNow : Bool := false
  /-- the channel that the draining arbiter serves next, and the chain time up to which the transport has run (R206). -/
  turn    : Nat := 0
  ranTo   : CT := 0
  /-- frames that have ended and are not closed, oldest first, each with the chain time of its close (R201). -/
  ended   : List (FN × CT) := []
  deriving DecidableEq, Repr

/-- A trigger candidate (R215). -/
structure Cand where
  t       : CT
  sources : BitVec 10
  origin  : BitVec 16
  coarse  : Bool := false
  ovf     : Bool := false
  auto    : Bool := false
  deriving DecidableEq, Repr

/-- TRIG_ARM's settings (R235). -/
structure Arm where
  mode    : BitVec 2 := 0
  auto    : Bool := false
  readout : Bool := false
  pre     : Nat := 0
  post    : Nat := 0
  records : Nat := 0
  timeout : Nat := 0
  deriving DecidableEq, Repr

/-- One entry of a channel's mark log (R225). -/
structure Mark where
  ct     : CT
  kind   : BitVec 2
  range  : BitVec 2
  samples : Nat
  deriving DecidableEq, Repr

/-- A trigger mark that waits for its curd (R226). -/
structure TrigMark where
  num   : BitVec 16
  cand  : Cand
  noRo  : Bool
  fn    : FN
  deriving DecidableEq, Repr

/-- A read-out that waits for its entry: what it covers, by the arm and the masks of its trigger (R227). -/
structure Readout where
  num   : BitVec 16
  t     : CT
  fn    : FN
  pre   : Nat
  post  : Nat
  /-- the buffer: its space, base and blocks of each ring. -/
  vat   : Bool
  base  : Nat
  blocks : Nat
  /-- its channels: place in the mask, channel, block span in fine units. -/
  chans : List (Nat × Nat × Nat)
  /-- when its data is ready (R229). -/
  ready : CT
  deriving DecidableEq, Repr

/-- A frame that has ended, as rennet judges its triggers: its tick, its length in fine units, TR_BUDGET in force (R30, R221, R227). -/
structure TrFrame where
  fn     : FN
  tick   : CT
  len    : Nat
  budget : Word
  deriving DecidableEq, Repr

/-- The place of a segment: its space and base, its masked channels, LEN in blocks, the mask (R230). -/
structure Seg where
  vat   : Bool
  base  : Nat
  chans : List Nat
  len   : Nat
  maskLo : Word
  maskHi : Word
  deriving DecidableEq, Repr

/-- A record of a segment (R230 to R233). -/
structure Record where
  num     : BitVec 16
  t       : CT
  epoch   : Word
  fn      : Word
  fineTick : Nat
  sources : BitVec 10
  coarse  : Bool
  shortPre : Bool
  preValid : Nat
  trigIndex : Nat
  /-- block span of each masked channel in fine units. -/
  spans   : List Nat
  range0  : BitVec 2
  rangeSwitch : Bool
  done    : Bool
  deriving DecidableEq, Repr

/-- Rennet (R215 to R237). -/
structure Rennet where
  armed    : Bool := false
  armDue   : Option Arm := none
  disarmDue : Bool := false
  /-- the tick of the arm or disarm has come. -/
  armNow   : Bool := false
  disarmNow : Bool := false
  closing  : Bool := false
  arm      : Arm := {}
  armTick  : CT := 0
  disarmTick : Option CT := none
  cands    : List Cand := []
  last     : Option Cand := none
  num      : BitVec 16 := 0
  /-- the last 4,096 frames that have ended, which may hold undecided triggers or curds to be merged, newest first. -/
  frames   : List TrFrame := []
  /-- accepted triggers and read-out flits by FN of T's frame. -/
  perFrame : SMap Nat := []
  roFrame  : SMap Nat := []
  marks    : List TrigMark := []
  readouts : List Readout := []
  wheyNow  : Bool := false
  /-- samples of the block being filled, by channel: start of block and codes. -/
  blocks   : SMap (CT × List (BitVec 12)) := []
  /-- blocks valid since, once the buffer is enabled; the next block of zeros of each disabled channel of the mask (R224). -/
  since    : Option CT := none
  zeroTo   : SMap Nat := []
  log      : SMap (List Mark) := []
  records  : List Record := []
  segClosed : Bool := false
  segOpen  : Bool := false
  seg      : Option Seg := none
  /-- the last block of a record is written and re-arm runs; the instant re-arm completed. -/
  rearming : Bool := false
  rearmAt  : Option CT := none
  misses   : List (CT × BitVec 10) := []
  missOvf  : Bool := false
  autoBase : Option CT := none
  cmpArmed : Bool := false
  /-- the target that the armed compare waits for (R218). -/
  cmpAt    : CT := 0
  outHigh  : Bool := false
  outFall  : Option CT := none
  outQueue : List CT := []
  /-- fall of the last pulse accepted for TRIG_OUT (R236). -/
  outLast  : Option CT := none
  /-- ended frames whose marks, and whose read-outs, are still to be closed, with their ready times (R34, R226, R229). -/
  markDue  : List (FN × CT) := []
  roDue    : List (FN × CT) := []
  lastFire : SMap CT := []
  lastIn   : Option CT := none
  deriving DecidableEq, Repr

/-- A 128-bit register with its exponent tag and poison tag (R246). -/
structure VReg where
  val    : Flit := 0
  tag    : BitVec 4 := 0
  poison : Bool := false
  /-- the word came from a bank with OVF (R247, R260). -/
  ovf    : Bool := false
  deriving DecidableEq, Repr

/-- An accumulator bank: 16 lanes of 64 bits, lane OVF bits, exponent, cleared state, poison (R243). -/
structure Bank where
  lanes   : SMap (BitVec 64) := []
  ovf     : BitVec 16 := 0
  exp     : BitVec 5 := 0
  cleared : Bool := true
  poison  : Bool := false
  deriving DecidableEq, Repr

/-- An address generator (R248, R249). -/
structure AddrGen where
  base    : BitVec 18 := 0
  stride  : BitVec 16 := 1
  len     : BitVec 17 := 0
  index   : BitVec 17 := 0
  bitrev  : BitVec 4 := 0
  exp     : BitVec 4 := 0
  pending : Bool := false
  pendLen : BitVec 17 := 0
  deriving DecidableEq, Repr

/-- An engine (R238, R264). STATE: 0 halted, 1 running, 2 fault. -/
structure Engine where
  state : BitVec 2 := 0
  fault : BitVec 4 := 0
  pc    : BitVec 13 := 0
  regs  : SMap VReg := []
  banks : SMap Bank := []
  ags   : SMap AddrGen := []
  pf    : BitVec 4 := 1
  flags : BitVec 4 := 0
  /-- the EMIT that holds the engine at issue (R286). -/
  held  : Bool := false
  deriving DecidableEq, Repr

/-- A kernel run in progress (R255, R276). -/
structure Run where
  entry  : Nat
  handle : BitVec 16
  mask   : BitVec 16
  tickCt : CT
  fn     : FN
  start  : BitVec 21
  ovfNow : Bool := false
  poisonNow : Bool := false
  deriving DecidableEq, Repr

/-- A queued EMIT (R286). -/
structure EmitReq where
  engine : Nat
  dest   : BitVec 5
  addr   : Nat
  type   : Byte
  len    : Nat
  /-- the register that named the payload was poisoned (R271). -/
  poison : Bool
  deriving DecidableEq, Repr

/-- A cluster (R238, R265). -/
structure Cluster where
  store    : SMap (BitVec 64) := []
  run      : Option Run := none
  resUsed  : Nat := 0
  emits    : List EmitReq := []
  /-- the trigger FIFO, oldest first: at most eight candidates by their T (R263). -/
  trigs    : List CT := []
  deriving DecidableEq, Repr

/-- The rows that a descriptor reads or writes: space, first byte of row 0, 128-bit words per row, rows, bytes between row
starts (R258). -/
structure Rows where
  vat    : Bool
  base   : Nat
  words  : Nat
  rows   : Nat
  stride : Int
  deriving DecidableEq, Repr

/-- A descriptor whose writes are not complete (R258). -/
structure DmaOpen where
  idx  : Nat
  evt  : Bool
  src  : Rows
  dst  : Rows
  deriving DecidableEq, Repr

/-- A DMA channel (R257 to R261). -/
structure Dma where
  busy    : Bool := false
  /-- the chain's LAST descriptor has been read. -/
  ended   : Bool := false
  next    : Nat := 0
  count   : Nat := 0
  entry   : Nat := 0
  /-- descriptors whose writes are not complete, oldest first. -/
  open_   : List DmaOpen := []
  /-- what the chain has written so far. -/
  dests   : List Rows := []
  deriving DecidableEq, Repr

/-- A kernel definition (R253): cluster mask, ENTRY, SIZE. -/
structure Kernel where
  mask  : BitVec 16
  entry : BitVec 11
  size  : BitVec 12
  deriving DecidableEq, Repr

/-- The engine array (R238 to R267). -/
structure Engines where
  eng     : SMap Engine := []
  cl      : SMap Cluster := []
  dma     : SMap Dma := []
  /-- user handles 0x0100 upwards. -/
  kernels : SMap Kernel := []
  /-- EA_WHEY has been raised in this frame (R262). -/
  wheyNow : Bool := false
  /-- the cluster whose trigger FIFO drains next, the chain time up to which the FIFOs have drained, and each engine's last TRIG (R263). -/
  trigTurn : Nat := 0
  trigRan  : CT := 0
  trigAt   : SMap CT := []
  /-- 128-bit words that came from a bank with OVF, by 2 × word number, plus 1 in the vat (R260). -/
  ovfMem  : SMap Bool := []
  deriving DecidableEq, Repr

/-- What is known of one channel of one source's frame: origin frame of its EXCHANGE curd, source index, channel, exponent, and
the spectra that are zeroed or lost (R298, R300). -/
structure Spectra where
  fn   : Word
  node : Nat
  ch   : Nat
  exp  : Nat
  inv  : BitVec 64
  deriving DecidableEq, Repr

/-- A coefficient bank that a cluster's FX_PFB run has read: the bank, the frame of the run, and whether the bank was newly selected
(R296). -/
structure Csel where
  bank  : Nat
  fn    : FN
  fresh : Bool
  deriving DecidableEq, Repr

/-- The FX kernels' progress (R292 to R304). -/
structure Fx where
  /-- samples flagged INV by receiver, as ranges of half nanoseconds of E, newest first (R295). -/
  inv  : SMap (List (Nat × Nat)) := []
  /-- since when a receiver delivers samples and, once its EN is cleared, until when, in half nanoseconds of E (R292). -/
  on   : SMap (Nat × Option Nat) := []
  /-- coefficient bank that each cluster's last FX_PFB run used (R296). -/
  csel : SMap Csel := []
  /-- the spectra in the exchange staging ring, by channel, and the index of the first one (R291, R303). -/
  staged : List Spectra := []
  first  : Nat := 0
  /-- EXCHANGE curds delivered to the receive ring (R300). -/
  got  : List Spectra := []
  /-- the validity record of the corner-turn buffer (R300). -/
  ct   : List Spectra := []
  deriving DecidableEq, Repr

/-- A memory region (R330). STATE: 0 undefined, 1 init, 2 ready. -/
structure Region where
  base     : Nat := 0
  size     : Nat := 0
  sram     : Bool := false
  cls      : BitVec 2 := 0
  owner    : Nat := 0
  ceLimit  : Nat := 0
  spareMax : Nat := 0
  scrub    : Bool := false
  spareEn  : Bool := false
  wbOnCe   : Bool := false
  state    : BitVec 2 := 0
  spares   : Nat := 0
  deriving DecidableEq, Repr

/-- A tracker entry (R337). -/
structure Track where
  vat     : Bool
  addr    : Nat
  count   : Nat
  written : Bool
  deriving DecidableEq, Repr

/-- An error log entry, its four words (R344). -/
structure LogEntry where
  w0 : Word
  w1 : Word
  w2 : Word
  w3 : Word
  deriving DecidableEq, Repr

/-- A soft spare table entry (R345's IG_SOFT_ENTRY). -/
structure SoftEntry where
  stack   : Nat
  channel : Nat
  bank    : Nat
  row     : Nat
  spare   : Nat
  deriving DecidableEq, Repr

/-- A row move under way (R339): the row's first address, the spare row, its region, the SPARE_ROW that asked for it. -/
structure RowMove where
  addr   : Nat
  spare  : Nat
  region : Option Nat
  req    : Option Req
  deriving DecidableEq, Repr

/-- The vat and the integrity unit (R322 to R348). -/
structure Vat where
  trained  : BitVec 4 := 0
  failed   : BitVec 4 := 0
  hot      : BitVec 4 := 0
  temps    : SMap (BitVec 16) := []
  regions  : SMap Region := []
  /-- poison marks: class-S blocks, class-M and class-L words, by address. -/
  poisonVat : SMap Bool := []
  poisonWin : SMap Bool := []
  /-- window ranges whose words still carry the tag of a class-M region that was deleted or moved away (R328, R336). -/
  stale    : List (Nat × Nat) := []
  /-- tracker entries by tracker (0 to 3 stacks, 4 SRAM), least recently touched first. -/
  tracker  : SMap (List Track) := []
  log      : List LogEntry := []
  logFull  : Bool := false
  /-- write-backs that wait for their block. -/
  writeBacks : List (Bool × Nat) := []
  soft     : SMap SoftEntry := []
  /-- spare rows taken: bank key (stack, channel, bank) to a mask of four. -/
  taken    : SMap (BitVec 4) := []
  /-- the row move under way in each stack, and those that wait for it (R339). -/
  moves    : SMap RowMove := []
  waiting  : List RowMove := []
  /-- cursors of the scrubbers: the next address; scrubber 0's stands at 2^37 or above in SRAM. -/
  cursors  : SMap Nat := []
  deriving DecidableEq, Repr

/-- A press unit (R352 to R358). -/
structure PressUnit where
  open_   : Bool := false
  words   : List Flit := []
  width   : BitVec 2 := 0
  dstVat  : Bool := false
  dst     : Nat := 0
  dstMax  : Nat := 0
  deriving DecidableEq, Repr

/-- The state of one lane (R364 to R386). -/
structure Lane where
  /-- 0 off, 1 to 4 bring-up, 5 trained, 6 deep idle. -/
  step      : Nat := 0
  trained   : Bool := false
  /-- bring-up runs with the shortened steps of R367. -/
  wake      : Bool := false
  deep      : Bool := false
  uplink    : Bool := false
  rev       : BitVec 4 := 0
  farNode   : BitVec 16 := 0
  cap       : Option Cap := none
  rtt       : Word := 0
  slotOfs   : BitVec 21 := 0
  takeover  : Bool := false
  tx        : Option Roster := none
  rx        : Option Roster := none
  /-- streams tracked: source × 256 + type with the last SEQ, least recently used first (R370). -/
  streams   : List (Nat × BitVec 16) := []
  /-- curd flits are lost until the next SLOT or FRAME flit (R369). -/
  deaf      : Bool := false
  strangerNow : Bool := false
  /-- SEQ of the exchange that we send and of the one that we answer; our stamps: t1 as sender, t2 and t3 as receiver (R383). -/
  exSeq     : Byte := 0
  rxSeq     : Byte := 0
  exT1      : Option CT := none
  exT2      : Option CT := none
  exT3      : Option CT := none
  carriage  : List Curd := []
  /-- a change of EN or GEN that R364 holds: the written register value. -/
  heldCfg   : Option Word := none
  heldDue   : Bool := false
  /-- a curd whose transmission is under way (R366). -/
  sending   : Option Curd := none
  /-- owned slots that are open in this frame, with the curd flits each has taken (R372). -/
  openSlots : List (Nat × Nat) := []
  /-- the slot under way at the transmitter: its end, and the TRIG flits that it can still take; TRIG flits that wait for the next slot or the
  link interval (R372). -/
  slotTrig  : Option (CT × Nat) := none
  trigWait  : List (BitVec 16 × BitVec 10 × CT) := []
  /-- consecutive frames without a SLOT flit on the forward-in lane, and whether one came in this frame (R373). -/
  slotQuiet : Nat := 0
  slotSeen  : Bool := false
  slotFull  : Bool := false
  /-- the last step completed since LINK_TRAIN started (R364). -/
  lastStep  : Nat := 0
  deriving DecidableEq, Repr

/-- A pending FEATURE_EPOCH commit and the epochs (R382). -/
structure Link where
  lane      : SMap Lane := []
  refclk    : Bool := true
  prepared  : BitVec 16 := 0
  inForce   : BitVec 16 := 0
  features  : List Word := []
  featuresPrep : List Word := []
  commitFn  : Option Word := none
  epochNow  : Bool := false
  /-- (ORIGIN, T) pairs forwarded, newest first, at most 16 (R384). -/
  trigSeen  : List (BitVec 16 × CT) := []
  quarantine : List (BitVec 128 × Nat) := []
  deriving DecidableEq, Repr

/-- The uplink (R387 to R399). -/
structure Uplink where
  up        : Bool := false
  fecLock   : Bool := false
  dgramSeq  : Word := 0
  masters   : List PtpMaster := []
  selected  : Option PtpMaster := none
  /-- log2 of the Delay_Req interval from the master's Delay_Resp (R397). -/
  delayLog  : Byte := 0
  /-- t1 that the last Sync or its Follow_Up gives, and t2, its arrival (R397). -/
  syncT1    : Option (CT × CT) := none
  /-- t3 of a Delay_Req whose Delay_Resp has not come (R397). -/
  delayT3   : Option CT := none
  delaySeq  : BitVec 16 := 0
  lost      : Bool := false
  /-- the datagram under way: sequence, first rind, flits; the curds whose last octet it carries (R394, R395). -/
  flight    : Option (Word × BitVec 16 × List Flit × List Held) := none
  deriving DecidableEq, Repr

/-- A published housekeeping result (R412). -/
structure HkResult where
  value : Word := 0
  stat  : Word := 0
  time  : Word := 0
  deriving DecidableEq, Repr

/-- Where the entry in progress stands (R402 to R405). -/
inductive HkPhase where
  | idle | begun | connected | discarding | keeping | kept
  deriving DecidableEq, Repr

/-- The housekeeping monitor (R400 to R414). -/
structure House where
  running   : Bool := false
  /-- HK_SEQ_START 0 came while a conversion ran: the sequence stops once its result is published (R410). -/
  stopping  : Bool := false
  phase     : HkPhase := .idle
  entry     : Nat := 0
  /-- the next entry to begin. -/
  next      : Nat := 0
  w0        : SMap Word := []
  w1        : SMap Word := []
  results   : SMap HkResult := []
  /-- POS, NEG, GAIN and excitation mask of the previous entry executed (R404). -/
  prev      : Option (Word × BitVec 10) := none
  /-- the sources that are on; those switched off by a fault until their configuration is written again (R405, R406). -/
  excOn     : BitVec 10 := 0
  excOff    : BitVec 10 := 0
  /-- configuration in force of each source, since it was last switched on (R405). -/
  excCfg    : SMap Word := []
  /-- sources whose configuration has been written since they were last switched on (R405). -/
  excNew    : BitVec 10 := 0
  /-- local time, in fine units, at which the entry began, its inputs were connected, and the running conversion started; the converter
  clocks that this conversion takes (R400, R402 to R404, R411). -/
  began     : Nat := 0
  linked    : Nat := 0
  convFrom  : Nat := 0
  tint      : Nat := 0
  /-- the entry in progress changes the input, has made its discarded conversion (R404). -/
  changes   : Bool := false
  discarded : Bool := false
  /-- flags of the running conversion: EXC_CHANGED, FILTER_CHANGED, FALLBACK (R400, R405, R411). -/
  excChanged : Bool := false
  filterBad : Bool := false
  fallbackSeen : Bool := false
  /-- conversions still to start with FILTER_CHANGED (R411). -/
  filter    : Nat := 0
  /-- OPEN, SHORT, COMPLIANCE seen in this entry: bits 0, 1, 2. -/
  faults    : BitVec 3 := 0
  /-- the kept conversion's result, OVR and end (R401, R412). -/
  code      : Int := 0
  ovr       : Bool := false
  endHt     : Word := 0
  die       : SMap (BitVec 16) := []
  dieHot    : Bool := false
  deriving DecidableEq, Repr

/-- Test access (R444 to R450). -/
structure TestAccess where
  ir     : Byte := 0x02
  bist   : Option (Req × BitVec 6) := none
  result : BitVec 6 := 0
  deriving DecidableEq, Repr

/-- What the device has sent at its balls: words shifted out, curds and link flits on lanes, frames on the uplink. -/
inductive Out where
  | bootSpi (instruction : Byte) (mhz : Nat)
  | spi (words : List Word)
  | spiStatus (b : Byte)
  | jtag (valid : Bool) (w : Word)
  | curd (lane : Nat) (c : Curd)
  | cap (lane : Nat) (c : Cap)
  | slot (lane : Nat) (number : Byte) (free : Bool) (source : BitVec 16) (fn : FN)
  | tsSync (lane : Nat) (seq : Byte)
  | tsReq (lane : Nat) (seq : Byte)
  | tsData (lane : Nat) (seq : Byte) (t1 : CT) (d41 : Word)
  | frame (lane : Nat) (period : BitVec 21) (fn : FN) (epoch : Word) (aligned pending : Bool)
  | frameSw (lane : Nat) (fn : FN) (period : BitVec 21)
  | trig (lane : Nat) (origin : BitVec 16) (sources : BitVec 10) (t : CT)
  | sleep (lane : Nat)
  | datagram (dst : EthPeer) (srcPort : BitVec 16) (words : List Word)
  | curdDatagram (seq : Word) (firstRind : BitVec 16) (flits : List Flit)
  | arpReply (dst : EthPeer)
  | gratuitousArp
  | delayReq (seq : BitVec 16)
  deriving DecidableEq, Repr

/-- Registers: values in force, RWF values that the tick has caught, RWF values that wait for the next tick (R5, R6, R25). -/
structure Csr where
  inForce : SMap Word := []
  due     : SMap Word := []
  pend    : SMap Word := []
  counters : SMap Counter := []
  /-- snapshot latches by address of the latched word (R418). -/
  latch   : SMap Word := []
  deriving DecidableEq, Repr

/-- The machine. -/
structure State where
  fuses   : Fuses := {}
  straps  : Straps := {}
  power   : Power := {}
  clocks  : Clocks := {}
  boot    : Boot := {}
  ports   : Ports := {}
  pair    : Pair := {}
  csr     : Csr := {}
  time    : Time := {}
  sched   : Sched := {}
  merge   : Merge := {}
  chans   : SMap Chan := []
  hits    : Hits := {}
  rennet  : Rennet := {}
  engines : Engines := {}
  fx      : Fx := {}
  vat     : Vat := {}
  press   : SMap PressUnit := []
  link    : Link := {}
  uplink  : Uplink := {}
  house   : House := {}
  test    : TestAccess := {}
  /-- memory contents: the window space and the vat space (R426), and the boot flash with the RAM image (R85, R93). -/
  window  : List Host.Cell := []
  vatMem  : List Host.Cell := []
  flash   : List Host.Cell := []
  ramImage : List Host.Cell := []
  /-- the private memory of the control processors A and B (R85). -/
  ctrlA   : List Host.Cell := []
  ctrlB   : List Host.Cell := []
  /-- the MODEL's own: what has left the balls, oldest first. -/
  out     : List Out := []
  /-- the MODEL's own: free values drawn so far. -/
  free    : Nat := 0
  /-- the MODEL's own: commands waiting, first in, first out. -/
  pending : List Instr := []
  deriving DecidableEq, Repr

/-- Why a step faults. No rule of this manual makes the block stop: what the manual calls an error is a status, a flag or an
event, so no meaning raises this. Safe. -/
inductive Fault where
  /-- Raised by no meaning; it stands so that the type has a value. Safe. -/
  | none_
  deriving DecidableEq, Repr

/-- Why a command is refused by the model. -/
inductive Refusal where
  /-- The row's meaning is not written; raised by an arm of exec only. Safe: nothing is claimed of the command. -/
  | notModelled (mnemonic : String)
  deriving DecidableEq, Repr

/-- The device right after a power-on reset at the first rise of the always-on supplies: nothing released, every register at
its Reset value, memory with nothing listed, the queue empty (R72 to R77). -/
def State.reset : State := {}

end Sys2Proof.Machine
end

