-- ==== Sys2Proof/Machine/Ops.lean ====
section
/-!
DEFINITION. The operations that every meaning shares: resources of the variant (R41 to R54), registers in force and pending
(R5, R25, R453), counters (R415 to R417), events and notices (R123 to R126), packets and replies (R100 to R106), carriage
curds (R376), the checks of R105, bytes of memory, and the one operation of taking a reset (R72 to R76).
-/
namespace Sys2Proof.Machine

/-- The three answers of R106 and their fellows. -/
inductive Status where
  | ok | unknownOpcode | badLength | crcFail | classRefused | busy | outOfRange | stateRefused | noGain | spaceExhausted
  | infeasible | clockStopped | poisoned | epochRefused | cdcTimeout | minimalMode
  deriving DecidableEq, Repr

/-- The status codes of R106. -/
def Status.code : Status → Nat
  | .ok => 0x00 | .unknownOpcode => 0x01 | .badLength => 0x02 | .crcFail => 0x03 | .classRefused => 0x04 | .busy => 0x05
  | .outOfRange => 0x06 | .stateRefused => 0x07 | .noGain => 0x08 | .spaceExhausted => 0x09 | .infeasible => 0x0A
  | .clockStopped => 0x0B | .poisoned => 0x0C | .epochRefused => 0x0D | .cdcTimeout => 0x0E | .minimalMode => 0x0F

/-- What a reply says: status, PARAM and payload. -/
structure Answer where
  status  : Status
  param   : Nat := 0
  payload : List Word := []
  deriving DecidableEq, Repr

/-- The outcome type of every meaning. -/
abbrev Res := Host.Outcome State Fault Refusal

-- resources --------------------------------------------------------------------------------------------------------------------

/-- The resources of a variant (R41, R53). -/
structure Resources where
  role     : Nat
  channels : Nat
  clusters : Nat
  lanes    : Nat
  vatStacks : Nat
  hk       : Nat
  gradeE   : Bool
  variant  : Word
  ids      : Word
  deriving DecidableEq, Repr

/-- The table of R41 with the codes of R53; role 1 front-end, 2 concentrator, 3 correlator, 4 beamformer, 5 development. -/
def Variant.resources : Variant → Resources
  | .f24s  => ⟨1, 24, 4, 8, 0, 8, false, 0x11801101, 0x08040800⟩
  | .f24e  => ⟨1, 24, 4, 8, 0, 8, true, 0x11802102, 0x08040800⟩
  | .f48s  => ⟨1, 48, 8, 16, 0, 8, false, 0x13001103, 0x10080800⟩
  | .f48e  => ⟨1, 48, 8, 16, 0, 8, true, 0x13002104, 0x10080800⟩
  | .c32s  => ⟨2, 0, 8, 48, 1, 8, false, 0x20011205, 0x30080801⟩
  | .c32e  => ⟨2, 0, 8, 48, 1, 8, true, 0x20012206, 0x30080801⟩
  | .c128s => ⟨2, 0, 16, 48, 4, 32, false, 0x20041207, 0x3010200F⟩
  | .x64s  => ⟨3, 48, 16, 48, 2, 32, false, 0x33021208, 0x30102003⟩
  | .x128s => ⟨3, 48, 16, 48, 4, 32, false, 0x33041209, 0x3010200F⟩
  | .x128e => ⟨3, 48, 16, 48, 4, 32, true, 0x3304220A, 0x3010200F⟩
  | .b64s  => ⟨4, 48, 12, 48, 2, 32, false, 0x4302120B, 0x300C2003⟩
  | .d128s => ⟨5, 48, 16, 48, 4, 32, false, 0x5304120C, 0x3010200F⟩

/-- No resource counts as present until a fuse load has passed (R53). -/
def noResources : Resources := ⟨0, 0, 0, 0, 0, 0, false, 0, 0⟩

/-- The resources that the device offers. -/
def State.res (s : State) : Resources := if s.boot.passed then s.fuses.variant.resources else noResources

/-- A front-end variant: no vat supplies, no stacks (R51, R56). -/
def State.isF (s : State) : Bool := s.fuses.variant.resources.role == 1

/-- Step n of R77 is released. -/
def State.rel (s : State) (n : Nat) : Bool := decide (n ≤ s.power.released)

-- registers --------------------------------------------------------------------------------------------------------------------

/-- Where a register is stored; TC_ASYM and LK_L0_ASYM are one register (R428). -/
def Reg.key : Reg → Nat
  | .tcAsym => Reg.addr (.lkLAsym 0)
  | r => r.addr

/-- The Reset value of a register, fuse values included (R4, R42, R58, R60, R93, R413). -/
def Reg.resetIn (s : State) : Reg → Word
  | .pmWarnEn => if s.isF then 0x67F else 0x7FF
  | .crOscTrim => if s.boot.passed then s.fuses.trim.setWidth 32 else 0
  | .idRole => if s.boot.passed then
      (match s.fuses.variant.resources.role with | 1 => 1 | 2 => 2 | _ => 3) else 0
  | .euMacLo => if s.boot.passed then s.fuses.upMac.setWidth 32 else 0
  | .euMacHi => if s.boot.passed then (s.fuses.upMac >>> 32).setWidth 32 else 0
  | .euIp => if s.boot.passed then s.fuses.upIp else 0
  | .euPorts => if s.boot.passed then s.fuses.upPorts else 0
  | .hkDieLimit => if s.boot.passed then (if s.fuses.variant.resources.gradeE then 0x730 else 0x640) else 0
  | r => r.info.reset

/-- The value of a stored register in force. -/
def State.reg (s : State) (r : Reg) : Word := (SMap.find s.csr.inForce r.key).getD (r.resetIn s)

/-- The value last written: what an RWF register reads (R5). -/
def State.regW (s : State) (r : Reg) : Word :=
  (SMap.find s.csr.pend r.key).getD ((SMap.find s.csr.due r.key).getD (s.reg r))

/-- A stored register set at once. -/
def State.setReg (s : State) (r : Reg) (v : Word) : State :=
  { s with csr := { s.csr with inForce := SMap.put s.csr.inForce r.key v } }

/-- A register value that waits for the next tick. -/
def State.pendReg (s : State) (r : Reg) (v : Word) : State :=
  { s with csr := { s.csr with pend := SMap.put s.csr.pend r.key v } }

/-- A stored register set at once, whatever older value still waited for a tick (R5: the last write counts). -/
def State.setNow (s : State) (r : Reg) (v : Word) : State :=
  { s with csr := { s.csr with inForce := SMap.put s.csr.inForce r.key v, due := SMap.erase s.csr.due r.key,
                               pend := SMap.erase s.csr.pend r.key } }

/-- Field [hi:lo] of a register in force. -/
def State.f (s : State) (r : Reg) (hi lo : Nat) : Nat := fld (s.reg r) hi lo

/-- Bit i of a register in force. -/
def State.b (s : State) (r : Reg) (i : Nat) : Bool := (s.reg r).getLsbD i

/-- The role in force: 1 front-end, 2 concentrator, 3 correlator (R46, R54). -/
def State.role (s : State) : Nat := if s.boot.passed then s.f .idRole 1 0 else 0

/-- TC_SRC_CFG.MODE: 0 FREE, 1 ROOT_REF, 2 ROOT_PTP, 3 FOLLOW (R143). -/
def State.mode (s : State) : Nat := s.f .tcSrcCfg 2 0

-- counters, events, notices --------------------------------------------------------------------------------------------------------

/-- The largest count of a statistics counter. -/
def cntMax : Nat := 2 ^ 48 - 1

/-- The block of R123 whose register range holds an address; 19 is ID and global status (R417, R426). -/
def blockOf (a : Nat) : Nat :=
  if a < 0x10000 then 19 else if a < 0x20000 then 0 else if a < 0x30000 then 1 else if a < 0x40000 then 2
  else if a < 0x50000 then 3 else if a < 0x80000 then 4 else if a < 0x100000 then 5 else if a < 0x120000 then 6
  else if a < 0x140000 then 7 else if a < 0x160000 then 8 else if a < 0x200000 then 9 else if a < 0x300000 then 10
  else if a < 0x400000 then 11 else if a < 0x420000 then 12 else if a < 0x440000 then 13 else if a < 0x500000 then 14
  else if a < 0x580000 then 15 else if a < 0x600000 then 16 else if a < 0x700000 then 17 else 18

/-- The counter at the address of its low word. -/
def State.cnt (s : State) (a : Nat) : Counter := SMap.get {} s.csr.counters a

/-- A counter advanced by n: it sticks at its largest value with the overflow bit (R416). -/
def Counter.add (c : Counter) (n : Nat) : Counter :=
  if c.value.toNat + n ≥ cntMax then { value := BitVec.ofNat 48 cntMax, ovf := c.ovf || decide (0 < n ∨ c.value.toNat = cntMax) }
  else { c with value := BitVec.ofNat 48 (c.value.toNat + n) }

/-- A counter advanced, and nothing else. -/
def State.bumpRaw (s : State) (a n : Nat) : State :=
  { s with csr := { s.csr with counters := SMap.set {} s.csr.counters a ((s.cnt a).add n) } }

/-- The port record of port p. -/
def State.port (s : State) (p : Nat) : Port := SMap.get {} s.ports.port p

/-- The port record of port p replaced. -/
def State.setPort (s : State) (p : Nat) (q : Port) : State :=
  { s with ports := { s.ports with port := SMap.set {} s.ports.port p q } }

/-- The number of one more occurrence, sticking (R125). -/
def stick32 (w : Word) : Word := if w = 0xFFFFFFFF then w else w + 1

/-- A packet's words: four header words, the payload, the trailer (R100, R101). -/
def packetWords (w0 w1 w2 w3 : Word) (payload : List Word) : List Word :=
  let ws := w0 :: w1 :: w2 :: w3 :: payload
  ws ++ [crcWords ws]

/-- The words of a notice (R100, R125). -/
def noticeWords (node : BitVec 16) (n : Notice) : List Word :=
  packetWords (BitVec.ofNat 32 (0x50F00000 + n.tag.toNat)) (BitVec.ofNat 32 (4 * 2 ^ 16 + (n.node.getD node).toNat))
    (BitVec.ofNat 32 (0x40000000 + n.block % 256 * 2 ^ 16 + n.code.toNat)) 0
    [hi32 n.ct.toNat, lo32 n.ct.toNat, n.count, n.detail]

/-- A command datagram leaves the uplink: the device header of R392, then the packet (R393); one frame sent (R399). -/
def State.sendDatagram (s : State) (dst : EthPeer) (ws : List Word) : State :=
  let hdr : List Word := [0x4B551200, at32 16 s.ports.nodeId.toNat, 0, 0]
  let s := s.bumpRaw 0x580108 1
  { s with out := s.out ++ [.datagram dst ((s.reg .euPorts) >>> 16 |>.setWidth 16) (hdr ++ ws)] }

/-- An event of time ct reaches one port: merged into a waiting notice, queued, or lost with its number used up (R125, R126). -/
def State.notifyPort (s : State) (p block code : Nat) (detail : Word) (ct : CT) : State :=
  let q := s.port p
  let same (n : Notice) : Bool := n.block == block && n.code == BitVec.ofNat 16 code && n.node.isNone
  if q.notices.any same then
    s.setPort p { q with notices := q.notices.map fun n => if same n then { n with count := stick32 n.count } else n }
  else
    let n : Notice := { block, code := BitVec.ofNat 16 code, tag := q.seq, ct, count := 1, detail }
    let t := s.setPort p { q with seq := q.seq + 1 }
    if p = 4 ∧ s.uplink.up = true ∧ q.notices = [] then t.sendDatagram s.ports.noticePeer (noticeWords s.ports.nodeId n)
    else if 32 ≤ q.notices.length then t.bumpRaw (0x50020 + p * 0x40) 1
    else t.setPort p { q with seq := q.seq + 1, notices := q.notices ++ [n] }

/-- Signed difference of two chain times (R141). -/
def ctDiff (a b : CT) : Int := (a - b).toInt

/-- An event occurrence for a list of ports, which need no subscription here; while the output gate is closed it waits (R130, R133). -/
def State.notifyPorts (s : State) (ps : List Nat) (block code : Nat) (detail : Word) : State :=
  let ct := s.time.ct
  if s.pair.gate then ps.foldl (fun s p => s.notifyPort p block code detail ct) s
  else { s with pair := { s.pair with heldEvents := s.pair.heldEvents ++ [(ps, block, code, detail, ct)] } }

/-- An event occurrence reaches every port that subscribes to its block (R126); none in rind mode. -/
def State.notify (s : State) (block code : Nat) (detail : Word) : State :=
  if s.boot.state = 2 then s
  else s.notifyPorts ([0, 1, 2, 3, 4].filter fun p => (s.port p).mask.getLsbD block) block code detail

/-- The event register of a block's event code, with the bit (R123). -/
def eventReg (block code : Nat) : Option (Reg × Nat) :=
  match block with
  | 1 => some (.crClkEvents, code)
  | 2 => some (.pmWarn, code)
  | 3 => some (.cpEvents, code)
  | 4 => some (.cmdEvents, code)
  | 5 => some (.tcEvents, code)
  | 6 => some (.caEvents, code)
  | 7 => some (.mdEvents, code)
  | 8 => some (.hbEvents, code)
  | 9 => some (.trEvents, code)
  | 10 => some (.eaEvents, code)
  | 11 => if code < 32 then some (.scEvents, code) else some (.scMergeEvents, code - 32)
  | 12 => some (.vtEvents, code)
  | 13 => some (.igEvents, code)
  | 14 => some (.prEvents, code)
  | 15 => some (.lkEvents, code)
  | 16 => some (.euEvents, code)
  | 17 => some (.hkEvents, code)
  | 18 => some (.tdEvents, code)
  | _ => none

/-- Bits of a register set. -/
def State.orReg (s : State) (r : Reg) (m : Word) : State := s.setReg r (s.reg r ||| m)

/-- An event: its bit is set in the block's event register, and notices go out (R123 to R126). -/
def State.raise (s : State) (block code : Nat) (detail : Word) : State :=
  let s := match eventReg block code with
    | some (r, i) => s.orReg r (bit32 i true)
    | none => s
  s.notify block code detail

/-- A statistics counter advanced by n; one that sticks sets GS_CNT_SAT of its block and, the first time, raises code 0xFFFF
with the counter's address (R416). -/
def State.bump (s : State) (a n : Nat) : State :=
  let t := s.bumpRaw a n
  let blk := blockOf a
  if (t.cnt a).ovf && !(s.cnt a).ovf && decide (blk < 19) && !(s.b .gsCntSat blk) then
    (t.orReg .gsCntSat (bit32 blk true)).notify blk 0xFFFF (BitVec.ofNat 32 a)
  else t

/-- A 16-bit count that sticks (R415). -/
def stick16 (w : BitVec 16) : BitVec 16 := if w = 0xFFFF then w else w + 1

/-- The next free value (what the manual leaves open). -/
def State.freeVal (s : State) : Nat := Config.freeNat s.free
/-- One free value drawn. -/
def State.draw (s : State) : State := { s with free := s.free + 1 }

-- packets and replies ------------------------------------------------------------------------------------------------------------

/-- The words of a reply (R100, R102). -/
def replyWords (node : BitVec 16) (op : BitVec 12) (tag : BitVec 16) (a : Answer) : List Word :=
  packetWords (BitVec.ofNat 32 (0x50000000 + op.toNat * 2 ^ 16 + tag.toNat))
    (BitVec.ofNat 32 (a.payload.length * 2 ^ 16 + node.toNat))
    (BitVec.ofNat 32 (0x80000000 + a.param % 2 ^ 24)) (BitVec.ofNat 32 (a.status.code * 2 ^ 24)) a.payload

/-- The stream key of a source and a type (R32). -/
def streamKey (source : BitVec 16) (type : Nat) : Nat := source.toNat * 256 + type

/-- A rind with the fields that every type sets (R208). -/
def mkRind (source seq : BitVec 16) (fn : Word) (type len : Nat) : Rind :=
  { source, seq, fn, type := BitVec.ofNat 8 type, length := BitVec.ofNat 8 len, rev := 1, reserved := 0, invPresent := false,
    rangeSwitch := false, shortPre := false, rawNoGain := false, poisoned := false, compressed := false, lost := 0,
    covered := 0, reservedLow := 0 }

/-- The sequence number that a stream's next curd takes. -/
def State.seqOf (s : State) (type : Nat) : BitVec 16 := SMap.get 0 s.sched.seq (streamKey s.ports.nodeId type)

/-- A sequence number used up (R32). -/
def State.nextSeq (s : State) (type : Nat) : State :=
  { s with sched := { s.sched with seq := SMap.set 0 s.sched.seq (streamKey s.ports.nodeId type) (s.seqOf type + 1) } }

/-- One lane's record. -/
def State.lane (s : State) (n : Nat) : Lane := SMap.get {} s.link.lane n
/-- One lane's record replaced. -/
def State.setLane (s : State) (n : Nat) (l : Lane) : State :=
  { s with link := { s.link with lane := SMap.set {} s.link.lane n l } }

/-- The payload flits of one part of a carriage packet (R376). -/
def carriageFlits (part parts count : Nat) (ws : List Word) : List Flit :=
  BitVec.ofNat 128 ((part * 256 + parts) * 2 ^ 112 + count * 2 ^ 96) :: flitsOfWords ws

/-- One carriage curd put in a lane's queue. -/
def State.pushCarriage (s : State) (lane type part parts count : Nat) (ws : List Word) : State :=
  let fl := carriageFlits part parts count ws
  let c : Curd := { rind := mkRind s.ports.nodeId (s.seqOf type) (s.time.fn.setWidth 32) type fl.length, payload := fl }
  let l := s.lane lane
  (s.nextSeq type).setLane lane { l with carriage := l.carriage ++ [c] }

/-- A packet sent in one or two carriage curds on a lane (R376). -/
def State.sendCarriage (s : State) (lane type : Nat) (ws : List Word) : State :=
  if ws.length ≤ 1016 then s.pushCarriage lane type 0 1 ws.length ws
  else (s.pushCarriage lane type 0 2 ws.length (ws.take 1016)).pushCarriage lane type 1 2 ws.length (ws.drop 1016)

/-- A reply held by port 0 or 1, which holds 16 of them. One that finds 16 waiting, of a command that was queued or a long one, waits in
its turn for room (DESIGN CHOICE: R112 gives it no place). -/
def Port.putReply (q : Port) (ws : List Word) : Port :=
  if 16 ≤ q.replies.length then { q with late := q.late ++ [ws] } else { q with replies := q.replies ++ [ws] }
/-- The oldest reply leaves, and one that waits for room takes its turn. -/
def Port.dropReply (q : Port) : Port := { q with replies := q.replies.drop 1 ++ q.late.take 1, late := q.late.drop 1 }

/-- A reply past the output gate (R103): ports 0 and 1 hold it, chain ports send it in carriage curds, port 4 sends it to the
address its request came from (R393). -/
def State.deliverNow (s : State) (port lane : Nat) (tag : BitVec 16) (ws : List Word) : State :=
  match port with
  | 2 => s.sendCarriage 0 0x21 ws
  | 3 => s.sendCarriage lane 0x21 ws
  | 4 => if s.uplink.up then s.sendDatagram (SMap.get {} s.ports.peers tag.toNat) ws else s
  | p => s.setPort p ((s.port p).putReply ws)

/-- A reply handed to its port; while the output gate is closed it waits (R103, R130, R133). -/
def State.deliver (s : State) (port lane : Nat) (tag : BitVec 16) (ws : List Word) : State :=
  if s.pair.gate then s.deliverNow port lane tag ws
  else { s with pair := { s.pair with heldReplies := s.pair.heldReplies ++ [(port, lane, tag, ws)] } }

/-- The replies and events that waited for the gate leave in their order. -/
def State.deliverAll (s : State) : List (Nat × Nat × BitVec 16 × List Word) → State
  | [] => s
  | (p, n, tag, ws) :: l => State.deliverAll (s.deliverNow p n tag ws) l
def State.notifyHeld (s : State) : List (List Nat × Nat × Nat × Word × CT) → State
  | [] => s
  | (ps, b, c, d, ct) :: l => State.notifyHeld (ps.foldl (fun s p => s.notifyPort p b c d ct) s) l

/-- The output gate opens (R132, R133). -/
def State.openGate (s : State) : State :=
  let rs := s.pair.heldReplies
  let es := s.pair.heldEvents
  let s := { s with pair := { s.pair with gate := true, heldReplies := [], heldEvents := [] } }
  (s.deliverAll rs).notifyHeld es

end Sys2Proof.Machine

namespace Sys2Proof

/-- NODE names every device. -/
def Req.broadcast (r : Req) : Bool := r.node == 0xFFFF
/-- FLAGS bit 29, NO_ACK (R102). -/
def Req.noAck (r : Req) : Bool := r.flags.getLsbD 5
/-- Payload word i, zero beyond the end. -/
def Req.w (r : Req) (i : Nat) : Word := r.payload.getD i 0
/-- LENGTH. -/
def Req.len (r : Req) : Nat := r.payload.length
/-- PARAM[hi:lo]. -/
def Req.p (r : Req) (hi lo : Nat) : Nat := r.param.toNat / 2 ^ lo % 2 ^ (hi + 1 - lo)

end Sys2Proof

namespace Sys2Proof.Machine

/-- The outcome of a command becomes a reply, or none for a broadcast and for NO_ACK with OK; CLASS_REFUSED is counted and a
broadcast that fails raises CMD_BCAST_FAIL (R103, R105, R115, R127, R429). -/
def State.reply (s : State) (op : BitVec 12) (r : Req) (a : Answer) : State :=
  let s := if a.status = .classRefused then
      let t := s.bump (0x50010 + r.port * 0x40) 1
      { t with ports := { t.ports with refused := stick16 t.ports.refused } } else s
  if r.broadcast then
    if a.status = .ok then s else s.raise 4 0 (BitVec.ofNat 32 (op.toNat * 2 ^ 16 + a.status.code))
  else if r.noAck && decide (a.status = Status.ok) then s
  else s.deliver r.port r.lane r.tag (replyWords s.ports.nodeId op r.tag a)

-- the checks of R105 ---------------------------------------------------------------------------------------------------------------

/-- A row of R116: class (0 Observer, 1 Operator, 2 Keeper), broadcast mark, LENGTH range. -/
structure OpInfo where
  cls : Nat
  b   : Bool
  lo  : Nat
  hi  : Nat
  deriving DecidableEq, Repr

/-- The opcode table of R116. -/
def opInfo (op : Nat) : Option OpInfo :=
  match op with
  | 0x000 => some ⟨0, false, 0, 1026⟩ | 0x001 => some ⟨0, false, 0, 0⟩ | 0x002 => some ⟨1, true, 0, 0⟩
  | 0x003 => some ⟨0, false, 0, 0⟩ | 0x004 => some ⟨1, false, 0, 1⟩ | 0x005 => some ⟨1, false, 1, 64⟩
  | 0x006 => some ⟨0, false, 0, 0⟩ | 0x100 => some ⟨0, false, 1, 1⟩ | 0x101 => some ⟨1, true, 2, 2⟩
  | 0x102 => some ⟨0, false, 1, 1⟩ | 0x103 => some ⟨1, true, 2, 257⟩ | 0x104 => some ⟨1, true, 3, 3⟩
  | 0x200 => some ⟨0, false, 3, 3⟩ | 0x201 => some ⟨1, false, 6, 1026⟩ | 0x210 => some ⟨1, false, 8, 8⟩
  | 0x211 => some ⟨0, false, 0, 0⟩ | 0x212 => some ⟨1, false, 2, 2⟩ | 0x280 => some ⟨2, false, 0, 0⟩
  | 0x281 => some ⟨2, false, 1, 1025⟩ | 0x282 => some ⟨2, false, 0, 0⟩ | 0x283 => some ⟨2, false, 0, 0⟩
  | 0x284 => some ⟨2, false, 0, 0⟩ | 0x285 => some ⟨0, false, 0, 0⟩ | 0x286 => some ⟨1, false, 0, 0⟩
  | 0x300 => some ⟨1, false, 0, 1024⟩ | 0x301 => some ⟨1, false, 0, 0⟩ | 0x302 => some ⟨0, false, 0, 0⟩
  | 0x310 => some ⟨1, false, 2, 1026⟩ | 0x311 => some ⟨0, false, 0, 0⟩ | 0x400 => some ⟨1, false, 1, 8⟩
  | 0x401 => some ⟨1, true, 0, 0⟩ | 0x402 => some ⟨1, true, 0, 0⟩ | 0x403 => some ⟨0, false, 2, 2⟩
  | 0x410 => some ⟨1, false, 1, 4⟩ | 0x500 => some ⟨1, false, 1, 1⟩ | 0x501 => some ⟨0, false, 0, 0⟩
  | 0x502 => some ⟨1, false, 2, 131⟩ | 0x503 => some ⟨0, false, 0, 0⟩ | 0x504 => some ⟨0, false, 0, 0⟩
  | 0x600 => some ⟨1, false, 8, 8⟩ | 0x601 => some ⟨1, false, 0, 0⟩ | 0x700 => some ⟨1, false, 3, 3⟩
  | 0x701 => some ⟨0, false, 0, 0⟩ | 0x702 => some ⟨1, false, 2, 2⟩ | 0x703 => some ⟨1, false, 6, 6⟩
  | 0x800 => some ⟨1, false, 3, 65⟩ | 0x801 => some ⟨1, false, 0, 0⟩ | 0x802 => some ⟨0, false, 0, 0⟩
  | 0xF00 => some ⟨2, false, 1, 1⟩ | 0xF01 => some ⟨2, false, 1, 1⟩
  | _ => none

/-- A Keeper-only CSR address (R109). -/
def keeperOnly (a : Nat) : Bool :=
  a == 0xC || a == 0x2000C || decide (0x40000 ≤ a ∧ a ≤ 0x4FFFF) || decide (0x50000 ≤ a ∧ a ≤ 0x5FFFF) ||
  decide (0x700000 ≤ a ∧ a ≤ 0x70FFFF)

/-- An address within the blocks that rind mode serves: ID and global status, CR, power monitors (R94). -/
def rindAddr (a : Nat) : Bool := decide (a ≤ 0x3FFFF)

/-- The opcode is a CSR access. -/
def isCsrOp (op : Nat) : Bool := decide (0x100 ≤ op ∧ op ≤ 0x104)

/-- The port that BOOT_SEL selects for downloads (R82, R93). -/
def downloadPort (sel : Nat) : Option Nat := match sel with | 1 => some 0 | 2 => some 2 | 3 => some 4 | _ => none

/-- The port of a download attempt is ready: at once, once lane 0 has exchanged capability flits, once the uplink is up (R93). -/
def State.downloadReady (s : State) : Bool :=
  match s.boot.sampled.bootSel.toNat with
  | 1 => true
  | 2 => decide (4 ≤ (s.lane 0).step)
  | 3 => s.uplink.up
  | _ => false

/-- A port that the interpreter serves: all of them under firmware; in the ROM and in rind mode ports 0 and 1, and in a download attempt
its port once that is ready (R94, R451). -/
def State.portServes (s : State) (p : Nat) : Bool :=
  s.boot.state == 1 || decide (p < 2) ||
    (s.boot.state == 0 && s.boot.downloading && decide (some p = downloadPort s.boot.sampled.bootSel.toNat) && s.downloadReady)

/-- Check 4: what rind mode serves (R94), and what the ROM serves before an image starts (R451). -/
def State.served (s : State) (op : Nat) (r : Req) : Bool :=
  let base := decide (op ≤ 3) || (isCsrOp op && rindAddr (r.w 0).toNat) || op == 0x285
  match s.boot.state.toNat with
  | 0 =>
    let flash := (decide (0x280 ≤ op ∧ op ≤ 0x282) && decide (r.p 1 0 < 2)) || op == 0x283
    let down := s.boot.downloading && decide (some r.port = downloadPort s.boot.sampled.bootSel.toNat) &&
      (((op == 0x281 || op == 0x282) && r.p 1 0 == 2) || op == 0x286)
    base || flash || down
  | 2 => base || op == 0x280 || op == 0x281 || op == 0x282 || op == 0x283
  | _ => true

/-- Check 7: the class of the port admits the opcode and, for CSR writes, the address (R109). -/
def State.classAdmits (s : State) (op : Nat) (info : OpInfo) (r : Req) : Bool :=
  let c := (s.port r.port).cls.toNat
  let need :=
    if (op == 0x281 || op == 0x282) && r.p 1 0 == 2 then
      (if op == 0x282 || (s.boot.state == 0 && s.boot.downloading) then 1 else 2)
    else if (op == 0x101 || op == 0x103 || op == 0x104) && keeperOnly (r.w 0).toNat then 2
    else info.cls
  decide (need ≤ c)

/-- Check 8: the opcodes and forms that only the front-end and the correlator role offer (R46). -/
def State.roleStops (s : State) (op : Nat) (r : Req) : Bool :=
  let form := op == 0x410 || op == 0x403 || (op == 0x400 && ((r.w 0).getLsbD 3 || fld (r.w 0) 1 0 == 2))
  form && decide (s.role ≠ 1 ∧ s.role ≠ 3)

/-- Checks 4 to 8 in their order; `tie` is the count that an opcode's rule ties LENGTH to (R105). -/
def State.gate (s : State) (op : Nat) (r : Req) (tie : Bool) : Option Status :=
  if !s.served op r then some .minimalMode
  else match opInfo op with
    | none => some .unknownOpcode
    | some info =>
      if decide (r.len < info.lo ∨ info.hi < r.len) || !tie then some .badLength
      else if !s.classAdmits op info r then some .classRefused
      else if s.roleStops op r then some .stateRefused
      else none

/-- The interpreter runs: the control pair is released, the ROM has started and the output gate is open. -/
def State.serving (s : State) : Bool := s.rel 4 && s.boot.romOn && s.pair.gate

/-- A broadcast runs only an opcode marked B (R115). -/
def bcastOk (op : Nat) (r : Req) : Bool :=
  !r.broadcast || (match opInfo op with | some i => i.b | none => false)

/-- The command that the interpreter takes next: the interrupted one, else the oldest in the queue (R113, R132). -/
def State.nextCmd (s : State) : Option (BitVec 12 × Req) := s.pair.interrupted.orElse fun _ => s.ports.queue.head?

/-- A packet that has passed checks 1 to 3 enters the queue of 64, or gets BUSY when 64 wait; a broadcast of an opcode without mark B is
discarded (R105, R113, R115). -/
def State.enqueue (s : State) (op : BitVec 12) (r : Req) : State :=
  if !bcastOk op.toNat r then s
  else if 64 ≤ s.ports.queue.length then s.reply op r { status := .busy }
  else { s with ports := { s.ports with queue := s.ports.queue ++ [(op, r)] } }

/-- A command leaves the queue and starts: the push counter is recorded, or restarted for a re-execution (R113, R135, R136). -/
def State.startCmd (s : State) (op : BitVec 12) (r : Req) : State :=
  let again := decide (s.pair.interrupted = some (op, r))
  let p := s.pair
  { s with ports := { s.ports with queue := if again then s.ports.queue else s.ports.queue.drop 1 },
           pair := { p with lastCmd := some (op, r), interrupted := none, compared := decide (p.standby = 0), lastReply := none,
                            replaying := again, startTag := if again then p.startTag else p.pushTag,
                            pushTag := if again then p.startTag else p.pushTag } }

/-- Opcodes that issue no write and no push: those of class Observer but NOTICE_SUBSCRIBE (DEDUCED from R116 and R126). -/
def readsOnly (op : Nat) : Bool := op != 0x006 && (match opInfo op with | some i => i.cls == 0 | none => true)

/-- A command ends: a re-executed one that issued writes raises CP_REPLAYED (R135). -/
def State.endCmd (s : State) (wrote : Bool) : State :=
  if s.pair.replaying then
    let s := { s with pair := { s.pair with replaying := false } }
    if wrote then s.raise 3 5 0 else s
  else s

/-- The reply of a command that has just been executed: the pair keeps what it sent (R130). -/
def State.replyLast (s : State) (op : BitVec 12) (r : Req) (a : Answer) : State :=
  let t := s.reply op r a
  if r.broadcast || (r.noAck && decide (a.status = Status.ok)) then t
  else { t with pair := { t.pair with lastReply := some (replyWords t.ports.nodeId op r.tag a) } }

/-- One opcode executed: the command leaves the queue, checks 4 to 8 are made, then its body runs, and what it answers is
replied; a body that answers nothing is a long command whose reply comes later (R105, R113, R114). -/
def State.execute (s : State) (op : BitVec 12) (r : Req) (tie : Bool) (body : State → State × Option Answer) : State :=
  let s := s.startCmd op r
  match s.gate op.toNat r tie with
  | some st => (s.replyLast op r { status := st }).endCmd false
  | none =>
    let (t, a) := body s
    match a with
    | some a => (t.replyLast op r a).endCmd (!readsOnly op.toNat && (decide (a.status = .ok) || decide (a.param ≠ 0)))
    | none => t.endCmd true

/-- An interpreter runs and serves the request's port, and the opcode is one that a broadcast may name (R94, R115, R451). -/
def State.hears (s : State) (op : BitVec 12) (r : Req) : Bool :=
  s.rel 4 && s.boot.romOn && s.portServes r.port && bcastOk op.toNat r

/-- The command's turn: the output gate is open, and it is the next one, or none waits (R113, R132). -/
def State.turn (s : State) (op : BitVec 12) (r : Req) : Bool :=
  s.pair.gate && decide (s.nextCmd = none ∨ s.nextCmd = some (op, r))

/-- An opcode's row: in its turn the command is executed. Behind others, or while the output gate is closed, it waits in the queue (R113,
R132). Nothing takes it where no interpreter runs or serves its port (R94, R451). -/
def State.runOp (s : State) (op : BitVec 12) (r : Req) (tie : Bool) (body : State → State × Option Answer) : State :=
  if !s.hears op r then s
  else if s.turn op r then s.execute op r tie body
  else if s.nextCmd = some (op, r) || s.ports.queue.contains (op, r) then s
  else s.enqueue op r

/-- An answer that only refuses. -/
def no (s : State) (st : Status) : State × Option Answer := (s, some { status := st })
/-- The answer OK. -/
def yes (s : State) : State × Option Answer := (s, some { status := .ok })
/-- OK with a payload. -/
def tell (s : State) (ws : List Word) : State × Option Answer := (s, some { status := .ok, payload := ws })

/-- The next action write to a block is a replay that the block has accepted before: its tag is not newer than the block's last one
(R135). -/
def State.replayed (s : State) (block : Nat) : Bool :=
  s.pair.replaying && decide (sdiff 16 (s.pair.pushTag + 1).toNat (SMap.get 0 s.pair.lastTag block).toNat ≤ 0)

/-- An action write reaches a block: accepted, unless it is a replay of one accepted before, which is discarded and counted (R135). -/
def State.action (s : State) (block : Nat) (f : State → State) : State :=
  let tag := s.pair.pushTag + 1
  let old := s.replayed block
  let s := { s with pair := { s.pair with pushTag := tag } }
  if old then s.bump 0x40020 1
  else f { s with pair := { s.pair with lastTag := SMap.set 0 s.pair.lastTag block tag } }

-- bytes of memory ------------------------------------------------------------------------------------------------------------------

/-- What a byte that nothing has written reads as: zero, the fill of R327 and R332. -/
def memDefault : Byte := 0

/-- The canonical form of a memory: addresses strictly rising, nothing listed that equals what an unlisted byte reads as. -/
abbrev Memory.wf (m : List Host.Cell) : Bool := SMap.wf memDefault m

/-- One byte read. -/
def rdByte (m : List Host.Cell) (a : Nat) : Byte := SMap.get memDefault m a
/-- One byte written. -/
def wrByte (m : List Host.Cell) (a : Nat) (b : Byte) : List Host.Cell := SMap.set memDefault m a b

/-- n bytes from an address up. -/
def rdBytes (m : List Host.Cell) (a : Nat) : Nat → List Byte
  | 0 => []
  | n + 1 => rdByte m a :: rdBytes m (a + 1) n

/-- Bytes written from an address up. -/
def wrBytes (m : List Host.Cell) (a : Nat) : List Byte → List Host.Cell
  | [] => m
  | b :: bs => wrBytes (wrByte m a b) (a + 1) bs

/-- Every byte of a range back to the fill: a range zeroed. -/
def zeroRange (m : List Host.Cell) (lo hi : Nat) : List Host.Cell := m.filter fun c => decide (c.1 < lo) || decide (hi ≤ c.1)

/-- The erased state of NOR flash (PRESUMED of every JESD216 device; the manual says erased and no value). -/
def flashDefault : Byte := 0xFF
/-- n flash bytes. -/
def flBytes (m : List Host.Cell) (a : Nat) : Nat → List Byte
  | 0 => []
  | n + 1 => SMap.get flashDefault m a :: flBytes m (a + 1) n
/-- The cells of bytes stored from an address up in a memory that lists nothing. -/
def cellsOf (a : Nat) : List Byte → List Host.Cell
  | [] => []
  | b :: bs => if b = memDefault then cellsOf (a + 1) bs else (a, b) :: cellsOf (a + 1) bs

/-- Flash bytes programmed. -/
def flWrite (m : List Host.Cell) (a : Nat) : List Byte → List Host.Cell
  | [] => m
  | b :: bs => flWrite (SMap.set flashDefault m a b) (a + 1) bs

-- reset ------------------------------------------------------------------------------------------------------------------------------

/-- The bit of CR_RESET_CAUSE of a latch code of R72 (R79). -/
def causeBit : Nat → Word
  | 1 => 0x01 | 2 => 0x02 | 3 => 0x04 | 4 => 0x08 | 5 => 0x10 | 6 => 0x20 | _ => 0

/-- The order in which LAST takes the sources of one oscillator cycle (R79). -/
def causeRank : Nat → Nat
  | 1 => 0 | 5 => 1 | 6 => 2 | 3 => 3 | 2 => 4 | 4 => 5 | _ => 6

/-- The latch after a reset: its bit accumulates; LAST and SUPPLY are those of the reset, but of two sources in one oscillator cycle those
of the first in R79's order. -/
def causeAfter (old : Word) (same : Bool) (code supply : Nat) : Word :=
  let top := if same && decide (causeRank (fld old 31 24) ≤ causeRank code) then old &&& 0xFFF00000 else at32 20 supply ||| at32 24 code
  (old &&& 0x3F) ||| causeBit code ||| top

/-- Codes of the sources that can fire in the same oscillator cycle as a reset: those whose condition stands, and those that need none. -/
def State.firing (s : State) : List Nat :=
  [1, 2, 5] ++ (if s.pair.wdogOn && !s.pair.wdogPaused then [3] else []) ++ (if s.ports.resetDue.isSome then [4] else []) ++
    (if decide (s.boot.fuseTries = 3) && !s.boot.passed then [6] else [])

/-- A source can fire in the oscillator cycle of the last reset. -/
def State.fires (s : State) (code : Nat) : Bool := s.power.cycle.contains code

/-- A reset from any source: every domain and every register is reset but the cause latch; what lies outside them stays: the
fuses, the balls' levels, the flash, the trim code on its way back (R60, R73, R74). A second source counts as one of the same oscillator
cycle while no row that needs a cycle has come since the first (DESIGN CHOICE; R79). -/
def State.reset_ (s : State) (code supply : Nat) (hold low noFuse : Bool) : State :=
  { fuses := s.fuses, straps := s.straps, flash := s.flash, out := s.out, free := s.free, pending := s.pending,
    clocks := { trim := s.clocks.trim, extMhz := s.clocks.extMhz },
    link := { refclk := s.link.refclk }, time := { ppsIn := s.time.ppsIn },
    power := { good := s.power.good, off := s.power.off, hold := hold || (s.power.cycle != [] && s.power.hold), rstLow := low,
               noFuse := noFuse || (s.power.cycle != [] && s.power.noFuse),
               cycle := if s.power.cycle = [] then s.firing else s.power.cycle,
               cause := causeAfter s.power.cause (s.power.cycle != []) code supply } }

/-- The entries of a committed schedule; what the shadow holds after the swap is the schedule that was replaced (R23, R452). -/
def State.committed (s : State) : List Entry := if s.sched.commit && s.sched.swapDue then s.sched.shadow else []

end Sys2Proof.Machine
end

