-- ==== Sys2Proof/Machine/Live.lean ====
section
/-!
DEFINITION. What the registers that hold no value of their own read as: the views of the block state (R18, R52 to R54, R58, R71,
R79, R82, R83, R95, R116's IDENTIFY, R122, R123, R126, R137, R161, R180, R214, R264, R345 to R347, R386 and their tables).
-/
namespace Sys2Proof.Machine

/-- Bits of a register that its enables allow. -/
def evMasked (s : State) (ev en : Reg) : Bool := decide (s.reg ev &&& s.reg en ≠ 0)

/-- Block n has an event bit set that its own enables, where it has any, allow; GS_CNT_SAT counts under its enable (R123, R416). -/
def evPending (s : State) (n : Nat) : Bool :=
  (match n with
   | 1 => decide (s.reg .crClkEvents ≠ 0)
   | 2 => evMasked s .pmWarn .pmWarnEn
   | 3 => evMasked s .cpEvents .cpEventEn
   | 4 => evMasked s .cmdEvents .cmdEventEn
   | 5 => evMasked s .tcEvents .tcEventEn
   | 6 => evMasked s .caEvents .caEventEn
   | 7 => evMasked s .mdEvents .mdEventEn
   | 8 => evMasked s .hbEvents .hbEventEn
   | 9 => evMasked s .trEvents .trEventEn
   | 10 => evMasked s .eaEvents .eaEventEn
   | 11 => evMasked s .scEvents .scEventEn || evMasked s .scMergeEvents .scMergeEventEn
   | 12 => evMasked s .vtEvents .vtEventEn
   | 13 => evMasked s .igEvents .igEventEn
   | 14 => evMasked s .prEvents .prEventEn
   | 15 => evMasked s .lkEvents .lkEventEn
   | 16 => evMasked s .euEvents .euEventEn
   | 17 => evMasked s .hkEvents .hkEventEn
   | 18 => evMasked s .tdEvents .tdEventEn
   | _ => false) ||
  (s.b .gsCntSat n && s.b .gsCntSatEn n)

/-- A word made of one flag per index. -/
def flags (n : Nat) (f : Nat → Bool) : Nat := ((List.range n).map fun i => if f i then 2 ^ i else 0).sum

/-- GS_EVENT_SUMMARY (R123). -/
def eventSummary (s : State) : Word := BitVec.ofNat 32 (flags 19 (evPending s))

/-- IRQ_N is driven low (R124). -/
def irqLow (s : State) : Bool := s.ports.drivers && decide (eventSummary s &&& s.reg .gsIrqEn ≠ 0)
/-- ALERT_N is driven low (R124). -/
def alertLow (s : State) : Bool := s.ports.drivers && decide (eventSummary s &&& s.reg .gsAlertEn ≠ 0)

/-- PM_SUPPLY_GOOD; the F variants have no vat supplies (R58). -/
def supplyGoodWord (s : State) : Word := (s.power.good.setWidth 32) &&& (if s.isF then 0x67F else 0x7FF)

/-- CR_CLK_STATUS (R71). -/
def clkStatus (s : State) : Word :=
  let c := s.clocks
  bit32 8 (c.lockVat && !s.isF) ||| bit32 7 c.lockCtrl ||| bit32 6 c.lockSys ||| bit32 5 c.oscOk ||| bit32 4 c.oscReady |||
  bit32 3 c.primaryOk ||| bit32 2 c.fallback ||| (if s.rel 2 then s.boot.sampled.clkMode.setWidth 32 else 0)

/-- The supplies of each step of R77 as bits of PM_SUPPLY_GOOD (R55). -/
def stepSupplies : Nat → Nat
  | 1 => 0x204 | 2 => 0x014 | 3 => 0x204 | 4 => 0x006 | 5 => 0x003 | 6 => 0x181 | 7 => 0x019 | 8 => 0x061 | 9 => 0x019
  | 10 => 0x404 | 11 => 0x003 | _ => 0

/-- Every supply of a step's domain is good; the F variants' vat step needs none of the vat supplies (R51, R55, R56). -/
def suppliesGood (s : State) (n : Nat) : Bool :=
  let need := if s.isF && n == 6 then 0x001 else stepSupplies n
  decide (s.power.good.toNat &&& need = need)

/-- CR_RELEASE_STATUS (R79). -/
def releaseStatus (s : State) : Word :=
  let n := s.power.released
  let wait := if n < 11 then n + 1 else 0
  bit32 20 (decide (n < 11) && !suppliesGood s wait) ||| at32 12 wait ||| BitVec.ofNat 32 (2 ^ n - 1)

/-- CR_STRAPS (R82). -/
def strapsWord (s : State) : Word :=
  let b := s.boot.sampled
  at32 9 b.uplinkClass.toNat ||| bit32 8 b.portTrust ||| at32 6 b.xtalWait.toNat ||| at32 4 b.clkMode.toNat |||
  BitVec.ofNat 32 b.bootSel.toNat

/-- CR_BOOT_STATUS (R95). -/
def bootStatus (s : State) : Word :=
  let b := s.boot
  at32 30 b.state.toNat ||| at32 20 b.attempt ||| at32 18 b.source.toNat ||| at32 16 b.slot.toNat ||| at32 8 b.lastFail.toNat |||
  BitVec.ofNat 32 b.reason.toNat

/-- CR_FUSE_STATUS (R83). -/
def fuseStatus (s : State) : Word :=
  at32 3 s.boot.failRow.toNat ||| at32 1 s.boot.fuseTries ||| bit32 0 s.boot.passed

/-- CP_STATUS. -/
def cpStatus (s : State) : Word :=
  at32 30 (if s.pair.inB then 2 else 1) ||| at32 28 s.pair.standby.toNat ||| bit32 27 s.pair.repaired |||
  BitVec.ofNat 32 s.pair.failovers.toNat

/-- The device takes P, O and FN from its upstream neighbour: MODE is FOLLOW, 0x3 (R10, R143). -/
def State.follower (s : State) : Bool := s.rel 7 && s.mode == 3

/-- The device places frame ticks (R453). -/
def State.placesTicks (s : State) : Bool := if s.mode == 3 then s.time.taken else s.time.ticking

/-- What the last tick gives all at once has been given: RWF values, schedule swap, period switch, stop, arm and disarm. Until then no
work of the new frame starts, so that nothing runs under a mixture of old and new values (R25). -/
def State.settled (s : State) : Bool :=
  s.csr.due.isEmpty && !(s.sched.swapNow && s.sched.swapDue) && !s.time.switchNow && !s.time.stopNow && !s.rennet.armNow &&
    !s.rennet.disarmNow

/-- TC_FRAME_CTRL (R18). -/
def frameCtrl (s : State) : Word :=
  let t := s.time
  bit32 6 (t.ticking && !s.follower) ||| bit32 5 t.switchDone ||| bit32 4 t.aligned ||| bit32 3 s.follower |||
  bit32 2 t.switch.isSome ||| bit32 1 t.switch.isSome ||| bit32 0 t.run

/-- HK_DIE_HOTTEST: the sensor with the highest value, the lowest number among equals (R413). -/
def hottest (s : State) : Nat :=
  (List.range 8).foldl (fun b i =>
    if sx 16 (SMap.get 0 s.house.die i).toNat > sx 16 (SMap.get 0 s.house.die b).toNat then i else b) 0
def dieHottest (s : State) : Word := at32 16 (hottest s) ||| (SMap.get 0 s.house.die (hottest s)).setWidth 32

/-- IG_LOG_STATUS (R344, R347). -/
def logStatus (s : State) : Word := bit32 7 s.vat.logFull ||| BitVec.ofNat 32 s.vat.log.length

/-- Lanes trained, from lane `lo` on, n of them. -/
def trainedWord (s : State) (lo n : Nat) : Word := BitVec.ofNat 32 (flags n fun i => (s.lane (lo + i)).trained)

/-- The sixteen words of HEALTH_REPORT; words of domains not released, and in rind mode of all but the CR, clock, supply and
pair words, read zero (R122). -/
def healthWords (s : State) : List Word :=
  let on (n : Nat) (w : Word) : Word := if s.rel n && s.boot.state != 2 then w else 0
  [s.power.cause, bootStatus s, s.boot.fwVersion,
   at32 30 (if s.pair.inB then 2 else 1) ||| at32 28 s.pair.standby.toNat ||| BitVec.ofNat 32 s.pair.failovers.toNat,
   at32 16 s.pair.unresolved.toNat ||| BitVec.ofNat 32 s.pair.sliceFails.toNat,
   clkStatus s,
   at32 16 (s.f .pmWarn 10 0) ||| supplyGoodWord s,
   on 7 (frameCtrl s &&& 0x1F), on 7 (s.time.fn.setWidth 32), on 10 (dieHottest s),
   on 5 (at32 16 (min (s.cnt 0x420048).value.toNat 0xFFFF) ||| (logStatus s &&& 0xFF)),
   on 8 (trainedWord s 0 32), on 8 (trainedWord s 32 16), eventSummary s,
   at32 16 s.ports.refused.toNat ||| BitVec.ofNat 32 s.ports.unexecuted.toNat, 0]

end Sys2Proof.Machine
end

