-- ==== Sys2Proof/Machine/Time.lean ====
section
/-!
DEFINITION. Chain time and the time core (R140 to R161): advance and steps of CT, the time commands, references, PPS, the
follower's servo, holdover, pulse outputs and frequency measurement.
-/
namespace Sys2Proof.Machine

/-- One microsecond and one second in fine units of 1 ns / 512 (R140). -/
def usFine : Nat := 512000
def secFine : Nat := 512000000000

/-- The time record replaced. -/
def State.setTime (s : State) (f : Time → Time) : State := { s with time := f s.time }

/-- The extended nanosecond count E (R7). -/
def Time.e (t : Time) : Nat := t.epoch.toNat * 2 ^ 55 + t.ct.toNat / 512

/-- E of the next tick: the first instant of R7 from the present one on that is not the last tick's. -/
def State.nextTick (s : State) : Nat :=
  let t := s.time
  let now : Int := t.e + (if t.ct.toNat % 512 = 0 then 0 else 1 : Nat)
  let p : Int := max t.period.toNat 1
  let o : Int := t.org.toNat
  let k := (now - o + p - 1) / p
  let e := o + k * p
  (if e = t.tickE.toNat ∧ t.first = false then e + p else e).toNat

/-- FN at a tick that falls at e: floor(E / P) at the first one after ticks start, one more at every other (R9). -/
def Time.fnAt (t : Time) (e : Nat) : FN := if t.first then BitVec.ofNat 48 (e / max t.period.toNat 1) else t.fn + 1

/-- PLL_TIME is locked to REFA or REFB. -/
def Time.onRef (t : Time) : Bool := t.pllRef == 1 || t.pllRef == 2

/-- The rate of CT less that of the clock of local time, in 2⁻⁴⁰: the steered ratio, while one clock drives both; of a reference it is
known only that it lies within ±0.1 % of its frequency (R142 to R144). -/
def State.ctRate (s : State) : Int := if s.time.onRef then (s.freeVal % 2199023257 : Nat) - 1099511628 else s.time.steer.toInt

/-- Local time in fine units. -/
def Time.ltUnits (t : Time) : Nat := t.lt.toNat * 512 + t.ltFine.toNat

/-- CT advances by d fine units, and LT by what passes meanwhile at the nominal rate, kept to 2⁻⁴⁰ of a fine unit; a wrap of CT steps the
epoch and raises TC_EPOCH_WRAP (R140, R142). -/
def State.advance (s : State) (d : Nat) : State :=
  let t := s.time
  let n := t.ct.toNat + d
  let l := t.ltUnits * 2 ^ 40 + t.ltFrac.toNat + d * 2 ^ 80 / ((2 ^ 40 : Int) + s.ctRate).toNat
  let s' := { s with time := { t with ct := BitVec.ofNat 64 n, epoch := t.epoch + BitVec.ofNat 32 (n / 2 ^ 64),
                                      ltFrac := BitVec.ofNat 40 l, ltFine := BitVec.ofNat 9 (l / 2 ^ 40), lt := BitVec.ofNat 64 (l / 2 ^ 49) } }
  let s' := if t.onRef then s'.draw else s'
  if 2 ^ 64 ≤ n then s'.raise 5 11 0 else s'

/-- CT advances to an instant that is not earlier than the present; it never moves backwards (R141, R151). -/
def State.advanceTo (s : State) (c : CT) : State :=
  if s.rel 7 && decide (0 < ctDiff c s.time.ct) then s.advance (c - s.time.ct).toNat else s

/-- Time advances until local time has reached an instant given in fine units; it never moves backwards. -/
def State.advanceLt (s : State) (at_ : Nat) : State :=
  let d := (at_ + 2 ^ 73 - s.time.ltUnits) % 2 ^ 73
  if s.rel 7 && decide (d < 2 ^ 72) then s.advance (cdiv (d * ((2 ^ 40 : Int) + s.ctRate).toNat) (2 ^ 40)) else s

/-- ALIGNED is cleared; TC_ALIGN_LOST is raised only when it was 1, and a frequency measurement whose gate is open notes it (R150,
R158). -/
def State.clearAligned (s : State) : State :=
  let s := s.setTime fun t => { t with freq := t.freq.map (fun q => { q with unaligned := q.unaligned || q.opened }), fresh := false }
  if s.time.aligned then (s.setTime fun t => { t with aligned := false, stepped := false }).raise 5 0 0 else s

/-- The first START + n × PERIOD, n ≥ 0, that is not earlier than a chain time (R156). -/
def firstPulse (start now : CT) (period : Nat) : CT :=
  start + BitVec.ofNat 64 (cdiv (ctDiff now start).toNat (period * 32) * (period * 32))

/-- A step from `old` to `new` skips a chain time. -/
def skips (old new at_ : CT) : Bool := decide (ctDiff old at_ ≤ 0) && decide (0 < ctDiff new at_)

/-- A pulse output after a step of CT from `old` to `new`: a single pulse skipped, of the setting in force or of the one that waits, does
not fire and is missed, a periodic one goes on at its first instant not earlier than CT, a pulse in progress keeps its elapsed width
(R156). -/
def Pulse.afterStep (q : Pulse) (old new : CT) : Pulse × Bool :=
  let late := match q.queued with | some (m, start, _, _) => m == 1 && skips old new start | none => false
  let q := if q.high then { q with fall := q.fall + (new - old) } else q
  if !q.armed then (q, late)
  else if q.mode = 2 then ({ q with next := firstPulse q.start new q.period.toNat }, late)
  else if 0 < ctDiff new q.next then ({ q with armed := false }, true)
  else (q, late)

/-- A step reaches the pulse outputs of a list. -/
def State.stepPulses (s : State) (old new : CT) : List Nat → State
  | [] => s
  | k :: ks =>
    let (q, missed) := (SMap.get {} s.time.pulses k).afterStep old new
    let s := s.setTime fun t => { t with pulses := SMap.set {} t.pulses k q }
    State.stepPulses (if missed then s.raise 5 9 0 else s) old new ks

/-- An armed compare over a step of CT: a single one whose target is skipped is missed, a periodic one goes on at its first target
that is not earlier than the new CT (R218). -/
def State.stepCompare (s : State) (new : CT) : State :=
  let r := s.rennet
  let behind := ctDiff new r.cmpAt
  if !r.cmpArmed || decide (behind ≤ 0) then s
  else
    let p := (s.reg .trCmpPeriod).toNat * 512
    if p = 0 then ({ s with rennet := { r with cmpArmed := false } } : State).raise 9 5 0
    else { s with rennet := { r with cmpAt := r.cmpAt + BitVec.ofNat 64 (cdiv behind.toNat p * p) } }

/-- A channel after a step of CT by d: its intervals keep their length in elapsed time, and its digitisers sample on the grid of the new CT
(R164, R166, R173, R176). -/
def Chan.shift (c : Chan) (d : CT) : Chan :=
  { c with invFrom := if c.inv.isSome then c.invFrom + d else c.invFrom, lastEven := none, lastOdd := none,
           drained := c.drained.map (· + d), lastTiming := c.lastTiming.map (· + d), lastTrailing := c.lastTrailing.map (· + d),
           settleUntil := c.settleUntil.map (· + d), lastRise := c.lastRise.map (· + d), lastStamp := c.lastStamp.map (· + d) }

/-- Every channel after a step of CT. -/
def State.shiftChans (s : State) (d : CT) : State :=
  { s with chans := (List.range 48).foldl (fun (m : SMap Chan) n => SMap.set {} m n ((SMap.get {} m n).shift d)) s.chans,
           hits := { s.hits with ranTo := s.hits.ranTo + d },
           engines := { s.engines with trigRan := s.engines.trigRan + d, trigAt := s.engines.trigAt.map fun c => (c.1, c.2 + d) },
           rennet := { s.rennet with lastIn := s.rennet.lastIn.map (· + d), lastFire := s.rennet.lastFire.map fun (x : Nat × CT) => (x.1, x.2 + d) } }

/-- CT is stepped: TC_CT_STEP; the channels, the pulse outputs and a running frequency measurement see it (R151, R156, R158). -/
def State.stepCt (s : State) (c : CT) (epoch : Word) : State :=
  let old := s.time.ct
  let s := s.shiftChans (c - old)
  let s := s.setTime fun t => { t with ct := c, epoch, stepped := true,
                                       freq := t.freq.map fun q => { q with stepped := q.stepped || q.opened } }
  ((s.raise 5 8 0).stepPulses old c [0, 1, 2, 3]).stepCompare c

/-- STATE becomes LOCKED, which raises TC_LOCKED on entry (R150). -/
def State.lock (s : State) : State :=
  if s.time.state = 2 then s else (s.setTime fun t => { t with state := 2, holding := false }).raise 5 1 0

/-- The steering ratio within ±100 ppm in units of 2⁻⁴⁰: the manual bounds it and gives no value (R143, R149). -/
def steerFree (n : Nat) : Word := w32 ((n % 219902325 : Nat) - 109951162)

/-- HOLDOVER is entered: TC_HOLDOVER, the ratio frozen at a value the manual does not give, the phase slew dropped; an average begun at
the old ratio is dropped too (R149, R152). -/
def State.enterHoldover (s : State) : State :=
  let s := (s.setTime fun t => { t with state := 3, holding := true, steer := steerFree s.freeVal, firstAvg := true, slew := 0,
                                        thetas := [], within := 0 }).draw
  s.raise 5 2 0

/-- A pending FEATURE_EPOCH commit is discarded, when FN no longer counts towards it (R382). -/
def State.dropCommit (s : State) : State := { s with link := { s.link with commitFn := none, epochNow := false } }

/-- E at which the last FRAME flit was sent: its age by local time, and the flight that the round trip of lane 0 gives, in ns (R383). -/
def State.frameSent (s : State) : Nat :=
  s.time.e - ((s.time.lt - s.time.upLt).toNat + (s.lane 0).rtt.toNat / 1024)

/-- P, O and FN are taken afresh from the upstream FRAME flits (R10, R13, R16, R150). The flit names the frame in which it was sent, so
the ticks since then are added. It carries no O: it is zero when that FN is floor(E / P) there, and otherwise a value below P that the
manual does not say how to find. -/
def State.takeFrame (s : State) : State :=
  let t := s.time
  if !t.upSeen then s
  else
    let p := max t.upPeriod.toNat 1
    let sent := s.frameSent
    let near := decide (sdiff 48 t.upFn.toNat (sent / p) = 0)
    let o := if near then 0 else s.freeVal % p
    let s := if near then s else s.draw
    let k (e : Nat) : Int := ((e : Int) - o) / p
    let s := s.setTime fun t => { t with period := t.upPeriod, fn := t.upFn + BitVec.ofInt 48 (k t.e - k sent), org := BitVec.ofNat 87 o,
                                         taken := true, fresh := true, tickE := BitVec.ofNat 87 (o + k t.e * p).toNat }
    s.dropCommit

/-- A command of the time core while its domain is not released gets CLOCK_STOPPED (R78). -/
def needStep (s : State) (n : Nat) (k : State × Option Answer) : State × Option Answer :=
  if s.rel n then k else no s .clockStopped

-- TIME_SET, TIME_READ ----------------------------------------------------------------------------------------------------------------

/-- TIME_SET: range first, then the state; at once in FREE, at the next PPS edge in ROOT_REF (R145). -/
def execTimeSet (r : Req) (s : State) : Res :=
  .next (s.runOp 0x700 r true fun s =>
    let c : CT := (r.w 0) ++ (r.w 1)
    if c.toNat % 512 ≠ 0 then no s .outOfRange
    else needStep s 7 <|
      if 2 ≤ s.mode ∨ s.time.ticking = true then no s .stateRefused
      else if s.mode = 0 then yes (s.stepCt c (r.w 2))
      else yes (s.setTime fun t => { t with setCt := some (c, r.w 2) }))

/-- TC_STATUS (R161). -/
def tcStatus (s : State) : Word :=
  let t := s.time
  bit32 11 t.pps ||| bit32 10 t.refB ||| bit32 9 t.refA ||| bit32 8 t.upAligned ||| at32 6 t.pllRef.toNat |||
  bit32 3 t.pllLock ||| BitVec.ofNat 32 t.state.toNat

/-- TIME_READ: CT, epoch, FN and TC_STATUS of one cycle (R161). -/
def execTimeRead (r : Req) (s : State) : Res :=
  .next (s.runOp 0x701 r true fun s => needStep s 7 <|
    let t := s.time
    tell s [hi32 t.ct.toNat, lo32 t.ct.toNat, t.epoch, lo32 t.fn.toNat, hi32 t.fn.toNat, tcStatus s])

-- frequency measurement --------------------------------------------------------------------------------------------------------------

/-- Nominal frequency of a source in kHz: the primary clock from CLK_MODE, REFA and REFB from their registers (R157). -/
def nominalKhz (s : State) : Nat → Nat
  | 0 => s.f .tcRefaFreq 17 0
  | 1 => s.f .tcRefbFreq 17 0
  | 4 => match s.boot.sampled.clkMode.toNat with | 0 => 25000 | 1 => 50000 | 2 => s.clocks.extMhz * 1000 | _ => 0
  | _ => 0

/-- FREQ_MEASURE: the ranges, then one measurement at a time; the gate opens at the next tick (R157, R158). -/
def execFreqMeasure (r : Req) (s : State) : Res :=
  .next (s.runOp 0x702 r true fun s =>
    let src := fld (r.w 0) 2 0
    let div := fld (r.w 0) 31 16 + 1
    let ms := (r.w 1).toNat
    if 4 < src ∨ ms < 1 ∨ 64000 < ms ∨ 20000 * div < nominalKhz s src then no s .outOfRange
    else needStep s 7 <|
      if s.time.freq.isSome then no s .busy
      else (s.setTime fun t => { t with freq := some { req := r, source := BitVec.ofNat 3 src, div, gateMs := ms } }, none))

/-- Integer square root by bits, from bit n down. -/
def isqrtAux : Nat → Nat → Nat → Nat
  | 0, acc, _ => acc
  | n + 1, acc, v => isqrtAux n (if (acc + 2 ^ n) * (acc + 2 ^ n) ≤ v then acc + 2 ^ n else acc) v
def isqrt (v : Nat) : Nat := isqrtAux 96 0 v

/-- The sums of the least-squares fit: n, Σx, Σy, Σxx, Σxy, Σyy over x = k × DIV and y since the first stamp. -/
structure Fit where
  n   : Nat := 0
  sx  : Nat := 0
  sy  : Int := 0
  sxx : Nat := 0
  sxy : Int := 0
  syy : Int := 0
  deriving DecidableEq, Repr

/-- One stamp, of edge count x, added to the fit. -/
def Fit.add (f : Fit) (x : Nat) (y : Int) : Fit :=
  { n := f.n + 1, sx := f.sx + x, sy := f.sy + y, sxx := f.sxx + x * x, sxy := f.sxy + x * y, syy := f.syy + y * y }

/-- The stamps of a gate with their edge counts, less those that come under 50 ns after the stamp before them (R157). -/
def usedStamps (div : Nat) : Nat → Option CT → List CT → List (Nat × CT)
  | _, _, [] => []
  | k, before, c :: cs =>
    let lost := match before with | some b => decide (ctDiff c b < 50 * 512) | none => false
    (if lost then [] else [(k * div, c)]) ++ usedStamps div (k + 1) (some c) cs

/-- The fit of the stamps of a measurement (R157). -/
def fitOf (used : List (Nat × CT)) (first : CT) : Fit := used.foldl (fun f c => f.add c.1 (ctDiff c.2 first)) {}

/-- A quotient whose rounding the manual does not state: the floor, or one more, by a free bit, where it is not exact. -/
def roundFree (a b free : Nat) : Nat := a / b + (if b = 0 ∨ a % b = 0 then 0 else free % 2)

/-- The stamps of every DIV-th edge that fall within a gate, no more than 65,536 of them; after a step of CT the result is void (R157). -/
def FreqRun.within (q : FreqRun) (stamps : List CT) : List CT :=
  (if q.stepped then stamps
   else stamps.filter fun c => decide (0 ≤ ctDiff c q.start) && decide (ctDiff c q.start ≤ q.gateMs * 512000000)).take 65536

/-- The end of a measurement: that of its gate, or the 65,536th stamp (R157). -/
def FreqRun.ending (q : FreqRun) (taken : List CT) : CT :=
  if taken.length = 65536 then taken.getLast?.getD q.start else q.start + BitVec.ofNat 64 (q.gateMs * 512000000)

/-- The measurement ends: the fitted frequency, its residual and the flags are replied. The stamps are those of every DIV-th edge; which of
them are lost they tell themselves, so the row's own count of them is not needed (R157, R158). -/
def execFreqMeasureDone (stamps : List CT) (_lost : Nat) (s : State) : Res :=
  .next (match s.time.freq with
    | none => s
    | some q =>
      if !q.opened then s
      else
        let taken := q.within stamps
        let s := if q.stepped then s else s.advanceTo (q.ending taken)
        let used := usedStamps q.div 0 none taken
        let st := used.map (·.2)
        let lost := taken.length - used.length
        let f := fitOf used (st.headD 0)
        let a : Int := f.n * f.sxx - f.sx * f.sx
        let b : Int := f.n * f.sxy - f.sx * f.sy
        let c : Int := f.n * f.syy - f.sy * f.sy
        let few := decide (f.n < 3)
        let freq := if few then 0 else roundFree (a.toNat * secFine * 2 ^ 32) b.toNat s.freeVal
        let res2 := (65536 * (c * a - b * b)).toNat / (f.n * f.n * a.toNat)
        let res := if few then s.freeVal else isqrt res2 + s.freeVal / 2 % 2
        let first := if st = [] then s.freeVal else (st.headD 0).toNat
        let words := [lo32 freq, hi32 freq, BitVec.ofNat 32 res, BitVec.ofNat 32 f.n, BitVec.ofNat 32 lost,
          lo32 first, hi32 first, bit32 0 few ||| bit32 1 q.stepped ||| bit32 2 q.unaligned]
        let s := (s.setTime fun t => { t with freq := none }).draw
        s.reply 0x702 q.req { status := .ok, payload := words })

-- pulse outputs ------------------------------------------------------------------------------------------------------------------------

/-- The settings of PULSE_SET break R155 at an instant from which START must lie 1 µs. -/
def pulseBad (mode : Nat) (start : CT) (period width : Nat) (from_ : CT) : Bool :=
  decide (start.toNat % 32 ≠ 0) || decide (ctDiff start from_ < usFine) || decide (width < 16) ||
  (mode == 2 && (decide (period < 64) || decide (period < width + 16)))

/-- A pulse output with a setting in force. -/
def Pulse.load (mode : BitVec 2) (start : CT) (period : BitVec 48) (width : Word) : Pulse :=
  { mode, armed := decide (mode ≠ 0), start, next := start, period, width }

/-- PULSE_SET (R155, R156). -/
def execPulseSet (r : Req) (s : State) : Res :=
  .next (s.runOp 0x703 r true fun s =>
    let k := fld (r.w 0) 1 0
    let mode := fld (r.w 0) 9 8
    let start : CT := (r.w 1) ++ (r.w 2)
    let period := fld (r.w 3) 15 0 * 2 ^ 32 + (r.w 4).toNat
    let width := (r.w 5).toNat
    let q := SMap.get {} s.time.pulses k
    if mode = 3 ∨ (r.w 0) &&& 0xFFFFFCFC ≠ 0 then no s .outOfRange
    else if mode ≠ 0 && pulseBad mode start period width (if q.high then q.fall else s.time.ct) then no s .outOfRange
    else needStep s 7 <|
      let m := BitVec.ofNat 2 mode
      let q := if q.high then { q with queued := some (m, start, BitVec.ofNat 48 period, r.w 5), armed := q.armed && mode != 0 }
        else if mode = 0 then { q with mode := 0, armed := false }
        else Pulse.load m start (BitVec.ofNat 48 period) (r.w 5)
      yes (s.setTime fun t => { t with pulses := SMap.set {} t.pulses k q }))

/-- One pulse output replaced. -/
def State.setPulse (s : State) (k : Nat) (q : Pulse) : State := s.setTime fun t => { t with pulses := SMap.set {} t.pulses k q }

/-- An armed output rises at its instant; WIDTH in units of 62.5 ps gives its fall (R155). -/
def execPulseRise (k : Nat) (s : State) : Res :=
  let q := SMap.get {} s.time.pulses k
  .next (if !s.rel 7 || !q.armed || q.high then s
    else (s.advanceTo q.next).setPulse k
      { q with high := true, fall := q.next + BitVec.ofNat 64 (q.width.toNat * 32), armed := decide (q.mode = 2),
               next := if q.mode = 2 then q.next + BitVec.ofNat 64 (q.period.toNat * 32) else q.next })

/-- An output falls, and a setting that waited takes over (R155, R156). -/
def execPulseFall (k : Nat) (s : State) : Res :=
  let q := SMap.get {} s.time.pulses k
  .next (if !q.high then s
    else (s.advanceTo q.fall).setPulse k
      (match q.queued with
       | none => { q with high := false }
       | some (m, start, period, width) =>
         if m = 0 then { q with high := false, queued := none, mode := 0, armed := false }
         else
           let n := Pulse.load m start period width
           if m = 2 then { n with next := firstPulse start q.fall period.toNat }
           else { n with armed := decide (ctDiff q.fall start ≤ 0) }))

-- stamp FIFOs, PPS and references ------------------------------------------------------------------------------------------------------

/-- OVF of a privileged stamp: 4,096 ns or more after the tick, or no ticks run (R159). -/
def stampOvf (s : State) (t : CT) : Bool :=
  !s.placesTicks || decide (4096 ≤ (t.toNat / 512 + 2 ^ 55 - s.time.tickE.toNat % 2 ^ 55) % 2 ^ 55)

/-- A stamp offered to FIFO n: PPS_IN is 0, TRIG_IN is 1 (R160). -/
def State.stamp (s : State) (n : Nat) (c : CT) : State :=
  if !s.b .tcStampEn n then s
  else
    let fifo := if n = 0 then s.time.stamps0 else s.time.stamps1
    if 16 ≤ fifo.length then (s.bump (0x800C0 + n * 8) 1).raise 5 10 0
    else
      let fifo := fifo ++ [(c, stampOvf s c)]
      s.setTime fun t => if n = 0 then { t with stamps0 := fifo } else { t with stamps1 := fifo }

/-- TC_PPS_DELAY in fine units. -/
def ppsDelay (s : State) : Int := (s.reg .tcPpsDelay).toInt

/-- A chain time shifted by a signed number of fine units. -/
def ctAdd (c : CT) (d : Int) : CT := c + BitVec.ofInt 64 d

/-- Presence of PPS_IN by the spacing of its edges: three in a row 1 s ± 100 µs apart; a gap of 1.1 s is a loss (R144). -/
def State.ppsPresence (s : State) : State :=
  let now := s.time.ltUnits
  let gap := match s.time.ppsLast with | some l => (now + 2 ^ 73 - l) % 2 ^ 73 | none => secFine
  let lost := s.time.pps && decide (11 * secFine < 10 * gap)
  let s := if lost then (s.setTime fun t => { t with pps := false }).raise 5 6 0 else s
  let spaced := decide (secFine ≤ gap + 100 * usFine) && decide (gap ≤ secFine + 100 * usFine)
  s.setTime fun t =>
    let n := if spaced then min 3 (t.ppsRun + 1) else 1
    { t with ppsLast := some now, ppsRun := n, pps := t.pps || decide (n = 3) }

/-- The whole seconds, to the nearest, by which an edge at t differs from the expected one: edges that did not come are left out (R146).
DEDUCED: log 77. -/
def ppsSlip (t expected : CT) : Int := (ctDiff t expected + secFine / 2) / secFine

/-- A PPS edge of ROOT_REF after TIME_SET has applied, `off` from its expected time: the phase is slewed, the edge is ignored as a jump, or
it steps CT out of ACQUIRE while no ticks run (R146). -/
def State.ppsOffset (s : State) (off : Int) : State :=
  if s.time.state = 1 && !s.time.ticking then
    ((s.stepCt (ctAdd s.time.ct (-off)) s.time.epoch).setTime fun x => { x with jumps := 0, slew := 0 }).lock
  else if off.natAbs ≤ usFine then s.setTime fun x => { x with jumps := 0, slew := if x.state = 3 then 0 else off }
  else
    let s := (s.raise 5 7 0).setTime fun x => { x with jumps := x.jumps + 1 }
    if s.time.jumps ≠ 3 then s
    else
      let s := s.setTime fun x => { x with state := 1, slew := 0 }
      if s.time.ticking then s.clearAligned.setTime fun x => { x with waitHost := true } else s

/-- An edge of PPS_IN whose stamp is t turns its level over; the edge that TC_SRC_CFG.PPS_EDGE sets counts. It applies a pending TIME_SET, steers phase,
is ignored as a jump, or steps CT out of ACQUIRE while no ticks run (R144 to R146, R160). A TIME_SET whose edge finds ALIGNED 1 is dropped,
since CT may not step (R151). DESIGN CHOICE: log 78. -/
def execPpsEdge (t : CT) (s : State) : Res :=
  let falling := s.time.ppsIn
  let s := s.setTime fun x => { x with ppsIn := !falling }
  .next (if !s.rel 7 || falling != s.b .tcSrcCfg 7 then s
    else
      let s := ((s.advanceTo t).stamp 0 t).ppsPresence
      if s.mode ≠ 1 || !s.b .tcSrcCfg 6 || !s.time.pps then s
      else match s.time.setCt with
        | some (c, e) =>
          if s.time.aligned then s.setTime fun x => { x with setCt := none }
          else
            let s := s.setTime fun x => { x with setCt := none, timeSet := true, jumps := 0, slew := 0,
                                                 ppsNext := some (c + BitVec.ofNat 64 secFine) }
            (s.stepCt (ctAdd c (ppsDelay s)) e).lock
        | none =>
          match s.time.ppsNext with
          | none => s
          | some nx =>
            let nx := ctAdd nx (ppsSlip t (ctAdd nx (ppsDelay s)) * secFine)
            (s.setTime fun x => { x with ppsNext := some (nx + BitVec.ofNat 64 secFine) }).ppsOffset
              (ctDiff t (ctAdd nx (ppsDelay s))))

/-- A reference (0 REFA, 1 REFB) becomes present after its windows, or PPS_IN (2) after its three edges (R144). -/
def execRefPresent (which : Nat) (s : State) : Res :=
  .next (if !s.rel 7 then s
    else s.setTime fun t => match which with
      | 0 => { t with refA := true } | 1 => { t with refB := true } | 2 => { t with pps := t.pps || decide (3 ≤ t.ppsRun) } | _ => t)

/-- The reference of PLL_TIME by TC_STATUS.PLL_REF: 1 REFA, 2 REFB. -/
def refPresent (t : Time) (n : Nat) : Bool := if n = 1 then t.refA else t.refB

/-- A reference becomes absent: PLL_TIME moves from the preferred one to the other one, or to the primary clock in HOLDOVER (R144, R147,
R152). -/
def execRefLost (which : Nat) (s : State) : Res :=
  .next (if !s.rel 7 || decide (1 < which) || !refPresent s.time (which + 1) then s
    else
      let s := s.setTime fun t => if which = 0 then { t with refA := false } else { t with refB := false }
      let s := s.raise 5 (4 + which) 0
      let me := which + 1
      let other := 2 - which
      if s.mode ≠ 1 || s.time.pllRef.toNat ≠ me then s
      else if s.b .tcSrcCfg 5 && refPresent s.time other && (s.b .tcSrcCfg 4 == decide (which = 1)) then
        (s.setTime fun t => { t with pllRef := BitVec.ofNat 2 other }).raise 5 3 0
      else (s.setTime fun t => { t with pllRef := if s.clocks.fallback then 3 else 0 }).enterHoldover)

/-- PPS_IN has no edge for 1.1 s: phase slewing stops and nothing else changes (R144, R147). -/
def execPpsLost (s : State) : Res :=
  .next (if s.rel 7 && s.time.pps then (s.setTime fun t => { t with pps := false, ppsRun := 0, slew := 0 }).raise 5 6 0 else s)

/-- CT reaches its wrap: the epoch increments and TC_EPOCH_WRAP is raised (R140). -/
def execEpochWrap (s : State) : Res :=
  .next (if s.rel 7 then s.advance (2 ^ 64 - s.time.ct.toNat) else s)

-- the follower -----------------------------------------------------------------------------------------------------------------------------

/-- The update that is due once 2^UPDATE_LOG2 exchanges have completed since the last one: the average of the newest of them, the steering
and the follower's state (R149, R150, R152). The sum is of 2 theta, so the average is sum / (2 n). -/
def State.servo (s : State) : State :=
  let n := 2 ^ s.f .tcSrcCfg 11 8
  if !s.follower || decide (s.time.thetas.length < n) then s
  else
    let t := s.time
    let sum := (t.thetas.drop (t.thetas.length - n)).foldl (· + ·) 0
    let d : Int := 2 * (n : Nat)
    let fl := sum / d
    let avg := if sum % d = 0 then fl else fl + (s.freeVal % 2 : Nat)
    let above (num den : Int) : Bool := decide (num * d < sum.natAbs * den)
    let below100ps := decide ((sum.natAbs : Int) * 5 < 256 * d)
    let first := t.firstAvg
    let s := (s.setTime fun t => { t with offset := w32 (sat 32 avg), steer := steerFree (s.freeVal / 2), thetas := [],
                                          firstAvg := false }).draw
    match t.state.toNat with
    | 1 =>
      if first && above 512000 1 then
        let s := s.stepCt (ctAdd s.time.ct (-avg)) s.time.upEpoch
        s.takeFrame.setTime fun t => { t with within := 0 }
      else if below100ps then
        let w := t.within + 1
        if 16 ≤ w then (s.setTime fun t => { t with within := 0 }).lock else s.setTime fun t => { t with within := w }
      else s.setTime fun t => { t with within := 0 }
    | 2 =>
      if above 512 1 then (s.setTime fun t => { t with state := 1, firstAvg := true, within := 0 }).clearAligned else s
    | 3 =>
      if first && above 512 1 then
        (s.setTime fun t => { t with state := 1, holding := false, firstAvg := true, within := 0 }).clearAligned
      else s.lock
    | _ => s

/-- SERVO_UPDATE (R149, R150). -/
def execServoUpdate (s : State) : Res := .next s.servo

/-- No exchange completes for 16 frames: a LOCKED follower enters HOLDOVER; the exchanges of an average that is not complete stay (R149,
R150). -/
def execExchangeTimeout (s : State) : Res := .next (if s.follower && s.time.state == 2 then s.enterHoldover else s)

/-- TC_HOLD_LIMIT elapses in a follower's holdover: ALIGNED is cleared; a root keeps it (R152). -/
def execHoldLimitExpiry (s : State) : Res :=
  .next (if s.time.state == 3 && s.time.holding && decide (2 ≤ s.mode) then
      (s.setTime fun t => { t with holding := false }).clearAligned
    else s)

-- MODE -----------------------------------------------------------------------------------------------------------------------------------------

/-- Any path entry is enabled, in force or written (R54, R143). -/
def anyPathEnabled (s : State) : Bool :=
  (List.range 64).any fun p => s.b (.scPathCfg p) 31 || (s.regW (.scPathCfg p)).getLsbD 31

/-- The reference that a mode gives PLL_TIME; the internal oscillator in fallback (R143, R153). -/
def modeRef (s : State) (v : Word) : BitVec 2 :=
  if fld v 2 0 = 1 then (if v.getLsbD 4 then 2 else 1) else if s.clocks.fallback then 3 else 0

/-- Lane 0 has exchanged capability flits: a follower leaves FREE and its exchanges start (R150). -/
def State.acquire (s : State) : State :=
  if s.follower ∧ s.time.state = 0 ∧ s.clocks.fallback = false then
    s.setTime fun t => { t with state := 1, firstAvg := true, thetas := [], within := 0 } else s

/-- A mode starts from its beginning, at the nominal ratio, which the fixed modes keep (R143, R150). DESIGN CHOICE: the steered modes start
at it too. -/
def State.startMode (s : State) (v : Word) : State :=
  let m := fld v 2 0
  s.setTime fun t => { t with
    pllRef := modeRef s v, setCt := none, ppsNext := none, timeSet := false, jumps := 0, slew := 0, steer := 0, thetas := [], within := 0,
    firstAvg := true, holding := false, upSeen := false, upAligned := false, ptpGood := 0,
    state := if m = 2 then 1 else if m = 3 ∧ 4 ≤ (s.lane 0).step ∧ s.clocks.fallback = false then 1 else 0 }

/-- A write of TC_SRC_CFG: ranges, then the state for a change of MODE; a change ends the old mode and starts the new one, a
write with MODE unchanged takes back a returning reference (R143, R147, R161). -/
def wrSrcCfg (s : State) (v : Word) : Except Status State :=
  let v := v &&& 0xFF7
  let m := fld v 2 0
  if 3 < m ∨ fld v 11 8 < 4 ∨ 10 < fld v 11 8 then .error .outOfRange
  else if m ≠ s.mode then
    if s.time.ticking || anyPathEnabled s then .error .stateRefused
    else
      let wasTicking := s.time.taken
      let s := s.clearAligned
      let s := s.setTime fun t => { t with taken := false, switch := none, switchNow := false, infeasible := false, infForce := false, infShadow := false,
                                           waitHost := false, waitReturn := false, state := 0 }
      let s := if wasTicking then s.dropCommit else s
      .ok ((s.setReg .tcSrcCfg v).startMode v)
  else
    let s := s.setReg .tcSrcCfg v
    let want := if v.getLsbD 4 then 2 else 1
    if m = 1 ∧ s.time.pllRef.toNat ≠ want ∧ refPresent s.time want = true then
      let s := s.setTime fun t => { t with pllRef := BitVec.ofNat 2 want, steer := 0 }
      .ok (if s.time.state = 3 then s.lock else s)
    else .ok s

/-- A port that may write to what rind mode and the ROM serve too, and to a released block under firmware (R94, R451). -/
def canWriteRom (s : State) (port : Nat) : Bool := s.serving && s.portServes port && decide (1 ≤ (s.port port).cls.toNat)
def canWrite (s : State) (port n : Nat) : Bool := canWriteRom s port && s.rel n && decide (s.boot.state = 1)

/-- The effect of an accepted write, nothing where it is refused. -/
def writeOr (s : State) (e : Except Status State) : State := match e with | .ok t => t | .error _ => s

/-- MODE_WRITE: a write of TC_SRC_CFG that changes MODE (R143). -/
def execModeWrite (port : Nat) (value : Word) (s : State) : Res :=
  .next (if canWrite s port 7 && decide (fld value 2 0 ≠ s.mode) then writeOr s (wrSrcCfg s value) else s)

/-- REFERENCE_TAKE_BACK: a write of TC_SRC_CFG with MODE unchanged (R147). -/
def execReferenceTakeBack (port : Nat) (value : Word) (s : State) : Res :=
  .next (if canWrite s port 7 && decide (fld value 2 0 = s.mode) then writeOr s (wrSrcCfg s value) else s)

end Sys2Proof.Machine
end

