-- ==== Sys2Proof/Machine/Power.lean ====
section
/-!
DEFINITION. Supplies, clock sources, resets and the release order (R55 to R81), with the fuse load that step 3 holds (R76, R83).
-/
namespace Sys2Proof.Machine

/-- The clock record replaced. -/
def State.setClk (s : State) (f : Clocks → Clocks) : State := { s with clocks := f s.clocks }
/-- The power record replaced. -/
def State.setPow (s : State) (f : Power → Power) : State := { s with power := f s.power }
/-- The power record replaced after at least one more oscillator cycle (R79). -/
def State.setPowLater (s : State) (f : Power → Power) : State := s.setPow fun p => { f p with cycle := [] }

/-- Supply n serves a released domain (R55, R57). -/
def supplyInUse (s : State) (n : Nat) : Bool :=
  (List.range 12).any fun k => decide (1 ≤ k) && s.rel k && (BitVec.ofNat 11 (stepSupplies k)).getLsbD n

/-- The F variants have no comparator for the vat supplies (R56, R58). -/
def noComparator (s : State) (n : Nat) : Bool := (s.isF && (n == 7 || n == 8)) || decide (10 < n)

/-- A supply has stayed above its good threshold (R56). -/
def execSupplyGood (n : Nat) (s : State) : Res :=
  .next (if s.power.off || noComparator s n then s
    else s.setPowLater fun p => { p with good := p.good ||| BitVec.ofNat 11 (2 ^ n) })

/-- A supply becomes bad: after the release of a domain it serves, the power-on reset follows; before, the release order only
waits (R56, R57). -/
def execSupplyBad (n : Nat) (s : State) : Res :=
  .next (if s.power.off || noComparator s n || !s.power.good.getLsbD n then s
    else
      let used := supplyInUse s n || s.fires 1
      let s := s.setPow fun p => { p with good := p.good &&& ~~~(BitVec.ofNat 11 (2 ^ n)) }
      if used then s.reset_ 1 n true s.power.rstLow false else s)

/-- A good supply below its warning threshold: its PM_WARN bit, and the event where PM_WARN_EN allows it (R56, R58). -/
def execSupplyWarn (n : Nat) (s : State) : Res :=
  .next (if s.power.off || noComparator s n || !s.power.good.getLsbD n then s
    else if s.b .pmWarnEn n then s.raise 2 n 0
    else s.orReg .pmWarn (bit32 n true))

/-- The power-on reset: by a bad supply, or at the first rise of the always-on supplies after a power-off, which is not held
(R57, R72, R74). -/
def execPowerOnReset (supply : Option Nat) (s : State) : Res :=
  .next (match supply with
    | some n => if s.power.off || s.power.good.getLsbD n || noComparator s n then s else s.reset_ 1 n true s.power.rstLow false
    | none =>
      if s.power.off then
        s.setPow fun p => { p with off := false, good := p.good ||| 0x204, cause := 0x01F00001 }
      else s)

/-- The always-on supplies fall: everything is lost, the latch too; the fuses, the balls and the flash remain (R57, R73). -/
def execPowerOff (s : State) : Res :=
  .next { fuses := s.fuses, straps := s.straps, flash := s.flash, out := s.out, free := s.free, pending := s.pending,
          link := { refclk := s.link.refclk }, time := { ppsIn := s.time.ppsIn }, power := { good := 0, off := true } }

/-- RST_N low past its filter: the reset is held while it stays low (R72, R74). -/
def execRstNReset (s : State) : Res := .next (if s.power.off then s else s.reset_ 2 0xF false true false)

/-- RST_N returns high: the release order may start (R74). -/
def execRstNRelease (s : State) : Res := .next (s.setPowLater fun p => { p with rstLow := false })

/-- The watchdog expires (R138). -/
def execWatchdogExpiry (s : State) : Res :=
  .next (if (s.pair.wdogOn && !s.pair.wdogPaused) || s.fires 3 then s.reset_ 3 0xF true s.power.rstLow false else s)

/-- The clock-loss reset (R68). -/
def State.clockLoss (s : State) : State := s.reset_ 5 0xF true s.power.rstLow false

/-- Both sources have stopped (R68). -/
def execClockLossReset (s : State) : Res := .next (if s.power.off then s else s.clockLoss)

/-- The third failed fuse load: a reset whose bring-up makes no load (R76). -/
def execFuseCrcExhaustion (s : State) : Res :=
  .next (if (decide (s.boot.fuseTries = 3) && !s.boot.passed) || s.fires 6 then s.reset_ 6 0xF true s.power.rstLow true else s)

/-- The hold of 1,000 oscillator cycles has ended and the trim code is back at 0x20 (R74). -/
def execResetHoldEnd (s : State) : Res :=
  .next (if s.power.hold && s.clocks.trim == 0x20 then s.setPowLater fun p => { p with hold := false } else s)

/-- The code towards which the trim steps: 0x20 in a reset and until a fuse load passes, then TARGET (R60). -/
def trimTarget (s : State) : BitVec 6 :=
  if s.power.hold || s.power.rstLow || !s.boot.passed || !s.rel 3 then 0x20 else BitVec.ofNat 6 (s.f .crOscTrim 5 0)

/-- One step of the trim code; OSC_READY is 0 while the oscillator settles; step 3 completes at the fused value (R60, R77). -/
def execOscTrimStep (s : State) : Res :=
  let t := trimTarget s
  .next (if s.power.off || s.clocks.trim == t then s
    else
      let c := if s.clocks.trim.toNat < t.toNat then s.clocks.trim + 1 else s.clocks.trim - 1
      let s := (s.setClk fun k => { k with trim := c, oscReady := false }).setPowLater id
      if s.boot.passed && c == t && s.rel 3 then s.setPow fun p => { p with fuseDone := true } else s)

/-- A fuse-load attempt: a failing row, or a pass that gives every fuse register its value (R76, R83). -/
def execFuseLoad (failRow : Option Nat) (s : State) : Res :=
  .next (if !s.rel 3 || s.rel 4 || s.boot.passed || s.power.noFuse || decide (3 ≤ s.boot.fuseTries) then s
    else match failRow with
      | some r => { s with boot := { s.boot with fuseTries := s.boot.fuseTries + 1, failRow := BitVec.ofNat 5 r } }
      | none =>
        let s := { s with boot := { s.boot with fuseTries := s.boot.fuseTries + 1, passed := true } }
        if s.clocks.trim == s.fuses.trim then s.setPow fun p => { p with fuseDone := true } else s)

/-- The class of each command port, fixed at the release of the control pair (R107). -/
def portClass (s : State) : Nat → BitVec 2
  | 0 => 2 | 1 => 2
  | 2 => if s.boot.sampled.portTrust && !(s.boot.passed && s.fuses.trustLock) then 2 else 1
  | 4 => if s.boot.sampled.uplinkClass = 1 then 1 else 0
  | _ => 0

/-- The five port classes set. -/
def State.setClasses (s : State) : List Nat → State
  | [] => s
  | p :: ps => State.setClasses (s.setPort p { s.port p with cls := portClass s p }) ps

/-- The key of a vat bank in the table of spare rows: stack, channel, bank (R323). -/
def bankKey (a : Nat) : Nat := a / 2 ^ 35 * 256 + a / 2 ^ 6 % 16 * 16 + a / 2 ^ 15 % 16

/-- The lowest spare row of a bank not taken. -/
def freeSpare (v : Vat) (key : Nat) : Option Nat := (List.range 4).find? fun i => !(SMap.get 0 v.taken key).getLsbD i

/-- A spare row taken. -/
def Vat.take (v : Vat) (key i : Nat) : Vat :=
  { v with taken := SMap.set 0 v.taken key (SMap.get 0 v.taken key ||| BitVec.ofNat 4 (2 ^ i)) }

/-- Factory repairs take spare rows before any soft spare (R341). -/
def Vat.repairs (v : Vat) : List Nat → Vat
  | [] => v
  | a :: as => Vat.repairs (match freeSpare v (bankKey a) with | some i => v.take (bankKey a) i | none => v) as

/-- The uplink lane of a download attempt, where the attempt takes one (R93). -/
def State.bootLane (s : State) : Option Nat :=
  if s.boot.state = 0 ∧ s.boot.downloading = true ∧ s.boot.sampled.bootSel = 3 then some s.fuses.upLane.toNat else none

/-- The lane of the uplink boot fuses runs the uplink during a download attempt, once the lanes are released (R93, R396). -/
def State.giveBootLane (s : State) (on : Bool) : State :=
  let n := s.fuses.upLane.toNat
  if s.rel 8 then s.setLane n { s.lane n with uplink := on } else s

/-- Lane 0 is enabled at Gen 1 and its bring-up starts, once the lanes are released (R93, R364). -/
def State.enableLane0 (s : State) : State :=
  if s.rel 8 then
    let s := s.setReg (.lkLCfg 0) 0xA03F0000
    s.setLane 0 { s.lane 0 with step := if (s.lane 0).step = 0 then 1 else (s.lane 0).step }
  else s

/-- What the release of a domain does at once (R63, R77, R82, R107, R140, R327, R341). -/
def State.onRelease (s : State) (n : Nat) : State :=
  match n with
  | 2 =>
    let s := { s with boot := { s.boot with sampled := s.straps } }
    s.setClk fun c => { c with oscReady := true, enabled := decide (s.straps.clkMode = 3) }
  | 3 => if s.power.noFuse then s.setPow fun p => { p with fuseDone := true } else s
  | 4 => s.setClasses [0, 1, 2, 3, 4]
  | 5 => ({ s with window := [], vat := { s.vat with poisonWin := [], stale := [] },
                   engines := { s.engines with ovfMem := s.engines.ovfMem.filter fun c => c.1 % 2 == 1 } }).setClk fun c => { c with rampCore := 16 }
  | 6 => if s.boot.passed then { s with vat := s.vat.repairs s.fuses.repairs } else s
  | 7 => s.setTime fun t => { t with pllRef := if s.clocks.fallback then 3 else 0 }
  | 8 =>
    let s := if s.boot.state = 1 ∨ (s.boot.state = 0 ∧ s.boot.downloading = true ∧ s.boot.sampled.bootSel = 2) then s.enableLane0 else s
    if s.bootLane.isSome then s.giveBootLane true else s
  | 11 => s.setClk fun c => { c with rampEng := 16 }
  | _ => s

/-- The predecessor of step n has been released, and for steps 3 and 4 is complete (R77). -/
def stepReady (s : State) (n : Nat) : Bool :=
  (n != 3 || s.power.clockDone) && (n != 4 || s.power.fuseDone) && (n != 1 || s.clocks.trim == 0x20)

/-- The next domain is released when its predecessor, its supplies and its gap allow (R77). -/
def execDomainRelease (s : State) : Res :=
  let n := s.power.released + 1
  .next (if s.power.off || s.power.hold || s.power.rstLow || decide (11 < n) || !suppliesGood s n || !stepReady s n then s
    else (s.setPowLater fun p => { p with released := n }).onRelease n)

-- clocks -------------------------------------------------------------------------------------------------------------------------------

/-- A measured frequency within ±6 % of a nominal one, both in kHz (R58's table, R65). -/
def within6 (khz nominal : Nat) : Bool := decide (94 * nominal ≤ 100 * khz) && decide (100 * khz ≤ 106 * nominal)

/-- The nominal primary frequency that a measurement fits: by CLK_MODE, or either value for the external clock. -/
def primaryMhz (mode khz : Nat) : Option Nat :=
  match mode with
  | 0 => if within6 khz 25000 then some 25 else none
  | 1 => if within6 khz 50000 then some 50 else none
  | 2 => if within6 khz 25000 then some 25 else if within6 khz 50000 then some 50 else none
  | _ => none

/-- XTAL_WAIT expires: the primary clock passes and the start-up PLLs are enabled on it, or it fails; after four periods they
are enabled on the internal oscillator (R61, R63). -/
def execXtalWaitExpiry (khz : Nat) (s : State) : Res :=
  .next (if !s.rel 2 || s.clocks.enabled || s.boot.sampled.clkMode == 3 then s
    else match primaryMhz s.boot.sampled.clkMode.toNat khz with
      | some m => s.setClk fun c => { c with checks := c.checks + 1, enabled := true, onPrimary := true, extMhz := m }
      | none =>
        let s := s.setClk fun c => { c with checks := c.checks + 1 }
        if s.clocks.checks < 4 then s
        else (s.setClk fun c => { c with enabled := true, onPrimary := false, fallback := true }).raise 1 4 0)

/-- The enabled PLLs lock; at the start-up switch CTRL moves to PLL_CTRL through its ramp and the monitors start (R62 to R65).
PLL_TIME locks once the time core is released. OSC_OK becomes 1 at the first lock also where no primary clock runs to count against, with
CLK_MODE 0b11 or after four failed checks (DESIGN CHOICE: R65 gives it no value there). -/
def execPllLock (s : State) : Res :=
  .next (if !s.clocks.enabled then s
    else
      let s := s.setClk fun c => { c with lockSys := true, lockCtrl := true, lockVat := !s.isF, oscOk := c.oscOk || !s.power.clockDone,
                                          rampCtrl := if c.rampCtrl = 0 then 16 else c.rampCtrl }
      if s.rel 7 then s.setTime fun t => { t with pllLock := true } else s)

/-- A divider ramp reaches /1: CTRL first, then CORE, then the engine clocks (R64, R77). -/
def execDividerRampDone (s : State) : Res :=
  .next (if 1 < s.clocks.rampCtrl then
      (s.setClk fun c => { c with rampCtrl := 1 }).setPow fun p => { p with clockDone := true }
    else if 1 < s.clocks.rampCore then s.setClk fun c => { c with rampCore := 1 }
    else if 1 < s.clocks.rampEng then s.setClk fun c => { c with rampEng := 1 }
    else s)

/-- PLL_SYS (0), PLL_CTRL (1) or PLL_VAT (2) loses lock (R71). -/
def execPllUnlock (pll : Nat) (s : State) : Res :=
  .next (if !s.clocks.enabled || decide (2 < pll) || (s.isF && pll == 2) then s
    else (s.setClk fun c => match pll with
      | 0 => { c with lockSys := false } | 1 => { c with lockCtrl := false } | _ => { c with lockVat := false }).raise 1 3 0)

/-- The primary clock fails while PLL_TIME references it: the oscillator takes over, STATE is FREE, ALIGNED is cleared (R153). -/
def State.timeFallback (s : State) : State :=
  if s.rel 7 && s.time.pllRef == 0 then
    (s.setTime fun t => { t with pllRef := 3, state := 0, holding := false, waitReturn := true }).clearAligned.setTime
      fun t => { t with stepped := false }
  else s

/-- The fallback switch (R66); a housekeeping conversion under way takes note of it (R400). -/
def State.fallback (s : State) : State :=
  let s := { s with house := { s.house with fallbackSeen := true } }
  ((s.setClk fun c => { c with fallback := true, onPrimary := false, latched := false }).raise 1 0 0).timeFallback

/-- The primary monitor trips: fallback, a latched trip while OSC_READY is 0, an abandoned return, or a clock-loss reset without
an oscillator (R66 to R69). -/
def execFallbackSwitch (s : State) : Res :=
  .next (if !s.power.clockDone || s.boot.sampled.clkMode == 3 then s
    else
      let s := s.setClk fun c => { c with primaryOk := false }
      if s.clocks.returning then (s.setClk fun c => { c with returning := false }).raise 1 0 0
      else if !s.clocks.onPrimary then s
      else if !s.clocks.oscOk then s.clockLoss
      else if !s.clocks.oscReady then s.setClk fun c => { c with latched := true }
      else s.fallback)

/-- A handover whose old reference has stopped is forced (R67). -/
def execForcedSwitch (s : State) : Res := .next (if s.clocks.fallback then s.raise 1 1 0 else s)

/-- OSC_READY does not return within 50 µs of a latched trip (R67). -/
def execOscReadyTimeout (s : State) : Res := .next (if s.clocks.latched && !s.clocks.oscReady then s.clockLoss else s)

/-- The oscillator settles after a trim step; a latched trip then makes its switch (R60, R67). -/
def execOscSettled (s : State) : Res :=
  .next (if !s.rel 1 then s
    else
      let s := s.setClk fun c => { c with oscReady := s.rel 2 }
      if s.clocks.latched then s.fallback else s)

/-- The oscillator monitor trips: an event on the primary clock, a clock-loss reset in fallback or without a primary (R67, R68). -/
def execCkOscFail (s : State) : Res :=
  .next (if !s.power.clockDone then s
    else if s.clocks.onPrimary then (s.setClk fun c => { c with oscOk := false }).raise 1 2 0
    else s.clockLoss)

/-- The primary clock has passed 100 consecutive windows (R69). -/
def execPrimaryOk (s : State) : Res :=
  .next (if s.power.clockDone && s.boot.sampled.clkMode != 3 then s.setClk fun c => { c with primaryOk := true } else s)

/-- A write of RETURN 1 (R69). -/
def wrReturn (s : State) : Except Status State :=
  if s.clocks.primaryOk && s.clocks.fallback then .ok (s.setClk fun c => { c with returning := true }) else .error .stateRefused

/-- RETURN_SWITCH: the write of CR_CLK_CTRL.RETURN (R69). -/
def execReturnSwitch (port : Nat) (s : State) : Res :=
  .next (if canWriteRom s port then writeOr s (wrReturn s) else s)

/-- The return switch completes; the time core takes up its MODE again from the beginning (R69, R153). -/
def execReturnSwitchDone (s : State) : Res :=
  .next (if !s.clocks.returning then s
    else
      let s := (s.setClk fun c => { c with returning := false, fallback := false, onPrimary := true }).raise 1 5 0
      if s.rel 7 && s.time.pllRef == 3 then
        (s.startMode (s.reg .tcSrcCfg)).setTime fun t => { t with taken := false, pllRef := modeRef s (s.reg .tcSrcCfg) }
      else s)

end Sys2Proof.Machine
end

