-- ==== Sys2Proof/Machine/Boot.lean ====
section
/-!
DEFINITION. Boot ROM, images, boot record and the image commands (R82 to R97, R451).
-/
namespace Sys2Proof.Machine

/-- The boot record replaced. -/
def State.setBoot (s : State) (f : Boot → Boot) : State := { s with boot := f s.boot }

-- the boot record ----------------------------------------------------------------------------------------------------------------------

/-- The 28 bytes of a boot record copy before its CRC (R88); integers little-endian as in R86. -/
def recBytes (r : BootRec) : List Byte :=
  leBytes 4 0x4B484252 ++ leBytes 4 r.seq.toNat ++ [r.active, r.armed, r.tries] ++ List.replicate 17 0
/-- A whole boot record copy. -/
def recFull (r : BootRec) : List Byte := recBytes r ++ leBytes 4 (crc32c (recBytes r)).toNat

/-- The copy at an offset, when it is valid (R88). -/
def readRec (fl : List Host.Cell) (k : Nat) : Option BootRec :=
  let b := flBytes fl (k * 0x1000) 32
  if leNat (b.take 4) = 0x4B484252 ∧ BitVec.ofNat 32 (leNat (b.drop 28)) = crc32c (b.take 28) then
    some { seq := BitVec.ofNat 32 (leNat ((b.drop 4).take 4)), active := b.getD 8 0, armed := b.getD 9 0, tries := b.getD 10 0 }
  else none

/-- The record in force and its copy: the valid one with the higher SEQ by signed difference (R88); copy 0 of two with equal SEQ (DESIGN
CHOICE: the manual does not say). -/
def recInForce (fl : List Host.Cell) : Option (Nat × BootRec) :=
  match readRec fl 0, readRec fl 1 with
  | none, none => none
  | some a, none => some (0, a)
  | none, some b => some (1, b)
  | some a, some b => if (a.seq - b.seq).toInt < 0 then some (1, b) else some (0, a)

/-- ACTIVE A and nothing armed, when no copy is valid (R88). -/
def recDefault : BootRec := ⟨0, 0, 0xFF, 0⟩
/-- The record that governs. -/
def State.bootRec (s : State) : BootRec := match recInForce s.flash with | some (_, r) => r | none => recDefault

/-- The record written: the copy not in force is erased and programmed with SEQ one higher (R89). With no valid copy it is copy 0, with SEQ 1
(DESIGN CHOICE: the manual names neither). -/
def State.writeRec (s : State) (active armed tries : Byte) : State :=
  let k := match recInForce s.flash with | some (0, _) => 1 | _ => 0
  let r : BootRec := ⟨s.bootRec.seq + 1, active, armed, tries⟩
  { s with flash := flWrite (zeroRange s.flash (k * 0x1000) (k * 0x1000 + 0x1000)) (k * 0x1000) (recFull r) }

-- images ---------------------------------------------------------------------------------------------------------------------------------

/-- The flash offset of a slot (R85). -/
def slotBase (slot : Nat) : Nat := if slot = 0 then 0x100000 else 0x400000
/-- n bytes of an image target from an offset: slot A, slot B or the RAM image. -/
def State.imgBytes (s : State) (target off n : Nat) : List Byte :=
  if target = 2 then rdBytes s.ramImage off n else flBytes s.flash (slotBase target + off) n

/-- The integer field of a header. -/
def hdr (h : List Byte) (off n : Nat) : Nat := leNat ((h.drop off).take n)

/-- Check 1 of R87: constants, limits and reserved bytes. -/
def headerOk (h : List Byte) : Bool :=
  hdr h 0 4 == 0x4B485F49 && hdr h 4 2 == 1 && hdr h 6 2 == 0x100 &&
  decide (16 ≤ hdr h 0xC 4) && decide (hdr h 0xC 4 ≤ 0x200000) && hdr h 0xC 4 % 16 == 0 &&
  decide (hdr h 0x10 4 < hdr h 0xC 4) && hdr h 0x10 4 % 4 == 0 &&
  ((h.drop 0x18).take 8).all (· == 0) && (h.drop 0xC0).all (· == 0)

/-- KEY_HASH of an index (R86). -/
def keyHash (f : Fuses) (i : Nat) : List Byte := beBytes 32 (if i = 0 then f.keyHash0.toNat else f.keyHash1.toNat)

/-- Check 3 of R87, with SIG_REQ at 1. -/
def signatureOk (f : Fuses) (h : List Byte) : Bool :=
  let ki := hdr h 0x16 1
  let key := (h.drop 0x40).take 64
  hdr h 0x15 1 % 2 == 1 && decide (ki < 2) && !f.keyRevoke.getLsbD ki && decide (sha256 key = keyHash f ki) &&
  ecdsaVerify ((h.drop 0x20).take 32) key ((h.drop 0x80).take 64)

/-- The checks of R87 in order: the failure code, 0 when all pass; fuses count as zero until a load has passed. -/
def State.imgCheck (s : State) (target : Nat) : Nat :=
  let h := s.imgBytes target 0 256
  if !headerOk h then 5
  else if sha256 (h.take 0x20 ++ s.imgBytes target 0x100 (hdr h 0xC 4)) ≠ (h.drop 0x20).take 32 then 6
  else if s.boot.passed && s.fuses.sigReq then
    if !signatureOk s.fuses h then 7
    else if hdr h 0x14 1 < s.fuses.minSec.toNat then 8 else 0
  else 0

-- starting firmware, rind mode --------------------------------------------------------------------------------------------------------------

/-- The body of an image is copied into the private memory of both processors (R85). -/
def State.copyBody (s : State) (target n : Nat) : State :=
  let m := cellsOf 0 (s.imgBytes target 0x100 n)
  { s with ctrlA := m, ctrlB := m }

/-- Firmware takes the uplink lane of a download attempt back, as EU_CFG.EN is 0 (R93, R388). -/
def State.endDownload (s : State) : State :=
  if s.bootLane.isSome then ({ s with uplink := { s.uplink with up := false, fecLock := false } } : State).giveBootLane false else s

/-- The firmware speaks another highest revision than the ROM did: a lane 0 that the ROM trained exchanges capability flits again, so that
it runs at the lowest revision of its two ends (R98, R365). -/
def State.newRev (s : State) : State :=
  let l := s.lane 0
  if !l.trained || s.boot.linkRev == 1 then s
  else (s.setLane 0 { l with trained := false, step := 3, cap := none, lastStep := 2, sending := none }).raise 15 1 0

/-- An image starts: its body and ENTRY, its identity, the watchdog with its reset PERIOD, lane 0 (R85, R90, R95, R138, R364). A LINK_REV
beyond R86's 1 to 3 is taken by its low four bits (DESIGN CHOICE: no check of R87 bars it). -/
def State.startImage (s : State) (target source attempt : Nat) : State :=
  let h := s.imgBytes target 0 256
  let s := (s.endDownload).copyBody target (hdr h 0xC 4)
  let s := s.setBoot fun b => { b with state := 1, attempt, source := BitVec.ofNat 2 source, slot := BitVec.ofNat 2 target, reason := 0,
                                       fwVersion := BitVec.ofNat 32 (hdr h 8 4), linkRev := BitVec.ofNat 4 (hdr h 0x17 1),
                                       entry := BitVec.ofNat 32 (hdr h 0x10 4), downloading := false }
  let s := { s with pair := { s.pair with wdogOn := true, wdogPeriod := 0x3E8 } }
  s.newRev.enableLane0

/-- Rind mode: only the management port and JTAG run; no lane, no tick, no watchdog, no bias (R94, R179). SOURCE and SLOT stay at 0, as no
image has started (DESIGN CHOICE: R95 does not say what they show there). -/
def State.rind (s : State) (reason attempt : Nat) : State :=
  let s := s.setBoot fun b => { b with state := 2, reason := BitVec.ofNat 8 reason, attempt, fwVersion := 0, downloading := false }
  let cut := SMap.erase (SMap.erase s.csr.inForce (Reg.lkLCfg 0).key) Reg.caBiasCtrl.key
  { s with pair := { s.pair with wdogOn := false }, link := { s.link with lane := [] },
           uplink := { s.uplink with up := false, fecLock := false },
           time := { s.time with run := false, ticking := false, stopping := false },
           csr := { s.csr with inForce := cut } }

/-- The ROM starts at the release of the control pair, enables IRQ_N and ALERT_N, and settles the cases without attempt (R90,
R124). -/
def execBootRomStart (s : State) : Res :=
  .next (if !s.rel 4 || s.boot.romOn then s
    else
      let s := ({ s with ports := { s.ports with drivers := true } } : State).setBoot fun b => { b with romOn := true }
      let sel := s.boot.sampled.bootSel.toNat
      if !s.boot.passed then s.rind 2 0
      else if sel = 7 then s.rind 1 0
      else if 4 ≤ sel then s.rind 3 0
      else s)

/-- The armed slot that the ROM may try: ARMED is not 0xFF (R90). ARMED and ACTIVE bytes beyond R88's values are read by their lowest bit
(DESIGN CHOICE: the manual gives them no meaning). -/
def armedSlot (r : BootRec) : Option Nat := if r.armed = 0xFF then none else some (r.armed.toNat % 2)

/-- Before the first attempt: an armed image that used up its trials reverts, and the preferred slot is settled (R90, R92). -/
def State.prepareBoot (s : State) : State :=
  let r := s.bootRec
  let s := if r.armed ≠ 0xFF ∧ 3 ≤ r.tries.toNat then
      (s.writeRec r.active 0xFF 0).setBoot fun b => { b with lastFail := 0x0B } else s
  let r := s.bootRec
  s.setBoot fun b => { b with preferred := (armedSlot r).getD (r.active.toNat % 2) }

/-- A failed attempt: LAST_FAIL, an armed slot that failed three times is disarmed, and after the sixth attempt or without a
flash the device enters rind mode (R90 to R92). Where NO_FLASH skips the attempts that are left, ATTEMPT is the one that found no flash and
REASON its code (DESIGN CHOICE: R90 speaks of a sixth attempt, which is not made). -/
def State.bootFail (s : State) (code : Nat) (slot : Option Nat) : State :=
  let s := s.endDownload.setBoot fun b => { b with lastFail := BitVec.ofNat 8 code, downloading := false }
  let armed := slot.isSome && decide (slot = armedSlot s.bootRec)
  let s := if armed then s.setBoot fun b => { b with armFails := b.armFails + 1 } else s
  let s := if armed && s.boot.armFails == 3 then
      (s.writeRec s.bootRec.active 0xFF s.bootRec.tries).setBoot fun b => { b with lastFail := 0x0C } else s
  if 6 ≤ s.boot.tried ∨ code = 4 then s.rind code s.boot.tried else s

/-- The source of attempt n: a slot of the flash, or none for a download (R90's table). -/
def attemptSlot (b : Boot) (n : Nat) : Option Nat :=
  if b.sampled.bootSel = 0 then some (if n ≤ 3 then b.preferred else 1 - b.preferred)
  else if n ≤ 3 then none else some b.preferred

/-- The SFDP read at 10 MHz: what it gives of the flash, which then runs at 50 MHz (R84). -/
def State.readSfdp (s : State) (sfdp : Option FlashPar) : State :=
  let s := { s with out := s.out ++ [Out.bootSpi 0x5A 10] }
  s.setBoot fun b => { b with flashPar := if sfdp.isSome then sfdp else b.flashPar, sckMhz := if sfdp.isSome then 50 else 10 }

/-- Data lines of the fastest read that a flash offers: 1-1-4, 1-1-2 or 1-1-1 (R84). -/
def FlashPar.lines (f : FlashPar) : Nat := if f.quad then 4 else if f.dual then 2 else 1

/-- One boot attempt; sfdp is what the parameter table gives, none where no SFDP signature is read (R84, R90 to R93). -/
def execBootAttempt (sfdp : Option FlashPar) (s : State) : Res :=
  .next (if !s.rel 5 || !s.boot.romOn || s.boot.state != 0 || s.boot.downloading || decide (6 ≤ s.boot.tried) then s
    else
      let s := if s.boot.tried = 0 then s.prepareBoot else s
      let n := s.boot.tried + 1
      let s := s.setBoot fun b => { b with tried := n }
      match attemptSlot s.boot n with
      | some slot =>
        let s := s.readSfdp sfdp
        if sfdp.isNone then s.bootFail 4 (some slot)
        else
          let code := s.imgCheck slot
          if code ≠ 0 then s.bootFail code (some slot)
          else
            let r := s.bootRec
            let s := if armedSlot r = some slot then s.writeRec r.active r.armed (r.tries + 1) else s
            s.startImage slot 0 n
      | none =>
        let s := ({ s with ramImage := [] } : State).setBoot fun b => { b with verRam := none }
        if s.boot.sampled.bootSel == 3 && s.fuses.upMac == 0 && s.fuses.upIp == 0 && s.fuses.upPorts == 0 && s.fuses.upLane == 0 then
          s.bootFail 0x0A none
        else
          let s := s.setBoot fun b => { b with downloading := true }
          if s.boot.sampled.bootSel = 2 then s.enableLane0 else if s.boot.sampled.bootSel = 3 then s.giveBootLane true else s)

/-- No BOOT_GO with a verified image within 10 s after the port is ready (R93). -/
def execDownloadTimeout (s : State) : Res := .next (if s.boot.downloading && s.downloadReady then s.bootFail 9 none else s)

-- image commands -----------------------------------------------------------------------------------------------------------------------------

/-- An erase or a write is under way (R96). -/
def flashBusy (s : State) : Bool :=
  s.boot.flashOps.any fun q => q.1 != .verify
/-- A long command uses the slot (R114). -/
def slotBusy (s : State) (slot : Nat) : Bool := s.boot.flashOps.any fun q => q.2.1 == slot
/-- A flash operation starts, and one ends. -/
def State.startFlash (s : State) (k : FlashOp) (slot : Nat) (r : Req) : State :=
  s.setBoot fun b => { b with flashOps := b.flashOps ++ [(k, slot, r)] }
def State.endFlash (s : State) (q : FlashOp × Nat × Req) : State := s.setBoot fun b => { b with flashOps := b.flashOps.erase q }
/-- The oldest flash operation of a kind (DESIGN CHOICE: two verifications under way end in the order of their start). -/
def State.flashOp (s : State) (k : FlashOp) : Option (FlashOp × Nat × Req) := s.boot.flashOps.find? fun q => q.1 == k
/-- The slot that the firmware runs from, or ACTIVE; not judged in rind mode (R96). -/
def slotHeld (s : State) (slot : Nat) : Bool :=
  s.boot.state == 1 && (decide (slot = s.boot.slot.toNat) || decide (slot = s.bootRec.active.toNat % 2))
/-- The last IMAGE_VERIFY result of a slot forgotten. -/
def State.unverify (s : State) (t : Nat) : State :=
  s.setBoot fun b => match t with | 0 => { b with verA := none } | 1 => { b with verB := none } | _ => { b with verRam := none }
/-- The result of the last IMAGE_VERIFY of a target. -/
def verOf (b : Boot) (t : Nat) : Option Byte := match t with | 0 => b.verA | 1 => b.verB | _ => b.verRam

/-- What an erase, a write and an arm of a target have in common: the ROM's BUSY for a flash slot, the range, the RAM target, the slot
held, an operation under way (R96, R451). -/
def imgRefuse (s : State) (t : Nat) (ramOk : Bool) (range : Bool) : Option Status :=
  if s.boot.state = 0 ∧ t < 2 then some .busy
  else if t = 3 ∨ range then some .outOfRange
  else if t = 2 then (if ramOk && s.boot.state == 0 && s.boot.downloading then none else some .stateRefused)
  else if slotHeld s t then some .stateRefused
  else if flashBusy s || slotBusy s t then some .busy
  else none

/-- IMAGE_ERASE starts the erase of a slot (R96, R97). -/
def execImageErase (r : Req) (s : State) : Res :=
  .next (s.runOp 0x280 r true fun s =>
    let t := r.p 1 0
    match imgRefuse s t false false with
    | some st => no s st
    | none => ((s.unverify t).startFlash .erase t r, none))

/-- The erase completes: the slot reads erased and the reply goes out (R97, R114). -/
def execImageEraseDone (s : State) : Res :=
  .next (match s.flashOp .erase with
    | some (k, t, r) =>
      let s := ({ s with flash := zeroRange s.flash (slotBase t) (slotBase t + 0x300000) } : State).endFlash (k, t, r)
      s.reply 0x280 r { status := .ok }
    | none => s)

/-- The bytes of data words, each word little-endian as the integers of R86. -/
def leWords (ws : List Word) : List Byte := ws.flatMap fun w => leBytes 4 w.toNat

/-- IMAGE_WRITE: offset and size in range; RAM is written at once, a slot by a long command (R93, R96, R97). -/
def execImageWrite (r : Req) (s : State) : Res :=
  .next (s.runOp 0x281 r true fun s =>
    let t := r.p 1 0
    let off := (r.w 0).toNat
    match imgRefuse s t true (decide (off % 4 ≠ 0 ∨ 0x300000 < off + 4 * (r.len - 1))) with
    | some st => no s st
    | none =>
      let s := s.unverify t
      if t = 2 then yes { s with ramImage := wrBytes s.ramImage off (leWords (r.payload.drop 1)) }
      else (s.startFlash .write t r, none))

/-- The write to a slot completes (R114). Bytes that are not erased are replaced (DESIGN CHOICE: the manual does not say what programming
them does). -/
def execImageWriteDone (s : State) : Res :=
  .next (match s.flashOp .write with
    | some (k, t, r) =>
      let s := ({ s with flash := flWrite s.flash (slotBase t + (r.w 0).toNat) (leWords (r.payload.drop 1)) } : State).endFlash (k, t, r)
      s.reply 0x281 r { status := .ok }
    | none => s)

/-- The result of a verification recorded. -/
def State.setVer (s : State) (t code : Nat) : State :=
  s.setBoot fun b => match t with
    | 0 => { b with verA := some (BitVec.ofNat 8 code) } | 1 => { b with verB := some (BitVec.ofNat 8 code) }
    | _ => { b with verRam := some (BitVec.ofNat 8 code) }

/-- IMAGE_VERIFY: the RAM image at once, a slot by a long command; PARAM holds the failure code (R87, R96, R114). -/
def execImageVerify (r : Req) (s : State) : Res :=
  .next (s.runOp 0x282 r true fun s =>
    let t := r.p 1 0
    if t = 3 then no s .outOfRange
    else if t = 2 then
      if s.boot.state = 0 ∧ s.boot.downloading = true then
        (s.setVer 2 (s.imgCheck 2), some { status := .ok, param := s.imgCheck 2 })
      else no s .stateRefused
    else if s.boot.state = 0 || flashBusy s || slotBusy s t then no s .busy
    else (s.startFlash .verify t r, none))

/-- The verification of a slot completes with its failure code (R87, R114). -/
def execImageVerifyDone (s : State) : Res :=
  .next (match s.flashOp .verify with
    | some (k, t, r) =>
      let code := s.imgCheck t
      ((s.setVer t code).endFlash (k, t, r)).reply 0x282 r { status := .ok, param := code }
    | none => s)

/-- IMAGE_ARM (R96, R97). -/
def execImageArm (r : Req) (s : State) : Res :=
  .next (s.runOp 0x283 r true fun s =>
    let t := r.p 1 0
    let major := fld (BitVec.ofNat 32 (hdr (s.imgBytes t 0 256) 8 4)) 31 24
    let run := fld s.boot.fwVersion 31 24
    match (if s.boot.state = 0 then some .busy else imgRefuse s t false false) with
    | some st => no s st
    | none =>
      if verOf s.boot t ≠ some 0 then no s .stateRefused
      else if s.boot.state = 1 ∧ armedSlot s.bootRec = some s.boot.slot.toNat then no s .stateRefused
      else if s.boot.state = 1 ∧ (run + 1 < major ∨ major + 1 < run) then no s .outOfRange
      else yes (s.writeRec s.bootRec.active (BitVec.ofNat 8 t) 0))

/-- IMAGE_CONFIRM (R96, R97). -/
def execImageConfirm (r : Req) (s : State) : Res :=
  .next (s.runOp 0x284 r true fun s =>
    if armedSlot s.bootRec ≠ some s.boot.slot.toNat then no s .stateRefused
    else if flashBusy s then no s .busy
    else yes (s.writeRec (BitVec.ofNat 8 s.boot.slot.toNat) 0xFF 0))

/-- Bytes as words, little-endian. -/
def wordsLe (n : Nat) (b : List Byte) : List Word := (List.range n).map fun i => BitVec.ofNat 32 (leNat ((b.drop (4 * i)).take 4))

/-- IMAGE_INFO: the record in force and both slot headers, as 8 + 64 + 64 words in the byte order of R86; with no valid copy the record
that R88 gives then, with SEQ 0 (DESIGN CHOICE: the manual gives the payload no layout). -/
def execImageInfo (r : Req) (s : State) : Res :=
  .next (s.runOp 0x285 r true fun s =>
    if flashBusy s then no s .busy
    else tell s (wordsLe 8 (recFull s.bootRec) ++ wordsLe 64 (s.imgBytes 0 0 256) ++ wordsLe 64 (s.imgBytes 1 0 256)))

/-- BOOT_GO: the verified RAM image starts; after a failed verification the attempt fails with its code, and the command itself is
answered OK; without a verification it gets STATE_REFUSED and the attempt goes on (DESIGN CHOICE for both statuses; R93). -/
def execBootGo (r : Req) (s : State) : Res :=
  .next (s.runOp 0x286 r true fun s =>
    if s.boot.state ≠ 0 ∨ s.boot.downloading = false then no s .stateRefused
    else match s.boot.verRam with
      | some 0 => yes (s.startImage 2 s.boot.sampled.bootSel.toNat s.boot.tried)
      | some c => yes (s.bootFail c.toNat none)
      | none => no s .stateRefused)

end Sys2Proof.Machine
end

