-- ==== Sys2Proof/Machine/Curds.lean ====
section
/-!
DEFINITION. Curds on their paths: rinds and trailers as flits (R208, R368), path entries and deadlines (R31 to R37), losses and
the lost-curd count (R33), forming own curds and EMPTY curds (R34, R210), and the hand-over to a lane (R366, R368).
-/
namespace Sys2Proof

/-- The type whose stream a curd belongs to: an EMPTY curd stands for its COVERED_TYPE (R210). -/
def Rind.stream (r : Rind) : Nat := if r.type = 1 then r.covered.toNat else r.type.toNat

/-- A rind as its 128 bits (R208). -/
def Rind.bits (r : Rind) : Flit :=
  r.source ++ r.seq ++ r.fn ++ r.type ++ r.length ++ r.rev ++ r.reserved ++ BitVec.ofBool r.invPresent ++
    BitVec.ofBool r.rangeSwitch ++ BitVec.ofBool r.shortPre ++ BitVec.ofBool r.rawNoGain ++ BitVec.ofBool r.poisoned ++
    BitVec.ofBool r.compressed ++ r.lost ++ r.covered ++ r.reservedLow

/-- The stream key of a curd: source and stream type (R32). -/
def Curd.key (c : Curd) : Nat := c.rind.source.toNat * 256 + c.rind.stream

/-- Flits of a curd on the line: rind, payload, trailer (R368). -/
def Curd.flits (c : Curd) : Nat := c.payload.length + 2

end Sys2Proof

namespace Sys2Proof.Machine

/-- The trailer: CRC-32C over rind and payload in [127:96], zero below (R368). -/
def trailer (c : Curd) : Flit :=
  BitVec.ofNat 128 ((crc32c ((c.rind.bits :: c.payload).flatMap flitBytes)).toNat * 2 ^ 96)

/-- Every flit of a curd on the line. -/
def curdFlits (c : Curd) : List Flit := c.rind.bits :: c.payload ++ [trailer c]

/-- The first path entry in force for a type (R37). -/
def State.pathOf (s : State) (type : Nat) : Option Nat :=
  (List.range 64).find? fun p => s.b (.scPathCfg p) 31 && s.f (.scPathMatch p) 7 0 == type

/-- L and REMAIN of a path in force. -/
def State.pathL (s : State) (p : Nat) : Nat := s.f (.scPathCfg p) 28 16
def State.pathRemain (s : State) (p : Nat) : Nat := s.f (.scPathCfg p) 12 0

/-- d of R35: FN[31:0] less the origin frame, signed. -/
def State.age (s : State) (c : Curd) : Int := sdiff 32 s.time.fn.toNat c.rind.fn.toNat

/-- The deadline of a curd on path p has come; none is evaluated while ALIGNED is 0 (R11, R35). -/
def State.isLate (s : State) (p : Nat) (c : Curd) : Bool :=
  s.time.aligned && decide (((s.pathL p : Int) - s.pathRemain p) ≤ s.age c)

/-- An admitted curd discarded: counted on its path, carried to the next curd of its stream, reported once per frame and path
(R33). -/
def State.lose (s : State) (p : Nat) (c : Curd) : State :=
  let s := s.bump (0x301008 + p * 0x10) 1
  let k := c.key
  let s := { s with sched := { s.sched with carry := SMap.set 0 s.sched.carry k (SMap.get 0 s.sched.carry k + c.rind.lost.toNat + 1) } }
  if p ∈ s.sched.lossNow then s
  else ({ s with sched := { s.sched with lossNow := p :: s.sched.lossNow } } : State).raise 11 0 (at32 0 p)

/-- Several curds discarded. -/
def State.loseAll (s : State) : List Held → State
  | [] => s
  | h :: hs => State.loseAll (s.lose h.path h.curd) hs

/-- A curd as it is forwarded: the waiting amounts of its stream go into LOST, sticking (R33). -/
def State.takeLost (s : State) (c : Curd) : State × Curd :=
  let k := c.key
  let n := SMap.get 0 s.sched.carry k
  if n = 0 then (s, c)
  else ({ s with sched := { s.sched with carry := SMap.erase s.sched.carry k } },
        { c with rind := { c.rind with lost := BitVec.ofNat 16 (min (c.rind.lost.toNat + n) 0xFFFF) } })

/-- A curd discarded because no enabled path has its type (R37). -/
def State.unpathed (s : State) (c : Curd) (lane : Nat) : State :=
  (s.bump 0x300020 1).raise 11 1 (at32 8 c.rind.type.toNat ||| at32 0 lane)

/-- A curd held for its path. -/
def State.hold (s : State) (h : Held) : State := { s with sched := { s.sched with held := s.sched.held ++ [h] } }

/-- The curds held, replaced. -/
def State.setHeld (s : State) (l : List Held) : State := { s with sched := { s.sched with held := l } }

/-- The origin frame of the last curd formed of an own stream (R32, R34). -/
def State.setFormed (s : State) (type : Nat) (fn : Word) : State :=
  { s with sched := { s.sched with formed := SMap.put s.sched.formed (streamKey s.ports.nodeId type) fn } }

/-- The device forms a curd of its own: next SEQ, origin frame, and its place in its path, or R37 where no path entry has its type
(R32, R34, R37, R208). -/
def State.formCurd (s : State) (type : Nat) (fn : Word) (payload : List Flit) (mark : Rind → Rind) (ready : Bool)
    (dep : Option Nat) : State :=
  let c : Curd := { rind := mark (mkRind s.ports.nodeId (s.seqOf type) fn type payload.length), payload }
  let s := s.nextSeq type
  let s := s.setFormed type fn
  match s.pathOf type with
  | none => s.unpathed c 0x3F
  | some p => s.hold { curd := c, path := p, kind := 0, ready, dep }

/-- The stream of a type needs an EMPTY curd at the close of origin frame n: no curd of it was formed with an origin frame among
n − 63 to n (R34). -/
def State.needsEmpty (s : State) (type : Nat) (n : Word) : Bool :=
  match SMap.find s.sched.formed (streamKey s.ports.nodeId type) with
  | none => true
  | some m => let d := sdiff 32 n.toNat m.toNat; decide (d < 0 ∨ 63 < d)

/-- The EMPTY curd of a stream at the close of origin frame n, when R34 requires one (R34, R210). -/
def State.closeStream (s : State) (type : Nat) (n : Word) : State :=
  match s.pathOf type with
  | none => s
  | some p =>
    if !s.needsEmpty type n then s
    else
      let r := mkRind s.ports.nodeId (s.seqOf type) n 1 1
      let c : Curd := { rind := { r with covered := BitVec.ofNat 8 type }, payload := [0] }
      let s := s.nextSeq type
      let s := s.setFormed type n
      s.hold { curd := c, path := p, kind := 0 }

-- transmission -------------------------------------------------------------------------------------------------------------------

/-- The transmission under way on a lane ends: its last flit has left and it is counted (R385). -/
def State.flushLane (s : State) (n : Nat) : State :=
  let l := s.lane n
  match l.sending with
  | none => s
  | some c =>
    let s := s.setLane n { l with sending := none }
    ({ s with out := s.out ++ [.curd n c] } : State).bump (0x500048 + n * 0x800) 1

/-- A curd starts on a lane, after the one before it. -/
def State.transmit (s : State) (n : Nat) (c : Curd) : State :=
  let s := s.flushLane n
  s.setLane n { s.lane n with sending := some c }

/-- A lane that can carry Casud flits now. -/
def State.carries (s : State) (n : Nat) : Bool := s.rel 8 && (s.lane n).trained && !(s.lane n).uplink

/-- The variant has lane n (R43, R45). -/
def State.hasLane (s : State) (n : Nat) : Bool :=
  let k := s.res.lanes
  decide (n < 48) && (decide (n < k))

/-- The highest lanes of the variant form the uplink group (R388): its lowest lane. -/
def State.upGroup (s : State) : Nat := s.res.lanes - 4

/-- A held curd is formed and its ready time has come (R207). -/
def Held.isReady (h : Held) (now : CT) : Bool := h.ready && (match h.readyAt with | some t => decide (0 ≤ ctDiff now t) | none => true)

/-- The curds held beyond the first n are ready from a chain time on. -/
def State.readyFrom (s : State) (n : Nat) (t : CT) : State :=
  s.setHeld (s.sched.held.take n ++ (s.sched.held.drop n).map fun h => { h with readyAt := some t })

/-- The staging word of an own HIT curd is read as it is sent: poison raises HB_STAGE_POISON (R211). -/
def State.readStage (s : State) (h : Held) : State :=
  if h.kind == 0 && h.curd.rind.type == 2 && h.curd.rind.poisoned then s.raise 8 2 0 else s

/-- A curd waits for the frame in which it may be sent: a merged one leaves in the frame after that of its close (R309). -/
def State.inTurn (s : State) (h : Held) : Bool :=
  h.kind != 2 || decide ((s.pathL h.path : Int) - s.pathRemain h.path - 1 ≤ s.age h.curd)

/-- A curd of path p may leave: it is formed, it is its frame, and it is not past its deadline (R35, R309). -/
def State.leaves (s : State) (p : Nat) (h : Held) : Bool := h.path == p && h.isReady s.time.ct && s.inTurn h && !s.isLate p h.curd

/-- A curd of path p may leave on lane n: it is not bound to another lane (R299). -/
def State.sendable (s : State) (n p : Nat) (h : Held) : Bool :=
  s.leaves p h && (match h.out with | some k => k == n | none => true)

/-- From a list of held curds, the first ones of a path that fit a number of flits one after another; the first that does not
fit ends the taking, so that the order of the path is kept. -/
def takeFit (ok : Held → Bool) : List Held → Nat → List Held × List Held
  | [], _ => ([], [])
  | h :: hs, room =>
    if ok h then
      if h.curd.flits ≤ room then let (a, b) := takeFit ok hs (room - h.curd.flits); (h :: a, b)
      else ([], h :: hs)
    else let (a, b) := takeFit ok hs room; (a, h :: b)

/-- Curds sent one after another on a lane. -/
def State.transmitAll (s : State) (n : Nat) : List Held → State
  | [] => s
  | h :: hs =>
    let (s, c) := (s.readStage h).takeLost h.curd
    State.transmitAll (s.transmit n c) n hs

/-- Waiting curds of a path sent on a lane within a number of curd flits; the flits used with the state. -/
def State.sendPath (s : State) (n p room : Nat) : State × Nat :=
  let (a, b) := takeFit (s.sendable n p) s.sched.held room
  ((s.setHeld b).transmitAll n a, (a.map fun h => h.curd.flits).sum)

end Sys2Proof.Machine
end

