-- ==== Sys2Proof/Machine/Vat.lean ====
section
/-!
DEFINITION. Memory and its integrity: address ranges (R322, R323, R431, R432), regions and classes (R328, R330), reads with
their outcomes (R329, R334, R336, R337), writes and read-modify-writes (R333, R335), the error log (R344), row moves (R338 to
R340), the scrubbers (R342, R343), and schedule entries at their START (R11, R17, R20, R26).
-/
namespace Sys2Proof.Machine

-- schedule entries at their START --------------------------------------------------------------------------------------------------

/-- KIND, START, DURATION, RES_CLASS, RES_INDEX, PATH of an entry (R20). -/
def Entry.kind (e : Entry) : Nat := fld e.w0 31 28
def Entry.start (e : Entry) : Nat := fld e.w0 20 0
def Entry.dur (e : Entry) : Nat := fld e.w1 20 0
def Entry.cls (e : Entry) : Nat := fld e.w2 31 28
def Entry.idx (e : Entry) : Nat := fld e.w2 27 16
def Entry.path (e : Entry) : Nat := fld e.w2 5 0

/-- Chain time of the last tick. -/
def State.tickCt (s : State) : CT := BitVec.ofNat 64 (s.time.tickE.toNat * 512)

/-- The entry is not run for want of its resource (R26). -/
def State.skip (s : State) : State := s.bump 0x300018 1

/-- An entry of a kind reaches its START while entries run at all: ALIGNED is 1, the tick has given its values, and the entry stands in
the active schedule and has not had its START in this frame (R11, R19, R25). -/
def State.atStart (s : State) (i kind : Nat) : Option Entry :=
  if s.rel 5 && s.time.aligned && s.settled && !s.sched.begun.contains i then
    match s.sched.active[i]? with
    | some e => if e.kind = kind then some e else none
    | none => none
  else none

/-- An entry has had its START in this frame. -/
def State.setBegun (s : State) (i : Nat) : State := { s with sched := { s.sched with begun := i :: s.sched.begun } }

/-- The body of an entry: chain time comes to its START; a failing schedule runs none of its entries (R17, R26). -/
def State.runEntry (s : State) (i kind : Nat) (body : Entry → State → State) : State :=
  match s.atStart i kind with
  | none => s
  | some e =>
    let s := (s.advanceTo (s.tickCt + BitVec.ofNat 64 (e.start * 512))).setBegun i
    if s.time.infForce then s.skip else body e s

/-- An entry is under way. -/
def State.setRunning (s : State) (i : Nat) : State :=
  if i ∈ s.sched.running then s else { s with sched := { s.sched with running := i :: s.sched.running } }
/-- An entry is complete. -/
def State.endRunning (s : State) (i : Nat) : State :=
  { s with sched := { s.sched with running := s.sched.running.filter (· ≠ i) } }

-- spaces and regions ---------------------------------------------------------------------------------------------------------------

/-- The size of one stack (R322). -/
def stackBytes : Nat := 2 ^ 35

/-- A stack that is present and has not failed training (R45, R324). -/
def State.hasStack (s : State) (k : Nat) : Bool := decide (k < s.res.vatStacks) && !s.vat.failed.getLsbD k
/-- A stack that is present and trained. -/
def State.stackUp (s : State) (k : Nat) : Bool := s.hasStack k && s.vat.trained.getLsbD k

/-- One region record. -/
def State.region (s : State) (r : Nat) : Region := SMap.get {} s.vat.regions r
def State.setRegion (s : State) (r : Nat) (g : Region) : State :=
  { s with vat := { s.vat with regions := SMap.set {} s.vat.regions r g } }

/-- A range lies wholly in a region's range of its space. -/
def Region.holds (g : Region) (vat : Bool) (lo hi : Nat) : Bool :=
  g.state != 0 && g.sram == !vat && decide (g.base ≤ lo ∧ hi ≤ g.base + g.size)

/-- A range touches a region. -/
def Region.touches (g : Region) (vat : Bool) (lo hi : Nat) : Bool :=
  g.state != 0 && g.sram == !vat && decide (g.base < hi ∧ lo < g.base + g.size)

/-- The defined region that holds an address, if any. -/
def State.regionAt (s : State) (vat : Bool) (a : Nat) : Option Nat :=
  (s.vat.regions.find? fun c => c.2.holds vat a (a + 1)).map (·.1)

/-- The code class of an address: 0 S, 1 M, 2 L; class M outside every region (R327, R330). -/
def State.classAt (s : State) (vat : Bool) (a : Nat) : Nat :=
  match s.regionAt vat a with | some r => (s.region r).cls.toNat | none => 1

/-- The address of the unit of the code that holds an address: the 64-byte block in class S, the 16-byte word otherwise. -/
def State.unitOf (s : State) (vat : Bool) (a : Nat) : Nat := if s.classAt vat a = 0 then a / 64 * 64 else a / 16 * 16

/-- Bytes of the unit. -/
def State.unitSize (s : State) (vat : Bool) (a : Nat) : Nat := if s.classAt vat a = 0 then 64 else 16

/-- A range is covered by ready regions (R330); the fuel is the number of regions. -/
def State.readyRange (s : State) (vat : Bool) (lo hi : Nat) : Nat → Bool
  | 0 => decide (hi ≤ lo)
  | n + 1 =>
    if hi ≤ lo then true
    else match s.regionAt vat lo with
      | some r => (s.region r).state == 2 && State.readyRange s vat ((s.region r).base + (s.region r).size) hi n
      | none => false

/-- [lo, hi) lies wholly in defined regions, ready or in init (R330, R332); fuel bounds the regions of a space. -/
def State.heldRange (s : State) (vat : Bool) (lo hi : Nat) : Nat → Bool
  | 0 => decide (hi ≤ lo)
  | n + 1 =>
    if hi ≤ lo then true
    else match s.regionAt vat lo with
      | some r => State.heldRange s vat ((s.region r).base + (s.region r).size) hi n
      | none => false

/-- A range touches a region that is in init. -/
def State.touchesInit (s : State) (vat : Bool) (lo hi : Nat) : Bool :=
  s.vat.regions.any fun c => c.2.touches vat lo hi && c.2.state == 1

/-- The release step of the memory that holds a window range, when the range lies in present memory (R431). -/
def State.windowStep (s : State) (lo hi : Nat) : Option Nat :=
  if 0x42000000 ≤ lo ∧ hi ≤ 0x43000000 then some 5
  else if 0x40000000 ≤ lo ∧ hi ≤ 0x40000000 + s.res.clusters * 0x200000 then some 5
  else if s.res.clusters = 16 ∧ 0x40000000 ≤ lo ∧ hi ≤ 0x43000000 then some 5
  else if 0x10000000 ≤ lo ∧ hi ≤ 0x10000000 + s.res.clusters * 0x100000 then some 11
  else none

/-- A vat range lies in stacks that are present and not failed (R432). -/
def State.vatRange (s : State) (lo hi : Nat) : Bool :=
  decide (lo < hi ∧ hi ≤ 4 * stackBytes) && (List.range 4).all fun k =>
    s.hasStack k || decide (hi ≤ k * stackBytes ∨ (k + 1) * stackBytes ≤ lo)

/-- The bytes of a space. -/
def State.mem (s : State) (vat : Bool) : List Host.Cell := if vat then s.vatMem else s.window
/-- A space's bytes replaced. -/
def State.setMem (s : State) (vat : Bool) (m : List Host.Cell) : State := if vat then { s with vatMem := m } else { s with window := m }

/-- The 128-bit word at an address: the byte at the lowest address is bits [7:0]. -/
def rdFlit (m : List Host.Cell) (a : Nat) : Flit := BitVec.ofNat 128 (leNat (rdBytes m a 16))
/-- 128-bit words from an address up. -/
def rdFlits (m : List Host.Cell) (a n : Nat) : List Flit := (List.range n).map fun i => rdFlit m (a + 16 * i)
/-- The bytes of 128-bit words, in address order. -/
def flitMem (fs : List Flit) : List Byte := fs.flatMap fun f => leBytes 16 f.toNat

-- poison, log, tracker ---------------------------------------------------------------------------------------------------------------

/-- The poison marks of a space. -/
def State.poison (s : State) (vat : Bool) : SMap Bool := if vat then s.vat.poisonVat else s.vat.poisonWin
/-- A space's poison marks replaced. -/
def State.setPoison (s : State) (vat : Bool) (p : SMap Bool) : State :=
  if vat then { s with vat := { s.vat with poisonVat := p } } else { s with vat := { s.vat with poisonWin := p } }

/-- The unit at an address is poisoned. -/
def State.isPoisoned (s : State) (vat : Bool) (unit : Nat) : Bool := SMap.get false (s.poison vat) unit

/-- A 128-bit word of a range is poisoned: its unit carries the mark. -/
def State.wordPoisoned (s : State) (vat : Bool) (a : Nat) : Bool := s.isPoisoned vat (s.unitOf vat a)

/-- Any word of a range is poisoned. -/
def State.anyPoison (s : State) (vat : Bool) (lo hi : Nat) : Bool :=
  (s.poison vat).any fun c => decide (c.1 < hi ∧ lo < c.1 + s.unitSize vat c.1)

/-- The region of an address as the log and the notices show it (0x3F for none). -/
def State.regionTag (s : State) (vat : Bool) (a : Nat) : Nat := (s.regionAt vat a).getD 0x3F

/-- The detail word of an IG event (R347). -/
def igDetail (entry region : Nat) : Word := at32 8 entry ||| at32 0 region

/-- One entry offered to the error log; the index it got, or 0x7F when 64 entries are held: from the 64th on the log sticks, is FULL and
counts what it loses (R344). -/
def State.logErr (s : State) (kind : Nat) (vat : Bool) (a src : Nat) (denied : Bool) (spare : Option Nat) : State × Nat :=
  let rg := s.regionTag vat a
  let n := s.vat.log.length
  if 64 ≤ n then (s.bump 0x420050 1, 0x7F)
  else
    let low := match spare with | some i => i * 16 | none => a / 2 ^ 32 % 32
    let e : LogEntry :=
      { w0 := BitVec.ofNat 32 a,
        w1 := at32 28 kind ||| bit32 27 (!vat) ||| at32 24 src ||| bit32 23 denied ||| at32 16 rg ||| BitVec.ofNat 32 low,
        w2 := lo32 s.time.ct.toNat, w3 := hi32 s.time.ct.toNat }
    let s : State := { s with vat := { s.vat with log := s.vat.log ++ [e] } }
    if n = 63 then (({ s with vat := { s.vat with logFull := true } } : State).raise 13 5 (igDetail 63 rg), 63) else (s, n)

/-- The tracker that an address belongs to: its stack, or 4 for SRAM (R337). -/
def trackerOf (vat : Bool) (a : Nat) : Nat := if vat then a / stackBytes else 4

/-- The entries of a tracker. -/
def State.tracks (s : State) (t : Nat) : List Track := SMap.get [] s.vat.tracker t
def State.setTracks (s : State) (t : Nat) (l : List Track) : State :=
  { s with vat := { s.vat with tracker := SMap.set [] s.vat.tracker t l } }

/-- The entry of an address. -/
def State.track (s : State) (vat : Bool) (a : Nat) : Option Track :=
  (s.tracks (trackerOf vat a)).find? fun t => t.vat == vat && t.addr == a

/-- The entry of an address freed. -/
def State.freeTrack (s : State) (vat : Bool) (a : Nat) : State :=
  let k := trackerOf vat a
  s.setTracks k ((s.tracks k).filter fun t => !(t.vat == vat && t.addr == a))

/-- The entry of an address as the one touched last. -/
def State.touchTrack (s : State) (t : Track) : State :=
  let s := s.freeTrack t.vat t.addr
  let k := trackerOf t.vat t.addr
  s.setTracks k (s.tracks k ++ [t])

-- row moves ------------------------------------------------------------------------------------------------------------------------------

/-- The first address of the row that holds a vat address (R323). -/
def rowBase (a : Nat) : Nat := a / 2 ^ 15 * 2 ^ 15 + a / 64 % 16 * 64

/-- A row move asked for: it starts, or waits for the one under way in its stack (R338, R339). The spare row is taken. -/
def State.queueMove (s : State) (m : RowMove) : State :=
  let k := m.addr / stackBytes
  let v := s.vat.take (bankKey m.addr) m.spare
  if (SMap.find s.vat.moves k).isSome then { s with vat := { v with waiting := v.waiting ++ [m] } }
  else { s with vat := { v with moves := SMap.put v.moves k m } }

/-- Row moves of a region not yet complete. -/
def State.movesOf (s : State) (r : Nat) : Nat :=
  count (fun m => decide (m.region = some r)) (s.vat.moves.map (·.2) ++ s.vat.waiting)

/-- A correction after a write-back: HARD_SUSPECT, and sparing where R338 allows it. -/
def State.hardSuspect (s : State) (vat : Bool) (a src : Nat) : State :=
  let s := s.freeTrack vat a
  let tag := s.regionTag vat a
  let can : Option Nat :=
    match s.regionAt vat a with
    | some r =>
      let g := s.region r
      if vat && g.spareEn && decide (g.spares + s.movesOf r < g.spareMax) then freeSpare s.vat (bankKey a) else none
    | none => none
  let (s, i) := s.logErr 4 vat a src can.isNone none
  let s := s.raise 13 3 (igDetail i tag)
  match can with
  | none => s
  | some sp => s.queueMove { addr := rowBase a, spare := sp, region := s.regionAt vat a, req := none }

-- reads ------------------------------------------------------------------------------------------------------------------------------------

/-- CE_LIMIT and WB_ON_CE at an address; 8 and 0 without a region (R337). -/
def State.ceLimit (s : State) (vat : Bool) (a : Nat) : Nat :=
  match s.regionAt vat a with | some r => (s.region r).ceLimit | none => 8
def State.wbOnCe (s : State) (vat : Bool) (a : Nat) : Bool :=
  match s.regionAt vat a with | some r => (s.region r).wbOnCe | none => false

/-- A correction: counted, raised and tracked by the table of R337. -/
def State.corrected (s : State) (vat : Bool) (a src : Nat) : State :=
  let tag := s.regionTag vat a
  let s := (s.bump 0x420040 1).raise 13 0 (igDetail 0x7F tag)
  let lim := s.ceLimit vat a
  let reach (s : State) (n : Nat) : State :=
    if n = lim then
      let (s, i) := s.logErr 3 vat a src false none
      let s := s.raise 13 2 (igDetail i tag)
      if s.wbOnCe vat a then { s with vat := { s.vat with writeBacks := s.vat.writeBacks ++ [(vat, a)] } } else s
    else s
  match s.track vat a with
  | some t =>
    if t.written then s.hardSuspect vat a src
    else if t.count < lim then reach (s.touchTrack { t with count := t.count + 1 }) (t.count + 1)
    else s.touchTrack t
  | none =>
    let k := trackerOf vat a
    let s := if 256 ≤ (s.tracks k).length then
        ((s.setTracks k ((s.tracks k).drop 1)).bump 0x420058 1).raise 13 6 (igDetail 0x7F tag)
      else s
    reach (s.touchTrack { vat, addr := a, count := 1, written := false }) 1

/-- An uncorrectable unit: the mark is written in place, the error counted, logged and raised, to the OWNER port too
(R334, R336). -/
def State.uncorrectable (s : State) (vat : Bool) (a src kind : Nat) : State :=
  let tag := s.regionTag vat a
  let s := s.setPoison vat (SMap.put (s.poison vat) a true)
  let s := s.bump 0x420048 1
  let (s, i) := s.logErr kind vat a src false none
  let s := s.raise 13 1 (igDetail i tag)
  let owner := match s.regionAt vat a with | some r => (s.region r).owner | none => s.f .igDefaultOwner 2 0
  if (s.port owner).mask.getLsbD 13 || s.boot.state == 2 then s else s.notifyPorts [owner] 13 1 (igDetail i tag)

/-- A word outside every region still carries the tag of a region that was deleted or moved away (R336). -/
def State.staleTag (s : State) (vat : Bool) (a : Nat) : Bool :=
  !vat && (s.regionAt vat a).isNone && s.vat.stale.any fun r => decide (r.1 ≤ a ∧ a < r.2)

/-- Words of a window range are written with the tag of their place (R332, R335). -/
def State.retag (s : State) (vat : Bool) (lo hi : Nat) : State :=
  if vat || s.vat.stale.isEmpty then s
  else { s with vat := { s.vat with stale := s.vat.stale.flatMap fun r =>
    [(r.1, min r.2 lo), (max r.1 hi, r.2)].filter fun p => decide (p.1 < p.2) } }

/-- The outcome that a read of one unit met, from the findings that came with the command; class L corrects nothing and only
class M has tags (R328, R336). -/
def State.outcome (s : State) (vat : Bool) (a : Nat) (found : List Finding) : Option FindingKind :=
  match found.find? fun f => f.vat == vat && s.unitOf vat f.addr == a with
  | some f =>
    match f.kind with
    | .corrected => if s.classAt vat a = 2 then none else some .corrected
    | .uncorrectable => some .uncorrectable
    | .tag => if s.classAt vat a = 1 then some .tag else none
    | .miscorrected => if s.classAt vat a = 0 then some .corrected else none
    | .allParity => none
  | none => if s.staleTag vat a then some .tag else none

/-- What a read finds in the cells before it decodes them: a miscorrected block holds other data, which is not given (R328); a class-L word
in which every byte fails parity is a poisoned one (R329). -/
def State.meetCells (s : State) (vat : Bool) (a : Nat) (found : List Finding) : State :=
  match found.find? fun f => f.vat == vat && s.unitOf vat f.addr == a with
  | some f =>
    match f.kind with
    | .miscorrected =>
      if s.classAt vat a ≠ 0 ∨ s.isPoisoned vat a = true then s
      else
        let bytes : List Byte := (List.range 64).map fun i => BitVec.ofNat 8 (Config.freeNat (s.free + i))
        { s.setMem vat (wrBytes (s.mem vat) a bytes) with free := s.free + 64 }
    | .allParity => if s.classAt vat a = 2 then s.setPoison vat (SMap.put (s.poison vat) a true) else s
    | _ => s
  | none => s

/-- One unit read by a source of R344: clean, corrected, uncorrectable or poisoned (R329, R334, R336, R337). -/
def State.readUnit (s : State) (vat : Bool) (a src : Nat) (found : List Finding) : State :=
  let s := s.meetCells vat a found
  if s.isPoisoned vat a then s.bump 0x420068 1
  else match s.outcome vat a found with
    | some .corrected => s.corrected vat a src
    | some .uncorrectable => (s.uncorrectable vat a src 1).bump 0x420068 1
    | some .tag => (s.uncorrectable vat a src 2).bump 0x420068 1
    | _ =>
      match s.track vat a with
      | some t => if t.written then s.freeTrack vat a else s
      | none => s

/-- The units of a range whose read does more than return data: those with findings, marks or tracker entries. -/
def State.units (s : State) (vat : Bool) (lo hi : Nat) (found : List Finding) : List Nat :=
  let all := (found.filter fun f => f.vat == vat).map (fun f => s.unitOf vat f.addr) ++ (s.poison vat).map (·.1) ++
    (s.vat.tracker.flatMap fun c => (c.2.filter fun t => t.vat == vat).map (·.addr)) ++
    (if vat then [] else s.vat.stale.flatMap fun r =>
      (List.range ((min r.2 hi - max r.1 lo / 16 * 16 + 15) / 16)).map fun i => max r.1 lo / 16 * 16 + 16 * i)
  sortBy (fun x y => decide (x ≤ y)) ((all.filter fun u => decide (u < hi ∧ lo < u + s.unitSize vat u)).eraseDups)

/-- Units read one after another. -/
def State.readUnits (s : State) (vat : Bool) (src : Nat) (found : List Finding) : List Nat → State
  | [] => s
  | u :: us => State.readUnits (s.readUnit vat u src found) vat src found us

/-- A range read: what the memory does; the data stands in the memory, its poison in the marks. -/
def State.readRange (s : State) (vat : Bool) (lo hi src : Nat) (found : List Finding) : State :=
  s.readUnits vat src found (s.units vat lo hi found)

-- writes -------------------------------------------------------------------------------------------------------------------------------------

/-- A write reaches a unit: its tracker entry is freed and a write-back that waits for it is not made (R337). -/
def State.writtenUnit (s : State) (vat : Bool) (a : Nat) : State :=
  let s := s.freeTrack vat a
  { s with vat := { s.vat with writeBacks := s.vat.writeBacks.filter (· ≠ (vat, a)) } }

/-- The read of a class-S read-modify-write (R333): the block stays poisoned where it was, or becomes so, logged with source
RMW. -/
def State.rmwRead (s : State) (vat : Bool) (a : Nat) (found : List Finding) : State :=
  let s := (s.bump 0x420060 1).meetCells vat a found
  if s.isPoisoned vat a then s
  else match s.outcome vat a found with
    | some .corrected => s.corrected vat a 3
    | some .uncorrectable => s.uncorrectable vat a 3 1
    | _ => s

/-- The mark of a word that came from a bank with OVF (R260). -/
def ovfKey (vat : Bool) (a : Nat) : Nat := a / 16 * 2 + vat.toNat
def State.ovfAt (s : State) (vat : Bool) (a : Nat) : Bool := (SMap.find s.engines.ovfMem (ovfKey vat a)).isSome
def State.markOvf (s : State) (vat : Bool) (a : Nat) : State :=
  { s with engines := { s.engines with ovfMem := SMap.put s.engines.ovfMem (ovfKey vat a) true } }

/-- Words that a write covers in part or whole hold its data, and come from no bank (R260). -/
def State.clearOvf (s : State) (vat : Bool) (lo hi : Nat) : State :=
  { s with engines := { s.engines with ovfMem := s.engines.ovfMem.filter fun c =>
      !(c.1 % 2 == vat.toNat && decide (c.1 / 2 * 16 < hi ∧ lo < c.1 / 2 * 16 + 16)) } }

/-- Poison marks and tags of the units that a write covers whole are replaced by valid codes (R335). -/
def State.clearPoison (s : State) (vat : Bool) (lo hi : Nat) : State :=
  let s := (s.clearOvf vat lo hi).retag vat lo hi
  s.setPoison vat ((s.poison vat).filter fun c => !(decide (lo ≤ c.1 ∧ c.1 + s.unitSize vat c.1 ≤ hi)))

/-- The class-S blocks that a range covers in part: at most its first and its last. -/
def State.partials (s : State) (vat : Bool) (lo hi : Nat) : List Nat :=
  ([lo / 64 * 64, (hi - 1) / 64 * 64].eraseDups).filter fun b =>
    s.classAt vat b = 0 && (decide (b < lo) || decide (hi < b + 64))

/-- Read-modify-write reads of several blocks. -/
def State.rmwReads (s : State) (vat : Bool) (found : List Finding) : List Nat → State
  | [] => s
  | b :: bs => State.rmwReads (s.rmwRead vat b found) vat found bs

/-- Tracker entries of the units of a range freed. -/
def State.freeRange (s : State) (vat : Bool) (lo hi : Nat) : State :=
  let hit (a : Nat) : Bool := decide (a < hi ∧ lo < a + s.unitSize vat a)
  { s with vat := { s.vat with
      tracker := (s.vat.tracker.map fun c => (c.1, c.2.filter fun t => !(t.vat == vat && hit t.addr))).filter fun c => c.2 ≠ [],
      writeBacks := s.vat.writeBacks.filter fun w => !(w.1 == vat && hit w.2) } }

/-- Bytes written from an address up by any client (R333, R335, R337). -/
def State.writeRange (s : State) (vat : Bool) (a : Nat) (bytes : List Byte) (found : List Finding) : State :=
  if bytes = [] then s
  else
    let hi := a + bytes.length
    let s := s.rmwReads vat found (s.partials vat a hi)
    let s := (s.freeRange vat a hi).clearPoison vat a hi
    s.setMem vat (wrBytes (s.mem vat) a bytes)

/-- A unit marked poisoned by a client that writes poisoned data (R260). -/
def State.markPoison (s : State) (vat : Bool) (a : Nat) : State := s.setPoison vat (SMap.put (s.poison vat) (s.unitOf vat a) true)

-- MEM_READ, MEM_WRITE, READ_MODIFY_WRITE, WRITE_BACK -----------------------------------------------------------------------------------------

/-- What stops an access of the memory commands, if anything (R78, R120, R330, R332, R432). -/
def State.memStop (s : State) (vat : Bool) (lo n : Nat) : Option Status :=
  let hi := lo + 4 * n
  if lo % 16 ≠ 0 ∨ n < 4 ∨ 1024 < n ∨ n % 4 ≠ 0 then some .outOfRange
  else if vat then
    if !s.vatRange lo hi then some .outOfRange
    else if !s.rel 6 then some .clockStopped
    else if !s.heldRange true lo hi 64 then some .outOfRange
    else if s.touchesInit true lo hi then some .busy
    else none
  else match s.windowStep lo hi with
    | none => some .outOfRange
    | some k => if !s.rel k then some .clockStopped else if s.touchesInit false lo hi then some .busy else none

/-- The address of words 0 and 1: word 1 is zero for the window space (R120). -/
def memAddr (r : Req) : Option (Bool × Nat) :=
  if r.p 0 0 = 1 then some (true, (r.w 1).toNat * 2 ^ 32 + (r.w 0).toNat)
  else if r.w 1 = 0 then some (false, (r.w 0).toNat) else none

/-- 32-bit words of memory, the byte at the lowest address lowest. -/
def rdWords (m : List Host.Cell) (a n : Nat) : List Word := (List.range n).map fun i => BitVec.ofNat 32 (leNat (rdBytes m (a + 4 * i) 4))

/-- MEM_READ: every word is returned; POISONED names the first poisoned 128-bit word (R120). -/
def execMemRead (r : Req) (found : List Finding) (s : State) : Res :=
  .next (s.runOp 0x200 r true fun s =>
    match memAddr r with
    | none => no s .outOfRange
    | some (vat, a) =>
      let n := (r.w 2).toNat
      match s.memStop vat a n with
      | some st => no s st
      | none =>
        let s := s.readRange vat a (a + 4 * n) 1 found
        let ws := rdWords (s.mem vat) a n
        match (List.range (n / 4)).find? fun i => s.wordPoisoned vat (a + 16 * i) with
        | some i => (s, some { status := .poisoned, param := i, payload := ws })
        | none => tell s ws)

/-- MEM_WRITE (R120, R333, R335). -/
def execMemWrite (r : Req) (found : List Finding) (s : State) : Res :=
  .next (s.runOp 0x201 r true fun s =>
    match memAddr r with
    | none => no s .outOfRange
    | some (vat, a) =>
      match s.memStop vat a (r.len - 2) with
      | some st => no s st
      | none => yes (s.writeRange vat a ((r.payload.drop 2).flatMap fun w => leBytes 4 w.toNat) found))

/-- READ_MODIFY_WRITE: a partial write of one class-S block by any client: bytes by their offset in the block (R333). -/
def execReadModifyWrite (vat : Bool) (addr : Nat) (bytes : List (Nat × Byte)) (found : List Finding) (s : State) : Res :=
  .next (
    let b := addr / 64 * 64
    if s.classAt vat b ≠ 0 ∨ s.regionAt vat b = none ∨ (s.region (s.regionTag vat b)).state ≠ 2 ∨ bytes = [] then s
    else
      let s := (s.rmwRead vat b found).writtenUnit vat b
      s.setMem vat (bytes.foldl (fun m c => wrByte m (b + c.1 % 64) c.2) (s.mem vat)))

/-- WRITE_BACK: a waiting write-back is made once its block is free; the entry goes to WRITTEN_BACK (R337). -/
def execWriteBack (vat : Bool) (addr : Nat) (s : State) : Res :=
  .next (if (vat, addr) ∈ s.vat.writeBacks then
      let s := { s with vat := { s.vat with writeBacks := s.vat.writeBacks.filter (· ≠ (vat, addr)) } }
      let s := if s.classAt vat addr = 0 then s.bump 0x420060 1 else s
      match s.track vat addr with
      | some t => s.touchTrack { t with written := true }
      | none => s
    else s)

-- SPARE_ROW ------------------------------------------------------------------------------------------------------------------------------------

/-- SPARE_ROW (R340); the reply follows completion. -/
def execSpareRow (r : Req) (s : State) : Res :=
  .next (s.runOp 0x212 r true fun s =>
    let a := (r.w 1).toNat * 2 ^ 32 + (r.w 0).toNat
    if 2 ^ 37 ≤ a ∨ a / stackBytes ≥ s.res.vatStacks then no s .outOfRange
    else if !s.rel 6 then no s .clockStopped
    else if !s.stackUp (a / stackBytes) then no s .outOfRange
    else match freeSpare s.vat (bankKey a) with
      | none => no s .stateRefused
      | some sp =>
        if (SMap.find s.vat.moves (a / stackBytes)).isSome then no s .busy
        else (s.queueMove { addr := rowBase a, spare := sp, region := none, req := some r }, none))

/-- The lowest index of the soft spare table that holds the row, else the lowest invalid one (R345). -/
def softIndex (t : SMap SoftEntry) (e : SoftEntry) : Nat :=
  match t.find? fun c => c.2.stack == e.stack && c.2.channel == e.channel && c.2.bank == e.bank && c.2.row == e.row with
  | some c => c.1
  | none => ((List.range 4096).find? fun i => (SMap.find t i).isNone).getD 0

/-- The 32 blocks of a row (R323). -/
def rowBlocks (a : Nat) : List Nat := (List.range 32).map fun i => a + 1024 * i

/-- A block copied by a row move: an uncorrectable one is copied with the mark (R339). -/
def State.copyUnits (s : State) (found : List Finding) : List Nat → State
  | [] => s
  | b :: bs =>
    let us := if s.classAt true b = 0 then [b] else [b, b + 16, b + 32, b + 48]
    let s := us.foldl (fun s u =>
      let s := s.meetCells true u found
      if s.isPoisoned true u then s else
      match s.outcome true u found with
      | some .uncorrectable => s.uncorrectable true u 3 1
      | some .tag => s.uncorrectable true u 3 2
      | some .corrected => s.corrected true u 3
      | _ => s) s
    State.copyUnits s found bs

/-- ROW_MOVE_DONE: the move of a stack completes; the soft spare is recorded, IG_SPARED raised, SPARED logged for a move of R338,
the reply of SPARE_ROW sent, and the next waiting move of the stack starts (R338 to R340, R345). -/
def execRowMoveDone (stack : Nat) (found : List Finding) (s : State) : Res :=
  .next (match SMap.find s.vat.moves stack with
    | none => s
    | some m =>
      let s := s.copyUnits found (rowBlocks m.addr)
      let s := (rowBlocks m.addr).foldl (fun s b => s.freeRange true b (b + 64)) s
      let e : SoftEntry := { stack, channel := m.addr / 64 % 16, bank := m.addr / 2 ^ 15 % 16, row := m.addr / 2 ^ 19 % 65536, spare := m.spare }
      let s := { s with vat := { s.vat with soft := SMap.put s.vat.soft (softIndex s.vat.soft e) e, moves := SMap.erase s.vat.moves stack } }
      let tag := s.regionTag true m.addr
      let (s, i) := match m.region with
        | some r =>
          let s := if (s.region r).state = 0 then s else s.setRegion r { s.region r with spares := (s.region r).spares + 1 }
          s.logErr 5 true m.addr 3 false (some m.spare)
        | none => (s, 0x7F)
      let s := s.raise 13 4 (igDetail i tag)
      let s := match s.vat.waiting.find? fun w => w.addr / stackBytes == stack with
        | some w =>
          { s with vat := { s.vat with waiting := s.vat.waiting.erase w, moves := SMap.put s.vat.moves stack w } }
        | none => s
      match m.req with
      | some q => s.reply 0x212 q { status := .ok, param := m.spare }
      | none => s)

-- the scrubber -----------------------------------------------------------------------------------------------------------------------------------

/-- The ranges that scrubber k walks, ascending: ready regions of its stack with SCRUB; for scrubber 0 all SRAM, at 2^37 and above
(R342, R343). -/
def State.scrubRanges (s : State) (k : Nat) : List (Nat × Nat) :=
  let lo := k * stackBytes
  let hi := lo + stackBytes
  let rs := (s.vat.regions.filter fun c => c.2.state == 2 && !c.2.sram && c.2.scrub && decide (c.2.base < hi ∧ lo < c.2.base + c.2.size)).map
    fun c => (max lo c.2.base, min hi (c.2.base + c.2.size))
  let rs := sortBy (fun x y => decide (x.1 ≤ y.1)) rs
  let n := s.res.clusters
  if k = 0 then
    rs ++ (if n = 0 then [] else [(2 ^ 37 + 0x10000000, 2 ^ 37 + 0x10000000 + n * 0x100000),
                                  (2 ^ 37 + 0x40000000, 2 ^ 37 + 0x40000000 + n * 0x200000)]) ++ [(2 ^ 37 + 0x42000000, 2 ^ 37 + 0x43000000)]
  else rs

/-- The pieces that the next n blocks from a cursor cover, the cursor after them, which stands at a block of a range, and the wraps on the
way; one unit of fuel is one piece or one wrap (R343). -/
def scrubWalk (rs : List (Nat × Nat)) : Nat → Nat → Nat → List (Nat × Nat) × Nat × Nat
  | 0, cur, _ => ([], cur, 0)
  | fuel + 1, cur, n =>
    match rs.find? fun r => decide (cur < r.2) with
    | none =>
      match rs with
      | [] => ([], cur, 0)
      | r :: _ => let (ps, c, w) := scrubWalk rs fuel r.1 n; (ps, c, w + 1)
    | some r =>
      let lo := max cur r.1
      if n = 0 then ([], lo, 0)
      else
        let m := min n ((r.2 - lo) / 64)
        let (ps, c, w) := scrubWalk rs fuel (lo + 64 * m) (n - m)
        ((lo, lo + 64 * m) :: ps, c, w)

/-- One unit under the scrubber: a correction is written back at once and tracked as such (R343). -/
def State.scrubUnit (s : State) (vat : Bool) (found : List Finding) (a : Nat) : State :=
  let s := s.meetCells vat a found
  if s.isPoisoned vat a then s
  else match s.outcome vat a found with
    | some .corrected =>
      let s := s.corrected vat a 2
      let s := if s.classAt vat a = 0 then s.bump 0x420060 1 else s
      let s := { s with vat := { s.vat with writeBacks := s.vat.writeBacks.filter (· ≠ (vat, a)) } }
      (match s.track vat a with | some t => s.touchTrack { t with written := true } | none => s)
    | some .uncorrectable => s.uncorrectable vat a 2 1
    | some .tag => s.uncorrectable vat a 2 2
    | _ => (match s.track vat a with | some t => if t.written then s.freeTrack vat a else s | none => s)

/-- Pieces scrubbed one after another. -/
def State.scrubPieces (s : State) (found : List Finding) : List (Nat × Nat) → State
  | [] => s
  | (lo, hi) :: ps =>
    let vat := decide (lo < 2 ^ 37)
    let off := if vat then 0 else 2 ^ 37
    let s := (s.units vat (lo - off) (hi - off) found).foldl (fun s u => s.scrubUnit vat found u) s
    State.scrubPieces s found ps

/-- SCRUB_STEP: the next B blocks of the scrubber, in the frames that SKIP leaves (R342, R343). -/
def execScrubStep (entry : Nat) (found : List Finding) (s : State) : Res :=
  .next (s.runEntry entry 4 fun e s =>
    let b := fld e.w3 15 0
    let skip := fld e.w3 31 16
    if s.time.fn.toNat % (skip + 1) ≠ 0 then s
    else
      let k := e.idx
      let rs := s.scrubRanges k
      let (ps, cur, wraps) := scrubWalk rs (2 * b + 4) (SMap.get 0 s.vat.cursors k) b
      let s := s.scrubPieces found ps
      let n := (ps.map fun p => (p.2 - p.1) / 64).sum
      let s := (s.bump 0x420070 n).bump 0x420078 wraps
      { s with vat := { s.vat with cursors := SMap.set 0 s.vat.cursors k cur } })

-- training and temperature -----------------------------------------------------------------------------------------------------------------------

/-- STACK_TRAINING_DONE (R324). -/
def execStackTrainingDone (stack : Nat) (ok : Bool) (s : State) : Res :=
  .next (if !s.rel 6 || decide (s.res.vatStacks ≤ stack) || s.vat.trained.getLsbD stack || s.vat.failed.getLsbD stack then s
    else if ok then { s with vat := { s.vat with trained := s.vat.trained ||| BitVec.ofNat 4 (2 ^ stack) } }
    else ({ s with vat := { s.vat with failed := s.vat.failed ||| BitVec.ofNat 4 (2 ^ stack) } } : State).raise 12 0 0)

/-- STACK_TEMP_READ: HOT above 85 °C until below 80 °C, in units of 0.0625 °C (R325). -/
def execStackTempRead (stack : Nat) (value : BitVec 16) (s : State) : Res :=
  .next (if !s.rel 6 || !s.hasStack stack then s
    else
      let s := { s with vat := { s.vat with temps := SMap.set 0 s.vat.temps stack value } }
      let bit := BitVec.ofNat 4 (2 ^ stack)
      if 1360 < value.toInt ∧ s.vat.hot.getLsbD stack = false then
        ({ s with vat := { s.vat with hot := s.vat.hot ||| bit } } : State).raise 12 2 0
      else if value.toInt < 1280 then { s with vat := { s.vat with hot := s.vat.hot &&& ~~~bit } }
      else s)

end Sys2Proof.Machine
end

