-- ==== Sys2Proof/Machine/Chan.lean ====
section
/-!
DEFINITION. The channel array and mordant: samples, ranges and INV intervals (R162 to R170), stops (R171 to R178), bias enables
(R179), sample and stamp correction (R185 to R187), self-calibration (R189 to R192).
-/
namespace Sys2Proof.Machine

/-- One channel's record. -/
def State.chan (s : State) (n : Nat) : Chan := SMap.get {} s.chans n
def State.setChan (s : State) (n : Nat) (c : Chan) : State := { s with chans := SMap.set {} s.chans n c }

/-- The even channel of a pair interleaves in force (R165). -/
def State.paired (s : State) (n : Nat) : Bool := s.b (.caChCfg (n / 2 * 2)) 7
/-- The channel whose settings govern a digitiser (R165). -/
def State.governor (s : State) (n : Nat) : Nat := if s.paired n then n / 2 * 2 else n
/-- The channel is enabled in force and is not the odd channel of a pair. -/
def State.chanOn (s : State) (n : Nat) : Bool :=
  s.rel 9 && decide (n < s.res.channels) && s.b (.caChCfg n) 0 && !(s.paired n && decide (n % 2 = 1))

/-- The length of an INV interval in fine units: 2,048 ns after an enable, 16 ns after a range change (R166). -/
def invLength : InvCause → Nat
  | .enable => 1048576
  | .range => 8192

/-- An INV interval runs at an instant. -/
def Chan.invAt (c : Chan) (t : CT) : Bool :=
  match c.inv with
  | some cause => decide (ctDiff t (c.invFrom + BitVec.ofNat 64 (invLength cause)) < 0)
  | none => false

/-- An INV interval starts, or restarts where one runs; an enable's interval that restarts keeps its full length (R166). -/
def Chan.startInv (c : Chan) (cause : InvCause) (t : CT) : Chan :=
  let long := decide (cause = .enable) || (decide (c.inv = some .enable) && c.invAt t)
  { c with inv := some (if long then .enable else .range), invFrom := t, drop := long }

/-- OVR_MARGIN in force. -/
def State.ovrMargin (s : State) (n : Nat) : Nat := s.f (.caChAuto n) 11 0

/-- A code in the over-range margin (R168). -/
def overRange (margin code : Nat) : Bool := decide (code ≤ margin ∨ 4095 - margin ≤ code)

-- mordant: samples ---------------------------------------------------------------------------------------------------------------------

/-- Offset and gain of a sample, which come from the digitiser that took it (R185). -/
def gainStep (s : State) (dig range code : Nat) : Int :=
  let d : Int := code * 16 - 32768 - sx 16 (s.f (.mdChOffset dig range) 15 0)
  d * (s.f (.mdChGain dig range) 15 0 : Nat) / 32768

/-- Two neighbours count for a sample's term: neither is INV and both have its range (R186). -/
def neighbours (x a b : RawSample) : Bool := !a.inv && !b.inv && a.range == x.range && b.range == x.range

/-- The interleave step on an odd sample between two even ones (R185). -/
def ilvStep (x a b : RawSample) : Int :=
  if neighbours x a b then x.e - sx 8 x.ilv * (b.e - a.e) / 256 else x.e

/-- The term of a step by the constant k whose neighbour the stream does not have: nothing where k is 0, and otherwise a value that the
manual does not state. -/
def loneTerm (k free : Nat) : Int := if k = 0 then 0 else (free % 65536 : Nat) - 32768

/-- A neighbour that makes a term zero: it is INV or of another range (R186). -/
def voids (x : RawSample) (n : Option RawSample) : Bool := n.any fun a => a.inv || a.range != x.range

/-- The skew step and the saturation: the sample that leaves mordant, and whether it saturated (R185, R186). -/
def skewStep (span free : Nat) (x : RawSample) (prev next : Option RawSample) : Sample × Bool :=
  let term : Int :=
    if voids x prev || voids x next then 0
    else match prev, next with
      | some a, some b => sx 8 x.skew * (b.z.getD 0 - a.z.getD 0) / span
      | _, _ => loneTerm x.skew free
  let y := x.z.getD 0 - term
  ({ ct := x.ct, y := sat 16 y, range := x.range, inv := x.inv, rc := x.rc, ovr := x.ovr }, decide (sat 16 y ≠ y))

/-- The interleave values that a new sample settles: its own when even, and that of the odd sample before it; an odd sample that starts its
stream has no even one before it. -/
def settleIlv (first : Bool) (free : Nat) : List RawSample → List RawSample
  | [x, b] =>
    if first && x.odd && x.z.isNone && b.z.isSome then
      [{ x with z := some (if voids x (some b) then x.e else x.e - loneTerm x.ilv free) }, b]
    else [x, b]
  | [a, x, b] => if x.odd && x.z.isNone && b.z.isSome then [a, { x with z := some (ilvStep x a b) }, b] else [a, x, b]
  | a :: rest => a :: settleIlv false free rest
  | [] => []

/-- Samples that can be corrected now, each with both neighbours settled; the one corrected last and those that wait on. -/
def correct (span free : Nat) (prev : Option RawSample) : List RawSample → List (Sample × Bool) × Option RawSample × List RawSample
  | x :: y :: rest =>
    if x.z.isSome && y.z.isSome then
      let (out, p, keep) := correct span free (some x) (y :: rest)
      (skewStep span free x prev (some y) :: out, p, keep)
    else ([], prev, x :: y :: rest)
  | l => ([], prev, l)

/-- Samples at the end of a stream: those that wait are corrected without the neighbours that do not come. -/
def finish (span free : Nat) (prev : Option RawSample) : List RawSample → List (Sample × Bool)
  | [] => []
  | x :: rest =>
    let x := { x with z := some (x.z.getD (if voids x prev then x.e else x.e - loneTerm x.ilv free)) }
    skewStep span free x prev rest.head? :: finish span free (some x) rest

/-- A stream that ends: what waits leaves it (R185). -/
def Chan.flush (c : Chan) (span free : Nat) : Chan × List (Sample × Bool) :=
  let done := finish span free c.prior c.raw
  ({ c with raw := [], prior := none, lastEven := none, lastOdd := none, history := ((done.map (·.1)).reverse ++ c.history).take 1024 }, done)

/-- The next sample instant of a digitiser: one grid step after its last one, or the first grid instant from now on (R164, R165). -/
def sampleInstant (now : CT) (last : Option CT) (phase : Nat) : CT :=
  let fresh := now + BitVec.ofNat 64 ((256 + phase - now.toNat % 256) % 256)
  match last with
  | some l => if ctDiff (l + 256) now < 0 then fresh else l + 256
  | none => fresh

/-- What a sample of a digitiser does in the channel array and in mordant: the corrected samples that it releases, for the
channel that governs it (R164 to R168, R185, R186). -/
def State.takeSample (s : State) (dig : Nat) (code : BitVec 12) : State × List Sample :=
  let ch := s.governor dig
  let odd := s.paired dig && decide (dig % 2 = 1)
  let c := s.chan ch
  let t := sampleInstant s.time.ct (if odd then c.lastOdd else c.lastEven) (if odd then 128 else 0)
  let s := s.advanceTo t
  let m := s.ovrMargin ch
  let inv := c.invAt t
  let ovr := overRange m code.toNat
  let drop := s.b (.caChCfg ch) 6 && !inv && ovr && c.range != 0 && !c.dropping
  let inner := decide (1024 + m ≤ code.toNat ∧ code.toNat ≤ 3071 - m)
  let e := gainStep s dig c.range.toNat code.toNat
  let x : RawSample := { ct := t, code, e, z := if odd then none else some e, range := c.range, inv, rc := inv && !c.drop, ovr, odd,
                            ilv := s.f (.mdChIlv ch) 7 0, skew := s.f (.mdChSkew ch) 7 0 }
  let span := if s.paired dig then 256 else 512
  let (done, prior, keep) := correct span s.freeVal c.prior (settleIlv c.prior.isNone s.freeVal (c.raw ++ [x]))
  let s := if c.prior.isNone then s.draw else s
  let c := { c with raw := keep, prior, lastEven := if odd then c.lastEven else some t, lastOdd := if odd then some t else c.lastOdd,
                    dropping := c.dropping || drop, dropDue := c.dropDue || drop, quietNow := c.quietNow && inner,
                    history := ((done.map (·.1)).reverse ++ c.history).take 1024 }
  let s := s.setChan ch c
  let s := if ovr && c.range == 0 && !inv then (s.bump (0x100060 + ch * 0x400) 1).raise 6 0 (at32 0 ch) else s
  let s := if done.any (·.2) then s.raise 7 0 (at32 0 ch) else s
  (s, done.map (·.1))

/-- One entry of a channel's mark log: the last 64 changes are kept (R225). -/
def State.logMark (s : State) (ch kind : Nat) (t : CT) (range : BitVec 2) (samples : Nat) : State :=
  let l := SMap.get [] s.rennet.log ch
  let m : Mark := { ct := t, kind := BitVec.ofNat 2 kind, range, samples }
  { s with rennet := { s.rennet with log := SMap.set [] s.rennet.log ch ((l ++ [m]).drop (l.length + 1 - 64)) } }

/-- Samples of an INV interval of a channel at its rate (R166). -/
def State.invSamples (s : State) (ch : Nat) (cause : InvCause) : Nat := invLength cause / (if s.paired ch then 128 else 256)

-- range ----------------------------------------------------------------------------------------------------------------------------------

/-- AUTORANGE_DROP: a detected drop is switched: one step towards range 0, an INV interval opens (R168). -/
def autorangeDrop (ch : Nat) (s : State) : Res :=
  let c := s.chan ch
  .next (if !s.chanOn ch || !c.dropDue || c.range == 0 then s
    else
      let c := { (c.startInv .range s.time.ct) with range := c.range - 1, dropDue := false, dropping := true, quiet := 0, quietNow := false }
      ((s.setChan ch c).logMark ch 1 s.time.ct c.range (s.invSamples ch (c.inv.getD .range))).bump (0x100068 + ch * 0x400) 1)

/-- AUTORANGE_RISE: one step up at a tick after RETURN_FRAMES quiet frames, never above the written RANGE (R170). -/
def autorangeRise (ch : Nat) (s : State) : Res :=
  let c := s.chan ch
  let n := s.f (.caChAuto ch) 23 16
  .next (if s.chanOn ch && s.b (.caChCfg ch) 6 && decide (n ≠ 0 ∧ n ≤ c.quiet ∧ c.range.toNat < s.f (.caChCfg ch) 5 4) then
      let c := { (c.startInv .range s.tickCt) with range := c.range + 1, quiet := 0 }
      (s.setChan ch c).logMark ch 1 s.tickCt c.range (s.invSamples ch (c.inv.getD .range))
    else s)

/-- INV_INTERVAL_END: the interval runs its full length from its last start (R166). -/
def execInvIntervalEnd (ch : Nat) (s : State) : Res :=
  let c := s.chan ch
  .next (match c.inv with
    | none => s
    | some cause =>
      (s.advanceTo (c.invFrom + BitVec.ofNat 64 (invLength cause))).setChan ch
        { c with inv := none, drop := false, dropping := c.dropDue })

-- stops --------------------------------------------------------------------------------------------------------------------------------------

/-- The raw stamp of a stop in fine units from its tick (R174). -/
def Stop.raw (p : Stop) : Nat := (p.cycle.toNat * 4096 + p.coarse.toNat) * 512 + p.bin.toNat

/-- Chain time of a stop's raw stamp. -/
def Stop.ct (p : Stop) : CT := BitVec.ofNat 64 (p.tick.toNat * 512 + p.raw)

/-- bin_table[p][b] (R187). -/
def binTable (s : State) (ch p b : Nat) : Nat :=
  let w := s.reg (.mdBin ch p (b / 2))
  if b % 2 = 1 then fld w 24 16 else fld w 8 0

/-- The corrected stamp, in fine units from the tick (R187). -/
def correctStamp (s : State) (ch : Nat) (p : Stop) : Int :=
  let path := if p.trailing then 1 else 0
  let base : Int := ((p.cycle.toNat * 4096 + p.coarse.toNat) * 512 + binTable s ch path p.bin.toNat : Nat)
  let t := base + sx 16 (s.f (.mdChSkew ch) 31 16)
  if p.trailing then t + sx 8 (s.f (.mdChSkew ch) 15 8) else t

/-- The last element of a list that has a property, replaced. -/
def modLast {α : Type} (ok : α → Bool) (f : α → α) (l : List α) : List α :=
  let r := l.reverse
  (r.modify (r.findIdx ok) f).reverse

/-- A stop leaves the FIFO through mordant: a timing stop waits as a hit and ends the wait of those before it, a trailing stop
is paired with the last one (R187, R196). -/
def State.passStop (s : State) (ch : Nat) (p : Stop) : State :=
  let c := s.chan ch
  if p.trailing then
    let pair (h : OpenHit) : OpenHit :=
      let dt : Int := ((p.tick.toNat : Int) - h.stop.tick.toNat) * 512 + p.corrected - h.stop.corrected
      if h.closed || h.tot.isSome || decide (dt ≤ 0 ∨ (h.stop.wait : Int) * 8192 < dt) then h
      else { h with tot := some (min (max (dt / 8).toNat 1) 0xFFFF), closed := true }
    s.setChan ch { c with hits := modLast (fun _ => true) pair c.hits }
  else s.setChan ch { c with hits := c.hits.map (fun o => { o with closed := true }) ++ [{ stop := p, closed := p.trailLost }] }

/-- A trailing stop was lost: the hit of the last timing stop gets none (R196). -/
def Chan.loseTrail (c : Chan) : Chan :=
  if c.fifo.any (!·.trailing) then { c with fifo := modLast (!·.trailing) (fun p => { p with trailLost := true }) c.fifo }
  else { c with hits := modLast (fun _ => true) (fun h => { h with closed := true }) c.hits }

/-- Stops that have left the FIFO by an instant: one every 8 ns (R176). -/
def State.drainStops (s : State) (ch : Nat) (now : Option CT) : Nat → State
  | 0 => s
  | n + 1 =>
    let c := s.chan ch
    match c.fifo with
    | [] => s
    | p :: ps =>
      let ready := match c.drained with
        | some d => if ctDiff p.ct (d + 4096) < 0 then d + 4096 else p.ct
        | none => p.ct
      if (match now with | some t => decide (ctDiff ready t ≤ 0) | none => true) then
        State.drainStops ((s.setChan ch { c with fifo := ps, drained := some ready }).passStop ch p) ch now n
      else s

/-- A stop that the TDC of a channel takes in at its raw stamp, with what its frame has in force (R174). -/
def State.stopAt (s : State) (ch : Nat) (trailing : Bool) (cycle : Byte) (coarse : BitVec 12) (bin : BitVec 9) : Stop :=
  { trailing, cycle, coarse, bin, rangeSwitch := false, thrSettle := false, fn := s.time.fn, tick := s.time.tickE,
    period := s.time.period.toNat, wait := s.f .hbCfg 13 8, neg := s.b (.caChTdc ch) 3, useTot := s.b (.caChTdc ch) 2, paired := s.paired ch }

/-- A stop inside the window of its channel (R177). -/
def State.inWindow (s : State) (ch : Nat) (p : Stop) : Bool :=
  let w := s.reg (.caChWin ch)
  let c := p.raw % (4096 * 512)
  decide (fld w 11 0 * 512 ≤ c ∧ c < fld w 28 16 * 512) && (w.getLsbD 31 || p.cycle == 0)

/-- A stop lost at the 4 ns limit or to a full FIFO: counted, CA_STOP_LOST, and its hit gets no TOT (R176, R196). -/
def State.loseStop (s : State) (ch : Nat) (trailing : Bool) (counter : Nat) : State :=
  let c := s.chan ch
  let s := s.setChan ch (if trailing then c.loseTrail else { c with timingLost := true })
  (s.bump (counter + ch * 0x400) 1).raise 6 1 (at32 0 ch)

/-- A discriminator edge is stamped and accepted into the FIFO, or discarded or lost (R166, R169, R173 to R177). -/
def State.takeStop (s : State) (ch : Nat) (p : Stop) : State :=
  if !s.chanOn ch then s
  else
    let c := s.chan ch
    let t := p.ct
    let s := s.advanceTo t
    let s := s.setChan ch (if p.trailing then { c with disc := false } else { c with disc := true, lastRise := some t, lastStamp := none })
    if p.trailing && !s.b (.caChTdc ch) 2 then s
    else
      let s := s.drainStops ch (some t) 16
      let c := s.chan ch
      let drop (s : State) : State := if p.trailing then s else s.setChan ch { s.chan ch with timingLost := true }
      let last := if p.trailing then c.lastTrailing else c.lastTiming
      let near := match last with | some l => decide (0 ≤ ctDiff t l ∧ ctDiff t l < 2048) | none => false
      if (c.drop && c.invAt t) || (p.trailing && c.timingLost) then drop s
      else if near then s.loseStop ch p.trailing 0x100050
      else
        let s := s.setChan ch (if p.trailing then { c with lastTrailing := some t } else { c with lastTiming := some t })
        if !s.inWindow ch p then drop (s.bump (0x100048 + ch * 0x400) 1)
        else if 16 ≤ c.fifo.length then s.loseStop ch p.trailing 0x100058
        else
          let c := s.chan ch
          let settle := match c.settleUntil with | some u => decide (ctDiff t u < 0) | none => false
          let p := { p with rangeSwitch := c.dropping, thrSettle := settle }
          let p := { p with corrected := correctStamp s ch p }
          let stamp : CT := BitVec.ofInt 64 ((p.tick.toNat : Int) * 512 + p.corrected)
          (s.setChan ch { c with fifo := c.fifo ++ [p], timingLost := if p.trailing then c.timingLost else false,
                                 lastStamp := if p.trailing then c.lastStamp else some stamp }).bump
            (0x100040 + ch * 0x400) 1

-- bias enables -----------------------------------------------------------------------------------------------------------------------------------

/-- A write of CA_BIAS_KEY: the key opens the window, any other value closes it (R179). -/
def wrBiasKey (s : State) (v : Word) : State :=
  let w := s.reg .caBiasCtrl
  s.setReg .caBiasCtrl ((w &&& 0xFFFEFFFF) ||| bit32 16 (decide (v = 0xB1A5)))

/-- A write of CA_BIAS_CTRL: setting an enable needs the open window (R179). -/
def wrBiasCtrl (s : State) (v : Word) : Except Status State :=
  let w := s.reg .caBiasCtrl
  if (v &&& ~~~w) &&& 0xF ≠ 0 ∧ w.getLsbD 16 = false then .error .stateRefused
  else .ok (s.setReg .caBiasCtrl ((v &&& 0xF0F) ||| (w &&& 0x10000)))

/-- BIAS_KEY (R179). -/
def execBiasKey (port : Nat) (value : Word) (s : State) : Res :=
  .next (if canWrite s port 9 && decide (0 < s.res.channels) then s.action 6 fun s => wrBiasKey s value else s)

/-- BIAS_KEY_CLOSE: the window closes 1 ms after the key write (R179). -/
def execBiasKeyClose (s : State) : Res := .next (s.setReg .caBiasCtrl (s.reg .caBiasCtrl &&& 0xFFFEFFFF))

/-- BIAS_ENABLE_WRITE (R179). -/
def execBiasEnableWrite (port : Nat) (value : Word) (s : State) : Res :=
  .next (if canWrite s port 9 && decide (0 < s.res.channels) then writeOr s (wrBiasCtrl s value) else s)

-- calibration --------------------------------------------------------------------------------------------------------------------------------------

/-- EN of a channel is 1 in force or awaits a tick. -/
def State.enAny (s : State) (n : Nat) : Bool := s.b (.caChCfg n) 0 || (s.regW (.caChCfg n)).getLsbD 0

/-- A CAL_RUN runs on a channel or its pair partner (R190). -/
def State.calBusy (s : State) (n : Nat) : Bool := (s.chan n).cal.isSome || (s.chan (if n % 2 = 0 then n + 1 else n - 1)).cal.isSome

/-- CAL_RUN (R190). -/
def execCalRun (r : Req) (s : State) : Res :=
  .next (s.runOp 0x410 r true fun s =>
    let ch := fld (r.w 0) 5 0
    let proc := fld (r.w 0) 9 8
    let par := r.w 1
    let parOk := match proc with
      | 0 => decide (65536 ≤ par.toNat ∧ par.toNat ≤ 16777215)
      | 1 => decide (par.toNat < 8)
      | _ => par == 0
    if s.res.channels ≤ ch ∨ proc = 3 ∨ parOk = false ∨ r.w 2 ≠ 0 ∨ r.w 3 ≠ 0 then no s .outOfRange
    else needStep s 9 <|
      if s.enAny ch then no s .stateRefused
      else if proc = 2 ∧ (ch % 2 = 1 ∨ s.paired ch = false) then no s .stateRefused
      else if s.calBusy ch then no s .busy
      else
        let s := s.setChan ch { s.chan ch with cal := some (BitVec.ofNat 2 proc, par, (r.w 0).getLsbD 12) }
        ({ s with ports := { s.ports with long := s.ports.long ++ [{ op := 0x410, res := ch, req := r }] } }, none))

/-- The bin table of a code-density run: floor((counts below + half the bin's) × 512 / N), at most 511 (R191). -/
def densityTable (n : Nat) (h : List Nat) : List Nat :=
  (List.range 512).map fun b => min ((2 * (h.take b).sum + h.getD b 0) * 512 / (2 * n)) 511

/-- Words of a bin table written (R191). -/
def State.writeBins (s : State) (ch p : Nat) (t : List Nat) : Nat → State
  | 0 => s
  | k + 1 => State.writeBins (s.setReg (.mdBin ch p k) (at32 16 (t.getD (2 * k + 1) 0) ||| BitVec.ofNat 32 (t.getD (2 * k) 0))) ch p t k

/-- OFFSET and GAIN of one range of a sweep, saturated at their fields; a sweep whose two steps coincide has no gain, and the manual
states none (R191). -/
def sweepResult (m : Int × Int × Int) (free : Nat) : Nat × Nat :=
  let d := m.2.1 - m.2.2
  (low 16 (sat 16 (m.1 - 32768)),
   if d = 0 then free % 65536 else (min (max ((0x4000 * 49152 : Int) / d) 0) 65535).toNat)

/-- One range of a sweep applied to a digitiser at the next tick. -/
def State.applySweep (s : State) (dig r : Nat) (v : Nat × Nat) : State :=
  (s.pendReg (.mdChOffset dig r) (BitVec.ofNat 32 v.1)).pendReg (.mdChGain dig r) (BitVec.ofNat 32 v.2)

/-- The results of a measurement by its procedure: the reply payload, and the state with them applied when asked; a sweep measures both
digitisers of an interleaved pair, the even one first (R191). -/
def State.calResults (s : State) (ch : Nat) (par : Word) (apply : Bool) (m : CalMeasure) : State × List Word :=
  match m with
  | .density timing trailing lost =>
    let n := par.toNat
    let widths := (timing.take 512 ++ trailing.take 512).map fun h => min (roundFree (h * 131072) n s.freeVal) 0xFFFF
    let widest := widths.foldl max 0
    let narrow := widths.foldl min 0xFFFF
    let s := s.draw
    let s := if apply then (s.writeBins ch 0 (densityTable n timing) 256).writeBins ch 1 (densityTable n trailing) 256 else s
    (s, [par, at32 16 widest ||| BitVec.ofNat 32 narrow, BitVec.ofNat 32 (min lost 0xFFFFFFFF)])
  | .sweep even odd =>
    let pair := s.paired ch
    let one (l : List (Int × Int × Int)) (r : Nat) : Option (Nat × Nat) :=
      if par.getLsbD r then some (sweepResult (l.getD r (0, 0, 0)) s.freeVal) else none
    let e := (List.range 3).map (one even)
    let o := (List.range 3).map fun r => if pair then one odd r else none
    let dig := if pair then ch / 2 * 2 else ch
    let dig2 := ch / 2 * 2 + 1
    let put (dig : Nat) (s : State) (x : Nat × Option (Nat × Nat)) : State :=
      match x.2 with | some v => if apply then s.applySweep dig x.1 v else s | none => s
    let s := ((List.range 3).zip e).foldl (put dig) s
    let s := ((List.range 3).zip o).foldl (put dig2) s
    let f (l : List (Option (Nat × Nat))) (g : Nat × Nat → Nat) : List Word :=
      l.map fun v => match v with | some v => BitVec.ofNat 32 (g v) | none => 0
    (s.draw, f e (·.1) ++ f e (·.2) ++ f o (·.1) ++ f o (·.2))
  | .interleave dt residual =>
    let v := BitVec.ofNat 32 (low 8 (sat 8 dt))
    (if apply then s.pendReg (.mdChIlv ch) v else s, [v, BitVec.ofNat 32 (min residual 0xFFFFFFFF)])

/-- The procedure of a measurement. -/
def calProc : CalMeasure → BitVec 2
  | .density _ _ _ => 0
  | .sweep _ _ => 1
  | .interleave _ _ => 2

/-- CAL_RUN_DONE: results are applied when APPLY asks, replied, and MD_CAL_DONE is raised (R191). -/
def execCalRunDone (ch : Nat) (m : CalMeasure) (s : State) : Res :=
  .next (match (s.chan ch).cal, s.ports.long.find? fun l => l.op == 0x410 && l.res == ch with
    | some (proc, par, apply), some l =>
      if calProc m ≠ proc then s
      else
        let (s, ws) := s.calResults ch par apply m
        let s := s.setChan ch { s.chan ch with cal := none }
        let s := { s with ports := { s.ports with long := s.ports.long.erase l } }
        (s.raise 7 1 (at32 0 ch)).reply 0x410 l.req { status := .ok, payload := ws }
    | _, _ => s)

/-- The words that MD_CHn_CRC covers, in its order (R192). -/
def mdWords (s : State) (n : Nat) : List Word :=
  [s.reg (.mdChOffset n 0), s.reg (.mdChOffset n 1), s.reg (.mdChOffset n 2), s.reg (.mdChGain n 0), s.reg (.mdChGain n 1),
   s.reg (.mdChGain n 2), s.reg (.mdChSkew n), if n % 2 = 1 then 0 else s.reg (.mdChIlv n)] ++
  ((List.range 256).map fun k => s.reg (.mdBin n 0 k)) ++ (List.range 256).map fun k => s.reg (.mdBin n 1 k)

/-- The constants that pass samples and stamps through (R183). -/
def mdIdentity : List Word :=
  let table := (List.range 256).map fun k => at32 16 (2 * k + 1) ||| BitVec.ofNat 32 (2 * k)
  [0, 0, 0, 0x4000, 0x4000, 0x4000, 0, 0] ++ table ++ table

/-- MD_CHn_CRC: over the identity set it reads what its Reset column prints, over any other set the CRC of R192. DEDUCED: log 45. -/
def mdCrc (s : State) (n : Nat) : Word := if mdWords s n = mdIdentity then 0xA62F3E0D else crcWords (mdWords s n)

/-- CA_CHn_STATUS; RANGE and INV of an odd channel of an interleaved pair are those of the even channel that governs it (R165, R180). -/
def chanStatus (s : State) (n : Nat) : Word :=
  let c := (s.drainStops n (some s.time.ct) 16).chan n
  let g := s.chan (s.governor n)
  at32 16 c.fifo.length ||| bit32 5 (c.disc && s.chanOn n) ||| bit32 4 (g.invAt s.time.ct) ||| bit32 3 (s.paired n) |||
  BitVec.ofNat 32 g.range.toNat

end Sys2Proof.Machine
end

