-- ==== Sys2Proof/Machine/Pair.lean ====
section
/-!
DEFINITION. The control pair (R129 to R139): mismatch, arbitration, fail-over, standby tests, readmission, take-back, watchdog.
-/
namespace Sys2Proof.Machine

/-- The pair's record replaced. -/
def State.setPair (s : State) (f : Pair → Pair) : State := { s with pair := f s.pair }

/-- A change of controller: counted and announced; `boundary` when it interrupts no command (R132, CP_FAILOVER's detail). -/
def State.changeControl (s : State) (toB boundary : Bool) : State :=
  if s.pair.inB == toB then s
  else
    let s := s.setPair fun p => { p with inB := toB, failovers := stick16 p.failovers, resynced := false }
    s.raise 3 1 (at32 30 (if toB then 2 else 1) ||| bit32 29 boundary |||
      (if boundary then 0 else s.pair.misTag.setWidth 32))

/-- The self-tests end and the table of R131 settles control. -/
def execArbitration (aPasses bPasses : Bool) (s : State) : Res :=
  .next (if !s.pair.testing then s
    else match aPasses, bPasses with
      | false, false => s.reset_ 3 0xF true s.power.rstLow false
      | true, true =>
        let s := s.setPair fun p => { p with testing := false, swapping := some false, standby := 0, unresolved := stick16 p.unresolved }
        (s.raise 3 2 0).changeControl false false
      | a, _ =>
        let s := s.setPair fun p => { p with testing := false, swapping := some false, standby := 2, repaired := false, passes := 0 }
        s.changeControl (!a) false)

/-- The controller opens its gate, and the interrupted command is the next to be executed; a forced swap changes control here, at a
command boundary (R132, R137, R138). -/
def execFailOver (s : State) : Res :=
  .next (if s.pair.testing then s
    else if s.pair.swapping.isSome then (s.setPair fun p => { p with swapping := none, wdogPaused := false }).openGate
    else if s.pair.force && s.pair.standby == 0 then
      (s.setPair fun p => { p with force := false }).changeControl (!s.pair.inB) true
    else s)

/-- A slice of the healthy standby's self-test; a failure demotes it (R136). -/
def execStandbySelftestSlice (passes : Bool) (s : State) : Res :=
  .next (if s.pair.standby != 0 || passes || !s.rel 4 then s
    else (s.setPair fun p => { p with standby := 2, repaired := false, passes := 0, force := false,
                                      sliceFails := stick16 p.sliceFails }).raise 3 3 0)

/-- A self-test of the demoted processor: repaired after three passes in a row, and readmitted at once with AUTO_READMIT (R136). -/
def execDemotedSelftest (passes : Bool) (s : State) : Res :=
  .next (if s.pair.standby != 2 then s
    else if !passes then s.setPair fun p => { p with passes := 0, repaired := false }
    else
      let s := s.setPair fun p => { p with passes := min 3 (p.passes + 1), repaired := decide (3 ≤ p.passes + 1) }
      if s.pair.repaired && s.b .cpCtrl 3 then s.setPair fun p => { p with standby := 1 } else s)

/-- The readmitted processor has matched the controller and is a healthy standby (R136). -/
def execResyncDone (s : State) : Res :=
  .next (if s.pair.standby != 1 then s
    else (s.setPair fun p => { p with standby := 0, repaired := false, readmit := false, passes := 0, resynced := true }).raise 3 4 0)

/-- With SERVICE 0, A takes control back at the first command boundary after it has resynchronised (R137). -/
def execTakeBack (s : State) : Res :=
  .next (if s.pair.inB && s.pair.standby == 0 && s.pair.resynced && !s.b .cpCtrl 0 && s.pair.gate then
      (s.setPair fun p => { p with gate := false, swapping := some true, wdogPaused := true, interrupted := none,
                                   force := false }).changeControl false true
    else s)

/-- A write of CP_CTRL (R136, R137). Its set bits are action writes (R130, R135). -/
def wrCpCtrl (s : State) (v : Word) : Except Status State :=
  let act := v.getLsbD 2 || v.getLsbD 1
  if (v.getLsbD 2 && s.pair.standby != 0 || v.getLsbD 1 && !s.pair.repaired) && !s.replayed 3 then .error .stateRefused
  else
    let s := s.setReg .cpCtrl (v &&& 9)
    let s := if !act then s else s.action 3 fun s => s.setPair fun p =>
      { p with force := p.force || v.getLsbD 2, readmit := p.readmit || v.getLsbD 1, standby := if v.getLsbD 1 then 1 else p.standby }
    .ok (if v.getLsbD 3 && s.pair.repaired && s.pair.standby == 2 then s.setPair fun p => { p with standby := 1 } else s)

/-- A Keeper port may write: to what rind mode and the ROM serve too, and to the other blocks under firmware (R94, R109, R451). -/
def canKeepRom (s : State) (port : Nat) : Bool := s.serving && s.portServes port && decide ((s.port port).cls = 2)
def canKeep (s : State) (port : Nat) : Bool := canKeepRom s port && decide (s.boot.state = 1)

/-- READMIT: a write of 1 to CP_CTRL.READMIT, the other fields as they stand (R136). -/
def execReadmit (port : Nat) (s : State) : Res :=
  .next (if canKeep s port then writeOr s (wrCpCtrl s (s.reg .cpCtrl ||| 2)) else s)

/-- FORCE_SWAP: a write of 1 to CP_CTRL.FORCE_SWAP, the other fields as they stand (R137). -/
def execForceSwap (port : Nat) (s : State) : Res :=
  .next (if canKeep s port then writeOr s (wrCpCtrl s (s.reg .cpCtrl ||| 4)) else s)

/-- A write of CP_WDOG_FEED: only 0x0000_A5C3 feeds; the count restarts with PERIOD (R138). -/
def wrFeed (s : State) (v : Word) : Except Status State :=
  .ok (s.action 3 fun s => if v = 0xA5C3 then s.setPair fun p => { p with wdogPeriod := BitVec.ofNat 11 (s.f .cpWdogCfg 10 0) } else s)

/-- WATCHDOG_FEED (R138). -/
def execWatchdogFeed (port : Nat) (value : Word) (s : State) : Res :=
  .next (if canKeep s port then writeOr s (wrFeed s value) else s)

/-- A write of CP_WDOG_CFG: PERIOD zero is refused; EN can only be set, and starts the count with PERIOD (R138). -/
def wrWdogCfg (s : State) (v : Word) : Except Status State :=
  if fld v 10 0 = 0 then .error .outOfRange
  else
    let s := s.setReg .cpWdogCfg (v &&& 0x7FF)
    .ok (if v.getLsbD 31 then s.action 3 fun s => s.setPair fun p =>
        { p with wdogOn := true, wdogPeriod := if p.wdogOn then p.wdogPeriod else BitVec.ofNat 11 (fld v 10 0) } else s)

/-- WATCHDOG_ENABLE: a write of CP_WDOG_CFG with EN 1 (R138). -/
def execWatchdogEnable (port : Nat) (value : Word) (s : State) : Res :=
  .next (if canKeep s port && value.getLsbD 31 then writeOr s (wrWdogCfg s value) else s)

end Sys2Proof.Machine
end

