-- ==== Sys2Proof/Machine/House.lean ====
section
/-!
DEFINITION. The housekeeping monitor (R400 to R414): the sequence table and its start, entries and their conversions, sensor
faults, limits and the bias cut-off, and the die sensors.
-/
namespace Sys2Proof.Machine

/-- The housekeeping record replaced. -/
def State.setHouse (s : State) (f : House → House) : State := { s with house := f s.house }

/-- Words 0 and 1 of sequence entry k (R409). -/
def State.hkW0 (s : State) (k : Nat) : Word := SMap.get 0 s.house.w0 k
def State.hkW1 (s : State) (k : Nat) : Word := SMap.get 0 s.house.w1 k

/-- SEQ_LEN, SETTLE_MIN, REPEAT (R404, R410). -/
def State.seqLen (s : State) : Nat := s.f .hkCfg 20 16

/-- Housekeeping time (R140). -/
def State.ht (s : State) : Word := BitVec.ofNat 32 (s.time.lt.toNat / 1000000)

/-- HK_STATUS. -/
def hkStatus (s : State) : Word :=
  let h := s.house
  let conv := decide (h.phase = .discarding ∨ h.phase = .keeping)
  bit32 31 h.running ||| bit32 30 conv ||| bit32 29 (decide (h.phase ≠ .idle ∧ h.phase ≠ .kept)) ||| at32 16 h.entry

-- commands -------------------------------------------------------------------------------------------------------------------------------

/-- The two words of one entry hold what R409 allows. -/
def State.hkEntryOk (s : State) (w0 w1 : Word) : Bool :=
  let pos := fld w0 31 26
  let neg := fld w0 25 20
  decide (pos < s.res.hk) && (decide (neg < s.res.hk) || neg == 0x3F) && decide (pos ≠ neg) && decide (w0 &&& 0x0008007F = 0) &&
    decide (w1 &&& 0xFC00FEF0 = 0) && !(w0.getLsbD 7 && decide (s.res.hk < 32))

/-- HK_SEQ_LOAD (R403, R409). -/
def execHkSeqLoad (r : Req) (s : State) : Res :=
  let first := fld (r.w 0) 4 0
  let n := fld (r.w 0) 13 8
  .next (s.runOp 0x800 r (decide (1 ≤ n ∧ n ≤ 32 ∧ r.len = 1 + 2 * n)) fun s =>
    let es := (List.range n).map fun i => (first + i, r.w (1 + 2 * i), r.w (2 + 2 * i))
    if 32 < first + n ∨ r.w 0 &&& 0xFFFFC0E0 ≠ 0 ∨ !(es.all fun e => s.hkEntryOk e.2.1 e.2.2) then no s .outOfRange
    else if !s.rel 10 then no s .clockStopped
    else if s.house.running then no s .stateRefused
    else yes (es.foldl (fun s e => s.setHouse fun h =>
      { h with w0 := SMap.set 0 h.w0 e.1 e.2.1, w1 := SMap.set 0 h.w1 e.1 e.2.2 }) s))

/-- The sequence stands still: every source off, the converter powered down (R402, R405, R410). -/
def State.hkStop (s : State) : State :=
  s.setHouse fun h => { h with running := false, stopping := false, phase := .idle, excOn := 0 }

/-- The active schedule holds a housekeeping step (R410). -/
def hasHkStep (l : List Entry) : Bool := l.any fun e => e.kind == 3

/-- HK_SEQ_START; a committed schedule without a housekeeping step bars it (R24, R410). -/
def execHkSeqStart (r : Req) (s : State) : Res :=
  .next (s.runOp 0x801 r true fun s =>
    if !s.rel 10 then no s .clockStopped
    else if r.p 0 0 = 1 then
      if s.house.running || !hasHkStep s.sched.active then no s .stateRefused
      else if s.sched.commit && s.sched.swapDue && !hasHkStep s.sched.shadow then no s .infeasible
      else yes (s.setHouse fun h =>
        { h with running := true, stopping := false, phase := .idle, next := 0,
                 results := h.results.map fun c => (c.1, { c.2 with stat := c.2.stat &&& 0x7FFFFFFF }) })
    else if !s.house.running then yes s
    else if s.house.phase = .discarding ∨ s.house.phase = .keeping ∨ s.house.phase = .kept then
      yes (s.setHouse fun h => { h with stopping := true })
    else yes s.hkStop)

/-- HK_READ: the status, then each entry's result (R412). -/
def execHkRead (r : Req) (s : State) : Res :=
  .next (s.runOp 0x802 r true fun s =>
    if !s.rel 10 then no s .clockStopped
    else tell s (hkStatus s :: (List.range (s.seqLen + 1)).flatMap fun k =>
      let q := SMap.get {} s.house.results k
      [q.value, q.stat, q.time]))

-- entries ----------------------------------------------------------------------------------------------------------------------------------

/-- The sources that an entry selects, as a mask. -/
def State.excMask (s : State) (k : Nat) : BitVec 10 := BitVec.ofNat 10 (fld (s.hkW1 k) 25 16)

/-- Sequence entry k begins: its sources are switched on with their settings, and it is known whether it changes the input (R404,
R405). -/
def State.hkBegin (s : State) (k : Nat) : State :=
  let mask := s.excMask k
  let src := (List.range 10).filter fun i => mask.getLsbD i
  let key := (s.hkW0 k &&& 0xFFF70000, mask)
  s.setHouse fun h =>
    { h with phase := .begun, entry := k, changes := decide (h.prev ≠ some key ∨ mask &&& h.excNew ≠ 0), prev := some key,
             discarded := false, faults := 0, began := s.time.ltUnits, excOn := mask &&& ~~~h.excOff, excNew := h.excNew &&& ~~~mask,
             excCfg := src.foldl (fun m i => SMap.put m i (s.reg (.hkExcCfg i))) h.excCfg }

/-- HOUSEKEEPING_STEP: the next entry begins, if the sequence waits for one and the step's mask lets it (R26, R408). -/
def execHousekeepingStep (entry : Nat) (s : State) : Res :=
  .next (s.runEntry entry 3 fun e s =>
    if !s.rel 10 then s.skip
    else
      let k := s.house.next
      if s.house.running && decide (s.house.phase = .idle) && (decide (e.w3 = 0) || e.w3.getLsbD k) then s.hkBegin k else s)

/-- When the entry's inputs are connected, in local time: 1 µs after it begins with 8 inputs, else 10 µs, or 60 µs with DISCHARGE
(R403). -/
def State.hkLinkAt (s : State) : Nat :=
  s.house.began + (if s.res.hk < 32 then 1 else if (s.hkW0 s.house.entry).getLsbD 7 then 60 else 10) * usFine

/-- HK_CONNECT: the entry's inputs are connected (R403). -/
def execHkConnect (s : State) : Res :=
  .next (if s.house.phase = .begun then (s.advanceLt s.hkLinkAt).setHouse fun h => { h with phase := .connected, linked := s.hkLinkAt } else s)

/-- Converter clocks of 100 ns in an integration, by TINT (R400). -/
def tintClocks : Nat → Nat
  | 0 => 200000
  | 1 => 166667
  | _ => 1000000

/-- A conversion starts: TINT and CHOP take effect, and its flags start afresh (R400, R405, R411). -/
def State.startConversion (s : State) (p : HkPhase) : State :=
  s.setHouse fun h =>
    { h with phase := p, filterBad := decide (0 < h.filter), filter := h.filter - 1, excChanged := false, fallbackSeen := s.clocks.fallback,
             convFrom := s.time.ltUnits, tint := tintClocks (s.f .hkCfg 1 0) }

/-- When the entry's first conversion starts: the later of the end of the start-up of 200 µs, which begins with the entry, and the end
of the settle time of SETTLE × 100 µs from the connection (R402, R404). -/
def State.hkFirstAt (s : State) : Nat :=
  max (s.house.began + 200 * usFine) (s.house.linked + fld (s.hkW0 s.house.entry) 15 8 * (100 * usFine))

/-- When the running conversion ends (R400). -/
def State.hkEndAt (s : State) : Nat := s.house.convFrom + s.house.tint * 51200

/-- HK_SETTLE_END: the first conversion starts; it is one to discard where the entry changes the input and settles too little
(R404). -/
def execHkSettleEnd (s : State) : Res :=
  .next (if s.house.phase = .connected then
      let s := s.advanceLt s.hkFirstAt
      let short := decide (fld (s.hkW0 s.house.entry) 15 8 < s.f .hkCfg 15 8)
      s.startConversion (if s.house.changes && short then .discarding else .keeping)
    else s)

/-- The code of R401 for a voltage given in units of 2^-23 µV, at gain 2^GAIN. -/
def hkCode (v : Int) (gain : Nat) : Int := v * ((2 ^ gain : Nat) : Int) / 2500000

/-- HK_CONVERSION_END: a discarded conversion is followed by the kept one; a kept one waits for its publication (R401, R404). -/
def execHkConversionEnd (microvolt2p23 : Int) (s : State) : Res :=
  .next (match s.house.phase with
    | .discarding => (((s.advanceLt s.hkEndAt).bump 0x600088 1).setHouse fun h => { h with discarded := true }).startConversion .keeping
    | .keeping =>
      let c := hkCode microvolt2p23 (fld (s.hkW0 s.house.entry) 18 16)
      let s := (s.advanceLt s.hkEndAt).bump 0x600080 1
      s.setHouse fun h => { h with phase := .kept, code := sat 24 c, ovr := decide (sat 24 c ≠ c), endHt := s.ht }
    | _ => s)

/-- A bias cut-off fault for the enables of a mask: those whose FAULT_OFF is 1 are cleared (R179, R407). -/
def State.biasCut (s : State) (cut : Nat) : State :=
  let s := s.raise 17 3 (at32 0 s.house.entry)
  let w := s.reg .caBiasCtrl
  let clear := cut &&& fld w 11 8 &&& fld w 3 0
  if clear = 0 then s
  else (s.setReg .caBiasCtrl (w &&& ~~~BitVec.ofNat 32 clear)).raise 6 2 0

/-- CUT of the entry in progress. -/
def State.hkCut (s : State) : Nat := fld (s.hkW1 s.house.entry) 3 0

/-- HK_RESULT_PUBLISH: the result appears with its flags, is compared with its limits, and the sequence goes on or ends (R407, R410,
R412). -/
def execHkResultPublish (s : State) : Res :=
  .next (if s.house.phase ≠ .kept then s
    else
      let h := s.house
      let k := h.entry
      let valid := decide (h.faults = 0) && !h.filterBad
      let lo := sx 24 (s.f (.hkEntLo k) 23 0)
      let hi := sx 24 (s.f (.hkEntHi k) 23 0)
      let limit := valid && (s.hkW1 k).getLsbD 8 && decide (h.code < lo ∨ hi < h.code)
      let stat := bit32 31 valid ||| bit32 30 h.excChanged ||| bit32 29 h.discarded ||| bit32 28 limit ||| bit32 27 h.ovr |||
        bit32 26 h.filterBad ||| bit32 25 h.fallbackSeen ||| bit32 24 (h.faults.getLsbD 0) ||| bit32 23 (h.faults.getLsbD 1) |||
        bit32 22 (h.faults.getLsbD 2)
      let q : HkResult := { value := w32 h.code, stat, time := h.endHt }
      let s := s.setHouse fun h => { h with results := SMap.set {} h.results k q, phase := .idle }
      let s := if limit then s.raise 17 2 (at32 0 k) else s
      let s := if limit && s.hkCut != 0 then s.biasCut s.hkCut else s
      if h.stopping then s.hkStop
      else if k < s.seqLen then s.setHouse fun h => { h with next := k + 1 }
      else if s.b .hkCfg 24 then s.setHouse fun h => { h with next := 0 }
      else s.hkStop.raise 17 0 (at32 0 k))

/-- SENSOR_FAULT: 0 OPEN, 1 SHORT, 2 COMPLIANCE on a source that is on and monitored (R406, R407). -/
def execSensorFault (source kind : Nat) (s : State) : Res :=
  .next (
    let h := s.house
    let cfg := SMap.get 0 h.excCfg source
    let watched := decide (h.phase ≠ .idle ∧ h.phase ≠ .kept) && h.excOn.getLsbD source && decide (source < 10 ∧ kind < 3)
    let low := kind == 1 && decide (source < 8) && decide (fld cfg 2 0 < 3)
    if !watched || low then s
    else
      let s := s.orReg .hkFault (bit32 (10 * kind + source) true)
      let s := (s.bump 0x600090 1).raise 17 1 (at32 8 source ||| at32 0 h.entry)
      let off := cfg.getLsbD 16
      let bit := BitVec.ofNat 10 (2 ^ source)
      let s := s.setHouse fun h =>
        { h with faults := h.faults ||| BitVec.ofNat 3 (2 ^ kind), excOn := if off then h.excOn &&& ~~~bit else h.excOn,
                 excOff := if off then h.excOff ||| bit else h.excOff }
      if s.hkCut ≠ 0 then s.biasCut s.hkCut else s)

/-- DIE_SENSOR_READ: the eight values, and HK_DIE_HOT above LIMIT, once until 2 °C below it (R413). -/
def execDieSensorRead (values : List (BitVec 16)) (s : State) : Res :=
  .next (if !s.rel 10 then s
    else
      let s := s.setHouse fun h => { h with die := (List.range 8).foldl (fun m i => SMap.set 0 m i (values.getD i 0)) h.die }
      let top := sx 16 (fld (dieHottest s) 15 0)
      let limit := sx 16 (s.f .hkDieLimit 15 0)
      if limit = 0 then s
      else if limit < top ∧ s.house.dieHot = false then
        (s.setHouse fun h => { h with dieHot := true }).raise 17 4 (at32 0 s.house.entry)
      else if top ≤ limit - 32 then s.setHouse fun h => { h with dieHot := false }
      else s)

-- register writes ----------------------------------------------------------------------------------------------------------------------------

/-- A write of HK_CFG (R400, R411). -/
def wrHkCfg (s : State) (v : Word) : Except Status State :=
  let v := v &&& 0x011FFF07
  let old := s.reg .hkCfg
  if fld v 1 0 = 3 then .error .outOfRange
  else if s.house.running ∧ old &&& 0x011F0000 ≠ v &&& 0x011F0000 then .error .stateRefused
  else
    let s := s.setReg .hkCfg v
    .ok (if old &&& 7 ≠ v &&& 7 then s.setHouse fun h => { h with filter := 2 } else s)

/-- A write of HK_EXCk_CFG (R405, R406): LEVEL and COMP_LIMIT in their ranges; a source that a fault switched off may be switched on
again. -/
def wrHkExcCfg (s : State) (k : Nat) (v : Word) : Except Status State :=
  let v := v &&& (if k < 8 then 0x11F07 else 0x10000)
  if k < 8 ∧ (fld v 2 0 = 7 ∨ fld v 12 8 < 5 ∨ 30 < fld v 12 8) then .error .outOfRange
  else
    let conv := decide (s.house.phase = .discarding ∨ s.house.phase = .keeping) && (s.excMask s.house.entry).getLsbD k
    .ok ((s.setReg (.hkExcCfg k) v).setHouse fun h =>
      { h with excOff := h.excOff &&& ~~~BitVec.ofNat 10 (2 ^ k), excNew := h.excNew ||| BitVec.ofNat 10 (2 ^ k),
               excChanged := h.excChanged || conv })

end Sys2Proof.Machine
end

