-- ==== Sys2Proof/Machine/Operands.lean ====
section
/-!
DEFINITION. The operand forms of the engine array: element formats (R240, R274), lane operands (R241), accumulator lanes (R243),
scaling of a block (R247, R285), and the fields of an instruction word (R268, R270).
-/
namespace Sys2Proof.Machine

/-- Components of width w of a flit, the first at the top (R240). -/
def comps (w : Nat) (f : Flit) : List Int :=
  (List.range (128 / w)).map fun i => sx w (f.toNat / 2 ^ (128 - w * (i + 1)))

/-- Components put together, the first at the top. -/
def packComps (w : Nat) (vs : List Int) : Flit := BitVec.ofNat 128 (vs.foldl (fun acc v => acc * 2 ^ w + low w v) 0)

/-- Component width of FMT (R274). -/
def fmtWidth : Nat → Nat
  | 0 => 4 | 1 => 8 | 2 => 16 | 3 => 16 | _ => 32

/-- Element width of FMT. -/
def fmtElem : Nat → Nat
  | 0 => 8 | 1 => 16 | 2 => 16 | 3 => 32 | 4 => 64 | _ => 32

/-- Components taken two by two: real part, imaginary part. -/
def pairUp : List Int → List (Int × Int)
  | a :: b :: l => (a, b) :: pairUp l
  | _ => []

/-- Complex elements of a register. -/
def celems (w : Nat) (f : Flit) : List (Int × Int) := pairUp (comps w f)

/-- Real elements as products take them. -/
def relems (f : Flit) : List (Int × Int) := (comps 16 f).map fun v => (v, 0)

/-- A complex product, with the second operand conjugated on request (R240). -/
def cmul (conj : Bool) (x y : Int × Int) : Int × Int :=
  let d := if conj then -y.2 else y.2
  (x.1 * y.1 - x.2 * d, x.1 * d + x.2 * y.1)

/-- The two components of a complex accumulator lane, or the one of a real lane (R243). -/
def laneParts (real : Bool) (v : BitVec 64) : Int × Int :=
  if real then (sx 64 v.toNat, 0) else (sx 32 (v.toNat / 2 ^ 32), sx 32 v.toNat)

/-- A lane from its components. -/
def laneOf (real : Bool) (p : Int × Int) : BitVec 64 :=
  if real then BitVec.ofNat 64 (low 64 p.1) else BitVec.ofNat 64 (low 32 p.1 * 2 ^ 32 + low 32 p.2)

/-- Division by 2 ^ s towards minus infinity, or multiplication for a negative s (R244, R247). -/
def shiftBy (v s : Int) : Int := if 0 ≤ s then v / ((2 ^ s.toNat : Nat) : Int) else v * ((2 ^ (-s).toNat : Nat) : Int)

/-- Every component fits a width after a shift. -/
def allFit (w : Nat) (s : Int) (vs : List Int) : Bool := vs.all fun v => decide (sat w (shiftBy v s) = shiftBy v s)

/-- What the scaling unit gives: components, exponent, EXP_SAT, and whether a component was left open. -/
structure Scaled where
  out  : List Int
  exp  : Nat
  sat  : Bool
  open_ : Bool
  deriving DecidableEq, Repr

/-- The shift of R247: by the AUTO form, or the one given, never below lo (R285). The result and whether it was cut to hi. -/
def shiftFor (w eIn : Nat) (fixed : Option Int) (vs : List Int) : Int × Bool :=
  let lo : Int := -(eIn : Int)
  let hi : Int := 15 - (eIn : Int)
  match fixed with
  | some s => if hi < s then (hi, true) else (max lo s, false)
  | none =>
    match (List.range 16).find? fun (i : Nat) => allFit w (lo + i) vs with
    | some i => (lo + i, false)
    | none => (hi, true)

/-- A block through the scaling unit (R247). A component that leaves its range under a given shift within lo to hi has no stated
result: free values from `free` on. -/
def scaleBlock (w eIn : Nat) (fixed : Option Int) (vs : List Int) (free : Nat) : Scaled :=
  let (s, cut) := shiftFor w eIn fixed vs
  let fit := allFit w s vs
  let out := vs.zipIdx.map fun (v, i) =>
    let r := shiftBy v s
    if decide (sat w r = r) || cut then sat w r else sx w (Config.freeNat (free + i))
  { out, exp := ((eIn : Int) + s).toNat, sat := cut, open_ := !fit && !cut }

/-- Words of the destination format, from its components. -/
def packAll (w : Nat) (vs : List Int) : List Flit :=
  (List.range (vs.length * w / 128)).map fun i => packComps w ((vs.drop (i * (128 / w))).take (128 / w))

/-- A conversion of a move with shift: source and destination component width, source words per destination word, banks allowed,
registers allowed (R284). -/
structure Conv where
  src  : Nat
  dst  : Nat
  per  : Nat
  banks : Bool
  regs : Bool
  deriving DecidableEq, Repr

/-- CV of MOVS (R284). -/
def convOf : Nat → Conv
  | 0 => ⟨32, 16, 2, true, true⟩
  | 1 => ⟨32, 8, 4, true, true⟩
  | 2 => ⟨32, 4, 8, true, true⟩
  | 3 => ⟨16, 8, 2, false, true⟩
  | 4 => ⟨16, 4, 4, false, true⟩
  | 5 => ⟨8, 4, 2, false, true⟩
  | 6 => ⟨64, 16, 4, true, false⟩
  | _ => ⟨32, 16, 2, false, true⟩

/-- CONV of a DMA descriptor: widths and source words per destination word; none where it is reserved (R259). -/
def dmaConv : Nat → Option (Nat × Nat × Nat)
  | 1 => some (32, 16, 2)
  | 2 => some (32, 8, 4)
  | 3 => some (16, 8, 2)
  | 4 => some (16, 4, 4)
  | 5 => some (8, 4, 2)
  | _ => none

end Sys2Proof.Machine

namespace Sys2Proof

/-- The 64 bits of an instruction word (R268). -/
def EngWord.bits (op : Nat) (w : EngWord) : BitVec 64 := BitVec.ofNat 8 op ++ w.pred ++ w.d ++ w.a ++ w.b ++ w.f ++ w.imm

/-- Every bit that the instruction does not use is zero: masks of the used bits of D, A, B, F and IMM (R270). -/
def EngWord.only (w : EngWord) (d a b f imm : Nat) : Bool :=
  w.d.toNat &&& d == w.d.toNat && w.a.toNat &&& a == w.a.toNat && w.b.toNat &&& b == w.b.toNat && w.f.toNat &&& f == w.f.toNat &&
    w.imm.toNat &&& imm == w.imm.toNat

/-- F[hi:lo] and IMM[hi:lo]. -/
def EngWord.fm (w : EngWord) (hi lo : Nat) : Nat := w.f.toNat / 2 ^ lo % 2 ^ (hi + 1 - lo)
def EngWord.im (w : EngWord) (hi lo : Nat) : Nat := w.imm.toNat / 2 ^ lo % 2 ^ (hi + 1 - lo)

end Sys2Proof
end

