-- ==== Sys2Proof/Machine/Flags.lean ====
section
/-!
DEFINITION. An engine's record and its flags: FLAGS (R264), the predicate flags (R269, R271), the lane overflow bits (R243), and
the events that a flag raises once per kernel run (R243, R252).
-/
namespace Sys2Proof.Machine

/-- Engine e's record; e counts through all clusters, 16 × cluster + engine. -/
def State.eng (s : State) (e : Nat) : Engine := SMap.get {} s.engines.eng e
def State.setEng (s : State) (e : Nat) (g : Engine) : State :=
  { s with engines := { s.engines with eng := SMap.set {} s.engines.eng e g } }
def State.modEng (s : State) (e : Nat) (f : Engine → Engine) : State := s.setEng e (f (s.eng e))

/-- Cluster c's record. -/
def State.cluster (s : State) (c : Nat) : Cluster := SMap.get {} s.engines.cl c
def State.setCluster (s : State) (c : Nat) (k : Cluster) : State :=
  { s with engines := { s.engines with cl := SMap.set {} s.engines.cl c k } }

/-- Registers, banks and generators of an engine. -/
def Engine.reg (g : Engine) (n : Nat) : VReg := SMap.get {} g.regs n
def Engine.setReg (g : Engine) (n : Nat) (v : VReg) : Engine := { g with regs := SMap.set {} g.regs n v }
def Engine.bank (g : Engine) (n : Nat) : Bank := SMap.get {} g.banks n
def Engine.setBank (g : Engine) (n : Nat) (b : Bank) : Engine := { g with banks := SMap.set {} g.banks n b }
def Engine.ag (g : Engine) (k : Nat) : AddrGen := SMap.get {} g.ags k
def Engine.setAg (g : Engine) (k : Nat) (a : AddrGen) : Engine := { g with ags := SMap.set {} g.ags k a }

/-- The scalar of a register: its bits [31:0] (R271). -/
def Engine.sc (g : Engine) (n : Nat) : Word := (g.reg n).val.setWidth 32

/-- A scalar result: bits [127:32] and the tag stay, poison accumulates (R271). -/
def Engine.setSc (g : Engine) (n : Nat) (v : Word) (poison : Bool) : Engine :=
  let r := g.reg n
  g.setReg n { r with val := (r.val.extractLsb' 32 96 ++ v), poison := r.poison || poison }

/-- A bit of FLAGS set: 3 POISON, 2 LEN_CUT, 1 EXP_SAT, 0 OVF (R264). -/
def Engine.flag (g : Engine) (i : Nat) (on : Bool) : Engine :=
  if on then { g with flags := g.flags ||| BitVec.ofNat 4 (2 ^ i) } else g

/-- A predicate: flag [54:53], inverted by [55] (R269). -/
def Engine.pred (g : Engine) (p : BitVec 3) : Bool := (g.pf.getLsbD (p.toNat % 4)) != p.getLsbD 2

/-- Predicate flag n written; flag 0 always reads 1 (R269). -/
def Engine.setPf (g : Engine) (n : Nat) (v : Bool) : Engine :=
  let m := BitVec.ofNat 4 (2 ^ n)
  if n = 0 then g else { g with pf := if v then g.pf ||| m else g.pf &&& ~~~m }

/-- The detail word of an EA notice: cluster in [11:8], engine in [3:0] (R267). -/
def eaDetail (e : Nat) : Word := at32 8 (e / 16) ||| at32 0 (e % 16)

/-- EA_OVF, once per kernel run of the cluster (R243). -/
def State.eaOvf (s : State) (e : Nat) : State :=
  let k := s.cluster (e / 16)
  match k.run with
  | some r => if r.ovfNow then s else (s.setCluster (e / 16) { k with run := some { r with ovfNow := true } }).raise 10 0 (eaDetail e)
  | none => s

/-- EA_POISON, once per kernel run of the cluster (R252). -/
def State.eaPoison (s : State) (e : Nat) : State :=
  let k := s.cluster (e / 16)
  match k.run with
  | some r =>
    if r.poisonNow then s else (s.setCluster (e / 16) { k with run := some { r with poisonNow := true } }).raise 10 2 (eaDetail e)
  | none => s

/-- EA_OVF_BANKS: the banks with a lane overflow bit (R264). -/
def Engine.ovfBanks (g : Engine) : Nat := ((List.range 8).map fun b => if (g.bank b).ovf = 0 then 0 else 2 ^ b).sum

end Sys2Proof.Machine
end

