-- ==== Sys2Proof/Machine/Hits.lean ====
section
/-!
DEFINITION. The hit builder: forming a hit (R193 to R197), records and snippets (R199, R200), admission and whey (R201 to R206),
the close of a frame and its curds (R207, R210, R211), and the figures of the carriage check (R212, R213).
-/
namespace Sys2Proof.Machine

/-- Field of a register as written, which is what it will be in force (R22). -/
def State.fw (s : State) (r : Reg) (hi lo : Nat) : Nat := fld (s.regW r) hi lo
/-- Bit of a register as written. -/
def State.bw (s : State) (r : Reg) (i : Nat) : Bool := (s.regW r).getLsbD i

/-- The hit builder of one channel. -/
def State.hitChan (s : State) (n : Nat) : HitChan := SMap.get {} s.hits.chan n
def State.setHitChan (s : State) (n : Nat) (h : HitChan) : State :=
  { s with hits := { s.hits with chan := SMap.set {} s.hits.chan n h } }

/-- Fine units between samples of a stream (R164, R165). -/
def sampleStep (paired : Bool) : Nat := if paired then 128 else 256

/-- Sample i of a stream, counted from a tick, when the hit builder still keeps it (R193). -/
def State.sampleAt (s : State) (ch step : Nat) (tick : BitVec 87) (i : Int) : Option Sample :=
  let t : CT := BitVec.ofInt 64 ((tick.toNat : Int) * 512 + i * step)
  (s.chan ch).history.find? fun x => x.ct == t

/-- The samples of a window; what the hit builder does not hold is as an INV sample. -/
def State.window_ (s : State) (ch step : Nat) (tick : BitVec 87) (lo : Int) (n : Nat) : List (Option Sample) :=
  (List.range n).map fun (k : Nat) => s.sampleAt ch step tick (lo + (k : Int))

/-- A sample of a snippet as 16 bits: 0x8000 for INV, −32,768 written as −32,767 (R200). -/
def snipWord (x : Option Sample) : Nat :=
  match x with
  | some v => if v.inv then 0x8000 else if v.y = -32768 then 0x8001 else low 16 v.y
  | none => 0x8000

/-- Eight samples in one flit, the first in the highest bits (R200). -/
def snipFlit (l : List (Option Sample)) : Flit := BitVec.ofNat 128 ((l.map snipWord).foldl (fun a v => a * 65536 + v) 0)

/-- What R194 and R195 compute from the amplitude window, by the values of the item's frame: amp, integral, range, whether no sample was
usable, whether one was OVR. -/
def State.amplitude (s : State) (ch : Nat) (f : HitFrame) (p : Stop) (s0 : Int) : Nat × Int × BitVec 2 × Bool × Bool :=
  let pre := fld f.win 7 0
  let post := fld f.win 15 8
  let v (x : Sample) : Int := if p.neg then -x.y else x.y
  let step := sampleStep p.paired
  let w := s.window_ ch step p.tick (s0 - pre) (pre + post + 1)
  let range := match w.getLast? with | some (some x) => x.range | _ => (s.chan ch).range
  let used := w.filterMap fun x => match x with | some x => if !x.inv && x.range == range then some x else none | none => none
  let fixed : Int := sx 16 (fld f.base 15 0)
  let before := s.window_ ch step p.tick (s0 - pre - 16) 16
  let clean := before.filterMap fun x => match x with | some x => if !x.inv && x.range == range then some (v x) else none | none => none
  let b := if f.zs.getLsbD 3 && clean.length == 16 then clean.sum / 16 else fixed
  if used = [] then (0, 0, range, true, false)
  else
    let d := used.map fun x => v x - b
    let peak := d.foldl max (d.headD 0)
    let amp := (min (max (peak / 8) 0) 4095).toNat
    let integral := min (max (d.sum / (2 ^ fld f.win 19 16 : Nat)) (-32768)) 32767
    (amp, integral, range, false, used.any (·.ovr))

/-- A record of R199 from its fields. -/
def hitRecord (ch fine tot amp : Nat) (integral : Int) (rs settle ovr open_ : Bool) (snip range pre : Nat) : Flit :=
  let bit (b : Bool) : Nat := if b then 1 else 0
  BitVec.ofNat 128 (ch * 2 ^ 122 + fine % 2 ^ 29 * 2 ^ 93 + tot * 2 ^ 77 + amp * 2 ^ 65 + low 16 integral * 2 ^ 49 + bit rs * 2 ^ 48 +
    bit settle * 2 ^ 47 + bit ovr * 2 ^ 46 + bit open_ * 2 ^ 45 + snip * 2 ^ 39 + range * 2 ^ 37 + pre * 2 ^ 29)

/-- A frame as the hit builder of a channel has it in force now (R25, R30). -/
def State.hitFrame (s : State) (ch : Nat) (fn : FN) : HitFrame :=
  { fn, period := s.time.period.toNat, budget := s.f (.hbChBudget ch) 15 0, zs := s.reg (.hbChZs ch), win := s.reg (.hbChWin ch),
    snip := s.reg (.hbChSnip ch), base := s.reg (.hbChBase ch) }

/-- A frame whose budget is open: one that has ended and is not closed, or the present one, which opens at need (R30, R201). -/
def State.budgetOf (s : State) (ch : Nat) (fn : FN) : Option HitFrame :=
  match (s.hitChan ch).frames.find? fun f => f.fn == fn with
  | some f => some f
  | none => if fn = s.time.fn then some (s.hitFrame ch fn) else none

/-- The values that an item of a frame is judged by (R25). -/
def State.hitValues (s : State) (ch : Nat) (fn : FN) : HitFrame := (s.budgetOf ch fn).getD (s.hitFrame ch fn)

/-- The frame and the fine time of a hit: a stamp below zero or at P and above goes to the neighbouring frame (R178). -/
def State.hitTime (s : State) (ch : Nat) (p : Stop) : Nat × FN :=
  let t := p.corrected
  let len : Int := p.period * 512
  if t < 0 then
    let before := match (s.hitChan ch).frames.find? fun f => f.fn == p.fn - 1 with | some f => f.period | none => p.period
    ((t + before * 512).toNat, p.fn - 1)
  else if len ≤ t then ((t - len).toNat, p.fn + 1)
  else (t.toNat, p.fn)

/-- The item of a hit with its amp, TOT and TOT_OPEN for zero suppression (R178, R193 to R200). -/
def State.formItem (s : State) (ch : Nat) (h : OpenHit) : Item × Nat × Nat × Bool :=
  let p := h.stop
  let (fine, fn) := s.hitTime ch p
  let f := s.hitValues ch fn
  let step : Nat := sampleStep p.paired
  let s0 : Int := (p.corrected + (step / 2 : Nat)) / step
  let (amp, integral, range, none_, ovr) := s.amplitude ch f p s0
  let snip := f.snip.getLsbD 0
  let pre := fld f.snip 23 16
  let len := if snip then fld f.snip 13 8 else 0
  let sw := s.window_ ch step p.tick (s0 - pre) (len * 8)
  let aw := s.window_ ch step p.tick (s0 - fld f.win 7 0) (fld f.win 7 0 + fld f.win 15 8 + 1)
  let isRc (x : Option Sample) : Bool := match x with | some x => x.inv && x.rc | none => false
  let isInv (x : Option Sample) : Bool := match x with | some x => x.inv | none => true
  let rs := p.rangeSwitch || none_ || aw.any isRc || sw.any isRc
  let tot := if p.useTot then h.tot.getD 0 else 0
  let open_ := p.useTot && h.tot.isNone
  let rec_ := hitRecord ch fine tot amp integral rs p.thrSettle ovr open_ len range.toNat (if snip then pre else 0)
  let flits := rec_ :: (List.range len).map fun j => snipFlit ((sw.drop (8 * j)).take 8)
  ({ ch, fine, fn, flits, rangeSwitch := rs, inv := sw.any isInv, left := flits.length }, amp, tot, open_)

/-- A frame of a channel with its budget used up so far. -/
def State.useBudget (s : State) (ch : Nat) (f : HitFrame) : State :=
  let h := s.hitChan ch
  if h.frames.any fun g => g.fn == f.fn then
    s.setHitChan ch { h with frames := h.frames.map fun g => if g.fn == f.fn then f else g }
  else s.setHitChan ch { h with frames := h.frames ++ [f] }

-- transport (R203 to R206) -------------------------------------------------------------------------------------------------------------------

/-- One even parity bit for each byte of a word: integrity class L (R205, R328). -/
def parityOf (d : Flit) : BitVec 16 :=
  let a := d ^^^ (d >>> 1)
  let b := a ^^^ (a >>> 2)
  let c := b ^^^ (b >>> 4)
  BitVec.ofNat 16 ((List.range 16).foldl (fun x k => x + (if c.getLsbD (8 * k) then 2 ^ k else 0)) 0)

/-- The four 32-bit words of a flit, most significant first, the end mark on the last of an item (R203, R205). -/
def flitWrites (last : Bool) (f : Flit) : List (Word × Bool) :=
  [(f.extractLsb' 96 32, false), (f.extractLsb' 64 32, false), (f.extractLsb' 32 32, false), (f.extractLsb' 0 32, last)]

/-- The 32-bit words of an item (R203). -/
def itemWrites : List Flit → List (Word × Bool)
  | [] => []
  | [f] => flitWrites true f
  | f :: fs => flitWrites false f ++ itemWrites fs

/-- A word of the FIFO from up to four 32-bit writes, padded with zeros, its mask on the bytes written (R204, R205). -/
def packWord (ws : List Word) (last : Bool) : FifoWord :=
  let d := BitVec.ofNat 128 (((ws ++ List.replicate (4 - ws.length) 0).map fun (w : Word) => w.toNat).foldl (fun a w => a * 2 ^ 32 + w) 0)
  { data := d, parity := parityOf d, last, mask := BitVec.ofNat 16 (2 ^ 16 - 2 ^ (16 - 4 * min 4 ws.length)) }

/-- A cycle on the channel side: the word that leaves the chain is packed, every other word moves one stage, the next write enters, and the
copy of the read pointer moves through its synchroniser. No stage ever stalls: admission leaves room in the FIFO (R202 to R204). -/
def HitChan.writeCycle (h : HitChan) : HitChan :=
  let out := (h.chain.getLast?).join
  let h := { h with chain := (h.queue.head? :: h.chain).take 8, queue := h.queue.drop 1, rdSync := (h.rd, h.rdSync.1) }
  match out with
  | none => h
  | some (w, last) =>
    let ws := h.packing ++ [w]
    if last || ws.length = 4 then { h with packing := [], fifo := h.fifo ++ [packWord ws last], wr := h.wr + 1 } else { h with packing := ws }

/-- Words of the FIFO that its reader sees (R204). -/
def HitChan.visible (h : HitChan) : List FifoWord := h.fifo.take (h.wrSync.2 - h.rd)
/-- The packet counter: end marks that the reader sees (R206). -/
def HitChan.packets (h : HitChan) : Nat := count (fun w : FifoWord => w.last) h.visible
/-- FREE as the writer sees it: words that are admitted count as written, so that no admission overfills the FIFO (R202, R204). -/
def HitChan.free (h : HitChan) : Nat := 256 - (h.adm - h.rdSync.2)
/-- Nothing moves in the transport of a channel. -/
def HitChan.quiet (h : HitChan) : Bool :=
  h.queue.isEmpty && h.chain.all (·.isNone) && h.packing.isEmpty && h.fifo.isEmpty && h.rdSync == (h.rd, h.rd) && h.wrSync == (h.wr, h.wr)

/-- The item of a channel whose word the arbiter reads takes it into staging; a parity error poisons it (R206). -/
def stageWord (ch : Nat) (bad : Bool) : List Item → List Item
  | [] => []
  | i :: is =>
    if i.ch = ch ∧ 0 < i.left then { i with left := i.left - 1, poison := i.poison || bad } :: is else i :: stageWord ch bad is

/-- A cycle of CORE: the copies of the write pointers move, and the arbiter reads one word of the next channel in turn that has a whole item
(R206). -/
def State.coreCycle (s : State) : State :=
  let n := max s.res.channels 1
  let s := (List.range n).foldl (fun s k => let h := s.hitChan k; if h.quiet then s else s.setHitChan k { h with wrSync := (h.wr, h.wrSync.1) }) s
  match ((List.range n).map fun k => (s.hits.turn + k) % n).find? fun k => decide (0 < (s.hitChan k).packets) with
  | none => s
  | some k =>
    let h := s.hitChan k
    match h.fifo with
    | [] => s
    | w :: ws =>
      let bad := decide (parityOf w.data ≠ w.parity)
      let s := s.setHitChan k { h with fifo := ws, rd := h.rd + 1, mid := !w.last }
      let s := { s with hits := { s.hits with turn := (k + 1) % n, items := stageWord k bad s.hits.items } }
      if bad then s.raise 8 1 0 else s

/-- Cycles of the transport: CORE at 2 GHz, the channel side at half that rate (R203, R206). -/
def State.transportCycles (s : State) : Nat → State
  | 0 => s
  | n + 1 =>
    let s := if n % 2 = 0 then s else
      (List.range s.res.channels).foldl (fun s k => let h := s.hitChan k; if h.quiet then s else s.setHitChan k h.writeCycle) s
    State.transportCycles s.coreCycle n

/-- The transport has run up to the present; once every FIFO is empty nothing moves any more, so no more cycles are made than what it holds
can need. -/
def State.transport (s : State) : State :=
  let gone := (ctDiff s.time.ct s.hits.ranTo).toNat / 512
  let work := ((List.range s.res.channels).map fun k =>
    let h := s.hitChan k
    if h.quiet then 0 else 24 + h.queue.length + h.packing.length + 4 * h.fifo.length + count (fun x : Option (Word × Bool) => x.isSome) h.chain).sum
  let s := s.transportCycles (2 * min gone work)
  { s with hits := { s.hits with ranTo := s.time.ct } }

-- admission (R202) ---------------------------------------------------------------------------------------------------------------------------

/-- An item refused at its admission point (R202). -/
def State.hitWhey (s : State) (ch flits : Nat) (fifo : Bool) : State :=
  let s := s.bump (0x140050 + ch * 0x100) 1
  let s := if fifo then s.bump (0x140058 + ch * 0x100) 1 else s
  let s := s.bump (0x140060 + ch * 0x100) flits
  if s.hits.wheyNow then s
  else ({ s with hits := { s.hits with wheyNow := true } } : State).raise 8 0 (at32 0 ch)

/-- Zero suppression lets an item pass (R197). -/
def passes (f : HitFrame) (amp tot : Nat) (open_ : Bool) : Bool :=
  match fld f.zs 1 0 with
  | 0 => false
  | 1 => true
  | 2 => decide (fld f.zs 27 16 ≤ amp)
  | _ => decide (fld f.base 31 16 ≤ tot) && !open_

/-- The budget of an item's frame when it may be admitted, its FIFO apart (R11, R17, R202). -/
def State.hitBudget (s : State) (it : Item) : Option HitFrame :=
  if !s.time.aligned || s.time.infForce || !s.b .hbCfg 0 || (s.pathOf 2).isNone then none
  else match s.budgetOf it.ch it.fn with
    | some f => if f.budget < f.used + it.flits.length then none else some f
    | none => none

/-- An item at the admission point: suppressed, admitted or refused (R11, R17, R197, R202). -/
def State.offerItem (s : State) (it : Item) (amp tot : Nat) (open_ : Bool) : State :=
  let ch := it.ch
  let n := it.flits.length
  if !passes (s.hitValues ch it.fn) amp tot open_ then s.bump (0x140048 + ch * 0x100) 1
  else match s.hitBudget it with
    | none => s.hitWhey ch n false
    | some f =>
      let s := s.transport
      let h := s.hitChan ch
      if h.free < n then s.hitWhey ch n true
      else
        let s := s.setHitChan ch { h with queue := h.queue ++ itemWrites it.flits, adm := h.adm + n }
        let s := s.useBudget ch { f with used := f.used + n }
        ({ s with hits := { s.hits with items := s.hits.items ++ [it] } } : State).bump (0x140040 + ch * 0x100) 1

/-- The wait of a hit for its trailing stop is over (R196). -/
def OpenHit.settled (h : OpenHit) (now : CT) : Bool :=
  let p := h.stop
  !p.useTot || h.closed ||
    decide (0 < ctDiff now (BitVec.ofInt 64 ((p.tick.toNat : Int) * 512 + p.corrected + (p.wait : Int) * 8192)))

/-- The oldest hit of a channel forms its item, when its trailing stop is settled and the item's frame has begun. -/
def State.formHit (s : State) (ch : Nat) : State :=
  match (s.chan ch).hits with
  | [] => s
  | h :: rest =>
    let (it, amp, tot, open_) := s.formItem ch h
    if !h.settled s.time.ct || decide (0 < sdiff 48 it.fn.toNat s.time.fn.toNat) then s
    else (s.setChan ch { s.chan ch with hits := rest }).offerItem it amp tot open_

/-- The oldest hits of a channel, up to n of them. -/
def State.formHitsOf (s : State) (ch : Nat) : Nat → State
  | 0 => s
  | n + 1 => State.formHitsOf (s.formHit ch) ch n

/-- Every hit that is settled, channel by channel. -/
def State.formAll (s : State) : List Nat → State
  | [] => s
  | ch :: cs =>
    let s := s.drainStops ch (some s.time.ct) 16
    State.formAll (s.formHitsOf ch (s.chan ch).hits.length) cs

/-- The oldest hit that still waits gets no trailing stop (R196). -/
def endWait : List OpenHit → List OpenHit
  | [] => []
  | h :: hs => if h.closed then h :: endWait hs else { h with closed := true } :: hs

-- the close of a frame -----------------------------------------------------------------------------------------------------------------------

/-- Items packed in order into payloads of at most `maxp` flits (R207). -/
def packItems (maxp : Nat) : List Item → List Item → Nat → List (List Item)
  | [], cur, _ => if cur = [] then [] else [cur]
  | it :: rest, cur, n =>
    if cur ≠ [] ∧ maxp < n + it.flits.length then cur :: packItems maxp rest [it] it.flits.length
    else packItems maxp rest (cur ++ [it]) (n + it.flits.length)

/-- Curds of type HIT formed from packed items; the indices name those whose staging word read as poisoned (R208, R211). -/
def State.formHits (s : State) (fn : Word) (bad : List Nat) : List (List Item) → Nat → State
  | [], _ => s
  | g :: gs, i =>
    let mark (r : Rind) : Rind :=
      { r with invPresent := g.any (·.inv), rangeSwitch := g.any (·.rangeSwitch), poisoned := g.any (·.poison) || bad.contains i }
    State.formHits (s.formCurd 2 fn (g.flatMap (·.flits)) mark true none) fn bad gs (i + 1)

/-- Items of the closed frame in order, with those marked that met a parity error (R206, R207). -/
def closedItems (items : List Item) (fn : FN) (bad : List Nat) : List Item :=
  let l := sortBy (fun a b => decide (a.fine < b.fine ∨ (a.fine = b.fine ∧ a.ch ≤ b.ch))) (items.filter fun i => i.fn == fn)
  (l.zip (List.range l.length)).map fun x => if bad.contains x.2 then { x.1 with poison := true } else x.1

/-- The oldest frame that has ended is closed, at its tick plus C: its late items are formed, its items become HIT curds, or an EMPTY curd
where R34 requires one, ready 64 ns later (R201, R206, R207, R210, R211). -/
def State.closeHit (s : State) (parityErrors stagePoison : List Nat) : State :=
  match s.hits.ended with
  | [] => s
  | (fn, at_) :: rest =>
    if !s.rel 5 then s
    else
      let s := ((s.advanceTo at_).formAll (List.range s.res.channels)).transport
      let items := closedItems s.hits.items fn parityErrors
      let groups := packItems (s.f .hbCfg 23 16) items [] 0
      let forget (s : State) (k : Nat) : State :=
        let h := s.hitChan k
        s.setHitChan k { h with frames := h.frames.filter fun f => f.fn != fn }
      let s := (List.range 48).foldl forget { s with hits := { s.hits with ended := rest, items := s.hits.items.filter fun i => i.fn != fn } }
      let s := if parityErrors.any fun i => decide (i < items.length) then s.raise 8 1 0 else s
      let n := s.sched.held.length
      let s := s.formHits (fn.setWidth 32) stagePoison groups 0
      let s := if s.b .hbCfg 0 then s.closeStream 2 (fn.setWidth 32) else s
      s.readyFrom n (at_ + 32768)

/-- HIT_FRAME_CLOSE: the indices name the items that met a parity error in the transport, and the curds whose staging word is poisoned. -/
def execHitFrameClose (parityErrors stagePoison : List Nat) (s : State) : Res := .next (s.closeHit parityErrors stagePoison)

/-- Frames whose close has come are closed, oldest first (R201). -/
def State.closeHits (s : State) : State :=
  s.hits.ended.foldl (fun s f => if decide (0 ≤ ctDiff s.time.ct f.2) && decide (s.hits.ended.head? = some f) then s.closeHit [] [] else s) s

-- carriage ---------------------------------------------------------------------------------------------------------------------------------------

/-- Channels that will be enabled and form items (R165, R212). -/
def State.hitChannels (s : State) : List Nat :=
  (List.range s.res.channels).filter fun n => s.bw (.caChCfg n) 0 && !(s.bw (.caChCfg (n / 2 * 2)) 7 && decide (n % 2 = 1))

/-- s of R212: the largest item. -/
def State.hitItem (s : State) : Nat :=
  1 + ((s.hitChannels.map fun n => if s.bw (.hbChSnip n) 0 then s.fw (.hbChSnip n) 13 8 else 0).foldl max 0)

/-- f of R212: flits per frame that the budgets can produce on the HIT path. -/
def State.hitFlits (s : State) : Nat :=
  let b := (s.hitChannels.map fun n => s.fw (.hbChBudget n) 15 0).sum
  let x := s.fw .hbCfg 23 16 + 1 - s.hitItem
  max 3 (b + 2 * cdiv b x)

/-- The staging area as a window range. -/
def State.stageRange (s : State) : Nat × Nat :=
  let lo := 0x42000000 + s.fw .hbStage 11 0 * 4096
  (lo, lo + s.fw .hbStage 28 16 * 4096)

/-- HB_CHn_STATUS: FREE, and the whole items that wait (R204, R206). -/
def hitStatus (s : State) (n : Nat) : Word :=
  let h := (s.transport).hitChan n
  at32 16 h.free ||| BitVec.ofNat 32 (h.packets - if h.mid then 1 else 0)

end Sys2Proof.Machine
end

