-- ==== Sys2Proof/Machine/Rennet.lean ====
section
/-!
DEFINITION. Rennet: candidates and their sources (R215 to R219), the decision (R220 to R222), the transient buffer (R223 to R225),
marks and read-outs (R226 to R229), segments (R230 to R233), the auto timer (R234), arming (R235), TRIG_OUT (R236).
-/
/-- A chain time moved on by fine units. -/
def BitVec.plus (c : BitVec 64) (d : Nat) : BitVec 64 := c + BitVec.ofNat 64 d

namespace Sys2Proof.Machine

/-- The rennet record replaced. -/
def State.setRennet (s : State) (f : Rennet → Rennet) : State := { s with rennet := f s.rennet }

/-- One nanosecond in fine units. -/
def ns : Nat := 512

/-- The frame period in fine units. -/
def State.frameFine (s : State) : Nat := s.time.period.toNat * 512
/-- TR_BUDGET and its frame at a chain time: the present frame or one to come at the present period, a frame that has ended, or one before all
that rennet keeps, at the present period (R14, R30). -/
def State.trFrame (s : State) (t : CT) : TrFrame :=
  let here (k : Int) : TrFrame :=
    { fn := s.time.fn + BitVec.ofInt 48 k, tick := s.tickCt + BitVec.ofInt 64 (k * s.frameFine), len := s.frameFine, budget := s.reg .trBudget }
  let off := ctDiff t s.tickCt
  if 0 ≤ off then here (off / s.frameFine)
  else match s.rennet.frames.find? fun f => decide (0 ≤ ctDiff t f.tick) with
    | some f => f
    | none => here (off / s.frameFine)
/-- The frame that contains a chain time (R30). -/
def State.frameOf (s : State) (t : CT) : FN := (s.trFrame t).fn
/-- The tick of a frame. -/
def State.tickOf (s : State) (n : FN) : CT :=
  match s.rennet.frames.find? fun f => f.fn == n with
  | some f => f.tick
  | none => s.tickCt + BitVec.ofInt 64 (sdiff 48 n.toNat s.time.fn.toNat * s.frameFine)
/-- A chain time with the epoch folded in, in fine units (R224). -/
def State.extFine (s : State) (t : CT) : Nat := ((s.time.epoch.toNat * 2 ^ 64 + s.time.ct.toNat : Int) + ctDiff t s.time.ct).toNat

/-- DECIDE in force, in fine units. -/
def State.decide_ (s : State) : Nat := s.f .trCfg 19 0 * ns

-- candidates -----------------------------------------------------------------------------------------------------------------------------

/-- A candidate put in its place by T (R220). -/
def insertCand (c : Cand) : List Cand → List Cand
  | [] => [c]
  | x :: xs => if ctDiff c.t x.t < 0 then c :: x :: xs else x :: insertCand c xs

/-- TRIG flits on a lane. -/
def trigOuts (n : Nat) (l : List (BitVec 16 × BitVec 10 × CT)) : List Out := l.map fun x => .trig n x.1 x.2.1 x.2.2

/-- The TRIG flits that wait on a lane leave (R372). -/
def State.flushTrigs (s : State) (n : Nat) : State :=
  let l := s.lane n
  if l.trigWait.isEmpty then s else { s.setLane n { l with trigWait := [] } with out := s.out ++ trigOuts n l.trigWait }

/-- A TRIG flit for a lane leaves at once, but waits where it would exceed RESERVE link flits in the slot under way (R372). -/
def State.putTrig (s : State) (n : Nat) (x : BitVec 16 × BitVec 10 × CT) : State :=
  let l := s.lane n
  let go (s : State) : State := { s with out := s.out ++ trigOuts n [x] }
  match l.slotTrig with
  | none => go (s.flushTrigs n)
  | some (e, k) =>
    if 0 ≤ ctDiff s.time.ct e then go (s.flushTrigs n)
    else if k = 0 then s.setLane n { l with trigWait := l.trigWait ++ [x] }
    else go (s.setLane n { l with slotTrig := some (e, k - 1) })

/-- A slot of so many flits, of which so many may be TRIG flits, opens on a lane: those that wait go first (R372). -/
def State.openTrigs (s : State) (n reserve : Nat) (e : CT) : State :=
  let l := s.lane n
  { s.setLane n { l with slotTrig := some (e, reserve - l.trigWait.length), trigWait := l.trigWait.drop reserve } with
    out := s.out ++ trigOuts n (l.trigWait.take reserve) }

/-- A trigger broadcast sent on lanes (R219, R384). -/
def State.sendTrig (s : State) (origin : BitVec 16) (sources : BitVec 10) (t : CT) (except : Nat) : List Nat → State
  | [] => s
  | n :: ns =>
    let s := if n ≠ except ∧ s.carries n = true ∧ s.b (.lkLCfg n) 24 = true then s.putTrig n (origin, sources, t) else s
    State.sendTrig s origin sources t except ns

/-- The last sixteen (ORIGIN, T) pairs forwarded (R384). -/
def State.rememberTrig (s : State) (origin : BitVec 16) (t : CT) : State :=
  { s with link := { s.link with trigSeen := ((origin, t) :: s.link.trigSeen).take 16 } }

/-- A candidate reaches the arbiter: kept for its decision, or late (R220). -/
def State.arbiterAt (s : State) (at_ : CT) (c : Cand) : State :=
  if 0 ≤ ctDiff at_ (c.t.plus s.decide_) then (s.bump 0x160110 1).raise 9 1 0
  else s.setRennet fun r => { r with cands := insertCand c r.cands }

def State.arbiter (s : State) (c : Cand) : State := s.arbiterAt s.time.ct c

/-- A candidate of an enabled local source: sent on the chain where BCAST_TX asks, and offered (R215, R219). -/
def State.offerAt (s : State) (at_ : CT) (bit : Nat) (t : CT) (coarse ovf : Bool) : State :=
  if !s.rel 5 || !s.b .trSrcEn bit then s
  else
    let src := BitVec.ofNat 10 (2 ^ bit)
    let me := s.ports.nodeId
    let s := if s.b .trSrcEn (16 + bit) && decide (bit < 8) then (s.sendTrig me src t 48 (List.range 48)).rememberTrig me t else s
    s.arbiterAt at_ { t, sources := src, origin := me, coarse, ovf }
def State.offer (s : State) (bit : Nat) (t : CT) (coarse ovf : Bool) : State := s.offerAt s.time.ct bit t coarse ovf

-- the trigger FIFOs of the engine array (R263) -------------------------------------------------------------------------------------------

/-- Candidates that wait in a cluster's trigger FIFO. -/
def State.trigsOf (s : State) (c : Nat) : List CT := (SMap.get {} s.engines.cl c).trigs
def State.setTrigs (s : State) (c : Nat) (l : List CT) : State :=
  { s with engines := { s.engines with cl := SMap.set {} s.engines.cl c { SMap.get {} s.engines.cl c with trigs := l } } }

/-- One CORE cycle: the next cluster in turn that has a candidate hands its oldest to the arbiter (R263). -/
def State.drainTrig (s : State) (at_ : CT) : State :=
  match ((List.range 16).map fun i => (s.engines.trigTurn + i) % 16).find? fun c => s.trigsOf c != [] with
  | none => s
  | some c =>
    let t := (s.trigsOf c).headD 0
    let s := s.setTrigs c (s.trigsOf c).tail
    ({ s with engines := { s.engines with trigTurn := (c + 1) % 16 } } : State).offerAt at_ 7 t false false

/-- Cycles in turn, from a chain time on. -/
def State.drainFrom (s : State) (at_ : CT) : Nat → State
  | 0 => s
  | n + 1 => State.drainFrom (s.drainTrig (at_.plus 256)) (at_.plus 256) n

/-- The candidates that wait in the trigger FIFOs. -/
def State.trigsWaiting (s : State) : Nat := ((List.range 16).map fun c => (s.trigsOf c).length).sum

/-- The trigger FIFOs drained up to a chain time, one candidate per CORE cycle in total (R263). -/
def State.drainTrigs (s : State) (until_ : CT) : State :=
  let waiting := s.trigsWaiting
  let n := (ctDiff until_ s.engines.trigRan).toNat / 256
  if waiting = 0 ∨ n = 0 then s
  else
    let s := s.drainFrom s.engines.trigRan (min n waiting)
    { s with engines := { s.engines with trigRan := s.engines.trigRan.plus (n * 256) } }

/-- A candidate of engine e enters its cluster's FIFO; what finds it full is lost. An engine issues at most one TRIG per CORE cycle,
and one that comes apart finds the FIFOs drained (R238, R263). DESIGN CHOICE: log 58. -/
def State.queueTrig (s : State) (e : Nat) (t : CT) (apart : Bool) : State × Bool :=
  let now := s.time.ct
  let at_ := match SMap.find s.engines.trigAt e with | some l => if 0 ≤ ctDiff l now then l.plus 256 else now | none => now
  let s : State := { s with engines := { s.engines with trigAt := SMap.put s.engines.trigAt e at_ } }
  let s := s.drainTrigs (if apart then s.engines.trigRan.plus (s.trigsWaiting * 256) else at_)
  let l := s.trigsOf (e / 16)
  if 8 ≤ l.length then (s, true)
  else
    let s := if (List.range 16).all fun c => s.trigsOf c == [] then { s with engines := { s.engines with trigRan := at_ } } else s
    (s.setTrigs (e / 16) (l ++ [t]), false)

/-- The candidate that the arbiter decides next: those that reach it before its decision stand with it (R220, R263). -/
def State.nextCand (s : State) : State :=
  match s.rennet.cands with
  | [] => s.drainTrigs s.time.ct
  | c :: _ =>
    match (s.drainTrigs (c.t.plus s.decide_)).rennet.cands with
    | d :: _ => s.drainTrigs (d.t.plus s.decide_)
    | [] => s

/-- TRIG_FORCE (R215). -/
def execTrigForce (r : Req) (s : State) : Res :=
  .next (s.runOp 0x401 r true fun s => needStep s 5 <|
    if !s.rennet.armed then no s .stateRefused
    else yes (s.offer 6 (s.time.ct &&& ~~~(0x1FF : CT)) false false))

/-- TRIG_IN_EDGE: stamped for its FIFO and offered, one edge per 8 ns (R159, R160, R215). -/
def trigInEdge (t : CT) (s : State) : Res :=
  .next (if !s.rel 7 then s
    else
      let near := match s.rennet.lastIn with | some l => decide (0 ≤ ctDiff t l ∧ ctDiff t l < 4096) | none => false
      let s := s.advanceTo t
      if near then s
      else ((s.setRennet fun r => { r with lastIn := some t }).stamp 1 t).offer 4 t false (stampOvf s t))

/-- A write of TR_CMP_CTRL.ARM: the target lies 1 µs ahead or more (R218). -/
def wrCmpArm (s : State) : Except Status State :=
  let t : CT := (s.reg .trCmpTargetHi) ++ (s.reg .trCmpTargetLo)
  if ctDiff t s.time.ct < usFine then .error .outOfRange
  else .ok (s.setRennet fun r => { r with cmpArmed := true, cmpAt := t })

/-- CMP_ARM (R218). -/
def execCmpArm (port : Nat) (s : State) : Res :=
  .next (if canWrite s port 7 then s.action 9 fun s => writeOr s (wrCmpArm s) else s)

/-- CT_COMPARE: the target is reached; a periodic compare re-arms (R218). -/
def ctCompare (s : State) : Res :=
  .next (if !s.rel 7 || !s.rennet.cmpArmed then s
    else
      let t := s.rennet.cmpAt
      let s := s.advanceTo t
      let p := (s.reg .trCmpPeriod).toNat
      let s := if p = 0 then s.setRennet fun r => { r with cmpArmed := false } else s.setRennet fun r => { r with cmpAt := t.plus (p * ns) }
      s.offer 5 t false false)

/-- The channels of a 48-bit mask in two registers. -/
def State.chMask (s : State) (lo hi : Reg) : List Nat :=
  (List.range 48).filter fun n => if n < 32 then s.b lo n else s.b hi (n - 32)

/-- CARE and VALUE bits of a pattern unit. -/
def State.care (s : State) (k n : Nat) : Bool := if n < 32 then s.b (.trPatCareLo k) n else s.b (.trPatCareHi k) (n - 32)
def State.patValue (s : State) (k n : Nat) : Bool := if n < 32 then s.b (.trPatValueLo k) n else s.b (.trPatValueHi k) (n - 32)

/-- A channel's discriminator rose within the window that ends with a cycle (R216). -/
def State.seen (s : State) (n window : Nat) (cycle : CT) : Bool :=
  s.chanOn n && (match (s.chan n).lastRise with
    | some t => decide (0 ≤ ctDiff t ((cycle.plus ns) - BitVec.ofNat 64 (window * ns)) ∧ ctDiff t (cycle.plus ns) < 0)
    | none => false)

/-- A channel's discriminator rose in a cycle. -/
def State.roseIn (s : State) (cycle : CT) (n : Nat) : Bool :=
  s.chanOn n && (match (s.chan n).lastRise with | some t => decide (0 ≤ ctDiff t cycle ∧ ctDiff t (cycle.plus ns) < 0) | none => false)

/-- PATTERN_FIRE: the unit's condition holds in a cycle; T is the corrected stamp of the completing stop, or the cycle's start where
that stop was lost (R216, R217). -/
def patternFire (k : Nat) (cycle : CT) (s : State) : Res :=
  .next (if !s.rel 9 || decide (4 ≤ k) || !s.b (.trPatCareHi k) 31 then s
    else
      let window := s.f (.trPatCareHi k) 21 16 + 1
      let req := (List.range 48).filter fun n => s.care k n
      let holds := req.all fun n => s.patValue k n == s.seen n window cycle
      let rose := req.filter fun n => s.patValue k n && s.roseIn cycle n
      let dead := match SMap.find s.rennet.lastFire k with
        | some f => decide (0 ≤ ctDiff cycle f ∧ ctDiff cycle f < (window * ns : Nat))
        | none => false
      match rose with
      | [] => s
      | n :: _ =>
        if !holds || dead then s
        else
          let s := s.advanceTo cycle
          let s := s.setRennet fun r => { r with lastFire := SMap.put r.lastFire k cycle }
          match (s.chan n).lastStamp with
          | some t => s.offer k t false false
          | none => s.offer k cycle true false)

-- the transient buffer -----------------------------------------------------------------------------------------------------------------------

/-- Channels in TR_TB_CHMASK in force. -/
def State.tbChans (s : State) : List Nat := s.chMask .trTbChmaskLo .trTbChmaskHi
/-- The buffer lies in global SRAM: WHERE is 1, as it always reads on the F variants (R223). -/
def State.tbSram (s : State) : Bool := s.isF || s.b .trTbCfg 30
/-- Space, base and size of the buffer (R223). -/
def State.tbPlace (s : State) : Bool × Nat × Nat :=
  if s.tbSram then (false, 0x42000000 + s.f .trTbSram 11 0 * 4096, s.f .trTbSram 28 16 * 4096)
  else let g := s.region (s.f .trTbCfg 5 0); (true, g.base, if g.state = 0 then 0 else g.size)
/-- N: blocks of each ring (R224). -/
def State.tbBlocks (s : State) : Nat :=
  let n := s.tbChans.length
  if n = 0 then 0 else 2 * (s.tbPlace.2.2 / (n * 192))
/-- The block span of a channel in fine units: 32 ns, or 16 ns when it interleaves (R224). -/
def State.spanOf (s : State) (ch : Nat) : Nat := if s.paired ch then 8192 else 16384

/-- The six flits of a block: sample j in bits [767 − 12j : 756 − 12j] of their string (R224). -/
def blockFlits (codes : List (BitVec 12)) : List Flit :=
  let v := (codes.map (·.toNat)).foldl (fun a x => a * 4096 + x) 0
  (List.range 6).map fun i => BitVec.ofNat 128 (v / 2 ^ (640 - 128 * i))

/-- LEN of a record in blocks, and the size of its slot (R230). -/
def Arm.len (a : Arm) : Nat := a.pre + a.post
def slotBytes (chans len : Nat) : Nat := cdiv (64 + chans * len * 96) 192 * 192

/-- The index of the current slot of a segment: the open record's, or the one after the complete ones. -/
def Rennet.slot (r : Rennet) : Nat := (r.records.filter (·.done)).length

/-- A chain time of a record with its epoch, in fine units. -/
def Record.ext (q : Record) : Nat := q.epoch.toNat * 2 ^ 64 + q.t.toNat
/-- The first block of a channel in a record: it contains T − PRE × s (R230). -/
def Record.firstOf (q : Record) (pre k : Nat) : Nat := let span := q.spans.getD k 16384; (q.ext - pre * span) / span
/-- The end of the last block of a record in fine units, over its channels (R230, R231). -/
def Record.endFine (q : Record) (pre len : Nat) : Nat :=
  ((List.range q.spans.length).map fun k => (q.firstOf pre k + len) * q.spans.getD k 16384).foldl max 0
/-- A chain time in fine units with the epoch, as CT. -/
def ctOf (fine : Nat) : CT := BitVec.ofNat 64 fine

/-- Where block b of the k-th channel of the mask is written now: in the current slot of an open segment, nowhere while that takes no samples
or once it has closed, otherwise in the channel's ring (R224, R230 to R232). -/
def State.blockAddr (s : State) (k b : Nat) : Option Nat :=
  let r := s.rennet
  match r.seg with
  | some g =>
    if !r.segOpen || r.rearming || decide (g.len = 0) then none
    else
      let fits := match r.records.getLast? with
        | some q => q.done || decide (b < q.firstOf r.arm.pre k + g.len)
        | none => true
      if fits then some (g.base + r.slot * slotBytes g.chans.length g.len + 64 + k * g.len * 96 + b % g.len * 96) else none
  | none =>
    let n := s.tbBlocks
    if n = 0 then none else some (s.tbPlace.2.1 + k * n * 96 + b % n * 96)

/-- A block written for the k-th channel of the mask. -/
def State.writeBlock (s : State) (k b : Nat) (codes : List (BitVec 12)) : State :=
  match s.blockAddr k b with
  | some a => s.writeRange s.tbPlace.1 a (flitMem (blockFlits (codes ++ List.replicate (64 - codes.length) 0))) []
  | none => s

/-- n blocks of zeros of the k-th channel of the mask from block b on; the samples that a channel took of its block before it was disabled
stay. -/
def State.writeZeros (s : State) (k ch b : Nat) : Nat → State
  | 0 => s
  | n + 1 =>
    let codes := match SMap.find s.rennet.blocks ch with
      | some (st, l) => if s.extFine st / s.spanOf ch = b then l else []
      | none => []
    State.writeZeros (s.writeBlock k b codes) k ch (b + 1) n

/-- Blocks of zeros for the masked channels that are disabled, up to the present block of each (R224). -/
def State.zeroBlocks (s : State) : List (Nat × Nat) → State
  | [] => s
  | (k, ch) :: rest =>
    let span := s.spanOf ch
    let upto := s.extFine s.time.ct / span
    let since := match s.rennet.since with | some t => s.extFine t / span | none => upto
    let from_ := (SMap.find s.rennet.zeroTo ch).getD since
    let room := match s.rennet.seg with | some g => g.len | none => s.tbBlocks
    let n := min (upto - from_) room
    let s := if s.chanOn ch then s
      else (s.writeZeros k ch (upto - n) n).setRennet fun r => { r with zeroTo := SMap.put r.zeroTo ch upto }
    State.zeroBlocks s rest

/-- The masked channels with their places in the mask. -/
def State.tbPlaces (s : State) : List (Nat × Nat) := (List.range s.tbChans.length).zip s.tbChans

/-- The blocks of disabled channels are brought up to the present. -/
def State.zeroNow (s : State) : State := if s.b .trTbCfg 31 then s.zeroBlocks s.tbPlaces else s

/-- A raw code of a channel enters the block being filled; a full block is written, with those of disabled channels (R223, R224). -/
def State.bufferSample (s : State) (ch : Nat) (t : CT) (code : BitVec 12) : State :=
  let chans := s.tbChans
  if !s.b .trTbCfg 31 || !chans.contains ch then s
  else
    let span := s.spanOf ch
    let ext := s.extFine t
    let start := t - BitVec.ofNat 64 (ext % span)
    let pos := ext % span / (span / 64)
    let codes := match SMap.find s.rennet.blocks ch with
      | some (st, l) => if st = start then l else []
      | none => []
    let codes := codes ++ List.replicate (pos - codes.length) 0 ++ [code]
    if pos < 63 then s.setRennet fun r => { r with blocks := SMap.put r.blocks ch (start, codes) }
    else
      let s := s.setRennet fun r => { r with blocks := SMap.erase r.blocks ch }
      ((s.tbPlaces.find? fun x => x.2 == ch).map fun x => s.writeBlock x.1 (ext / span) codes).getD s |>.zeroNow

-- read-outs ----------------------------------------------------------------------------------------------------------------------------------------

/-- Channels of a read-out (R227). -/
def State.roChans (s : State) : List Nat := (s.chMask .trRoChmaskLo .trRoChmaskHi).filter fun n => s.tbChans.contains n

/-- First block and number of blocks of a channel that meet [T − PRE × s, T + POST × s) (R227). -/
def State.roBlocks (s : State) (ro : Readout) (span : Nat) : Nat × Nat :=
  let x := s.extFine ro.t
  let lo := (x - ro.pre * span) / span
  (lo, if ro.pre + ro.post = 0 then 0 else cdiv (x + ro.post * span) span - lo)

/-- Flits of a read-out: 4 × ceil(B / 42) + 6 × B for each channel (R227). -/
def State.roFlits (s : State) (ro : Readout) : Nat :=
  (ro.chans.map fun x => let b := (s.roBlocks ro x.2.2).2; 4 * cdiv b 42 + 6 * b).sum

/-- R of R229 in fine units, with the largest span of the read-out's channels. -/
def State.roDelay (s : State) (post : Nat) : Nat :=
  let span := (s.roChans.map s.spanOf).foldl max (if s.roChans = [] then 16384 else 0)
  max s.decide_ ((post + 1) * span + 200 * ns)

/-- The read-out of a trigger, by the arm and the masks in force (R227, R229). -/
def State.readoutOf (s : State) (num : BitVec 16) (t : CT) (fn : FN) : Readout :=
  let a := s.rennet.arm
  { num, t, fn, pre := a.pre, post := a.post, vat := s.tbPlace.1, base := s.tbPlace.2.1, blocks := s.tbBlocks,
    chans := (s.tbPlaces.filter fun x => s.roChans.contains x.2).map fun x => (x.1, x.2, s.spanOf x.2),
    ready := t.plus (s.roDelay a.post + 64 * ns) }

/-- Where a block of a read-out lies in its ring (R224). -/
def Readout.addr (ro : Readout) (k b : Nat) : Option Nat := if ro.blocks = 0 then none else some (ro.base + k * ro.blocks * 96 + b % ro.blocks * 96)

/-- The range of a channel at an instant, from its mark log (R225). -/
def State.rangeAt (s : State) (ch : Nat) (t : CT) : BitVec 2 :=
  match ((SMap.get [] s.rennet.log ch).filter fun m => decide (ctDiff m.ct t ≤ 0)).getLast? with
  | some m => m.range
  | none => 0

/-- The log of a channel is full and begins after an instant (R225). -/
def State.rangeUnknown (s : State) (ch : Nat) (t : CT) : Bool :=
  let l := SMap.get [] s.rennet.log ch
  64 ≤ l.length && (match l.head? with | some m => decide (ctDiff t m.ct < 0) | none => false)

/-- The first block of a ring that is valid: still in the ring and after the buffer was enabled (R228). -/
def State.validFrom (s : State) (ro : Readout) (span : Nat) : Nat :=
  let since := match s.rennet.since with | some t => cdiv (s.extFine t) span | none => 0
  max since (s.extFine s.time.ct / span - ro.blocks)

/-- The changes of a channel that fall within n blocks of a span from a start, as KIND, RANGE, OFFSET and LENGTH: an INV interval that runs in
from before stands at OFFSET 0 (R225, R228). -/
def State.marksIn (s : State) (ch : Nat) (start : CT) (n span : Nat) : List (Nat × Nat × Nat × Nat) :=
  let step := span / 64
  (SMap.get [] s.rennet.log ch).filterMap fun m =>
    let off := ctDiff m.ct start
    let stop := off + (m.samples * step : Nat)
    if decide ((n * span : Nat) ≤ off) || decide (off < 0 ∧ stop ≤ 0) then none
    else
      let first := cdiv off.toNat step
      some (m.kind.toNat, m.range.toNat, first, min (cdiv stop.toNat step) (n * 64) - first)

/-- The mark flit of a curd: up to three changes, or three and MORE (R228). -/
def markFlit (marks : List (Nat × Nat × Nat × Nat)) : Flit :=
  let ms := if 3 < marks.length then marks.take 3 ++ [(3, 0, (marks.getD 3 (0, 0, 0, 0)).2.2.1, 0)] else marks
  let w (m : Nat × Nat × Nat × Nat) : Nat := m.1 * 2 ^ 30 + m.2.1 * 2 ^ 28 + m.2.2.1 % 16384 * 2 ^ 14 + m.2.2.2 % 16384
  BitVec.ofNat 128 (((List.range 4).map fun i => w (ms.getD i (0, 0, 0, 0))).foldl (fun a x => a * 2 ^ 32 + x) 0)

/-- One READOUT curd: blocks [b0, b0 + n) of a channel (R227, R228). -/
def State.formReadoutCurd (s : State) (ro : Readout) (k ch span lo total b0 n : Nat) (dep : Option Nat) (found : List Finding) : State :=
  let step := span / 64
  let valid := s.validFrom ro span
  let short := decide (lo < valid)
  let start : CT := ro.t - BitVec.ofInt 64 ((s.extFine ro.t : Int) - b0 * span)
  let unknown := s.rangeUnknown ch (start - BitVec.ofNat 64 ((b0 - lo) * span))
  let stampAll : Int := ((s.extFine ro.t : Int) - lo * span + step / 2) / step
  let preValid := (stampAll - ((min (valid - lo) total * 64 : Nat) : Int)).toNat
  let addrs := (List.range n).map fun i => if b0 + i < valid then none else ro.addr k (b0 + i)
  let s := addrs.foldl (fun s a => match a with | some a => s.readRange ro.vat a (a + 96) 4 found | none => s) s
  let poison := addrs.any fun a => match a with | some a => s.anyPoison ro.vat a (a + 96) | none => false
  let data := addrs.flatMap fun a => match a with | some a => rdFlits (s.mem ro.vat) a 6 | none => List.replicate 6 0
  let marks := s.marksIn ch start n span
  let range0 := if unknown then s.freeVal % 4 else (s.rangeAt ch start).toNat
  let s := if unknown then s.draw else s
  let bit (b : Bool) : Nat := if b then 1 else 0
  let header : Flit := BitVec.ofNat 128 (ro.num.toNat * 2 ^ 112 + ch * 2 ^ 106 + range0 * 2 ^ 104 + bit short * 2 ^ 103 + bit unknown * 2 ^ 102 +
    bit (span == 8192) * 2 ^ 101 + bit (decide (b0 + n = lo + total)) * 2 ^ 100 + b0 % 2 ^ 32 * 2 ^ 64 +
    low 32 (stampAll - ((b0 - lo) * 64 : Nat)) * 2 ^ 32 + preValid % 2 ^ 32)
  let s := if short then s.raise 9 4 0 else s
  let s := if poison then s.raise 9 6 0 else s
  s.formCurd 5 (ro.fn.setWidth 32) (header :: markFlit marks :: data)
    (fun r => { r with shortPre := short, poisoned := poison, invPresent := marks.any fun m => decide (0 < m.2.2.2) }) true dep

/-- The curds of one channel of a read-out, 42 blocks each. -/
def State.formReadoutChan (s : State) (ro : Readout) (k ch span lo total : Nat) (dep : Option Nat) (found : List Finding) : Nat → Nat → State
  | 0, _ => s
  | fuel + 1, b0 =>
    if lo + total ≤ b0 then s
    else
      let n := min 42 (lo + total - b0)
      State.formReadoutChan (s.formReadoutCurd ro k ch span lo total b0 n dep found) ro k ch span lo total dep found fuel (b0 + n)

/-- Every curd of a read-out. -/
def State.formReadout (s : State) (ro : Readout) (dep : Option Nat) (found : List Finding) : State :=
  ro.chans.foldl (fun s x =>
    let (lo, n) := s.roBlocks ro x.2.2
    s.formReadoutChan ro x.1 x.2.1 x.2.2 lo n dep found (n + 1) lo) s

/-- Read-outs whose data is ready (R229). -/
def State.readyReadouts (s : State) (now : CT) : List Readout := s.rennet.readouts.filter fun r => decide (0 ≤ ctDiff now r.ready)

/-- Read-outs formed one after another. -/
def State.formReadouts (s : State) (dep : Option Nat) (found : List Finding) : List Readout → State
  | [] => s
  | r :: rs => State.formReadouts ((s.setRennet fun x => { x with readouts := x.readouts.erase r }).formReadout r dep found) dep found rs

/-- Read-outs whose entry did not run: their curds are discarded and reported (R26). -/
def State.loseReadouts (s : State) (rs : List Readout) : State :=
  let before := s.sched.held.length
  let s := s.formReadouts none [] rs
  let gone := s.sched.held.drop before
  (s.setHeld (s.sched.held.take before)).loseAll gone

-- marks and closes -----------------------------------------------------------------------------------------------------------------------------------

/-- The flit of a mark (R226). -/
def markOf (m : TrigMark) : Flit :=
  let bit (b : Bool) : Nat := if b then 1 else 0
  BitVec.ofNat 128 (m.num.toNat * 2 ^ 112 + m.cand.sources.toNat * 2 ^ 96 + m.cand.origin.toNat * 2 ^ 80 + bit m.cand.coarse * 2 ^ 79 +
    bit m.cand.ovf * 2 ^ 78 + bit m.noRo * 2 ^ 77 + m.cand.t.toNat)

/-- TRIGGER curds of at most 64 marks; the fuel is their number. -/
def State.formMarks (s : State) (fn : Word) : Nat → List TrigMark → State
  | 0, _ => s
  | _, [] => s
  | n + 1, ms => State.formMarks (s.formCurd 4 fn ((ms.take 64).map markOf) id true none) fn n (ms.drop 64)

/-- A frame that ends is closed for marks and read-outs at its ready times, when rennet was armed for them in it or their streams exist
(R34, R226, R229). -/
def State.endRennet (s : State) (fn : FN) (stop : CT) : State :=
  let r := s.rennet
  let stream := r.armed && decide (r.arm.mode = 1)
  let formed (type : Nat) : Bool := (SMap.find s.sched.formed (streamKey s.ports.nodeId type)).isSome
  s.setRennet fun r =>
    { r with frames := ({ fn, tick := s.tickCt, len := s.frameFine, budget := s.reg .trBudget } :: r.frames).take 4096,
             markDue := if stream || formed 4 || r.cands != [] || r.marks != [] then r.markDue ++ [(fn, stop.plus (s.decide_ + 64 * ns))] else r.markDue,
             roDue := if (stream && r.arm.readout) || formed 5 || r.readouts != [] then
                 r.roDue ++ [(fn, stop.plus (s.roDelay r.arm.post + 64 * ns))] else r.roDue }

/-- The marks of frames whose ready time has come become curds, or an EMPTY curd where R34 requires one (R226). -/
def State.closeMarks (s : State) (now : CT) : Nat → State
  | 0 => s
  | n + 1 =>
    match s.rennet.markDue with
    | [] => s
    | (fn, at_) :: rest =>
      if 0 ≤ ctDiff now at_ then
        let ms := s.rennet.marks.filter fun m => m.fn == fn
        let s := s.setRennet fun r => { r with marks := r.marks.filter fun m => m.fn != fn, markDue := rest }
        State.closeMarks (if ms = [] then s.closeStream 4 (fn.setWidth 32) else s.formMarks (fn.setWidth 32) ms.length ms) now n
      else s

/-- The same for the READOUT stream, whose curds the read-out entries form (R34, R229). -/
def State.closeReadouts (s : State) (now : CT) : Nat → State
  | 0 => s
  | n + 1 =>
    match s.rennet.roDue with
    | [] => s
    | (fn, at_) :: rest =>
      if 0 ≤ ctDiff now at_ then
        let waiting := s.rennet.readouts.any fun r => r.fn == fn
        let s := s.setRennet fun r => { r with roDue := rest }
        State.closeReadouts (if waiting then s else s.closeStream 5 (fn.setWidth 32)) now n
      else s

/-- Both streams of rennet brought up to the present. -/
def State.closeRennet (s : State) : State :=
  (s.closeMarks s.time.ct s.rennet.markDue.length).closeReadouts s.time.ct s.rennet.roDue.length

-- the decision -----------------------------------------------------------------------------------------------------------------------------------------

/-- Rennet was armed at T (R221, R222). -/
def Rennet.armedAt (r : Rennet) (t : CT) : Bool :=
  (r.armed || r.disarmTick.isSome) && decide (0 ≤ ctDiff t r.armTick) &&
  (match r.disarmTick with | some d => decide (ctDiff t d < 0) | none => true)

/-- The record of the last accepted trigger or its re-arm is not complete at T, a time after that trigger; once the segment has closed no
re-arm comes any more (R221, R231). -/
def Rennet.busyAt (r : Rennet) (t : CT) : Bool :=
  r.records != [] && (match r.rearmAt with | some a => decide (ctDiff t a < 0) | none => true)

/-- A miss: counted, raised and stored while the FIFO has room (R231). -/
def State.miss (s : State) (c : Cand) : State :=
  let s := (s.bump 0x160130 1).raise 9 2 0
  s.setRennet fun r => if 16 ≤ r.misses.length then { r with missOvf := true } else { r with misses := r.misses ++ [(c.t, c.sources)] }

/-- TRIG_OUT for an accepted trigger: the pulse is placed on the 62.5 ps grid or skipped (R236). The rounding of a T that is off the
grid is not stated: it goes down or up. -/
def State.scheduleOut (s : State) (t : CT) : State :=
  let w := s.reg .trOutCfg
  if !w.getLsbD 31 then s
  else
    let x := t.plus (fld w 19 0 * ns)
    let off := x.toNat % 32
    let rise := if off = 0 then x else x - BitVec.ofNat 64 off + BitVec.ofNat 64 (s.freeVal % 2 * 32)
    let s := if off = 0 then s else s.draw
    let near := match s.rennet.outLast with | some f => decide (ctDiff rise (f.plus (4 * ns)) < 0) | none => false
    if near then s.bump 0x160138 1
    else s.setRennet fun r => { r with outQueue := r.outQueue ++ [rise], outLast := some (rise.plus (fld w 30 23 * ns)) }

/-- The read-out of an accepted trigger at its admission point, against RO_FLITS of T's frame; whether it was refused (R11, R17, R30,
R227). -/
def State.admitReadout (s : State) (num : BitVec 16) (t : CT) (f : TrFrame) : State × Bool :=
  let ro := s.readoutOf num t f.fn
  let n := s.roFlits ro
  let used := SMap.get 0 s.rennet.roFrame f.fn.toNat
  if s.time.aligned && !s.time.infForce && decide (used + n ≤ fld f.budget 31 16) then
    (s.setRennet fun r => { r with roFrame := SMap.set 0 r.roFrame f.fn.toNat (used + n), readouts := r.readouts ++ [ro] }, false)
  else
    let s := (s.bump 0x160120 1).bump 0x160128 n
    (if s.rennet.wheyNow then s else (s.setRennet fun r => { r with wheyNow := true }).raise 9 0 0, true)

/-- A new record of a segment; its sample indices are those of the first masked channel (R230, R231). A trigger with T before the tick of a
disarm that is decided after the segment has closed opens it again for its record. DESIGN CHOICE: log 80. -/
def State.openRecord (s : State) (num : BitVec 16) (c : Cand) (f : TrFrame) : State :=
  let r := s.rennet
  let spans := s.tbChans.map s.spanOf
  let span := spans.headD 16384
  let step := span / 64
  let x := s.extFine c.t
  let first := (x - r.arm.pre * span) / span
  let idx := (x - first * span + step / 2) / step
  let from_ := match r.rearmAt with | some a => a | none => r.armTick
  let gap := (ctDiff c.t from_).toNat / step
  let preValid := min idx gap
  let q : Record := { num, t := c.t, epoch := BitVec.ofNat 32 (x / 2 ^ 64), fn := f.fn.setWidth 32, fineTick := (ctDiff c.t f.tick).toNat,
                      sources := c.sources, coarse := c.coarse, shortPre := decide (preValid < idx), preValid, trigIndex := idx,
                      spans, range0 := 0, rangeSwitch := false, done := false }
  let s := s.setRennet fun r => { r with records := r.records ++ [q], rearmAt := none, closing := r.closing || r.segClosed,
                                         segOpen := true, segClosed := false, armed := r.armed || r.segClosed }
  if q.shortPre then s.raise 9 4 0 else s

/-- An accepted trigger: numbered, counted, marked, read out or recorded, and put on TRIG_OUT (R221, R226, R227, R230, R236). -/
def State.accept (s : State) (c : Cand) : State :=
  let num := s.rennet.num
  let f := s.trFrame c.t
  let fn := f.fn
  let s := s.bump 0x160100 1
  let s := s.setRennet fun r =>
    { r with num := num + 1, last := some c, autoBase := some c.t,
             cands := r.cands.filter fun x => !(x.auto && decide (0 ≤ ctDiff x.t c.t)) }
  let s := s.scheduleOut c.t
  if s.rennet.arm.mode = 2 then s.openRecord num c f
  else
    let s := s.setRennet fun r => { r with perFrame := SMap.set 0 r.perFrame fn.toNat (SMap.get 0 r.perFrame fn.toNat + 1) }
    let (s, refused) := if s.rennet.arm.readout then s.admitReadout num c.t f else (s, false)
    let s := s.setRennet fun r => { r with marks := r.marks ++ [{ num, cand := c, noRo := refused, fn }] }
    if s.role = 2 then { s with merge := { s.merge with triggers := s.merge.triggers ++ [(c.t, num)] } } else s

/-- The candidate with the lowest T is settled by the first row of R221 that applies. -/
def State.decideCand (s : State) (c : Cand) : State :=
  let r := s.rennet
  if !r.armedAt c.t then s
  else
    let off : Int := match r.last with | some l => ctDiff c.t l.t | none => -1
    if r.last.isSome && decide (off = 0) then
      s.setRennet fun r =>
        { r with last := r.last.map fun l => { l with sources := l.sources ||| c.sources },
                 marks := r.marks.map fun m => if m.cand.t = c.t then { m with cand := { m.cand with sources := m.cand.sources ||| c.sources } } else m,
                 records := r.records.map fun q => if q.t = c.t then { q with sources := q.sources ||| c.sources } else q }
    else if r.last.isSome && decide (0 < off ∧ off ≤ (s.f .trCfg 31 20 * ns : Nat)) then s.bump 0x160108 1
    else if r.arm.mode = 2 && r.busyAt c.t then s.miss c
    else if r.arm.mode = 1 && (!s.time.aligned || s.time.infForce || decide (fld (s.trFrame c.t).budget 8 0 ≤ SMap.get 0 r.perFrame (s.trFrame c.t).fn.toNat)) then
      s.bump 0x160118 1
    else s.accept c

/-- A segment closes: SEG_CLOSED, its event, and rennet disarms (R232). -/
def State.closeSegment (s : State) : State :=
  (s.setRennet fun r => { r with segClosed := true, segOpen := false, closing := false, armed := false, rearming := false,
                                 disarmTick := if r.disarmTick.isSome then r.disarmTick else some s.time.ct }).raise 9 3 0

/-- A segment whose disarm has taken effect closes once no candidate with an earlier T awaits its decision and every record whose trigger is
accepted is complete (R222, R232). -/
def State.tryClose (s : State) : State :=
  let r := s.rennet
  let open_ := match r.records.getLast? with | some q => !q.done | none => false
  let waits := r.cands.any fun c => match r.disarmTick with | some d => decide (ctDiff c.t d < 0) | none => true
  if r.closing && !open_ && !waits then s.closeSegment else s

/-- TRIGGER_DECISION: CT reaches T + DECIDE of the first candidate (R220, R221). -/
def triggerDecision (s : State) : Res :=
  let s := s.nextCand
  .next (match s.rennet.cands with
    | [] => s
    | c :: cs =>
      if !s.rel 5 then s
      else (((s.advanceTo (c.t.plus s.decide_)).setRennet fun r => { r with cands := cs }).decideCand c).tryClose)

/-- AUTO_TIMEOUT: the auto timer offers a candidate (R234). -/
def autoTimeout (s : State) : Res :=
  let r := s.rennet
  .next (if !s.rel 5 || !r.armed || !r.arm.auto || r.cands.any (·.auto) || (r.arm.mode == 2 && r.busyAt s.time.ct) then s
    else
      let base := r.autoBase.getD r.armTick
      let base := match r.rearmAt with | some a => if r.arm.mode = 2 ∧ 0 < ctDiff a base then a else base | none => base
      let t := base.plus (r.arm.timeout * ns)
      (s.advanceTo t).arbiter { t, sources := 0x200, origin := s.ports.nodeId, auto := true })

/-- TRIG_OUT_PULSE: the next pulse rises (R236). -/
def execTrigOutPulse (s : State) : Res :=
  .next (match s.rennet.outQueue with
    | [] => s
    | t :: ts =>
      if s.rennet.outHigh then s
      else
        let fall := if ts = [] then s.rennet.outLast else some (t.plus (s.f .trOutCfg 30 23 * ns))
        (s.advanceTo t).setRennet fun r => { r with outQueue := ts, outHigh := true, outFall := fall })

/-- TRIG_OUT_FALL (R236). -/
def execTrigOutFall (s : State) : Res :=
  .next (match s.rennet.outFall with
    | some t => if s.rennet.outHigh then (s.advanceTo t).setRennet fun r => { r with outHigh := false, outFall := none } else s
    | none => s)

-- arming ---------------------------------------------------------------------------------------------------------------------------------------------------

/-- m_1 of a stream whose data is ready R after its trigger, from the entries that send it (R229). -/
def firstLatency (r p : Nat) (starts : List Nat) : Nat :=
  if p = 0 then 2
  else if starts.all fun st => decide (r % p + 64 * ns ≤ st * ns) then 2 + r / p else 3 + r / p

/-- L − REMAIN of the path of a type, when one is enabled in force. -/
def State.held_ (s : State) (type : Nat) : Option Int := (s.pathOf type).map fun p => (s.pathL p : Int) - s.pathRemain p

/-- TRIG_ARM in stream mode is refused (R229); every OUT_OF_RANGE row before the STATE_REFUSED rows, in keeping with R105. -/
def State.streamStop (s : State) (a : Arm) : Option Status :=
  let p := s.frameFine
  let mark := (s.sched.active.filter fun e => e.kind == 2 && decide (some e.path = s.pathOf 4)).map (·.start)
  let ro := (s.sched.active.filter fun e => e.kind == 6).map (·.start)
  let m4 := firstLatency s.decide_ p mark
  let m5 := firstLatency (s.roDelay a.post) p ro
  let below (type m : Nat) : Bool := match s.held_ type with | some l => decide (l < (m : Int)) | none => false
  let deep := s.roChans.any fun ch => decide (s.tbBlocks * s.spanOf ch < (a.pre + 1) * s.spanOf ch + m5 * p)
  if below 4 m4 || (a.readout && (below 5 m5 || deep)) then some .outOfRange
  else if (s.pathOf 4).isNone || (a.readout && ((s.pathOf 5).isNone || !s.b .trTbCfg 31)) then some .stateRefused
  else none

/-- TRIG_ARM in segment mode is refused (R230). -/
def State.segmentStop (s : State) (a : Arm) : Option Status :=
  let n := s.tbChans.length
  let (_, _, size) := s.tbPlace
  let slow := s.tbChans.any fun ch => decide (a.post * s.spanOf ch < s.decide_)
  if a.len = 0 ∨ 16384 < a.len ∨ size < a.records * slotBytes n a.len ∨ slow = true then some .outOfRange
  else if !s.b .trTbCfg 31 then some .stateRefused
  else none

/-- TRIG_ARM (R229, R230, R235). It and TRIG_DISARM act at a tick, so they need the time core released, though TR's registers do not (DESIGN
CHOICE: R78 does not say which domains an opcode reaches). -/
def execTrigArm (r : Req) (s : State) : Res :=
  .next (s.runOp 0x400 r true fun s =>
    let a : Arm := { mode := BitVec.ofNat 2 (fld (r.w 0) 1 0), auto := (r.w 0).getLsbD 2, readout := (r.w 0).getLsbD 3, pre := fld (r.w 1) 27 0,
                     post := fld (r.w 2) 27 0, records := fld (r.w 3) 15 0 + 1, timeout := (r.w 4).toNat }
    if a.mode = 0 ∨ a.mode = 3 ∨ (a.auto = true ∧ a.timeout < 1000) ∨ r.w 5 ≠ 0 ∨ r.w 6 ≠ 0 ∨ r.w 7 ≠ 0 then no s .outOfRange
    else needStep s 7 <|
      let range := if a.mode = 1 then s.streamStop a else s.segmentStop a
      if range = some .outOfRange then no s .outOfRange
      else if s.rennet.armed || s.rennet.armDue.isSome then no s .stateRefused
      else match range with
        | some st => no s st
        | none => yes (s.setRennet fun r => { r with armDue := some a }))

/-- An arm takes effect at a tick: a new session, which discards an old segment, and a new segment (R221, R222, R232). -/
def State.takeArm (s : State) : State :=
  match s.rennet.armDue with
  | none => s
  | some a =>
    let g : Seg := { vat := s.tbPlace.1, base := s.tbPlace.2.1, chans := s.tbChans, len := a.len, maskLo := s.reg .trTbChmaskLo,
                     maskHi := s.reg .trTbChmaskHi &&& 0xFFFF }
    s.setRennet fun r =>
      { r with armed := true, armDue := none, armNow := false, arm := a, armTick := s.tickCt, disarmTick := none, num := 0, last := none,
               records := [], segClosed := false, segOpen := decide (a.mode = 2), seg := if a.mode = 2 then some g else none,
               since := if r.seg.isSome ∧ r.since.isSome then some s.tickCt else r.since, closing := false, rearming := false,
               rearmAt := none, autoBase := none, perFrame := [], roFrame := [] }

/-- TRIG_DISARM: an arm that awaits its tick is dropped, an arm in force ends at the next tick (R222). -/
def execTrigDisarm (r : Req) (s : State) : Res :=
  .next (s.runOp 0x402 r true fun s => needStep s 7 <|
    yes (s.setRennet fun r => { r with armDue := none, armNow := false, disarmDue := r.armed }))

/-- A disarm takes effect at a tick; an open segment closes, once the record of an accepted trigger is complete (R222, R232). -/
def State.takeDisarm (s : State) : State :=
  if !s.rennet.disarmDue then s
  else
    let seg := s.rennet.segOpen
    let s := s.setRennet fun r => { r with disarmDue := false, disarmNow := false, disarmTick := some s.tickCt }
    if seg then (s.setRennet fun r => { r with closing := true }).tryClose else s.setRennet fun r => { r with armed := false }

-- records ----------------------------------------------------------------------------------------------------------------------------------------------------

/-- The sixteen header words of a record (R233). -/
def recordWords (g : Seg) (i : Nat) (q : Record) (poison : Bool) : List Word :=
  let f := q.fineTick
  [at32 16 i ||| BitVec.ofNat 32 q.num.toNat, lo32 q.t.toNat, hi32 q.t.toNat, q.epoch,
   bit32 31 (decide (4096 * ns ≤ f)) ||| at32 9 (f / ns % 4096) ||| BitVec.ofNat 32 (f % ns), q.fn, BitVec.ofNat 32 q.preValid,
   BitVec.ofNat 32 q.trigIndex,
   BitVec.ofNat 32 q.sources.toNat ||| bit32 16 q.shortPre ||| bit32 17 q.coarse ||| bit32 18 (q.spans.headD 0 == 8192) |||
     bit32 19 poison ||| bit32 20 q.rangeSwitch,
   BitVec.ofNat 32 (g.len * 64), g.maskLo, g.maskHi, BitVec.ofNat 32 q.range0.toNat, 0, 0, 0]

/-- The slot of record i (R230). -/
def Seg.slot (g : Seg) (i : Nat) : Nat := g.base + i * slotBytes g.chans.length g.len

/-- RECORD_COMPLETE: the last block of the open record is written; its header is stored and re-arm starts, or the segment closes. The range
of a first block that lies before the oldest entry of a full log is undefined (R225, R230 to R232). -/
def execRecordComplete (s : State) : Res :=
  .next (match s.rennet.records.getLast?, s.rennet.seg with
    | some q, some g =>
      if q.done || !s.rel 9 then s
      else
        let pre := s.rennet.arm.pre
        let s := (s.advanceTo (ctOf (q.endFine pre g.len))).zeroNow
        let start (k : Nat) : CT := ctOf (q.firstOf pre k * q.spans.getD k 16384)
        let touched := ((List.range g.chans.length).zip g.chans).any fun x => s.marksIn x.2 (start x.1) g.len (q.spans.getD x.1 16384) != []
        let ch := g.chans.headD 0
        let unknown := s.rangeUnknown ch (start 0)
        let range0 := if unknown then BitVec.ofNat 2 s.freeVal else s.rangeAt ch (start 0)
        let s := if unknown then s.draw else s
        let q' := { q with done := true, rangeSwitch := touched, range0 }
        let i := s.rennet.records.length - 1
        let s := s.writeRange g.vat (g.slot i) ((recordWords g i q' false).flatMap fun w => leBytes 4 w.toNat) []
        let s := s.setRennet fun r => { r with records := r.records.dropLast ++ [q'] }
        if s.rennet.arm.records ≤ s.rennet.records.length then s.closeSegment
        else (s.setRennet fun r => { r with rearming := true }).tryClose
    | _, _ => s)

/-- REARM_COMPLETE: within 400 ns of the end of the last block's span; the next slot takes samples (R231). -/
def execRearmComplete (s : State) : Res :=
  .next (if !s.rennet.rearming then s
    else match s.rennet.records.getLast?, s.rennet.seg with
      | some q, some g =>
        let latest := ctOf (q.endFine s.rennet.arm.pre g.len + 400 * ns)
        let at_ := if ctDiff s.time.ct latest < 0 then s.time.ct else latest
        s.setRennet fun r => { r with rearming := false, rearmAt := some at_ }
      | _, _ => s)

/-- SEGMENT_READ (R233). -/
def execSegmentRead (r : Req) (found : List Finding) (s : State) : Res :=
  .next (s.runOp 0x403 r true fun s =>
    let i := fld (r.w 0) 15 0
    let ch := fld (r.w 1) 5 0
    let n := fld (r.w 1) 15 8
    let first := fld (r.w 1) 29 16
    let x := s.rennet
    if s.res.channels ≤ ch ∨ n = 0 ∨ 42 < n then no s .outOfRange
    else needStep s 9 <|
      match x.seg with
      | none => no s .stateRefused
      | some g =>
        match x.records[i]?, (List.range g.chans.length).find? (fun k => decide (g.chans[k]? = some ch)) with
        | some q, some k =>
          if !q.done ∨ g.len < first + n then no s .outOfRange
          else if !x.segClosed then no s .stateRefused
          else
            let from_ := q.firstOf x.arm.pre k + first
            let addrs := (List.range n).map fun j => g.slot i + 64 + k * g.len * 96 + (from_ + j) % g.len * 96
            let s := s.readRange g.vat (g.slot i) (g.slot i + 64) 1 found
            let s := addrs.foldl (fun s a => s.readRange g.vat a (a + 96) 1 found) s
            let bad := addrs.any fun a => s.anyPoison g.vat a (a + 96)
            let blocks := addrs.flatMap fun a => (rdFlits (s.mem g.vat) a 6).flatMap flitWords
            (s, some { status := if bad then .poisoned else .ok, payload := recordWords g i q bad ++ blocks })
        | _, _ => no s .outOfRange)

/-- TR_STATUS. -/
def rennetStatus (s : State) : Word :=
  let r := s.rennet
  bit32 31 r.armed ||| bit32 30 r.armDue.isSome ||| bit32 29 r.segClosed ||| at32 24 (if r.armed then r.arm.mode.toNat else 0) |||
  BitVec.ofNat 32 (min (count (·.done) r.records) 0xFFFF)

/-- Flits per frame of the TRIGGER path: k + 2 × ceil(k / 64), at least 3 (R227). -/
def State.markFlits (s : State) : Nat := let k := s.fw .trBudget 8 0; max 3 (k + 2 * cdiv k 64)
/-- Flits per frame of the READOUT path (R227). -/
def State.readoutFlits (s : State) : Nat := max 3 (s.fw .trBudget 31 16)

end Sys2Proof.Machine
end

