-- ==== Sys2Proof/Machine/Engines.lean ====
section
/-!
DEFINITION. The engine array around its instructions: kernels and their loading (R253, R254), kernel runs and their end (R255,
R256), DMA chains (R257 to R261), the result admission point (R262, R286), and the writes of the engine registers (R250, R264).
-/
namespace Sys2Proof.Machine

-- kernels ------------------------------------------------------------------------------------------------------------------------------

/-- Clusters of a mask. -/
def maskList (m : Nat) : List Nat := (List.range 16).filter fun i => m / 2 ^ i % 2 = 1

/-- User handles that an entry of the active or a committed schedule names (R254). -/
def State.namedHandles (s : State) : List Nat :=
  ((s.sched.active ++ s.committed).filter fun e => e.kind == 1).map fun e => fld e.w3 15 0

/-- A slot that is written, in a cluster of a mask, lies within a kernel in use. -/
def State.slotsInUse (s : State) (mask first count : Nat) : Bool :=
  decide (0 < count) && s.engines.kernels.any fun k =>
    decide (k.1 ∈ s.namedHandles) && k.2.mask.toNat &&& mask != 0 &&
      decide (first < k.2.entry.toNat + k.2.size.toNat ∧ k.2.entry.toNat < first + count)

/-- Instructions written into a store, two words each, upper word first (R253). -/
def storeWords (m : SMap (BitVec 64)) (slot : Nat) : List Word → SMap (BitVec 64)
  | hi :: lo :: ws => storeWords (SMap.set 0 m slot (hi ++ lo)) (slot + 1) ws
  | _ => m

/-- The lowest user handle that is not defined (R253). -/
def State.newHandle (s : State) : Nat := ((List.range 256).find? fun i => (SMap.find s.engines.kernels (0x100 + i)).isNone).getD 0 + 0x100

/-- KERNEL_LOAD (R253, R254). -/
def execKernelLoad (r : Req) (s : State) : Res :=
  let count := fld (r.w 0) 27 16
  .next (s.runOp 0x310 r (decide (r.len = 2 + 2 * count)) fun s =>
    let mask := r.p 15 0
    let first := fld (r.w 0) 10 0
    let def_ := (r.w 1).getLsbD 31
    let size := fld (r.w 1) 27 16
    let entry := fld (r.w 1) 10 0
    if mask = 0 ∨ 2 ^ s.res.clusters ≤ mask ∨ 512 < count ∨ 2048 < first + count ∨ 2048 < entry + size ∨
        (def_ = true ∧ size = 0) then no s .outOfRange
    else if !s.rel 11 then no s .clockStopped
    else if s.slotsInUse mask first count then no s .stateRefused
    else if def_ && decide (256 ≤ s.engines.kernels.length) then no s .outOfRange
    else
      let s := (maskList mask).foldl (fun s c =>
        s.setCluster c { s.cluster c with store := storeWords (s.cluster c).store first (r.payload.drop 2) }) s
      if def_ then
        let h := s.newHandle
        let k : Kernel := { mask := BitVec.ofNat 16 mask, entry := BitVec.ofNat 11 entry, size := BitVec.ofNat 12 size }
        ({ s with engines := { s.engines with kernels := SMap.put s.engines.kernels h k } }, some { status := .ok, param := h })
      else yes s)

/-- N_safe of R245 by mode: 8+8, 4+4, 16-bit real. -/
def nSafe : Nat → Nat
  | 0 => (2 ^ 31 - 1) / 32768
  | 1 => (2 ^ 31 - 1) / 128
  | _ => (2 ^ 63 - 1) / 2 ^ 30

/-- KERNEL_INFO: a word pair for each defined handle, then N_safe (R253). -/
def execKernelInfo (r : Req) (s : State) : Res :=
  .next (s.runOp 0x311 r true fun s =>
    if !s.rel 11 then no s .clockStopped
    else tell s ((s.engines.kernels.flatMap fun k =>
      [at32 16 k.1 ||| k.2.mask.setWidth 32, at32 16 k.2.entry.toNat ||| k.2.size.setWidth 32]) ++
      [lo32 (nSafe 0), lo32 (nSafe 1), lo32 (nSafe 2)]))

-- runs -----------------------------------------------------------------------------------------------------------------------------------

/-- The engines of a mask in a cluster; mask 0 means all 16 (R255). -/
def enginesOf (c : Nat) (mask : BitVec 16) : List Nat :=
  ((List.range 16).filter fun i => mask == 0 || mask.getLsbD i).map fun i => c * 16 + i

/-- Every admitted curd that depended on an entry is lost (R26, R27, R256, R261). -/
def State.loseDep (s : State) (i : Nat) : State :=
  let l := s.sched.held.filter fun h => h.dep == some i
  (s.setHeld (s.sched.held.filter fun h => h.dep != some i)).loseAll l

/-- An engine's state after an abort is undefined: free values from n on (R256). STATE and FAULT stand. -/
def Engine.scrambled (st : BitVec 2) (fault : BitVec 4) (n : Nat) : Engine :=
  let v (i : Nat) : Nat := Config.freeNat (n + i)
  { state := st, fault, pc := BitVec.ofNat 13 (v 0), flags := BitVec.ofNat 4 (v 1), pf := BitVec.ofNat 4 (v 2) ||| 1,
    regs := (List.range 32).map fun i =>
      (i, { val := BitVec.ofNat 128 (v (3 + 3 * i)), tag := BitVec.ofNat 4 (v (4 + 3 * i)), poison := v (5 + 3 * i) % 2 == 1 }),
    banks := (List.range 8).map fun b =>
      (b, { lanes := (List.range 16).map fun l => (l, BitVec.ofNat 64 (v (200 + 16 * b + l))), ovf := BitVec.ofNat 16 (v (100 + b)),
            exp := BitVec.ofNat 5 (v (110 + b) % 31), cleared := v (120 + b) % 2 == 1, poison := v (130 + b) % 2 == 1 }),
    ags := (List.range 4).map fun k =>
      (k, { base := BitVec.ofNat 18 (v (140 + 8 * k)), stride := BitVec.ofNat 16 (v (141 + 8 * k)), len := BitVec.ofNat 17 (v (142 + 8 * k)),
            index := BitVec.ofNat 17 (v (143 + 8 * k)), bitrev := BitVec.ofNat 4 (v (144 + 8 * k) % 14), exp := BitVec.ofNat 4 (v (145 + 8 * k)),
            pending := v (146 + 8 * k) % 2 == 1, pendLen := BitVec.ofNat 17 (v (147 + 8 * k)) }) }

/-- Engines whose state an abort leaves undefined. -/
def State.scrambleEngines (s : State) (f : Nat → BitVec 2 × BitVec 4) : List Nat → State
  | [] => s
  | e :: es =>
    let (st, fault) := f e
    State.scrambleEngines ({ s.setEng e (Engine.scrambled st fault s.free) with free := s.free + 400 }) f es

/-- A run ends at once: every engine of the mask stops, it emits no result, and what depended on it is lost (R256, R27). -/
def State.abortRun (s : State) (c : Nat) (f : Nat → BitVec 2 × BitVec 4) : State :=
  let k := s.cluster c
  match k.run with
  | none => s
  | some r =>
    let s := s.setCluster c { k with run := none, emits := [] }
    let s := s.scrambleEngines f (enginesOf c r.mask)
    (s.loseDep r.entry).endRunning r.entry

/-- An engine faults: EA_FAULT, and the run of its cluster ends (R256). -/
def State.engFault (s : State) (e code : Nat) : State :=
  let s := s.raise 10 3 (at32 8 (e / 16) ||| at32 4 code ||| at32 0 (e % 16))
  s.abortRun (e / 16) fun i => if i = e then (2, BitVec.ofNat 4 code) else (0, 0)

/-- An access outside the data space: the fault comes before the access, and the generator is not updated (R248, R280). -/
def State.accessFault (s : State) (e k : Nat) : State :=
  let a := (s.eng e).ag k
  (s.engFault e 2).modEng e fun g => g.setAg k a

/-- The abort of a run at DURATION leaves code 0x04 in the engines still running (R256). -/
def State.timeoutRun (s : State) (c : Nat) : State :=
  s.abortRun c fun i => if (s.eng i).state = 1 then (2, 4) else (0, 0)

/-- Where an engine starts: the slot of a user kernel; the ROM slot of a ROM kernel is not given (R239, R255). -/
def State.entryPc (s : State) (handle : Nat) : BitVec 13 :=
  match SMap.find s.engines.kernels handle with
  | some k => k.entry.setWidth 13
  | none => BitVec.ofNat 13 (0x1000 + s.freeVal % 0x1000)

/-- Every engine of the mask starts at the handle's entry (R255). -/
def State.startRun (s : State) (entry : Nat) (e : Entry) (c : Nat) : State :=
  let handle := fld e.w3 15 0
  let mask := BitVec.ofNat 16 (fld e.w3 31 16)
  let r : Run := { entry, handle := BitVec.ofNat 16 handle, mask, tickCt := s.tickCt, fn := s.time.fn, start := BitVec.ofNat 21 e.start }
  let pc := s.entryPc handle
  let s := if handle < 0x100 then s.draw else s
  let s := s.setCluster c { s.cluster c with run := some r }
  (enginesOf c mask).foldl (fun s i => s.modEng i fun g => { g with state := 1, fault := 0, held := false, pc }) s

-- DMA ------------------------------------------------------------------------------------------------------------------------------------

/-- A DMA channel's record. -/
def State.dmaCh (s : State) (ch : Nat) : Dma := SMap.get {} s.engines.dma ch
def State.setDma (s : State) (ch : Nat) (d : Dma) : State :=
  { s with engines := { s.engines with dma := SMap.set {} s.engines.dma ch d } }

/-- Window address of descriptor k of cluster c (R257). -/
def descAddr (c k : Nat) : Nat := 0x40000000 + c * 0x200000 + 0x1FC000 + k * 32

/-- The memory that holds a window address: its first byte and size (R431). -/
def windowMem (a : Nat) : Nat × Nat :=
  if a < 0x40000000 then (a / 0x10000 * 0x10000, 0x10000)
  else if a < 0x42000000 then (a / 0x200000 * 0x200000, 0x200000)
  else (0x42000000, 0x1000000)

/-- First byte of row i; below zero it lies in no memory. -/
def Rows.at (r : Rows) (i : Nat) : Int := (r.base : Int) + (i : Int) * r.stride

/-- The rows of a descriptor lie where a channel can reach them (R261, R330, R332, R431, R432). -/
def State.rowsOk (s : State) (r : Rows) : Bool :=
  (List.range r.rows).all fun i =>
    let a := r.at i
    let lo := a.toNat
    let hi := lo + 16 * r.words
    decide (0 ≤ a) && decide (lo % 16 = 0) &&
      (if r.vat then !s.isF && s.vatRange lo hi && s.rel 6 && s.readyRange true lo hi 64
       else (match s.windowStep lo hi with | some n => s.rel n | none => false) &&
         decide (hi ≤ (windowMem lo).1 + (windowMem lo).2) && !s.touchesInit false lo hi)

/-- Two sets of rows share a byte. -/
def Rows.meets (a b : Rows) : Bool :=
  a.vat == b.vat && (List.range a.rows).any fun i => (List.range b.rows).any fun j =>
    decide (a.at i < b.at j + 16 * b.words ∧ b.at j < a.at i + 16 * a.words)

/-- A descriptor's fields (R258). -/
structure Desc where
  valid  : Bool
  last   : Bool
  evt    : Bool
  conv   : Nat
  expOut : Bool
  expIn  : Bool
  fence  : Bool
  next   : Nat
  expOfs : Nat
  src    : Rows
  dst    : Rows
  deriving DecidableEq, Repr

/-- Words per destination row of a conversion (R259). -/
def dstWords (conv words : Nat) : Nat := match dmaConv conv with | some (_, _, n) => words / n | none => words

/-- A descriptor as its eight words hold it (R258). -/
def descOf (ws : List Word) : Desc :=
  let w (i : Nat) : Word := ws.getD i 0
  let b (i : Nat) : Bool := (w 0).getLsbD i
  let words := fld (w 4) 12 0
  let rows := fld (w 5) 12 0
  let conv := fld (w 0) 26 24
  { valid := b 31, last := b 30, evt := b 29, conv, expOut := b 23, expIn := b 22, fence := b 21, next := fld (w 0) 8 0,
    expOfs := fld (w 2) 20 0,
    src := { vat := b 28, base := (w 1).toNat + fld (w 2) 31 27 * 2 ^ 32, words, rows, stride := (w 6).toInt },
    dst := { vat := b 27, base := (w 3).toNat + fld (w 4) 31 27 * 2 ^ 32, words := dstWords conv words, rows, stride := (w 7).toInt } }

/-- ROW_WORDS and ROWS keep their limits (R258, R259). -/
def Desc.sized (d : Desc) : Bool :=
  decide (1 ≤ d.src.rows ∧ d.src.rows ≤ 4096 ∧ 1 ≤ d.src.words) &&
    (if d.conv = 0 then decide (d.src.words ≤ 4096)
     else match dmaConv d.conv with
       | some (_, _, n) => decide (d.src.words ≤ 256) && decide (d.src.words % n = 0)
       | none => false)

/-- What R261 checks of a descriptor. -/
def State.descOk (s : State) (d : Desc) : Bool :=
  d.valid && d.sized && s.rowsOk d.src && s.rowsOk d.dst &&
    (!(d.expIn || d.expOut) || decide (d.expOfs + d.src.rows ≤ 0x200000))

/-- Free bytes in a row. -/
def freeBytes (n len : Nat) : List Byte := (List.range len).map fun i => BitVec.ofNat 8 (Config.freeNat (n + i))

/-- Rows left undefined (R27, R257, R261). -/
def State.scrambleRows (s : State) (r : Rows) : State :=
  (List.range r.rows).foldl (fun s i =>
    { s.setMem r.vat (wrBytes (s.mem r.vat) (r.at i).toNat (freeBytes s.free (16 * r.words))) with free := s.free + 16 * r.words }) s

/-- One row moved: read, converted, written, with its exponent byte; OVF is that of its source words, or of the byte that came with them
(R259, R260). -/
def State.moveRow (s : State) (c : Nat) (d : Desc) (found : List Finding) (i : Nat) : State :=
  let a := (d.src.at i).toNat
  let b := (d.dst.at i).toNat
  let s := s.readRange d.src.vat a (a + 16 * d.src.words) 0 found
  let ws := rdFlits (s.mem d.src.vat) a d.src.words
  let bad := (List.range d.src.words).filter fun j => s.wordPoisoned d.src.vat (a + 16 * j)
  let list := 0x40000000 + c * 0x200000 + d.expOfs + i
  let inByte := if d.expIn then (rdByte s.window list).toNat else 0
  let k := if d.conv = 0 then none else dmaConv d.conv
  let (out, e, cut) : List Flit × Nat × Bool :=
    match k with
    | none => (ws, inByte % 16, false)
    | some (w, w', _) =>
      let r := scaleBlock w' (inByte % 16) none (ws.flatMap (comps w)) 0
      (packAll w' r.out, r.exp, r.sat)
  let ovs := (List.range d.src.words).filter fun j => s.ovfAt d.src.vat (a + 16 * j)
  let marks (l : List Nat) : List Nat := if k.isSome then (if l = [] then [] else List.range d.dst.words) else l
  let s := s.writeRange d.dst.vat b (flitMem out) found
  let s := (marks bad).foldl (fun s j => s.markPoison d.dst.vat (b + 16 * j)) s
  let s := (marks ovs).foldl (fun s j => s.markOvf d.dst.vat (b + 16 * j)) s
  let s := if cut then s.raise 10 1 (at32 8 c) else s
  if !d.expOut then s
  else
    let byte := if d.conv = 0 && d.expIn then inByte
      else e + (if ovs ≠ [] ∨ inByte / 64 % 2 = 1 then 64 else 0) + (if bad = [] then 0 else 128)
    s.writeRange false list [BitVec.ofNat 8 byte] found

/-- Every row of a descriptor, in order. -/
def State.moveRows (s : State) (c : Nat) (d : Desc) (found : List Finding) : State :=
  (List.range d.src.rows).foldl (fun s i => s.moveRow c d found i) s

/-- A chain ends: its entry is complete. -/
def State.endChain (s : State) (ch : Nat) : State := (s.setDma ch {}).endRunning (s.dmaCh ch).entry

/-- A chain stopped at a descriptor: its destinations are undefined, what depended on them is lost (R261). -/
def State.stopChain (s : State) (ch k : Nat) : State :=
  let d := s.dmaCh ch
  let s := (s.bump (0x200858 + ch / 4 * 0x10000) 1).raise 10 4 (at32 16 ch ||| at32 0 k)
  ((d.dests.foldl State.scrambleRows s).loseDep d.entry).endChain ch

/-- TRANSFER: a chain starts at ARG[8:0], when its channel is there (R26, R257). -/
def execTransfer (entry : Nat) (s : State) : Res :=
  .next (s.runEntry entry 0 fun e s =>
    let ch := e.idx
    if !s.rel 11 || decide (s.res.clusters ≤ ch / 4) || (s.dmaCh ch).busy then s.skip.loseDep entry
    else (s.setDma ch { busy := true, next := fld e.w3 8 0, entry }).setRunning entry)

/-- TRANSIENT_BUFFER_READOUT: a read-out entry starts its chain as a transfer does, and the data of the read-outs that are ready go into their
curds, which depend on the chain; a skipped entry loses them (R26, R227 to R229, R257). -/
def execTransientBufferReadout (entry : Nat) (found : List Finding) (s : State) : Res :=
  .next (match s.atStart entry 6 with
    | none => s
    | some e =>
      let s := ((s.advanceTo (s.tickCt.plus (e.start * ns))).setBegun entry).zeroNow
      let rs := s.readyReadouts s.time.ct
      let ch := e.idx
      if s.time.infForce || !s.rel 11 || decide (s.res.clusters ≤ ch / 4) || (s.dmaCh ch).busy then s.skip.loseReadouts rs
      else ((s.setDma ch { busy := true, next := fld e.w3 8 0, entry }).setRunning entry).formReadouts (some entry) found rs)

/-- DMA_DESCRIPTOR: the channel reads its next descriptor whole and moves its rows, or stops (R257 to R261). Where its reads may
overlap writes of the chain, what it writes is undefined (R261). -/
def execDmaDescriptor (ch : Nat) (found : List Finding) (s : State) : Res :=
  .next (
    let q := s.dmaCh ch
    if !q.busy || q.ended then s
    else if 512 ≤ q.count then s.stopChain ch q.next
    else
      let c := ch / 4
      let a := descAddr c q.next
      let d := descOf (rdWords s.window a 8)
      if d.fence && q.open_ != [] then s
      else
        let s := s.readRange false a (a + 32) 0 found
        if !s.descOk d then s.stopChain ch q.next
        else
          let clash := d.src.meets d.dst || q.open_.any fun o => d.src.meets o.dst || d.dst.meets o.src || d.dst.meets o.dst
          let s := s.moveRows c d found
          let s := if clash then s.scrambleRows d.dst else s
          s.setDma ch { q with ended := d.last, next := d.next, count := q.count + 1, dests := q.dests ++ [d.dst],
                               open_ := q.open_ ++ [{ idx := q.next, evt := d.evt, src := d.src, dst := d.dst }] })

/-- DMA_DESCRIPTOR_DONE: the oldest descriptor's writes are complete; with the last one's, the chain (R257, R258). -/
def execDmaDescriptorDone (ch : Nat) (s : State) : Res :=
  .next (
    let q := s.dmaCh ch
    match q.open_ with
    | [] => s
    | o :: os =>
      let s := s.setDma ch { q with open_ := os }
      let s := if o.evt then s.raise 10 7 (at32 8 (ch / 4)) else s
      if q.ended && os == [] then s.endChain ch else s)

-- results ----------------------------------------------------------------------------------------------------------------------------------

/-- A curd's worth of result judged at a cluster's admission point: ALIGNED, a schedule that keeps its checks, TYPE and budget (R11, R17,
R28 to R30, R262). -/
def State.admitsResult (s : State) (c : Nat) (user : Bool) (type len : Nat) : Bool :=
  s.time.aligned && !s.time.infForce && (if user then decide (0x30 ≤ type ∧ type ≤ 0x7F) else decide (0x10 ≤ type ∧ type ≤ 0x1F)) &&
    decide ((s.cluster c).resUsed + len + 2 ≤ s.f (.eaCResBudget c) 15 0)

/-- A refused curd: counted, and EA_WHEY once per frame (R262). -/
def State.resultWhey (s : State) (c e len : Nat) : State :=
  let s := (s.bump (0x200840 + c * 0x10000) 1).bump (0x200848 + c * 0x10000) (len + 2)
  if s.engines.wheyNow then s else ({ s with engines := { s.engines with wheyNow := true } } : State).raise 10 6 (eaDetail e)

/-- An admitted curd: charged, and formed with the frame of the producing entry; it closes at the tick that ends it (R34, R262,
R286). -/
def State.takeResult (s : State) (c type len : Nat) (fn : FN) (payload : List Flit) (mark : Rind → Rind) (dep : Option Nat) : State :=
  let k := s.cluster c
  (s.setCluster c { k with resUsed := k.resUsed + len + 2 }).formCurd type (fn.setWidth 32) payload mark false dep

/-- RESULT_ADMISSION: the oldest EMIT of the cluster is judged; its engine goes on with the outcome in vD.s (R262, R286). -/
def execResultAdmission (cluster : Nat) (s : State) : Res :=
  .next (
    let k := s.cluster cluster
    match k.run, k.emits with
    | some r, q :: qs =>
      let s := s.setCluster cluster { k with emits := qs }
      let addr := 0x40000000 + cluster * 0x200000 + (q.addr - 0x20000) * 16
      let s := s.readRange false addr (addr + 16 * q.len) 5 []
      let bad := s.anyPoison false addr (addr + 16 * q.len)
      let ok := s.admitsResult cluster (decide (0x100 ≤ r.handle.toNat)) q.type.toNat q.len
      let s := if ok then
          s.takeResult cluster q.type.toNat q.len r.fn (rdFlits s.window addr q.len) (fun x => { x with poisoned := bad }) (some r.entry)
        else s.resultWhey cluster q.engine q.len
      s.modEng q.engine fun g => { g.setSc q.dest.toNat (if ok then 1 else 0) q.poison with held := false }
    | _, _ => s)

-- register writes (R250, R264) -----------------------------------------------------------------------------------------------------------------

/-- A write of an engine's register: only while it is halted or in fault (R250). -/
def State.wrEng (s : State) (e : Nat) (f : Engine → Engine) : Except Status State :=
  if (s.eng e).state = 1 then .error .stateRefused else .ok (s.modEng e f)

/-- FLAGS and OVF_BANKS are cleared by ones; a bank's lane bits go together. -/
def wrEaFlags (s : State) (e : Nat) (v : Word) : Except Status State :=
  s.wrEng e fun g => { g with flags := g.flags &&& ~~~(v.setWidth 4) }
def wrEaOvfBanks (s : State) (e : Nat) (v : Word) : Except Status State :=
  s.wrEng e fun g => ((List.range 8).filter fun b => v.getLsbD b).foldl (fun g b => g.setBank b { g.bank b with ovf := 0 }) g
def wrEaPc (s : State) (e : Nat) (v : Word) : Except Status State := s.wrEng e fun g => { g with pc := v.setWidth 13 }

/-- The generator's registers. -/
def wrEaAgBase (s : State) (e k : Nat) (v : Word) : Except Status State :=
  s.wrEng e fun g => g.setAg k { g.ag k with base := v.setWidth 18 }
def wrEaAgStep (s : State) (e k : Nat) (v : Word) : Except Status State :=
  if 13 < fld v 27 24 then .error .outOfRange
  else s.wrEng e fun g =>
    g.setAg k { g.ag k with bitrev := BitVec.ofNat 4 (fld v 27 24), exp := BitVec.ofNat 4 (fld v 19 16), stride := v.setWidth 16 }
def wrEaAgLen (s : State) (e k : Nat) (v : Word) : Except Status State :=
  s.wrEng e fun g => g.setAg k { g.ag k with len := v.setWidth 17 }
def wrEaAgPend (s : State) (e k : Nat) (v : Word) : Except Status State :=
  s.wrEng e fun g => g.setAg k { g.ag k with pending := v.getLsbD 31, pendLen := v.setWidth 17 }
def wrEaAgIndex (s : State) (e k : Nat) (v : Word) : Except Status State :=
  s.wrEng e fun g => g.setAg k { g.ag k with index := v.setWidth 17 }

/-- What they read as. -/
def agStepWord (a : AddrGen) : Word := at32 24 a.bitrev.toNat ||| at32 16 a.exp.toNat ||| a.stride.setWidth 32
def agPendWord (a : AddrGen) : Word := bit32 31 a.pending ||| a.pendLen.setWidth 32
def engStatus (g : Engine) : Word := at32 30 g.state.toNat ||| at32 24 g.fault.toNat ||| g.pc.setWidth 32
def clusterStatus (k : Cluster) : Word := match k.run with | some r => bit32 31 true ||| r.handle.setWidth 32 | none => 0

/-- EA_Cc_DMA_STATUS: BUSY; the vat transactions in flight are zero while no channel of the cluster has one open, and otherwise a
number that the manual leaves open, 0 to 512 (R261, R265). -/
def dmaStatus (s : State) (c : Nat) : Word :=
  let chs := (List.range 4).map fun i => s.dmaCh (4 * c + i)
  let vat := chs.any fun q => q.open_.any fun o => o.src.vat || o.dst.vat
  at32 16 (((List.range 4).map fun i => if (s.dmaCh (4 * c + i)).busy then 2 ^ i else 0).sum) |||
    BitVec.ofNat 32 (if vat then s.freeVal % 513 else 0)

end Sys2Proof.Machine
end

