-- ==== Sys2Proof/Machine/EngInstr.lean ====
section
/-!
DEFINITION. The engine instruction set (R268 to R287): one meaning per opcode of R274 over one shared issue (R239, R256, R269,
R270). A row is one instruction issued by engine e with the word that its fetch delivered.
-/
namespace Sys2Proof.Machine

-- issue ----------------------------------------------------------------------------------------------------------------------------------

/-- The opcodes of R274. -/
def opListed (op : Nat) : Bool :=
  decide (op ≤ 0x05) || decide (0x10 ≤ op ∧ op ≤ 0x15) || op == 0x18 || op == 0x19 || decide (0x20 ≤ op ∧ op ≤ 0x24) ||
    decide (0x30 ≤ op ∧ op ≤ 0x33) || decide (0x40 ≤ op ∧ op ≤ 0x49) || decide (0x50 ≤ op ∧ op ≤ 0x53) || op == 0x58 || op == 0x60 ||
    op == 0x61

/-- The engine can issue: its domain is released, it runs, no EMIT holds it. -/
def State.canIssue (s : State) (e : Nat) : Bool := s.rel 11 && decide ((s.eng e).state = 1) && !(s.eng e).held

/-- What the store holds at a slot of the engine's cluster. -/
def State.slotWord (s : State) (e slot : Nat) : BitVec 64 := SMap.get 0 (s.cluster (e / 16)).store slot

/-- One issue: a fetch outside R239 faults with 0x03, a poisoned word with 0x05, an unlisted opcode or a bad field with 0x01; a
false predicate has no effect; else the body runs with the pc past the word. A word that is not the one the instruction store
holds at the pc is not what this engine fetched: nothing happens. The ROM's contents are not given, so its words are taken as
they come. -/
def State.issue (s : State) (e op : Nat) (w : EngWord) (ok : Bool) (body : State → State) : State :=
  let g := s.eng e
  let pc := g.pc.toNat
  if !s.canIssue e then s
  else if 0x800 ≤ pc ∧ pc < 0x1000 then s.engFault e 3
  else if w.poisoned then s.engFault e 5
  else if pc < 0x800 ∧ !opListed ((s.slotWord e pc).toNat / 2 ^ 56) then s.engFault e 1
  else if pc < 0x800 ∧ s.slotWord e pc ≠ w.bits op then s
  else if !ok then s.engFault e 1
  else
    let t := s.setEng e { g with pc := g.pc + 1 }
    if g.pred w.pred then body t else t

/-- A body that changes only the engine. -/
def State.issueEng (s : State) (e op : Nat) (w : EngWord) (ok : Bool) (f : Engine → Engine) : State :=
  s.issue e op w ok fun t => t.modEng e f

-- control (R275, R276) -----------------------------------------------------------------------------------------------------------------------

/-- NOP. -/
def execNop (e : Nat) (w : EngWord) (s : State) : Res := .next (s.issueEng e 0x00 w (w.only 0 0 0 0 0) id)

/-- HALT: STATE halted. -/
def execHalt (e : Nat) (w : EngWord) (s : State) : Res :=
  .next (s.issueEng e 0x01 w (w.only 0 0 0 0 0) fun g => { g with state := 0 })

/-- BR: the pc becomes the target. -/
def execBr (e : Nat) (w : EngWord) (s : State) : Res :=
  .next (s.issueEng e 0x02 w (w.only 0 0 0 0 0x1FFF) fun g => { g with pc := BitVec.ofNat 13 (w.im 12 0) })

/-- BRDEC: vA.s counts down, and branches while it is not zero; a poisoned register is reported (R275, R277). -/
def execBrdec (e : Nat) (w : EngWord) (s : State) : Res :=
  .next (s.issue e 0x03 w (w.only 0 31 0 0 0x1FFF) fun s =>
    let a := w.a.toNat
    let bad := ((s.eng e).reg a).poison
    let v := (s.eng e).sc a - 1
    let s := s.modEng e fun g =>
      let g := (g.setSc a v false).flag 3 bad
      if v ≠ 0 then { g with pc := BitVec.ofNat 13 (w.im 12 0) } else g
    if bad then s.eaPoison e else s)

/-- ID: cluster in [7:4], engine in [3:0]. -/
def execId (e : Nat) (w : EngWord) (s : State) : Res :=
  .next (s.issueEng e 0x04 w (w.only 31 0 0 0 0) fun g => g.setSc w.d.toNat (BitVec.ofNat 32 (e % 256)) false)

/-- TIME: the tick of the run, its frame, the START of its entry (R276). -/
def execTime (e : Nat) (w : EngWord) (s : State) : Res :=
  .next (s.issue e 0x05 w (w.only 31 0 0 0 0) fun s =>
    match (s.cluster (e / 16)).run with
    | some r =>
      let f : Flit := r.tickCt ++ (r.fn.setWidth 32 : Word) ++ (r.start.setWidth 32 : Word)
      s.modEng e fun g => g.setReg w.d.toNat { val := f }
    | none => s)

-- scalars and predicates (R277) ------------------------------------------------------------------------------------------------------------------

/-- LI. -/
def execLi (e : Nat) (w : EngWord) (s : State) : Res :=
  .next (s.issueEng e 0x10 w (w.only 31 0 0 0 0xFFFFFFFF) fun g => g.setSc w.d.toNat w.imm false)

/-- ADDI. -/
def execAddi (e : Nat) (w : EngWord) (s : State) : Res :=
  .next (s.issueEng e 0x11 w (w.only 31 31 0 0 0xFFFFFFFF) fun g =>
    g.setSc w.d.toNat (g.sc w.a.toNat + w.imm) (g.reg w.a.toNat).poison)

/-- A scalar result of two registers. -/
def Engine.sc2 (g : Engine) (w : EngWord) (f : Word → Word → Word) : Engine :=
  g.setSc w.d.toNat (f (g.sc w.a.toNat) (g.sc w.b.toNat)) ((g.reg w.a.toNat).poison || (g.reg w.b.toNat).poison)

/-- ADD. -/
def execAdd (e : Nat) (w : EngWord) (s : State) : Res :=
  .next (s.issueEng e 0x12 w (w.only 31 31 31 0 0) fun g => g.sc2 w (· + ·))

/-- SUB. -/
def execSub (e : Nat) (w : EngWord) (s : State) : Res :=
  .next (s.issueEng e 0x13 w (w.only 31 31 31 0 0) fun g => g.sc2 w (· - ·))

/-- SLLI. -/
def execSlli (e : Nat) (w : EngWord) (s : State) : Res :=
  .next (s.issueEng e 0x14 w (w.only 31 31 0 0 0x1F) fun g =>
    g.setSc w.d.toNat (g.sc w.a.toNat <<< w.im 4 0) (g.reg w.a.toNat).poison)

/-- SRAI: a signed shift, truncated. -/
def execSrai (e : Nat) (w : EngWord) (s : State) : Res :=
  .next (s.issueEng e 0x15 w (w.only 31 31 0 0 0x1F) fun g =>
    g.setSc w.d.toNat ((g.sc w.a.toNat).sshiftRight (w.im 4 0)) (g.reg w.a.toNat).poison)

/-- The conditions of R277. -/
def cond (c : Nat) (x y : Word) : Bool :=
  match c with
  | 0 => x == y
  | 1 => x != y
  | 2 => x.slt y
  | 3 => !x.slt y
  | 4 => x.ult y
  | _ => !x.ult y

/-- A compare: pN is written; poison is reported (R277). -/
def State.compare (s : State) (e n c : Nat) (x y : Word) (bad : Bool) : State :=
  let s := s.modEng e fun g => (g.setPf n (cond c x y)).flag 3 bad
  if bad then s.eaPoison e else s

/-- CMP. -/
def execCmp (e : Nat) (w : EngWord) (s : State) : Res :=
  .next (s.issue e 0x18 w (w.only 3 31 31 7 0 && w.d != 0 && decide (w.fm 2 0 ≤ 5)) fun s =>
    let g := s.eng e
    s.compare e w.d.toNat (w.fm 2 0) (g.sc w.a.toNat) (g.sc w.b.toNat) ((g.reg w.a.toNat).poison || (g.reg w.b.toNat).poison))

/-- CMPI. -/
def execCmpi (e : Nat) (w : EngWord) (s : State) : Res :=
  .next (s.issue e 0x19 w (w.only 3 31 0 7 0xFFFFFFFF && w.d != 0 && decide (w.fm 2 0 ≤ 5)) fun s =>
    let g := s.eng e
    s.compare e w.d.toNat (w.fm 2 0) (g.sc w.a.toNat) w.imm (g.reg w.a.toNat).poison)

-- address generators (R248, R249, R278, R279) ------------------------------------------------------------------------------------------------------

/-- INDEX brought below LEN; LEN 0 leaves it. The flag tells that it was cut. -/
def cutIndex (len index : Nat) : Nat × Bool := if len ≠ 0 ∧ len ≤ index then (index % len, true) else (index, false)

/-- AGSET's fields of a register (R278). -/
def agOf (v : Flit) : AddrGen × Bool :=
  let (i, cut) := cutIndex (ffld v 48 32) (ffld v 16 0)
  ({ base := BitVec.ofNat 18 (ffld v 113 96), bitrev := BitVec.ofNat 4 (ffld v 91 88), exp := BitVec.ofNat 4 (ffld v 83 80),
     stride := BitVec.ofNat 16 (ffld v 79 64), len := BitVec.ofNat 17 (ffld v 48 32), index := BitVec.ofNat 17 i }, cut)

/-- AGGET's view of a generator (R278). -/
def agBits (a : AddrGen) : Flit :=
  BitVec.ofNat 128 (a.base.toNat * 2 ^ 96 + a.bitrev.toNat * 2 ^ 88 + a.exp.toNat * 2 ^ 80 + a.stride.toNat * 2 ^ 64 + a.len.toNat * 2 ^ 32 +
    a.index.toNat)

/-- AGSET: BITREV above 13 faults; a pending length is cancelled (R278). -/
def execAgset (e : Nat) (w : EngWord) (s : State) : Res :=
  .next (s.issue e 0x20 w (w.only 3 31 0 0 0) fun s =>
    let r := (s.eng e).reg w.a.toNat
    if 13 < ffld r.val 91 88 then s.engFault e 1
    else
      let (a, cut) := agOf r.val
      s.modEng e fun g => ((g.setAg w.d.toNat { a with pendLen := (g.ag w.d.toNat).pendLen }).flag 2 cut).flag 3 r.poison)

/-- AGGET. -/
def execAgget (e : Nat) (w : EngWord) (s : State) : Res :=
  .next (s.issueEng e 0x21 w (w.only 31 3 0 0 0) fun g => g.setReg w.d.toNat { val := agBits (g.ag w.a.toNat) })

/-- A new LEN at once (R249). -/
def AddrGen.setLen (a : AddrGen) (n : Nat) : AddrGen × Bool :=
  let (i, cut) := cutIndex n a.index.toNat
  ({ a with len := BitVec.ofNat 17 n, index := BitVec.ofNat 17 i, pending := false }, cut)

/-- SETLEN: deferred or immediate (R249, R279). -/
def execSetlen (e : Nat) (w : EngWord) (s : State) : Res :=
  .next (s.issueEng e 0x22 w (w.only 3 (if w.f.getLsbD 1 then 31 else 0) 0 3 0x1FFFF) fun g =>
    let k := w.d.toNat
    let a := g.ag k
    let n := if w.f.getLsbD 1 then (g.sc w.a.toNat).toNat % 2 ^ 17 else w.im 16 0
    if w.f.getLsbD 0 || decide (a.len = 0) then
      let (a, cut) := a.setLen n
      (g.setAg k a).flag 2 cut
    else g.setAg k { a with pending := true, pendLen := BitVec.ofNat 17 n })

/-- AGEXP. -/
def execAgexp (e : Nat) (w : EngWord) (s : State) : Res :=
  .next (s.issueEng e 0x23 w (w.only 3 0 0 0 0xF) fun g => g.setAg w.d.toNat { g.ag w.d.toNat with exp := BitVec.ofNat 4 (w.im 3 0) })

/-- AGIDX: INDEX set, reduced as AGSET reduces it (R279). -/
def execAgidx (e : Nat) (w : EngWord) (s : State) : Res :=
  .next (s.issueEng e 0x24 w (w.only 3 (if w.f.getLsbD 1 then 31 else 0) 0 2 0x1FFFF) fun g =>
    let k := w.d.toNat
    let a := g.ag k
    let (i, cut) := cutIndex a.len.toNat (if w.f.getLsbD 1 then (g.sc w.a.toNat).toNat % 2 ^ 17 else w.im 16 0)
    (g.setAg k { a with index := BitVec.ofNat 17 i }).flag 2 cut)

/-- The low n bits of a number reversed. -/
def revBits (n v : Nat) : Nat := ((List.range n).map fun i => v / 2 ^ i % 2 * 2 ^ (n - 1 - i)).sum

/-- The word address that a generator's next access uses (R248). -/
def AddrGen.address (a : AddrGen) : Nat :=
  let i := a.index.toNat
  let n := a.bitrev.toNat
  a.base.toNat + (if n = 0 then i else i - i % 2 ^ n + revBits n (i % 2 ^ n))

/-- INDEX after an access: wraps, and a pending length installed at the wrap (R248, R249). -/
def AddrGen.next (a : AddrGen) : AddrGen × Bool :=
  let len := a.len.toNat
  let i : Int := (a.index.toNat : Int) + a.stride.toInt
  if len = 0 then ({ a with index := BitVec.ofNat 17 (low 17 i) }, false)
  else if 0 ≤ i ∧ i < len then ({ a with index := BitVec.ofNat 17 i.toNat }, false)
  else
    let j := (i % (len : Int)).toNat
    if a.pending then ({ a with index := BitVec.ofNat 17 j } : AddrGen).setLen a.pendLen.toNat
    else ({ a with index := BitVec.ofNat 17 j }, false)

-- loads and stores (R251, R252, R280) -----------------------------------------------------------------------------------------------------------------

/-- The window address of a data-space word of an engine (R251). -/
def dataAddr (e word : Nat) : Option Nat :=
  if word < 0x1000 then some (0x10000000 + e * 0x10000 + word * 16)
  else if 0x20000 ≤ word ∧ word < 0x40000 then some (0x40000000 + e / 16 * 0x200000 + (word - 0x20000) * 16)
  else none

/-- The generator moves on. -/
def Engine.stepAg (g : Engine) (k : Nat) : Engine :=
  let (a, cut) := (g.ag k).next
  (g.setAg k a).flag 2 cut

/-- One load through a generator: value, tag AGk_EXP, poison; the address is checked before the access (R248, R252, R280). -/
def State.loadVia (s : State) (e d k : Nat) (found : List Finding) : State :=
  let a := (s.eng e).ag k
  match dataAddr e a.address with
  | none => s.accessFault e k
  | some m =>
    let s := s.readRange false m (m + 16) 5 found
    let bad := s.wordPoisoned false m
    let v : VReg := { val := rdFlit s.window m, tag := a.exp, poison := bad, ovf := s.ovfAt false m }
    let s := s.modEng e fun g => (g.setReg d v).stepAg k
    if bad then s.eaPoison e else s

/-- One store through a generator; the tag goes to AGk_EXP (R246, R280). -/
def State.storeVia (s : State) (e r k : Nat) : State :=
  let a := (s.eng e).ag k
  let v := (s.eng e).reg r
  match dataAddr e a.address with
  | none => s.accessFault e k
  | some m =>
    let s := s.writeRange false m (leBytes 16 v.val.toNat) []
    let s := if v.poison then s.markPoison false m else s
    let s := if v.ovf then s.markOvf false m else s
    s.modEng e fun g =>
      let g := g.stepAg k
      g.setAg k { g.ag k with exp := v.tag }

/-- The engine still runs: the first access of a pair did not fault. -/
def State.then_ (s : State) (e : Nat) (f : State → State) : State := if (s.eng e).state = 1 then f s else s

/-- LD. -/
def execLd (e : Nat) (w : EngWord) (found : List Finding) (s : State) : Res :=
  .next (s.issue e 0x30 w (w.only 31 0 0 3 0) fun s => s.loadVia e w.d.toNat (w.fm 1 0) found)

/-- LDP: two loads through one generator. -/
def execLdp (e : Nat) (w : EngWord) (found : List Finding) (s : State) : Res :=
  .next (s.issue e 0x31 w (w.only 30 0 0 3 0) fun s =>
    (s.loadVia e w.d.toNat (w.fm 1 0) found).then_ e fun s => s.loadVia e (w.d.toNat + 1) (w.fm 1 0) found)

/-- ST. -/
def execSt (e : Nat) (w : EngWord) (s : State) : Res :=
  .next (s.issue e 0x32 w (w.only 0 31 0 3 0) fun s => s.storeVia e w.a.toNat (w.fm 1 0))

/-- STP: two stores; the even register's tag goes to EXP. -/
def execStp (e : Nat) (w : EngWord) (s : State) : Res :=
  .next (s.issue e 0x33 w (w.only 0 30 0 3 0) fun s =>
    let tag := ((s.eng e).reg w.a.toNat).tag
    let k := w.fm 1 0
    ((s.storeVia e w.a.toNat k).then_ e fun s => s.storeVia e (w.a.toNat + 1) k).then_ e fun s =>
      s.modEng e fun g => g.setAg k { g.ag k with exp := tag })

-- vectors (R281) -------------------------------------------------------------------------------------------------------------------------------------------

/-- FMT of a vector instruction; 0x6 and 0x7 are faults. -/
def fmtOk (w : EngWord) : Bool := decide (w.fm 2 0 ≤ 5)

/-- VADD and VSUB: aligned to the larger tag, component by component, saturating (R281). -/
def State.vaddsub (s : State) (e : Nat) (w : EngWord) (sub : Bool) : State :=
  let g := s.eng e
  let n := fmtWidth (w.fm 2 0)
  let a := g.reg w.a.toNat
  let b := g.reg w.b.toNat
  let t := max a.tag.toNat b.tag.toNat
  let xs := (comps n a.val).map fun v => shiftBy v (t - a.tag.toNat : Nat)
  let ys := (comps n b.val).map fun v => shiftBy v (t - b.tag.toNat : Nat)
  let rs := List.zipWith (fun (x y : Int) => if sub then x - y else x + y) xs ys
  let ofl := rs.any fun r => decide (sat n r ≠ r)
  let v : VReg := { val := packComps n (rs.map (sat n)), tag := BitVec.ofNat 4 t, poison := a.poison || b.poison }
  let s := s.modEng e fun g => (g.setReg w.d.toNat v).flag 0 ofl
  if ofl then s.eaOvf e else s

/-- VADD. -/
def execVadd (e : Nat) (w : EngWord) (s : State) : Res :=
  .next (s.issue e 0x40 w (w.only 31 31 31 7 0 && fmtOk w) fun s => s.vaddsub e w false)

/-- VSUB. -/
def execVsub (e : Nat) (w : EngWord) (s : State) : Res :=
  .next (s.issue e 0x41 w (w.only 31 31 31 7 0 && fmtOk w) fun s => s.vaddsub e w true)

/-- VSRA: components shifted right with truncation; the tag stays. -/
def execVsra (e : Nat) (w : EngWord) (s : State) : Res :=
  .next (s.issueEng e 0x42 w (w.only 31 31 0 7 0x1F && fmtOk w) fun g =>
    let n := fmtWidth (w.fm 2 0)
    let a := g.reg w.a.toNat
    g.setReg w.d.toNat { a with val := packComps n ((comps n a.val).map fun v => shiftBy v (w.im 4 0)) })

/-- A logical operation: all 128 bits, the tag of vA. -/
def Engine.logic (g : Engine) (w : EngWord) (f : Flit → Flit → Flit) : Engine :=
  let a := g.reg w.a.toNat
  let b := g.reg w.b.toNat
  g.setReg w.d.toNat { val := f a.val b.val, tag := a.tag, poison := a.poison || b.poison }

/-- VAND. -/
def execVand (e : Nat) (w : EngWord) (s : State) : Res :=
  .next (s.issueEng e 0x43 w (w.only 31 31 31 0 0) fun g => g.logic w (· &&& ·))

/-- VOR. -/
def execVor (e : Nat) (w : EngWord) (s : State) : Res :=
  .next (s.issueEng e 0x44 w (w.only 31 31 31 0 0) fun g => g.logic w (· ||| ·))

/-- VXOR. -/
def execVxor (e : Nat) (w : EngWord) (s : State) : Res :=
  .next (s.issueEng e 0x45 w (w.only 31 31 31 0 0) fun g => g.logic w (· ^^^ ·))

/-- VMOV: value, tag and poison. -/
def execVmov (e : Nat) (w : EngWord) (s : State) : Res :=
  .next (s.issueEng e 0x46 w (w.only 31 31 0 0 0) fun g => g.setReg w.d.toNat (g.reg w.a.toNat))

/-- VTAG: value and poison copied, the tag set. -/
def execVtag (e : Nat) (w : EngWord) (s : State) : Res :=
  .next (s.issueEng e 0x47 w (w.only 31 31 0 0 0xF) fun g =>
    g.setReg w.d.toNat { g.reg w.a.toNat with tag := BitVec.ofNat 4 (w.im 3 0) })

/-- VGET: one element, sign-extended, into vD.s. -/
def execVget (e : Nat) (w : EngWord) (s : State) : Res :=
  let n := fmtElem (w.fm 2 0)
  .next (s.issueEng e 0x48 w (w.only 31 31 0 7 0xF && fmtOk w && decide (w.im 3 0 < 128 / n)) fun g =>
    let a := g.reg w.a.toNat
    g.setSc w.d.toNat (w32 ((comps n a.val).getD (w.im 3 0) 0)) a.poison)

/-- VSPLAT: the low bits of vA.s into every element; the tag and the poison of vA. -/
def execVsplat (e : Nat) (w : EngWord) (s : State) : Res :=
  .next (s.issueEng e 0x49 w (w.only 31 31 0 7 0 && fmtOk w) fun g =>
    let n := fmtElem (w.fm 2 0)
    let a := g.reg w.a.toNat
    g.setReg w.d.toNat { a with val := packComps n (List.replicate (128 / n) ((g.sc w.a.toNat).toNat : Int)) })

-- multiply-accumulate (R240, R241, R243, R282, R283) -------------------------------------------------------------------------------------------------

/-- One product set into one bank (R243): bank after it, and whether a component left its range. -/
def Bank.mac (b : Bank) (p : Nat) (real : Bool) (poison : Bool) (prods : List (Int × Int)) : Bank × Bool :=
  let e0 := if b.cleared then p else b.exp.toNat
  let dp : Int := ((e0 - p : Nat) : Int)
  let db : Int := ((p - e0 : Nat) : Int)
  let n := if real then 64 else 32
  let sums := prods.zipIdx.map fun (q, l) =>
    let v := laneParts real (SMap.get 0 b.lanes l)
    (shiftBy v.1 db + shiftBy q.1 dp, shiftBy v.2 db + shiftBy q.2 dp)
  let ofl (v : Int × Int) : Bool := decide (sat n v.1 ≠ v.1) || decide (sat n v.2 ≠ v.2)
  let lanes := sums.zipIdx.foldl (fun m (v, l) => SMap.set 0 m l (laneOf real (sat n v.1, sat n v.2))) b.lanes
  let ovf := (sums.zipIdx.map fun (v, l) => if ofl v then 2 ^ l else 0).sum
  ({ lanes, ovf := b.ovf ||| BitVec.ofNat 16 ovf, exp := BitVec.ofNat 5 (max e0 p), cleared := false, poison := b.poison || poison },
   sums.any ofl)

/-- A product set into bank n of an engine, with the event (R243). -/
def State.mac (s : State) (e n p : Nat) (real poison : Bool) (prods : List (Int × Int)) : State :=
  let (b, ofl) := ((s.eng e).bank n).mac p real poison prods
  let s := s.modEng e fun g => g.setBank n b
  if ofl then s.eaOvf e else s

/-- The 16 elements of a register pair. -/
def Engine.pair (g : Engine) (f : Flit → List (Int × Int)) (n : Nat) : List (Int × Int) := f (g.reg n).val ++ f (g.reg (n + 1)).val

/-- Tag and poison of a pair: those of the even register, with the poison of both. -/
def Engine.pairPoison (g : Engine) (n : Nat) : Bool := (g.reg n).poison || (g.reg (n + 1)).poison

/-- FORM 0x0 ELEMENT and 0x2 BROADCAST over a pair (R241): products per lane. -/
def Engine.pairProds (g : Engine) (w : EngWord) (f : Flit → List (Int × Int)) (conj : Bool) : List (Int × Int) :=
  let x := g.pair f w.a.toNat
  if w.fm 1 0 = 0 then List.zipWith (cmul conj) x (g.pair f w.b.toNat)
  else x.map fun v => cmul conj v ((f (g.reg w.b.toNat).val).getD (w.im 2 0) (0, 0))

/-- Exponent of a product (R243, R246). -/
def Engine.prodExp (g : Engine) (w : EngWord) : Nat := (g.reg w.a.toNat).tag.toNat + (g.reg w.b.toNat).tag.toNat

/-- A pair is needed for X, for Y. -/
def evenA (w : EngWord) : Bool := decide (w.a.toNat % 2 = 0)
def evenB (w : EngWord) : Bool := decide (w.b.toNat % 2 = 0)

/-- MAC8 (R241, R282). -/
def execMac8 (e : Nat) (w : EngWord) (s : State) : Res :=
  let form := w.fm 1 0
  let ok := match form with
    | 0 => w.only 7 31 31 7 0 && evenA w && evenB w
    | 1 => w.only 7 31 31 7 0x11
    | 2 => w.only 7 31 31 7 0x07 && evenA w
    | _ => false
  .next (s.issue e 0x50 w ok fun s =>
    let g := s.eng e
    let conj := w.f.getLsbD 2
    let x := celems 8 (g.reg w.a.toNat).val
    let y := celems 8 (g.reg w.b.toNat).val
    let prods := if form = 1 then
        (List.range 16).map fun l => cmul conj (x.getD (4 * w.im 4 4 + l / 4) (0, 0)) (y.getD (4 * w.im 2 0 + l % 4) (0, 0))
      else g.pairProds w (celems 8) conj
    let bad := (if form = 1 then (g.reg w.a.toNat).poison else g.pairPoison w.a.toNat) ||
      (if form = 0 then g.pairPoison w.b.toNat else (g.reg w.b.toNat).poison)
    s.mac e w.d.toNat (g.prodExp w) false bad prods)

/-- MAC4 (R241, R282): OUTER accumulates into banks 4g to 4g + 3. -/
def execMac4 (e : Nat) (w : EngWord) (s : State) : Res :=
  let form := w.fm 1 0
  let ok := match form with
    | 0 => w.only 7 31 31 7 0
    | 1 => w.only 0 31 31 7 0x13
    | _ => false
  .next (s.issue e 0x51 w ok fun s =>
    let g := s.eng e
    let conj := w.f.getLsbD 2
    let x := celems 4 (g.reg w.a.toNat).val
    let y := celems 4 (g.reg w.b.toNat).val
    let bad := (g.reg w.a.toNat).poison || (g.reg w.b.toNat).poison
    let p := g.prodExp w
    if form = 0 then s.mac e w.d.toNat p false bad (List.zipWith (cmul conj) x y)
    else (List.range 4).foldl (fun s j =>
      s.mac e (4 * w.im 4 4 + j) p false bad (x.map fun v => cmul conj v (y.getD (4 * w.im 1 0 + j) (0, 0)))) s)

/-- MAC16 (R241, R282): real products into 64-bit lanes; CONJ faults. -/
def execMac16 (e : Nat) (w : EngWord) (s : State) : Res :=
  let form := w.fm 1 0
  let ok := match form with
    | 0 => w.only 7 31 31 3 0 && evenA w && evenB w
    | 2 => w.only 7 31 31 3 0x07 && evenA w
    | _ => false
  .next (s.issue e 0x52 w ok fun s =>
    let g := s.eng e
    let bad := g.pairPoison w.a.toNat || (if form = 0 then g.pairPoison w.b.toNat else (g.reg w.b.toNat).poison)
    s.mac e w.d.toNat (g.prodExp w) true bad (g.pairProds w relems false))

/-- BCLR: the banks of the mask into the cleared state (R283). -/
def execBclr (e : Nat) (w : EngWord) (s : State) : Res :=
  .next (s.issueEng e 0x53 w (w.only 0 0 0 0 0xFF) fun g =>
    ((List.range 8).filter fun b => w.imm.getLsbD b).foldl (fun g b => g.setBank b {}) g)

-- move with shift (R247, R284, R285) ------------------------------------------------------------------------------------------------------------------------

/-- The sources of a block: components of width n with their exponent, source by source; poison; whether the data came from a bank with OVF
(R247, R260). -/
def Engine.block (g : Engine) (w : EngWord) (n count : Nat) : List (List Int × Nat) × Bool × Bool :=
  let a := w.a.toNat
  if w.f.getLsbD 3 then
    let rs := (List.range count).map fun i => g.reg (a + i)
    (rs.map fun r => (comps n r.val, r.tag.toNat), rs.any (·.poison), rs.any (·.ovf))
  else
    let bs := (List.range count).map fun i => g.bank (a + i)
    let parts (v : BitVec 64) : List Int :=
      if n = 64 then [sx 64 v.toNat] else [sx 32 (v.toNat / 2 ^ 32), sx 32 v.toNat]
    (bs.map fun b => ((List.range 16).flatMap fun l => parts (SMap.get 0 b.lanes l), b.exp.toNat), bs.any (·.poison),
     bs.any fun b => b.ovf != 0)

/-- MOVS: a block through the scaling unit (R247, R284, R285). -/
def execMovs (e : Nat) (w : EngWord) (s : State) : Res :=
  let c := convOf (w.fm 2 0)
  let reg := w.f.getLsbD 3
  let count := w.im 29 24 + 1
  let words := if reg then count else 8 * count
  let dests := words / c.per
  let ok := w.only 31 31 0 0x1F 0x3F0000FF && (if reg then c.regs else c.banks) &&
    decide (w.a.toNat + count ≤ (if reg then 32 else 8)) && decide (words % c.per = 0) && decide (w.d.toNat + dests ≤ 32)
  .next (s.issue e 0x58 w ok fun s =>
    let (src, bad, ovf) := (s.eng e).block w c.src count
    let eIn := (src.map (·.2)).foldl max 0
    let vs := src.flatMap fun q => q.1.map fun v => shiftBy v ((eIn - q.2 : Nat) : Int)
    let fixed := if w.f.getLsbD 4 then some (sx 8 (w.im 7 0)) else none
    let r := scaleBlock c.dst eIn fixed vs s.free
    let s := if r.open_ then { s with free := s.free + vs.length } else s
    let s := s.modEng e fun g =>
      let g := (packAll c.dst r.out).zipIdx.foldl (fun g (v, i) =>
        g.setReg (w.d.toNat + i) { val := v, tag := BitVec.ofNat 4 r.exp, poison := bad, ovf }) g
      (g.flag 1 r.sat).flag 0 (ovf && !reg)
    if r.sat then s.raise 10 1 (eaDetail e) else s)

-- results and triggers (R286, R287) ----------------------------------------------------------------------------------------------------------------------------

/-- EMIT: the curd is offered, and the engine is held until the admission point has judged it (R286). -/
def execEmit (e : Nat) (w : EngWord) (s : State) : Res :=
  .next (s.issue e 0x60 w (w.only 31 31 0 0 0xFFFF && decide (w.im 7 0 ≠ 0)) fun s =>
    let g := s.eng e
    let a := (g.sc w.a.toNat).toNat
    let n := w.im 7 0
    if a < 0x20000 ∨ 0x40000 < a + n then s.engFault e 2
    else
      let q : EmitReq := { engine := e, dest := w.d, addr := a, type := BitVec.ofNat 8 (w.im 15 8), len := n,
                           poison := (g.reg w.a.toNat).poison }
      let k := s.cluster (e / 16)
      (s.setCluster (e / 16) { k with emits := k.emits ++ [q] }).modEng e fun g => { g with held := true })

/-- TRIG: a candidate with T from vA enters the cluster's FIFO; one that finds it full is lost; a poisoned one is not offered (R263,
R287). `apart` says that the FIFOs have drained since the candidate before it. -/
def execTrig (e : Nat) (w : EngWord) (apart : Bool) (s : State) : Res :=
  .next (s.issue e 0x61 w (w.only 0 31 0 0 0) fun s =>
    let v := (s.eng e).reg w.a.toNat
    if v.poison then (s.modEng e fun g => g.flag 3 true).eaPoison e
    else
      let (s, full) := s.queueTrig e (BitVec.ofNat 64 (v.val.toNat / 2 ^ 64)) apart
      if full then (s.bump (0x200850 + e / 16 * 0x10000) 1).raise 10 5 (eaDetail e) else s)

end Sys2Proof.Machine
end

