-- ==== Sys2Proof/Machine/Fx.lean ====
section
/-!
DEFINITION. The FX ROM kernels (R288 to R304): parameter blocks (R291), the sample ring (R292), the channeliser's EXCHANGE curds
(R293 to R299), the receive ring and the corner turn (R300), visibilities (R301, R302) and beams (R303, R304). The arithmetic of
the transform and of the weighted sums is not given bit by bit: these are functions of their operands in Config; the filter, the
re-quantisation, the corner turn and the visibilities are exact.
-/
namespace Sys2Proof.Machine

-- parameter blocks -----------------------------------------------------------------------------------------------------------------------

/-- Window address of the parameter block of a ROM kernel in a cluster (R289). -/
def blockAddr (c h : Nat) : Nat := 0x40000000 + c * 0x200000 + 0x1F8000 + (h - 1) * 0x40

/-- The block of FX_XTILE is that of FX_CTURN (R289). -/
def blockHandle (h : Nat) : Nat := if h = 3 then 2 else h

/-- The copy that the runs use. -/
def State.params (s : State) (c h : Nat) : List Word :=
  match s.sched.params.find? fun p => p.cluster == c && p.handle == blockHandle h with
  | some p => p.words
  | none => []

/-- Word i of a block. -/
def pw (ws : List Word) (i : Nat) : Word := ws.getD i 0
/-- A vat address in two words, low first. -/
def pAddr (ws : List Word) (i : Nat) : Nat := (pw ws (i + 1)).toNat * 2 ^ 32 + (pw ws i).toNat

/-- FX_PFB's block (R291). -/
structure Pfb where
  taps    : Nat
  log2Ch  : Nat
  round   : Bool
  req     : Nat
  rxCount : Nat
  rxFirst : Nat
  coef    : Nat
  sel     : Nat
  shift   : Nat
  sring   : Nat
  stage   : Nat
  deriving DecidableEq, Repr

def pfbOf (ws : List Word) : Pfb :=
  { taps := fld (pw ws 0) 28 24, log2Ch := fld (pw ws 0) 19 16, round := (pw ws 0).getLsbD 12, req := fld (pw ws 0) 9 8,
    rxCount := fld (pw ws 1) 13 8, rxFirst := fld (pw ws 1) 5 0, coef := fld (pw ws 2) 20 0, sel := fld (pw ws 3) 20 0,
    shift := fld (pw ws 4) 20 0, sring := pAddr ws 5, stage := pAddr ws 7 }

/-- Channels of a block, and bytes of one element under its REQ. -/
def Pfb.ch (p : Pfb) : Nat := 2 ^ p.log2Ch
def Pfb.bytes (p : Pfb) : Nat := if p.req < 2 then 1 else 2

/-- FX_CTURN's block (R291). -/
structure Ctn where
  k       : Nat
  n       : Nat
  data8   : Bool
  log2Kb  : Nat
  cx      : Nat
  chFirst : Nat
  lanes   : Nat
  ctbuf   : Nat
  rring   : Nat
  frames  : Nat
  deriving DecidableEq, Repr

def ctnOf (ws : List Word) : Ctn :=
  { k := fld (pw ws 0) 29 24, n := fld (pw ws 0) 21 16, data8 := (pw ws 0).getLsbD 8, log2Kb := fld (pw ws 0) 4 0,
    cx := fld (pw ws 1) 28 16, chFirst := fld (pw ws 1) 12 0, lanes := fld (pw ws 2) 5 0, ctbuf := pAddr ws 3, rring := pAddr ws 5,
    frames := fld (pw ws 7) 3 0 }

/-- b, r, K_b, and the slice s of the mesh (R297). -/
def Ctn.b (t : Ctn) : Nat := if t.data8 then 2 else 1
def Ctn.r (t : Ctn) : Nat := 48 * t.n
def Ctn.kb (t : Ctn) : Nat := 2 ^ t.log2Kb
def Ctn.s (t : Ctn) : Nat := cdiv t.cx t.n

/-- First channel and number of channels that node k owns (R297). -/
def Ctn.own (t : Ctn) (k : Nat) : Nat × Nat := (t.chFirst + k * t.cx / t.n, (k + 1) * t.cx / t.n - k * t.cx / t.n)

/-- The owner of a channel. -/
def Ctn.owner (t : Ctn) (x : Nat) : Nat :=
  ((List.range t.n).find? fun k => decide ((t.own k).1 ≤ x ∧ x < (t.own k).1 + (t.own k).2)).getD 0

/-- FX_BEAM's block (R291). -/
structure Beam where
  log2Kp  : Nat
  power   : Bool
  array   : Bool
  beams   : Nat
  wt      : Nat
  sel     : Nat
  chCount : Nat
  chFirst : Nat
  deriving DecidableEq, Repr

def beamOf (ws : List Word) : Beam :=
  { log2Kp := fld (pw ws 0) 19 16, power := (pw ws 0).getLsbD 9, array := (pw ws 0).getLsbD 8, beams := fld (pw ws 0) 7 0,
    wt := fld (pw ws 1) 20 0, sel := fld (pw ws 2) 20 0, chCount := fld (pw ws 3) 28 16, chFirst := fld (pw ws 3) 12 0 }

/-- Clusters for which a schedule runs a handle, ascending. -/
def runClusters (l : List Entry) (h : Nat) : List Nat :=
  (List.range 16).filter fun c => l.any fun e => e.kind == 1 && e.idx == c && fld e.w3 15 0 == h

/-- The clusters of the active schedule that run a handle. -/
def State.fxClusters (s : State) (h : Nat) : List Nat := runClusters s.sched.active h

/-- FX_CTURN's block, from the first cluster that runs it. -/
def State.ctn (s : State) : Option Ctn := (s.fxClusters 2).head?.map fun c => ctnOf (s.params c 2)

/-- The share of cluster c when work is dealt to the clusters that run a handle: its place and their number. -/
def State.share (s : State) (c h : Nat) : Nat × Nat :=
  let l := s.fxClusters h
  ((l.findIdx? (· == c)).getD 0, max 1 l.length)

/-- Receivers in the RX ranges of the FX_PFB blocks, with their sample ring. -/
def State.rxRings (s : State) : List (Nat × Nat) :=
  (s.fxClusters 1).flatMap fun c =>
    let p := pfbOf (s.params c 1)
    (List.range p.rxCount).map fun i => (p.rxFirst + i, p.sring + (p.rxFirst + i) * 16 * s.time.period.toNat)

-- samples (R292, R295) -------------------------------------------------------------------------------------------------------------------

/-- Fx replaced. -/
def State.setFx (s : State) (f : Fx → Fx) : State := { s with fx := f s.fx }

/-- A range of INV samples: one more half nanosecond, joined to the last one where they touch; ranges older than four frames go. -/
def addInv (l : List (Nat × Nat)) (h keep : Nat) : List (Nat × Nat) :=
  let l := match l with
    | (a, b) :: t => if b = h then (a, h + 1) :: t else (h, h + 1) :: l
    | [] => [(h, h + 1)]
  l.filter fun r => decide (keep ≤ r.2)

/-- A corrected sample: its INV flag is noted, and it enters the sample ring of its receiver when an FX_PFB block in force has it (R292,
R295). -/
def State.ringSample (s : State) (q : Nat) (x : Sample) : State :=
  let h := s.extFine x.ct / 256
  let s := if x.inv then
      s.setFx fun f => { f with inv := SMap.put f.inv q (addInv (SMap.get [] f.inv q) h (h - 8 * s.time.period.toNat)) }
    else s
  match s.rxRings.find? fun r => r.1 == q with
  | none => s
  | some (_, base) =>
    let v := low 16 x.y
    s.writeRange true (base + 2 * (h % (8 * s.time.period.toNat))) [BitVec.ofNat 8 (v / 256), BitVec.ofNat 8 v] []

/-- Corrected samples of a receiver enter its sample ring, oldest first (R292). -/
def State.ringSamples (s : State) (q : Nat) : List Sample → State
  | [] => s
  | x :: rest => State.ringSamples (s.ringSample q x) q rest

/-- A receiver's EN takes effect (R292, R295). -/
def State.fxEnable (s : State) (q : Nat) (on : Bool) : State :=
  let h := s.time.tickE.toNat * 2
  s.setFx fun f =>
    if on then { f with on := SMap.put f.on q (h, none) }
    else match SMap.find f.on q with
      | some (a, none) => { f with on := SMap.put f.on q (a, some h) }
      | _ => f

/-- The samples of a receiver in [lo, hi) are all there and none is INV. -/
def State.cleanWindow (s : State) (q lo hi : Nat) : Bool :=
  (match SMap.find s.fx.on q with
   | some (a, none) => decide (a ≤ lo)
   | some (a, some b) => decide (a ≤ lo ∧ hi ≤ b)
   | none => false) &&
  !(SMap.get [] s.fx.inv q).any fun r => decide (r.1 < hi ∧ lo < r.2)

/-- Spectra per frame. -/
def State.sf (s : State) (ch : Nat) : Nat := s.time.period.toNat / ch
/-- Index of the first spectrum of the frame before the current one (R293). -/
def State.firstSpec (s : State) (ch : Nat) : Nat := s.time.tickE.toNat / ch - s.sf ch

/-- INV_MASK of the spectra from index j0 on (R295). -/
def State.invMask (s : State) (p : Pfb) (j0 : Nat) : Nat :=
  let rx := s.rxRings.map (·.1)
  flags (s.sf p.ch) fun q =>
    let j := j0 + q
    !rx.all fun r => s.cleanWindow r (2 * (j + 1 - p.taps) * p.ch) (2 * (j + 1) * p.ch)

-- the channeliser (R293 to R296) -----------------------------------------------------------------------------------------------------------

/-- First byte of a cluster's shared memory in the window. -/
def sharedAt (c : Nat) : Nat := 0x40000000 + c * 0x200000

/-- A live selector as a run reads it: bit 0 of its byte (R289, R296, R303). -/
def State.selector (s : State) (c ofs : Nat) : Nat := (rdByte s.window (sharedAt c + ofs)).toNat % 2

/-- A signed 16-bit value, most significant byte first. -/
def rd16 (m : List Host.Cell) (a : Nat) : Int := sx 16 ((rdByte m a).toNat * 256 + (rdByte m (a + 1)).toNat)

/-- The bank that a cluster's FX_PFB run of this frame uses, and whether it is newly selected: as its run read it, or as the selector
stands before that run (R296). -/
def State.bankOf (s : State) (c : Nat) : Csel :=
  let live := s.selector c (pfbOf (s.params c 1)).sel
  match SMap.find s.fx.csel c with
  | some k => if k.fn = s.time.fn then k else { bank := live, fn := s.time.fn, fresh := k.bank != live }
  | none => { bank := live, fn := s.time.fn, fresh := false }

/-- Spectra zeroed because a cluster's coefficient bank is newly selected: the first taps ones, of every receiver (R295, R296). -/
def State.freshMask (s : State) : Nat :=
  ((s.fxClusters 1).map fun c => if (s.bankOf c).fresh then 2 ^ (pfbOf (s.params c 1)).taps - 1 else 0).foldl (· ||| ·) 0

/-- The cluster whose RX range holds a receiver. -/
def State.rxCluster (s : State) (q : Nat) : Option Nat :=
  (s.fxClusters 1).find? fun c => let p := pfbOf (s.params c 1); decide (p.rxFirst ≤ q ∧ q < p.rxFirst + p.rxCount)

/-- Vat address of the sample of a receiver at u half nanoseconds of E (R292). -/
def State.ringAt (s : State) (p : Pfb) (q u : Nat) : Nat := p.sring + q * 16 * s.time.period.toNat + 2 * (u % (8 * s.time.period.toNat))

/-- First byte of a coefficient bank in the window (R293). -/
def coefBank (c : Nat) (p : Pfb) (bank : Nat) : Nat := sharedAt c + p.coef + bank * (4 * p.taps * p.ch)

/-- The filter outputs w[0] to w[m - 1] of spectrum j of a receiver, from its samples and its cluster's coefficient bank (R293). -/
def State.filtered (s : State) (c : Nat) (p : Pfb) (q j : Nat) : List Int :=
  let m := 2 * p.ch
  let h := coefBank c p (s.bankOf c).bank
  (List.range m).map fun k =>
    ((List.range p.taps).map fun t =>
      if j < t then 0 else rd16 s.window (h + 2 * (t * m + k)) * rd16 s.vatMem (s.ringAt p q ((j - t) * m + k))).foldl (· + ·) 0

/-- A spectrum of a receiver rests on a poisoned word (R252, R295). -/
def State.filterPoisoned (s : State) (c : Nat) (p : Pfb) (q j : Nat) : Bool :=
  let h := coefBank c p (s.bankOf c).bank
  s.anyPoison false h (h + 4 * p.taps * p.ch) ||
    (List.range (p.taps * 2 * p.ch)).any fun i => s.wordPoisoned true (s.ringAt p q ((j + 1) * 2 * p.ch - 1 - i) / 16 * 16)

/-- One value of a channel before re-quantisation: receiver, spectrum of the frame, components, tag, poison. -/
structure Raw where
  rx : Nat
  q  : Nat
  re : Int
  im : Int
  tag : Nat
  poison : Bool
  deriving DecidableEq, Repr

/-- The values of channel x of every receiver and spectrum of a frame that is not zeroed (R293, R295). -/
def State.rawChannel (s : State) (sf j0 mask x : Nat) : List Raw :=
  (List.range 48).flatMap fun i =>
    match s.rxCluster i with
    | none => []
    | some c =>
      let p := pfbOf (s.params c 1)
      ((List.range sf).filter fun q => mask / 2 ^ q % 2 = 0).map fun q =>
        let y := Config.transform (s.filtered c p i (j0 + q))
        let v := y.1.getD x (0, 0)
        { rx := i, q, re := sx 16 (low 16 v.1), im := sx 16 (low 16 v.2), tag := y.2 % 16, poison := s.filterPoisoned c p i (j0 + q) }

/-- A channel of a frame after re-quantisation: data flits, exponent, whether a component saturated, poisoned flits. -/
structure Channel where
  data : List Flit
  exp  : Nat
  sat  : Bool
  bad  : List Nat
  deriving DecidableEq, Repr

/-- Re-quantisation of one channel of one frame under the block of a cluster: one shift for every receiver and spectrum, from AUTO or from
the shift table; half an output LSB added on request; a given shift within its bounds has no stated result for a component that leaves the
range (R247, R294). -/
def State.requantise (s : State) (c : Nat) (p : Pfb) (sf x : Nat) (raw : List Raw) : Channel :=
  let w := 4 * p.bytes
  let eIn := (raw.map (·.tag)).foldl max 0
  let vs := raw.flatMap fun r => [shiftBy r.re ((eIn - r.tag : Nat) : Int), shiftBy r.im ((eIn - r.tag : Nat) : Int)]
  let fixed := if p.req % 2 = 1 then some (sx 8 (rdByte s.window (sharedAt c + p.shift + x)).toNat) else none
  let (sh, cut) := shiftFor w eIn fixed vs
  let half : Int := if p.round && decide (1 ≤ sh) then ((2 ^ (sh.toNat - 1) : Nat) : Int) else 0
  let rs := vs.map fun v => shiftBy (v + half) sh
  let out := rs.zipIdx.map fun (r, i) =>
    if sat w r = r ∨ fixed.isNone ∨ cut then sat w r else sx w (low w (Config.freeNat (s.free + i)))
  let put (i q : Nat) : List Int :=
    match raw.findIdx? fun r => r.rx == i && r.q == q with
    | some k => [out.getD (2 * k) 0, out.getD (2 * k + 1) 0]
    | none => [0, 0]
  { data := packAll w ((List.range sf).flatMap fun q => (List.range 48).flatMap fun i => put i q),
    exp := ((eIn : Int) + sh).toNat, sat := cut || (fixed.isNone && rs.any fun r => decide (sat w r ≠ r)),
    bad := ((raw.filter (·.poison)).map fun r => (48 * r.q + r.rx) * p.bytes / 16).eraseDups }

/-- Bytes of one channel of a frame in the exchange staging ring, and where a cluster's ring holds it: channels one after another, each
as the data of an EXCHANGE curd (DESIGN CHOICE: the manual gives the ring no layout; R291, R298). -/
def stageBytes (p : Pfb) (sf : Nat) : Nat := 48 * sf * p.bytes
def Pfb.stageAt (p : Pfb) (sf x : Nat) : Nat := p.stage + x * stageBytes p sf

/-- The cluster that an FX_PFB run deals a channel to: its re-quantisation, its staging and its curd. -/
def State.chanCluster (s : State) (x : Nat) : Nat :=
  let l := s.fxClusters 1
  l.getD (x % max 1 l.length) 0

-- EXCHANGE (R298 to R300) ------------------------------------------------------------------------------------------------------------------

/-- The header flit of an EXCHANGE curd (R298). -/
def exchangeHeader (x fmt exp k first mask : Nat) : Flit :=
  BitVec.ofNat 128 (x * 2 ^ 115 + fmt * 2 ^ 112 + exp * 2 ^ 108 + k * 2 ^ 102 + first % 2 ^ 32 * 2 ^ 64 + mask)

/-- Flits of an EXCHANGE payload: 1 + 3 × S_f × b (R298). -/
def State.exchangeFlits (s : State) (t : Ctn) : Nat := 1 + 3 * s.sf (pfbOf (s.params ((s.fxClusters 1).headD 0) 1)).ch * t.b

/-- A delivered EXCHANGE curd goes to its slot of the receive ring, its poisoned flits marked (R300). -/
def State.putExchange (s : State) (t : Ctn) (fn : Word) (payload : List Flit) (bad : List Nat) : State :=
  let h := payload.getD 0 0
  let x := ffld h 127 115
  let a := ffld h 107 102
  let (first, n) := t.own t.k
  if x < first ∨ first + n ≤ x ∨ t.n ≤ a then s
  else
    let size := 16 * s.exchangeFlits t
    let slot := t.n * t.s * size
    let payload := payload.take (s.exchangeFlits t)
    let base := t.rring + fn.toNat % t.frames * slot + (a * t.s + (x - first)) * size
    let s := s.writeRange true base (flitMem payload) []
    let s := bad.foldl (fun s i => s.markPoison true (base + 16 * i)) s
    let q : Spectra := { fn, node := a, ch := x, exp := ffld h 111 108, inv := BitVec.ofNat 64 (ffld h 63 0) }
    s.setFx fun f =>
      { f with got := q :: f.got.filter fun g => !(g.node == a && g.ch == x && g.fn == fn) && decide (sdiff 32 fn.toNat g.fn.toNat < 16) }

/-- An EXCHANGE curd arrives at its destination; which flits of a curd marked POISONED are poisoned is not carried: all are marked. -/
def State.deliverExchange (s : State) (c : Curd) : State :=
  match s.ctn with
  | some t => s.putExchange t c.rind.fn c.payload (if c.rind.poisoned then List.range (s.exchangeFlits t) else [])
  | none => s

/-- The last curd held is bound to a lane. -/
def State.bindLast (s : State) (old lane : Nat) : State :=
  if s.sched.held.length = old then s
  else s.setHeld (s.sched.held.zipIdx.map fun (h, i) => if i + 1 = s.sched.held.length then { h with out := some lane } else h)

/-- The lane from node a to node b for a channel (R299). -/
def Ctn.laneTo (t : Ctn) (b x : Nat) : Nat := 1 + ((b + t.n - t.k - 1) % t.n) + (t.n - 1) * (x % max 1 t.lanes)

/-- A result of a ROM kernel judged at its cluster: admitted or refused (R262). Which engine emits a refused one is not given. -/
def State.romResult (s : State) (c type : Nat) (fn : FN) (payload : List Flit) (mark : Rind → Rind) (dep : Nat) : State × Bool :=
  if s.admitsResult c false type payload.length then (s.takeResult c type payload.length fn payload mark (some dep), true)
  else ((s.resultWhey c (16 * c + s.freeVal % 16) payload.length).draw, false)

/-- One EXCHANGE curd of a channel. A curd of the own slice is delivered at its admission, without a lane (R299). -/
def State.emitExchange (s : State) (c entry : Nat) (p : Pfb) (t : Ctn) (j0 mask x : Nat) (v : Channel) : State :=
  let payload := exchangeHeader x (p.bytes - 1) v.exp t.k j0 mask :: v.data
  let mark (r : Rind) : Rind := { r with poisoned := v.bad != [] }
  let dst := t.owner x
  let old := s.sched.held.length
  if dst = t.k then
    if s.admitsResult c false 0x11 payload.length then
      let k := s.cluster c
      let s := (s.setCluster c { k with resUsed := k.resUsed + payload.length + 2 }).nextSeq 0x11
      s.putExchange t (s.time.fn.setWidth 32) payload (v.bad.map (· + 1))
    else ((s.resultWhey c (16 * c + s.freeVal % 16) payload.length).draw)
  else
    let (s, ok) := s.romResult c 0x11 s.time.fn payload mark entry
    if ok then s.bindLast old (t.laneTo dst x) else s

/-- EA_EXP_SAT and EXP_SAT of an engine of a cluster; which one runs the work is not given (R294). -/
def State.fxSat (s : State) (c : Nat) : State :=
  let e := 16 * c + s.freeVal % 16
  (s.draw.modEng e fun g => g.flag 1 true).raise 10 1 (eaDetail e)

/-- A channel of a frame written to the staging ring of a cluster, as far as its stacks go (R291, R303). -/
def State.stageChannel (s : State) (p : Pfb) (sf j0 mask x : Nat) (v : Channel) : State :=
  let a := p.stageAt sf x
  let s := if s.vatRange a (a + stageBytes p sf) then
      v.bad.foldl (fun s i => s.markPoison true (a + 16 * i)) (s.writeRange true a (flitMem v.data) [])
    else s
  let q : Spectra := { fn := s.time.fn.setWidth 32, node := 0, ch := x, exp := v.exp, inv := BitVec.ofNat 64 mask }
  s.setFx fun f => { f with staged := q :: f.staged.filter fun g => g.ch != x, first := j0 }

/-- FX_PFB: the spectra of the frame before, channel by channel, into the staging ring; their EXCHANGE curds while an FX_CTURN run stands
in the schedule (R293 to R298). -/
def State.fxPfb (s : State) (c entry : Nat) : State :=
  let p := pfbOf (s.params c 1)
  let k := s.bankOf c
  let s := s.setFx fun f => { f with csel := SMap.put f.csel c k }
  let sf := s.sf p.ch
  let j0 := s.firstSpec p.ch
  let mask := s.invMask p j0 ||| s.freshMask
  ((List.range p.ch).filter fun x => s.chanCluster x = c).foldl (fun s x =>
    let raw := s.rawChannel sf j0 mask x
    let v := s.requantise c p sf x raw
    let s : State := { s with free := s.free + 2 * raw.length }
    let s := if v.bad = [] then s else (s.eaPoison (16 * c + s.freeVal % 16)).draw
    let s := if v.sat then s.fxSat c else s
    let s := s.stageChannel p sf j0 mask x v
    match s.ctn with
    | none => s
    | some t => if t.chFirst ≤ x ∧ x < t.chFirst + t.cx then s.emitExchange c entry p t j0 mask x v else s) s

-- the corner turn (R300) ---------------------------------------------------------------------------------------------------------------------

/-- Address of spectrum j of the receivers of source a in owned channel o. -/
def Ctn.ctAddr (t : Ctn) (j o a : Nat) : Nat :=
  t.ctbuf + ((j / t.kb % 3 * t.s + o) * t.kb + j % t.kb) * (t.r * t.b) + 48 * a * t.b

/-- L of the path of TYPE 0x11. -/
def State.fxL (s : State) : Nat := match s.pathOf 0x11 with | some p => s.pathL p | none => 0

/-- Window address of the zero area that a lost slot is copied from; the manual gives it no place (DESIGN CHOICE; R300). -/
def zeroArea (c : Nat) : Nat := sharedAt c + 0x1FB000

/-- The descriptor that copies one slot, S_f rows of 3 × b words: from the receive ring, or from the zero area (R258, R300). -/
def Ctn.cornerWords (t : Ctn) (c sf j0 : Nat) (fn : Word) (a o next : Nat) (got last : Bool) : List Word :=
  let w := 3 * t.b
  let size := 16 * (1 + sf * w)
  let src := if got then t.rring + fn.toNat % max 1 t.frames * (t.n * t.s * size) + (a * t.s + o) * size + 16 else zeroArea c
  let dst := t.ctAddr j0 o a
  [ bit32 31 true ||| bit32 30 last ||| bit32 28 got ||| bit32 27 true ||| at32 0 next, lo32 src, at32 27 (src / 2 ^ 32), lo32 dst,
    at32 27 (dst / 2 ^ 32) ||| at32 0 w, at32 0 sf, lo32 (if got then 16 * w else 0), lo32 (t.r * t.b) ]

/-- A slot's spectra in the validity record: as its curd told, or invalid where it was lost (R300). -/
def State.noteSlot (s : State) (t : Ctn) (sf : Nat) (fn : Word) (a x : Nat) (rec? : Option Spectra) : State :=
  let q : Spectra := rec?.getD { fn, node := a, ch := x, exp := 0, inv := BitVec.ofNat 64 (2 ^ 64 - 1) }
  s.setFx fun f => { f with ct := q :: f.ct.filter fun g =>
    !(g.node == a && g.ch == x && g.fn == fn) && decide (sdiff 32 fn.toNat g.fn.toNat ≤ 3 * t.kb / max 1 sf) }

/-- What no entry of a schedule started: the chain of an FX_CTURN run (R300). -/
def fxChain : Nat := 4096

/-- FX_CTURN: the chain that copies every slot of origin frame FN − L dealt to this cluster into the corner-turn buffer, built in its
descriptor store and started on channel 4c + 3. The slots are dealt to the clusters that run it in turn (R257, R300). -/
def State.fxCturn (s : State) (c : Nat) : State :=
  let t := ctnOf (s.params c 2)
  let p := pfbOf (s.params ((s.fxClusters 1).headD 0) 1)
  let sf := s.sf p.ch
  let fn := s.time.fn.setWidth 32 - BitVec.ofNat 32 s.fxL
  let j0 := s.time.tickE.toNat / p.ch - (s.fxL + 1) * sf
  let (first, n) := t.own t.k
  let (place, k) := s.share c 2
  let slots := (((List.range (t.n * n)).filter fun i => i % k = place).take 512).map fun i => (i / n, i % n)
  let s := s.writeRange false (zeroArea c) (List.replicate (48 * t.b) 0) []
  let s := slots.zipIdx.foldl (fun (s : State) ((a, o), i) =>
    let rec? := s.fx.got.find? fun g => g.node == a && g.ch == first + o && g.fn == fn
    let ws := t.cornerWords c sf j0 fn a o (i + 1) rec?.isSome (decide (i + 1 = slots.length))
    (s.writeRange false (descAddr c i) (ws.flatMap fun w => leBytes 4 w.toNat) []).noteSlot t sf fn a (first + o) rec?) s
  if slots = [] ∨ (s.dmaCh (4 * c + 3)).busy then s
  else s.setDma (4 * c + 3) { busy := true, entry := fxChain }

-- visibilities (R301, R302) ------------------------------------------------------------------------------------------------------------------

/-- A running sum of one unit: exponent of its banks once set, 128 components pairs, OVF. -/
structure Vis where
  exp : Option Nat := none
  acc : List (Int × Int)
  ovf : Bool := false
  deriving DecidableEq, Repr

/-- One spectrum's products added under R243. -/
def Vis.add (v : Vis) (p : Nat) (prods : List (Int × Int)) : Vis :=
  let e0 := v.exp.getD p
  let dp : Int := ((e0 - p : Nat) : Int)
  let db : Int := ((p - e0 : Nat) : Int)
  let sums := List.zipWith (fun (a q : Int × Int) => (shiftBy a.1 db + shiftBy q.1 dp, shiftBy a.2 db + shiftBy q.2 dp)) v.acc prods
  let ofl := sums.any fun q => decide (sat 32 q.1 ≠ q.1) || decide (sat 32 q.2 ≠ q.2)
  { exp := some (max e0 p), acc := sums.map fun q => (sat 32 q.1, sat 32 q.2), ovf := v.ovf || ofl }

/-- The complex values of n receivers from x on, at spectrum j and owned channel o. -/
def State.ctVals (s : State) (t : Ctn) (j o x n : Nat) : List (Int × Int) :=
  let per := 16 / t.b
  let row := t.ctAddr j o 0
  (List.range n).map fun i =>
    (celems (if t.data8 then 8 else 4) (rdFlit s.vatMem (row + 16 * ((x + i) / per)))).getD ((x + i) % per) (0, 0)

/-- Poisoned operands among them. -/
def State.ctPoison (s : State) (t : Ctn) (j o x n : Nat) : Bool :=
  let a := t.ctAddr j o 0 + x * t.b
  s.anyPoison true (a / 16 * 16) (a + n * t.b)

/-- A unit: tile (g, h) of owned channel o over the block of spectra j0 to j0 + K_b − 1, whose first frame's EXCHANGE curds carry
fn0. The sum, N_VALID, poison. -/
def State.unitSum (s : State) (t : Ctn) (sf g h o j0 : Nat) (fn0 : Word) : Vis × Nat × Bool :=
  let ch := (t.own t.k).1 + o
  let src (m a : Nat) : Option Spectra := s.fx.ct.find? fun q => q.fn == fn0 + BitVec.ofNat 32 m && q.node == a && q.ch == ch
  (List.range t.kb).foldl (fun (acc : Vis × Nat × Bool) i =>
    let m := i / sf
    match src m (g / 3), src m (h / 6) with
    | some a, some b =>
      if a.inv.getLsbD (i % sf) || b.inv.getLsbD (i % sf) then acc
      else
        let xs := s.ctVals t (j0 + i) o (16 * g) 16
        let ys := s.ctVals t (j0 + i) o (8 * h) 8
        let prods := ys.flatMap fun y => xs.map fun x => cmul true x y
        (acc.1.add (a.exp + b.exp) prods, acc.2.1 + 1,
         acc.2.2 || s.ctPoison t (j0 + i) o (16 * g) 16 || s.ctPoison t (j0 + i) o (8 * h) 8)
    | _, _ => acc) ({ acc := List.replicate 128 (0, 0) }, 0, false)

/-- The header flit of a VISIBILITY curd (R302). -/
def visHeader (x g h exp : Nat) (ovf sat : Bool) (lkb first valid : Nat) : Flit :=
  BitVec.ofNat 128 (x * 2 ^ 115 + g * 2 ^ 107 + h * 2 ^ 98 + exp * 2 ^ 94 + (if ovf then 2 ^ 93 else 0) + (if sat then 2 ^ 92 else 0) +
    lkb * 2 ^ 87 + first % 2 ^ 32 * 2 ^ 32 + valid * 2 ^ 15)

/-- One unit dumped (R302). -/
def State.emitUnit (s : State) (c entry : Nat) (t : Ctn) (sf j0 : Nat) (fn0 : Word) (e : Nat) (unit : Nat × Nat × Nat) : State :=
  let (o, g, h) := unit
  let (v, valid, bad) := s.unitSum t sf g h o j0 fn0
  let r := scaleBlock 16 (v.exp.getD 0) none (v.acc.flatMap fun q => [q.1, q.2]) s.free
  let s := if v.ovf then s.eaOvf e else s
  let s := if bad then s.eaPoison e else s
  let s := if r.sat then (s.modEng e fun g => g.flag 1 true).raise 10 1 (eaDetail e) else s
  let payload := visHeader ((t.own t.k).1 + o) g h r.exp v.ovf r.sat t.log2Kb j0 valid :: packAll 16 r.out
  (s.romResult c 0x12 s.time.fn payload (fun q => { q with poisoned := bad }) entry).1

/-- Every unit of a block: channel by channel, tile by tile (R301). -/
def Ctn.units (t : Ctn) : List (Nat × Nat × Nat) :=
  (List.range (t.own t.k).2).flatMap fun o => (List.range (t.r / 16)).flatMap fun g => (List.range (2 * g + 2)).map fun h => (o, g, h)

/-- FX_XTILE: the units of the block that complete in this frame on this cluster (R301). -/
def State.fxXtile (s : State) (c entry : Nat) : State :=
  let t := ctnOf (s.params c 2)
  let p := pfbOf (s.params ((s.fxClusters 1).headD 0) 1)
  let sf := s.sf p.ch
  let frames := t.kb / max 1 sf
  let back := frames + s.fxL
  let now := s.time.tickE.toNat / p.ch / max 1 sf
  if now < back then s
  else
    let i := (now - back) % max 1 frames
    let j0 := (now - back - i) * sf
    let fn0 := s.time.fn.setWidth 32 - BitVec.ofNat 32 (i + back) + 1
    let (place, n) := s.share c 3
    let cycles := (if t.data8 then 8 else 2) * t.kb + 128
    let us := t.units
    let perFrame := cdiv (cdiv us.length (16 * n) * cycles) (max 1 frames)
    (us.zipIdx.filter fun (_, u) =>
      decide (u % (16 * n) / 16 = place ∧ ((u / (16 * n) + 1) * cycles - 1) / max 1 perFrame = i)).foldl
      (fun s (un, u) => s.emitUnit c entry t sf j0 fn0 (16 * c + u % 16) un) s

-- beams (R303, R304) ---------------------------------------------------------------------------------------------------------------------------

/-- The header flit of a BEAM curd (R304). -/
def beamHeader (bm x count : Nat) (power : Bool) (exp first mask : Nat) : Flit :=
  BitVec.ofNat 128 (bm * 2 ^ 120 + x * 2 ^ 107 + count * 2 ^ 102 + (if power then 2 ^ 101 else 0) + exp * 2 ^ 97 +
    first % 2 ^ 32 * 2 ^ 64 + mask)

/-- Payload flits after the header: S_f values in 8+8, or S_f / 2^LOG2_KP sums, per channel. -/
def Beam.flits (q : Beam) (sf count : Nat) : Nat :=
  if q.power then cdiv (count * (sf / 2 ^ q.log2Kp)) 4 else count * sf / 8

/-- The weights of a beam: gain and delay of each receiver, from the bank that the run read (R303). -/
def State.weights (s : State) (c : Nat) (q : Beam) (rx bank bm : Nat) : List ((Int × Int) × Int) :=
  (rdWords s.window (sharedAt c + q.wt + bank * (4 * q.beams * rx) + bm * rx * 4) rx).map fun w =>
    ((sx 8 (fld w 31 24), sx 8 (fld w 23 16)), sx 16 (fld w 15 0))

/-- A word of a beam's weights is poisoned. -/
def State.weightsPoisoned (s : State) (c : Nat) (q : Beam) (rx bank bm : Nat) : Bool :=
  let a := sharedAt c + q.wt + bank * (4 * q.beams * rx) + bm * rx * 4
  s.anyPoison false (a / 16 * 16) (a + 4 * rx)

/-- A staged channel of the node's 48 receivers: its values of spectrum q, and whether one is poisoned (R303). -/
def State.stagedVals (s : State) (x sf q : Nat) : List (Int × Int) × Bool :=
  let p := pfbOf (s.params (s.chanCluster x) 1)
  let a := p.stageAt sf x + q * 48 * p.bytes
  ((rdFlits s.vatMem a (3 * p.bytes)).flatMap (celems (4 * p.bytes)), s.anyPoison true a (a + 48 * p.bytes))

/-- What a beam reads: its channels with the spectra known of each source, the index of its first spectrum, and its receivers. In ARRAY
mode it is the newest frame whose chains are complete (DESIGN CHOICE; R300, R303). -/
structure BeamIn where
  chans : List (Nat × List (Option Spectra))
  first : Nat
  rx    : Nat
  deriving DecidableEq, Repr

def State.beamIn (s : State) (q : Beam) (sf ch : Nat) : BeamIn :=
  match q.array, s.ctn with
  | true, some t =>
    let (x0, n) := t.own t.k
    let fn := s.time.fn.setWidth 32 - BitVec.ofNat 32 (s.fxL + 1)
    { chans := (List.range n).map fun i => (x0 + i, (List.range t.n).map fun a => s.fx.ct.find? fun g => g.fn == fn && g.node == a && g.ch == x0 + i),
      first := s.time.tickE.toNat / ch - (s.fxL + 2) * sf, rx := t.r }
  | _, _ =>
    { chans := (List.range q.chCount).map fun i => (q.chFirst + i, [s.fx.staged.find? fun g => g.ch == q.chFirst + i]),
      first := s.fx.first, rx := 48 }

/-- The spectra of a channel that one source's curds do not hold: zeroed, or all of them where nothing is known. -/
def goneMask (sf : Nat) (g : Option Spectra) : Nat := match g with | some g => g.inv.toNat % 2 ^ sf | none => 2 ^ sf - 1
/-- Spectra that a source does not hold, and those that no source holds. -/
def anyGone (sf : Nat) (l : List (Option Spectra)) : Nat := l.foldl (fun m g => m ||| goneMask sf g) 0
def allGone (sf : Nat) (l : List (Option Spectra)) : Nat := l.foldl (fun m g => m &&& goneMask sf g) (2 ^ sf - 1)

/-- The values of every receiver at a channel and a spectrum, and whether one is poisoned. -/
def State.beamVals (s : State) (q : Beam) (sf first x i : Nat) : List (Int × Int) × Bool :=
  match q.array, s.ctn with
  | true, some t =>
    let o := x - (t.own t.k).1
    (s.ctVals t (first + i) o 0 t.r, s.ctPoison t (first + i) o 0 t.r)
  | _, _ => s.stagedVals x sf i

/-- One curd of a beam: up to 16 channels. A spectrum that no source holds adds nothing; INV_MASK flags those that some source does not hold
(DESIGN CHOICE for more than one source; R303, R304). -/
def State.emitBeam (s : State) (c entry : Nat) (q : Beam) (sf bank bm : Nat) (b : BeamIn) (chans : List (Nat × List (Option Spectra))) : State :=
  let wts := s.weights c q b.rx bank bm
  let mask := chans.foldl (fun m g => m ||| anyGone sf g.2) 0
  let gone (g : Nat × List (Option Spectra)) (i : Nat) : Bool := allGone sf g.2 / 2 ^ i % 2 = 1
  let vals (x i : Nat) : List (Int × Int) × Bool := s.beamVals q sf b.first x i
  let sums := Config.beamSum q.power q.log2Kp (chans.map fun g =>
    (g.1, g.2.map (fun k => (k.map (·.exp)).getD 0), (List.range sf).map fun i => if gone g i then [] else List.zip wts (vals g.1 i).1))
  let count := chans.length
  let data := if q.power then packAll 32 ((List.range (count * (sf / 2 ^ q.log2Kp))).map fun i => sums.1.getD i 0)
    else packAll 8 ((List.range (count * sf)).flatMap fun i =>
      if gone (chans.getD (i / sf) (0, [])) (i % sf) then [0, 0] else [sums.1.getD (2 * i) 0, sums.1.getD (2 * i + 1) 0])
  let data := data ++ List.replicate (q.flits sf count - data.length) 0
  let bad := s.weightsPoisoned c q b.rx bank bm || chans.any fun g => (List.range sf).any fun i => !gone g i && (vals g.1 i).2
  let s := if bad then (s.eaPoison (16 * c + s.freeVal % 16)).draw else s
  let payload := beamHeader bm ((chans.headD (0, [])).1) count q.power (sums.2 % 16) b.first mask :: data
  (s.romResult c 0x13 s.time.fn payload (fun r => { r with poisoned := bad }) entry).1

/-- Groups of up to sixteen. -/
def sixteens {α : Type} : Nat → List α → List (List α)
  | 0, _ => []
  | n + 1, l => if l.isEmpty then [] else l.take 16 :: sixteens n (l.drop 16)

/-- FX_BEAM: WSEL is read at the start of the run; each beam's curds of up to 16 channels, the beams dealt to the clusters that run it
(R303, R304). -/
def State.fxBeam (s : State) (c entry : Nat) : State :=
  let q := beamOf (s.params c 4)
  let p := pfbOf (s.params ((s.fxClusters 1).headD 0) 1)
  let sf := s.sf p.ch
  let bank := s.selector c q.sel
  let b := s.beamIn q sf p.ch
  let (i, k) := s.share c 4
  ((List.range q.beams).filter fun bm => bm % k = i).foldl (fun s bm =>
    (sixteens b.chans.length b.chans).foldl (fun s g => s.emitBeam c entry q sf bank bm b g) s) s

/-- The work of a run of an FX kernel (R288). -/
def State.fxRun (s : State) (handle c entry : Nat) : State :=
  match handle with
  | 1 => s.fxPfb c entry
  | 2 => s.fxCturn c
  | 3 => s.fxXtile c entry
  | 4 => s.fxBeam c entry
  | _ => s

end Sys2Proof.Machine
end

