-- ==== Sys2Proof/Machine/Merge.lean ====
section
/-!
DEFINITION. Merging in the concentrator role (R308 to R314), event building (R315 to R320), and kernel runs as schedule entries
(R255, R256), which run the engines and the work of the ROM kernels.
-/
namespace Sys2Proof.Machine

/-- The merge record replaced. -/
def State.setMerge (s : State) (f : Merge → Merge) : State := { s with merge := f s.merge }

/-- Path p is set in SC_MERGE_PATHS, in SC_MERGE_SINK, lane n in SC_MERGE_INMASK, in force. -/
def State.mergeBit (s : State) (lo hi : Reg) (n : Nat) : Bool := if n < 32 then s.b lo n else s.b hi (n - 32)
/-- The same as written. -/
def State.mergeBitW (s : State) (lo hi : Reg) (n : Nat) : Bool :=
  if n < 32 then (s.regW lo).getLsbD n else (s.regW hi).getLsbD (n - 32)

/-- Path p is merged: EN in force is 1 and its bit is set (R308). -/
def State.isMerged (s : State) (p : Nat) : Bool := s.b .scMergeCfg 31 && s.mergeBit .scMergePathsLo .scMergePathsHi p
/-- Path p is a sink (R310). -/
def State.isSink (s : State) (p : Nat) : Bool := s.mergeBit .scMergeSinkLo .scMergeSinkHi p

/-- The close offset H of a path (R308). -/
def State.closeOffset (s : State) (p : Nat) : Int := (s.pathL p : Int) - s.pathRemain p - 2

/-- SLOTS and the bytes of a slot in force (R311). -/
def State.mergeSlots (s : State) : Nat := s.f .scMergeCfg 13 8
def State.slotSize (s : State) : Nat := s.f .scMergeSlot 19 0 * 1024

/-- An event of the merge: its code is 0x20 + bit; the detail is the lane (R321, R430). -/
def State.mergeEvent (s : State) (bit lane : Nat) : State := s.raise 11 (0x20 + bit) (at32 0 lane)

/-- The number of a curd's origin frame on path p. -/
def frameKey (p : Nat) (c : Curd) : Nat := p * 2 ^ 32 + c.rind.fn.toNat

/-- A curd of a merged path discarded: R33, and its frame remembers it, and the sequence gap that it revealed (R319). -/
def State.mergeLose (s : State) (p : Nat) (c : Curd) (gap : Bool) : State :=
  let k := frameKey p c
  (s.lose p c).setMerge fun m => { m with discarded := SMap.set 0 m.discarded k (SMap.get 0 m.discarded k + 1),
                                          gaps := if gap then k :: m.gaps else m.gaps }

/-- Bytes of a curd in the ring: rind, payload and trailer. -/
def curdBytes (c : Curd) : Nat := 16 * c.flits

/-- The slot of an origin frame. -/
def State.slotOf (s : State) (fn : Word) : Nat := fn.toNat % max 1 s.mergeSlots

/-- A curd of a merged path that has passed CRC joins the merge, or is discarded for its lane, its time or its slot (R308, R311,
R313). -/
def State.mergeTake (s : State) (lane p : Nat) (c : Curd) (gap : Bool) : State :=
  if !s.mergeBit .scMergeInmaskLo .scMergeInmaskHi lane then
    ((s.mergeLose p c false).bump 0x302058 1).mergeEvent 4 lane
  else if s.closeOffset p ≤ s.age c then ((s.mergeLose p c gap).bump 0x302040 1).mergeEvent 0 lane
  else
    let slot := s.slotOf c.rind.fn
    let used := SMap.get 0 s.merge.used slot
    if s.slotSize < used + curdBytes c then ((s.mergeLose p c gap).bump 0x302048 1).mergeEvent 1 lane
    else
      let addr := (s.region (s.f .scMergeCfg 5 0)).base + slot * s.slotSize + used
      let s := s.writeRange true addr (flitMem (curdFlits c)) []
      s.setMerge fun m =>
        { m with held := m.held ++ [{ curd := c, path := p, lane, addr, gap }], used := SMap.set 0 m.used slot (used + curdBytes c) }

/-- The order of the close: SOURCE, then SEQ as a signed difference (R309). -/
def closeLe (a b : Merged) : Bool :=
  if a.curd.rind.source = b.curd.rind.source then decide (sdiff 16 a.curd.rind.seq.toNat b.curd.rind.seq.toNat ≤ 0)
  else decide (a.curd.rind.source.toNat ≤ b.curd.rind.source.toNat)

/-- Curds of a closing frame read back one after another: a poisoned one is discarded, the others are ordered for emission or, on a
sink path, delivered (R309, R310, R312). -/
def State.readBack (s : State) (p : Nat) (found : List Finding) : List Merged → State
  | [] => s
  | m :: ms =>
    let hi := m.addr + curdBytes m.curd
    let s := s.readRange true m.addr hi 4 found
    let s :=
      if s.anyPoison true m.addr hi then
        (((s.mergeLose p m.curd m.gap).bump 0x302050 1).mergeEvent 2 m.lane).setMerge fun x => { x with held := x.held.erase m }
      else
        let s := s.setMerge fun x => { x with held := x.held.map fun y => if y = m then { m with closed := true } else y }
        if s.isSink p then s else s.hold { curd := m.curd, path := p, kind := 2, lane := m.lane }
    State.readBack s p found ms

/-- MERGE_CLOSE: at the tick of frame n + H origin frame n of a merged path closes (R308, R309). -/
def execMergeClose (path : Nat) (found : List Finding) (s : State) : Res :=
  .next (if path ∈ s.merge.closeDue then
      let s := s.setMerge fun m => { m with closeDue := m.closeDue.filter (· ≠ path) }
      let n := s.time.fn.setWidth 32 - BitVec.ofInt 32 (s.closeOffset path)
      s.readBack path found (sortBy closeLe (s.merge.held.filter fun m => m.path == path && m.curd.rind.fn == n && !m.closed))
    else s)

/-- MERGE_SLOT_EMPTY: the slot of origin frame FN − SLOTS is emptied (R311). -/
def execMergeSlotEmpty (s : State) : Res :=
  .next (if s.merge.emptyDue then
      let slot := s.slotOf (s.time.fn.setWidth 32)
      let n := s.time.fn.setWidth 32 - BitVec.ofNat 32 s.mergeSlots
      s.setMerge fun m =>
        { m with emptyDue := false, used := SMap.erase m.used slot,
                 held := m.held.filter fun x => !(s.slotOf x.curd.rind.fn == slot && decide (sdiff 32 x.curd.rind.fn.toNat n.toNat ≤ 0)),
                 discarded := m.discarded.filter fun x => !decide (sdiff 32 (x.1 % 2 ^ 32) n.toNat ≤ 0),
                 gaps := m.gaps.filter fun x => !decide (sdiff 32 (x % 2 ^ 32) n.toNat ≤ 0) }
    else s)

/-- EN takes effect at 0: every held curd is discarded, each counted once in SC_MERGE_LATE (R314). -/
def State.mergeOff (s : State) : State :=
  let waiting := s.sched.held.filter fun h => h.kind == 2
  let open_ := s.merge.held.filter fun m => !m.closed
  let s := s.setHeld (s.sched.held.filter fun h => h.kind != 2)
  let s := open_.foldl (fun s m => ((s.lose m.path m.curd).bump 0x302040 1).mergeEvent 0 m.lane) s
  let s := waiting.foldl (fun s h => ((s.lose h.path h.curd).bump 0x302040 1).mergeEvent 0 h.lane) s
  s.setMerge fun m => { m with held := [], used := [], discarded := [], gaps := [], closeDue := [], emptyDue := false }

/-- SC_MERGE_CFG.EN is 1, in force or pending. -/
def State.mergeOn (s : State) : Bool := s.b .scMergeCfg 31 || (s.regW .scMergeCfg).getLsbD 31

/-- H of a path by the values as written (R314). -/
def State.closeOffsetW (s : State) (p : Nat) : Int :=
  (fld (s.regW (.scPathCfg p)) 28 16 : Int) - fld (s.regW (.scPathCfg p)) 12 0 - 2

/-- A write of SC_MERGE_CFG (R314, R332). -/
def wrMergeCfg (s : State) (v : Word) : Except Status State :=
  let v := v &&& 0x80003F3F
  if !v.getLsbD 31 then .ok (s.pendReg .scMergeCfg v)
  else
    let old := s.regW .scMergeCfg
    let paths := (List.range 64).filter fun p => s.mergeBitW .scMergePathsLo .scMergePathsHi p
    let slots := fld v 13 8
    let g := s.region (fld v 5 0)
    let mask := (s.regW .scMergeInmaskLo).toNat + (s.regW .scMergeInmaskHi).toNat * 2 ^ 32
    if (paths.any fun p => decide (s.closeOffsetW p < 3 ∨ (slots : Int) < s.closeOffsetW p + 2)) || decide (slots < 2) ||
        decide (g.state = 0) || g.sram || decide (g.size < slots * (fld (s.regW .scMergeSlot) 19 0 * 1024)) ||
        decide (mask % 2 = 1) || decide (40 < count (fun i => mask.testBit i) (List.range 64)) then .error .outOfRange
    else if s.mergeOn && decide (fld v 13 8 ≠ fld old 13 8 ∨ fld v 5 0 ≠ fld old 5 0) then .error .stateRefused
    else if g.state = 1 then .error .stateRefused
    else if paths.any fun p => !s.b (.scPathCfg p) 31 ||
        (s.mergeBitW .scMergeSinkLo .scMergeSinkHi p && decide (fld (s.regW (.scPathCfg p)) 12 0 ≠ 0)) then .error .stateRefused
    else .ok (s.pendReg .scMergeCfg v)

/-- A write of SLOT, PATHS, SINK or INMASK: only while EN is 0 (R314). -/
def wrMergeOther (s : State) (r : Reg) (v mask : Word) : Except Status State :=
  if s.mergeOn then .error .stateRefused else .ok (s.pendReg r (v &&& mask))

-- event building (R315 to R320) --------------------------------------------------------------------------------------------------------------

/-- CN_EVENT's block (R315). -/
structure EvBlock where
  pre    : Nat
  post   : Nat
  maxRec : Nat
  budget : Nat
  path   : Nat
  deriving DecidableEq, Repr

def evOf (ws : List Word) : EvBlock :=
  { pre := fld (pw ws 0) 19 0, post := fld (pw ws 1) 19 0, maxRec := fld (pw ws 2) 12 0, budget := fld (pw ws 3) 15 0, path := fld (pw ws 4) 5 0 }

/-- A record with its snippet, as the builder orders it: offset from T in fine units, SOURCE, CHANNEL. -/
structure EvRec where
  off    : Int
  source : BitVec 16
  chan   : Nat
  poison : Bool
  flits  : List Flit
  deriving DecidableEq, Repr

/-- The items of a HIT payload: record flit and snippet flits (R199); the fuel is the payload. -/
def hitItems : Nat → List Flit → List (List Flit)
  | 0, _ => []
  | _, [] => []
  | n + 1, f :: fs => let k := ffld f 44 39; (f :: fs.take k) :: hitItems n (fs.drop k)

/-- The full frame number of a curd's origin frame. -/
def State.originFn (s : State) (c : Curd) : FN := s.time.fn - BitVec.ofInt 48 (s.age c)

/-- The records of a merged curd, with their offset from T (R317). -/
def State.recordsOf (s : State) (t : CT) (m : Merged) : List EvRec :=
  if m.curd.rind.type ≠ 2 then []
  else
    let tick := s.tickOf (s.originFn m.curd)
    (hitItems m.curd.payload.length m.curd.payload).map fun fl =>
      { off := ctDiff tick t + (ffld (fl.headD 0) 121 93 : Int), source := m.curd.rind.source, chan := ffld (fl.headD 0) 127 122,
        poison := m.curd.rind.poisoned, flits := fl }

/-- Time, then SOURCE, then CHANNEL (R317). -/
def recLe (a b : EvRec) : Bool :=
  if a.off ≠ b.off then decide (a.off < b.off)
  else if a.source ≠ b.source then decide (a.source.toNat < b.source.toNat) else decide (a.chan ≤ b.chan)

/-- A record as an EVENT curd carries it (R320). -/
def EvRec.out (r : EvRec) : List Flit :=
  match r.flits with
  | f :: fs => BitVec.ofNat 128 (f.toNat / 2 ^ 29 * 2 ^ 29 + r.source.toNat * 2 ^ 13 + (if r.poison then 2 ^ 12 else 0)) :: fs
  | [] => []

/-- Records packed in order into curds of at most 254 flits of records (R319); the fuel is the number of records. -/
def packRecs : Nat → List EvRec → List EvRec → Nat → List (List EvRec)
  | 0, _, cur, _ => [cur.reverse]
  | _, [], cur, _ => [cur.reverse]
  | n + 1, r :: rs, cur, used =>
    let k := r.flits.length
    if used + k ≤ 254 then packRecs n rs (r :: cur) (used + k) else cur.reverse :: packRecs n rs [r] k

/-- A snippet holds an INV sample (R200, R208). -/
def hasInv (fs : List Flit) : Bool := fs.any fun f => (List.range 8).any fun i => ffld f (127 - 16 * i) (112 - 16 * i) == 0x8000

/-- The frames that the window of T touches: first and last (R317). -/
def State.evFrames (s : State) (q : EvBlock) (t : CT) : FN × FN :=
  (s.frameOf (t - BitVec.ofNat 64 (q.pre * 512)), s.frameOf (t + BitVec.ofNat 64 (q.post * 512 - 1)))

/-- A frame of the window holds an origin frame. -/
def inFrames (w : FN × FN) (fn : Word) : Bool :=
  decide (0 ≤ sdiff 32 fn.toNat (w.1.toNat % 2 ^ 32) ∧ sdiff 32 fn.toNat (w.2.toNat % 2 ^ 32) ≤ 0)

/-- The header flit of an EVENT curd (R319). -/
def evHeader (num part parts lost : Nat) (trunc gap poison : Bool) (recs : Nat) (t : CT) : Flit :=
  let b (x : Bool) : Nat := if x then 1 else 0
  BitVec.ofNat 128 (num * 2 ^ 112 + part * 2 ^ 102 + parts * 2 ^ 92 + lost * 2 ^ 76 + b trunc * 2 ^ 75 + b gap * 2 ^ 74 + b poison * 2 ^ 73 +
    recs * 2 ^ 64 + t.toNat)

/-- One event built, judged and, when admitted, formed into its curds (R317 to R320). -/
def State.buildEvent (s : State) (entry : Nat) (q : EvBlock) (t : CT) (num : BitVec 16) : State :=
  let w := s.evFrames q t
  let curds := s.merge.held.filter fun m => m.path == q.path && inFrames w m.curd.rind.fn
  let all := sortBy recLe ((curds.flatMap (s.recordsOf t)).filter fun r =>
    decide (-(q.pre * 512 : Nat) ≤ r.off) && decide (r.off < (q.post * 512 : Nat)))
  let recs := all.take q.maxRec
  let trunc := decide (q.maxRec < all.length)
  let parts := packRecs recs.length recs [] 0
  let flits := (parts.map fun p => 3 + (p.map fun r => r.flits.length).sum).sum
  if q.budget < s.merge.evUsed + flits then
    let s := (s.bump 0x302068 1).bump 0x302070 flits
    if s.merge.evWhey then s else (s.setMerge fun m => { m with evWhey := true }).mergeEvent 3 0x3F
  else
    let s := s.setMerge fun m => { m with evUsed := m.evUsed + flits }
    let s := s.bump 0x302060 1
    let s := if trunc then s.bump 0x302078 1 else s
    let gone := (s.merge.discarded.filter fun d => d.1 / 2 ^ 32 = q.path ∧ inFrames w (BitVec.ofNat 32 d.1)).map (·.2)
    let lost := min 0xFFFF (gone.sum + (curds.map fun m => m.curd.rind.lost.toNat).sum)
    let gap := curds.any (·.gap) || s.merge.gaps.any fun x => x / 2 ^ 32 == q.path && inFrames w (BitVec.ofNat 32 x)
    let poison := recs.any (·.poison)
    parts.zipIdx.foldl (fun s (p, i) =>
      let h := evHeader num.toNat i parts.length lost trunc gap poison p.length t
      s.formCurd 3 (s.time.fn.setWidth 32) (h :: p.flatMap EvRec.out)
        (fun r => { r with poisoned := poison, rangeSwitch := p.any fun x => (x.flits.headD 0).getLsbD 48,
                           invPresent := p.any fun x => hasInv (x.flits.drop 1) }) false (some entry)) s

/-- CN_EVENT: the events of the triggers whose window's last frame closed at this tick (R317). -/
def State.cnEvent (s : State) (c entry : Nat) : State :=
  let q := evOf (s.params c 5)
  let age (t : CT) : Int := sdiff 48 s.time.fn.toNat ((s.evFrames q t).2 + BitVec.ofInt 48 (s.closeOffset q.path)).toNat
  let now := s.merge.triggers.filter fun x => age x.1 == 0
  let s := s.setMerge fun m => { m with triggers := m.triggers.filter fun x => decide (age x.1 < 0) }
  now.foldl (fun s x => s.buildEvent entry q x.1 x.2) s

-- kernel runs as entries (R255, R256) -----------------------------------------------------------------------------------------------------------

/-- KERNEL_RUN: the engines of the mask start at the handle's entry, and a ROM kernel does its work; the entry is skipped where its
cluster is halted or not there (R26, R255, R256, R288, R315). -/
def execKernelRun (entry : Nat) (s : State) : Res :=
  .next (s.runEntry entry 1 fun e s =>
    let c := e.idx
    if !s.rel 11 || decide (s.res.clusters ≤ c) || s.b (.eaCCtrl c) 31 || (s.cluster c).run.isSome then s.skip
    else
      let s := (s.startRun entry e c).setRunning entry
      match fld e.w3 15 0 with
      | 5 => s.cnEvent c entry
      | h => s.fxRun h c entry)

/-- The results of a run no longer depend on it. -/
def State.settleDep (s : State) (i : Nat) : State :=
  s.setHeld (s.sched.held.map fun h => if h.dep == some i then { h with dep := none } else h)

/-- KERNEL_RUN_COMPLETE: every engine of the mask has halted; a ROM kernel halts them with its work done, and leaves their registers
as its program leaves them, which is not given (R255). -/
def execKernelRunComplete (cluster : Nat) (s : State) : Res :=
  .next (
    let k := s.cluster cluster
    match k.run with
    | none => s
    | some r =>
      let es := enginesOf cluster r.mask
      let rom := decide (r.handle.toNat < 0x100)
      if !rom && es.any fun e => (s.eng e).state != 0 then s
      else
        let s := s.setCluster cluster { k with run := none }
        let s := if rom then s.scrambleEngines (fun _ => (0, 0)) es else s
        (s.settleDep r.entry).endRunning r.entry)

end Sys2Proof.Machine
end

