-- ==== Sys2Proof/Machine/Press.lean ====
section
/-!
DEFINITION. Press: the compressed block (R349 to R352), press jobs on memory (R355 to R357) and press entries over waiting curds
(R353, R354).
-/
namespace Sys2Proof.Machine

-- the block (R349 to R351) ---------------------------------------------------------------------------------------------------------------

/-- Field width of a WIDTH code (R349). -/
def pressW (width : Nat) : Nat := match width with | 0 => 8 | 1 => 16 | _ => 32

/-- Fields of a word, the most significant first. -/
def pressFields (w : Nat) (f : Flit) : List Nat := (List.range (128 / w)).map fun i => f.toNat / 2 ^ (128 - w * (i + 1)) % 2 ^ w

/-- A residual as an unsigned value (R350). -/
def zigzag (w x pred : Nat) : Nat :=
  let r := sx w ((x + 2 ^ w - pred) % 2 ^ w)
  if 0 ≤ r then (2 * r).toNat else (-2 * r - 1).toNat

/-- The value of a field from its residual. -/
def unzigzag (w u pred : Nat) : Nat := if u % 2 = 0 then (pred + u / 2) % 2 ^ w else (pred + 2 ^ w - (u + 1) / 2 % 2 ^ w) % 2 ^ w

/-- Residuals of every word against the word before it (R350). -/
def residuals (w : Nat) : List Nat → List Flit → List (List Nat)
  | _, [] => []
  | prev, f :: fs => let xs := pressFields w f; List.zipWith (zigzag w) xs prev :: residuals w xs fs

/-- The n low bits of a number, the highest first. -/
def bitsOf (n v : Nat) : List Bool := (List.range n).map fun i => v / 2 ^ (n - 1 - i) % 2 = 1

/-- Rice cost of values at k. -/
def riceCost (us : List Nat) (k : Nat) : Nat := (us.map fun u => u / 2 ^ k + 1 + k).sum

/-- The k with the least cost, the smaller on a tie (R351). -/
def bestK (w : Nat) (us : List Nat) : Nat :=
  (List.range w).foldl (fun b k => if riceCost us k < riceCost us b then k else b) 0

/-- One group's bits: its code and its values (R350, R351). -/
def groupBits (w : Nat) (us : List Nat) : List Bool :=
  let k := bestK w us
  if w * us.length < riceCost us k then bitsOf 6 0x3F ++ us.flatMap (bitsOf w)
  else bitsOf 6 k ++ us.flatMap fun u => List.replicate (u / 2 ^ k) true ++ [false] ++ bitsOf k u

/-- The stream of a block. -/
def streamBits (w : Nat) (ws : List Flit) : List Bool :=
  let rs := residuals w (List.replicate (128 / w) 0) ws
  (List.range (cdiv ws.length 64)).flatMap fun g => groupBits w (((rs.drop (64 * g)).take 64).flatten)

/-- Bits packed from bit 127 downwards (R349). -/
def packBits (bs : List Bool) : List Flit :=
  (List.range (cdiv bs.length 128)).map fun i =>
    let c := (bs.drop (128 * i)).take 128
    BitVec.ofNat 128 ((c.foldl (fun a b => 2 * a + (if b then 1 else 0)) 0) * 2 ^ (128 - c.length))

/-- The compressed block: header and stream (R349). -/
def pressBlock (width : Nat) (ws : List Flit) : List Flit :=
  let bs := streamBits (pressW width) ws
  let crc := crc32c (ws.flatMap flitBytes)
  BitVec.ofNat 128 (0xC5 * 2 ^ 120 + width * 2 ^ 118 + ws.length * 2 ^ 105 + bs.length * 2 ^ 84 + crc.toNat * 2 ^ 32) :: packBits bs

/-- n bits read as a number. -/
def readBits : Nat → List Bool → Nat → Option (Nat × List Bool)
  | 0, l, a => some (a, l)
  | _ + 1, [], _ => none
  | n + 1, b :: l, a => readBits n l (2 * a + (if b then 1 else 0))

/-- One bits up to the first zero. -/
def readUnary : List Bool → Nat → Option (Nat × List Bool)
  | [], _ => none
  | true :: l, n => readUnary l (n + 1)
  | false :: l, n => some (n, l)

/-- n values with code K. -/
def readVals (w k : Nat) : Nat → List Bool → Option (List Nat × List Bool)
  | 0, l => some ([], l)
  | n + 1, l =>
    let v := if k = 0x3F then readBits w l 0
      else match readUnary l 0 with
        | some (q, l) => (readBits k l 0).map fun x => (q * 2 ^ k + x.1, x.2)
        | none => none
    match v with
    | some (u, l) => (readVals w k n l).map fun x => (u :: x.1, x.2)
    | none => none

/-- Every group of a stream; the fuel is the number of groups. -/
def readGroups (w : Nat) : Nat → Nat → List Bool → Option (List Nat)
  | 0, _, _ => some []
  | g + 1, words, l =>
    match readBits 6 l 0 with
    | none => none
    | some (k, l) =>
      if w ≤ k ∧ k ≠ 0x3F then none
      else
        let n := min 64 words
        match readVals w k (n * (128 / w)) l with
        | none => none
        | some (us, l) => (readGroups w g (words - n) l).map (us ++ ·)

/-- Words rebuilt from their residuals. -/
def rebuild (w : Nat) : Nat → List Nat → List Nat → List Flit
  | 0, _, _ => []
  | n + 1, prev, us =>
    let per := 128 / w
    let xs := List.zipWith (unzigzag w) (us.take per) prev
    BitVec.ofNat 128 (xs.foldl (fun a x => a * 2 ^ w + x) 0) :: rebuild w n xs (us.drop per)

/-- What an expansion ends with: the words, a code of R356, or the number of words that do not fit. -/
inductive Expanded where
  | words (ws : List Flit)
  | bad (code : Nat)
  | large
  deriving DecidableEq, Repr

/-- A block expanded (R349, R350, R356). -/
def expandBlock (src : List Flit) (dstMax : Nat) : Expanded :=
  match src with
  | [] => .bad 1
  | h :: fs =>
    let n := ffld h 117 105
    let width := ffld h 119 118
    if ffld h 127 120 ≠ 0xC5 ∨ width = 3 ∨ n = 0 ∨ 4096 < n ∨ ffld h 83 64 ≠ 0 ∨ ffld h 31 0 ≠ 0 then .bad 1
    else if dstMax < n then .large
    else
      let w := pressW width
      let bs := (fs.flatMap fun f => bitsOf 128 f.toNat).take (ffld h 104 84)
      match readGroups w (cdiv n 64) n bs with
      | none => .bad 2
      | some us =>
        let ws := rebuild w n (List.replicate (128 / w) 0) us
        if (crc32c (ws.flatMap flitBytes)).toNat = ffld h 63 32 then .words ws else .bad 3

-- jobs (R355 to R357) ----------------------------------------------------------------------------------------------------------------------

/-- Unit u's record. -/
def State.unit (s : State) (u : Nat) : PressUnit := SMap.get {} s.press u
def State.setUnit (s : State) (u : Nat) (q : PressUnit) : State := { s with press := SMap.set {} s.press u q }

/-- A counter of unit u (R358). -/
def pressCnt (u k : Nat) : Nat := 0x440040 + u * 0x40 + 8 * k

/-- A schedule that may run names the unit (R355). -/
def State.unitScheduled (s : State) (u : Nat) : Bool :=
  let l := s.sched.active ++ s.committed
  l.any fun e => e.kind == 5 && e.idx == u

/-- What stops an access of a job of n words (R120, R330, R355). -/
def State.jobStop (s : State) (vat : Bool) (lo n : Nat) : Option Status :=
  let hi := lo + 16 * n
  if lo % 16 ≠ 0 then some .outOfRange
  else if vat then
    if !s.vatRange lo hi then some .outOfRange
    else if !s.rel 6 then some .clockStopped
    else if !s.readyRange true lo hi 64 then some .outOfRange
    else none
  else match s.windowStep lo hi with
    | none => some .outOfRange
    | some k => if !s.rel k then some .clockStopped else if s.touchesInit false lo hi then some .outOfRange else none

/-- A range of a job leaves the memories that the device has (R45, R120, R355). -/
def State.jobBad (s : State) (vat : Bool) (lo n : Nat) : Bool :=
  decide (lo % 16 ≠ 0) || (if vat then !s.vatRange lo (lo + 16 * n) else (s.windowStep lo (lo + 16 * n)).isNone)

/-- An address of two words: word 1 is zero for the window space (R120). -/
def jobAddr (vat : Bool) (lo hi : Word) : Option Nat :=
  if vat || decide (hi = 0) then some (hi.toNat * 2 ^ 32 + lo.toNat) else none

/-- The close of a block: compressed and written, or NO_GAIN or SPACE_EXHAUSTED with nothing written (R352, R356). -/
def State.closeBlock (s : State) (u width : Nat) (ws : List Flit) (vat : Bool) (dst dstMax : Nat) (found : List Finding) :
    State × Option Answer :=
  let out := pressBlock width ws
  if min dstMax (ws.length - 1) < out.length then
    if ws.length - 1 ≤ dstMax then no (s.bump (pressCnt u 3) 1) .noGain else no s .spaceExhausted
  else (s.writeRange vat dst (flitMem out) found, some { status := .ok, param := out.length })

/-- PRESS_JOB (R355 to R357). -/
def execPressJob (r : Req) (found : List Finding) (s : State) : Res :=
  .next (s.runOp 0x600 r true fun s =>
    let w0 := r.w 0
    let u := fld w0 1 0
    let expand := w0.getLsbD 4
    let width := fld w0 9 8
    let append := w0.getLsbD 12
    let sv := w0.getLsbD 16
    let dv := w0.getLsbD 17
    let n := fld (r.w 5) 12 0
    let dstMax := fld (r.w 6) 12 0
    match jobAddr sv (r.w 1) (r.w 2), jobAddr dv (r.w 3) (r.w 4) with
    | some src, some dst =>
      if (!expand && width == 3) || (expand && append) || dstMax == 0 || decide (4100 < dstMax) ||
          (if expand then decide (n < 2 ∨ 4100 < n) else decide (n < 1 ∨ 4096 < n)) || s.jobBad sv src n || s.jobBad dv dst dstMax then
        no s .outOfRange
      else if !s.rel 5 then no s .clockStopped
      else match (s.jobStop sv src n).orElse fun _ => s.jobStop dv dst dstMax with
        | some st => no s st
        | none =>
          let q := s.unit u
          if !expand && q.open_ && decide (4096 < q.words.length + n) then no s .outOfRange
          else if s.unitScheduled u || (q.open_ && (expand || decide (q.width.toNat ≠ width))) then no s .stateRefused
          else
            let s := s.readRange sv src (src + 16 * n) 4 found
            match (List.range n).find? fun i => s.wordPoisoned sv (src + 16 * i) with
            | some i => (s, some { status := .poisoned, param := i })
            | none =>
              let ws := rdFlits (s.mem sv) src n
              if expand then
                match expandBlock ws dstMax with
                | .words out => (s.writeRange dv dst (flitMem out) found, some { status := .ok, param := out.length })
                | .bad c => (s, some { status := .outOfRange, param := c * 2 ^ 16 })
                | .large => no s .spaceExhausted
              else
                let all := if q.open_ then q.words ++ ws else ws
                if append then
                  yes (s.setUnit u { open_ := true, words := all, width := BitVec.ofNat 2 width, dstVat := dv, dst, dstMax })
                else (s.setUnit u {}).closeBlock u width all dv dst dstMax found
    | _, _ => no s .outOfRange)

/-- PRESS_FLUSH closes the open block with the destination of the last appending job; where that range has since left the ready regions the
command is refused as a job on it would be, and the block stays open (R330, R357). DEDUCED: log 65. -/
def execPressFlush (r : Req) (found : List Finding) (s : State) : Res :=
  .next (s.runOp 0x601 r true fun s =>
    let u := r.p 1 0
    let q := s.unit u
    if !s.rel 5 then no s .clockStopped
    else if !q.open_ then no s .stateRefused
    else match s.jobStop q.dstVat q.dst q.dstMax with
    | some st => no s st
    | none => (s.setUnit u {}).closeBlock u q.width.toNat q.words q.dstVat q.dst q.dstMax found)

-- entries (R353, R354) -----------------------------------------------------------------------------------------------------------------------

/-- One waiting curd compressed in place, left raw, or left for its poison (R354). -/
def State.pressCurd (s : State) (u width path : Nat) (h : Held) : State × Held :=
  let c := h.curd
  let s := s.readStage h
  let s := (s.bump (pressCnt u 0) 1).bump (pressCnt u 1) c.payload.length
  if c.rind.poisoned then ((s.bump (pressCnt u 5) 1).raise 14 1 (at32 8 path ||| at32 0 u), h)
  else
    let out := pressBlock width c.payload
    if out.length < c.payload.length then
      (s.bump (pressCnt u 2) out.length,
       { h with curd := { rind := { c.rind with compressed := true, length := BitVec.ofNat 8 out.length }, payload := out } })
    else
      ((s.bump (pressCnt u 2) c.payload.length).bump (pressCnt u 3) 1,
       { h with curd := { c with rind := { c.rind with rawNoGain := true } } })

/-- The curds of a path that a press entry looks at: the device's own, formed, waiting, and not handled by an entry before (R208, R354). -/
def pressWaits (now : CT) (path : Nat) (h : Held) : Bool := h.kind == 0 && h.path == path && h.isReady now && !h.curd.rind.compressed && !h.curd.rind.rawNoGain

/-- The list of held curds gone through: `curds` and `flits` are what the entry may still take; once one does not fit, none
after it is taken. -/
def State.pressAll (s : State) (u width path : Nat) : Nat → Nat → List Held → State × List Held
  | _, _, [] => (s, [])
  | curds, flits, h :: hs =>
    if !pressWaits s.time.ct path h then let (t, l) := State.pressAll s u width path curds flits hs; (t, h :: l)
    else if 1 ≤ curds ∧ h.curd.payload.length ≤ flits then
      let (s, k) := s.pressCurd u width path h
      let (t, l) := State.pressAll s u width path (curds - 1) (flits - h.curd.payload.length) hs
      (t, k :: l)
    else
      let s := (s.bump (pressCnt u 4) 1).raise 14 0 (at32 8 path ||| at32 0 u)
      let (t, l) := State.pressAll s u width path 0 0 hs
      (t, h :: l)

/-- PRESS_ENTRY, over the curds of every frame whose close has come (R26, R201, R354). -/
def execPressEntry (entry : Nat) (s : State) : Res :=
  .next (s.runEntry entry 5 fun e s =>
    let s := s.closeHits.closeRennet
    let (t, l) := s.pressAll e.idx (fld e.w3 7 6) (fld e.w3 5 0) (fld e.w3 15 8) (fld e.w3 31 16) s.sched.held
    t.setHeld l)

/-- PR_STATUS; no job stands unfinished between two commands, so BUSY reads 0. -/
def pressStatus (s : State) : Word := at32 16 (flags 4 fun u => (s.unit u).open_)

end Sys2Proof.Machine
end

