-- ==== Sys2Proof/Machine/Plan.lean ====
section
/-!
DEFINITION. The checks of SCHED_COMMIT as numbers: flit times, rosters and windows (R361, R371 to R373), carriage (R22, R212, R299,
R318, R395), the FX kernels' checks and capacity (R290, R305, R306, R332), event building (R316), the press (R353), housekeeping
(R410); what R24 protects; the check at another period (R15, R17).
-/
namespace Sys2Proof.Machine

/-- Flit time of a generation in units of 10 ps (R359). -/
def flitTime (gen : Nat) : Nat := match gen with | 3 => 256 | 2 => 512 | _ => 1280

/-- Flit times per frame, and the least link interval (R361). -/
def frameFlits (gen p : Nat) : Nat := p * 100 / flitTime gen
def linkInterval (gen p : Nat) : Nat := 16 + cdiv (frameFlits gen p) 5000

/-- A schedule under check: entries, parameter-block copies, whether shadow rosters count, period, frame origin. -/
structure Plan where
  l      : List Entry
  params : List ParamCopy
  shadow : Bool
  p      : Nat
  org    : Nat
  deriving DecidableEq, Repr

/-- The roster of a lane and direction (0 transmit, 1 receive) that a plan sees. -/
def State.rosterOf (s : State) (shadow : Bool) (n dir : Nat) : Option Roster :=
  let now := if dir = 0 then (s.lane n).tx else (s.lane n).rx
  if shadow then (SMap.find s.sched.rosterDue (2 * n + dir)).getD now else now

/-- A roster keeps R371 at a period. -/
def rosterFits (gen p : Nat) (r : Roster) : Bool :=
  decide (r.slots * r.slotFlits + linkInterval gen p ≤ frameFlits gen p) &&
    decide (r.start * 100 + r.slots * r.slotFlits * flitTime gen < p * 100)

/-- GEN of a lane as written. -/
def State.genOf (s : State) (n : Nat) : Nat := s.fw (.lkLCfg n) 30 29

/-- The device opens the slots of lane n: no lane forwards onto it. -/
def State.slotSource (s : State) (n : Nat) : Bool := !(List.range 48).any fun k => s.fw (.lkLCfg k) 21 16 == n

/-- One owned slot at the transmitter: opening in units of 10 ps after the tick, flit times, reserve. -/
structure Slot where
  num     : Nat
  opening : Nat
  flits   : Nat
  reserve : Nat
  deriving DecidableEq, Repr

/-- The slots that the device owns on a lane; one slot where the lane has no roster (R371). -/
def State.slotsOf (s : State) (r : Option Roster) (n p : Nat) : List Slot :=
  let gen := s.genOf n
  match r with
  | none => [⟨0, 3200, frameFlits gen p - linkInterval gen p, 0⟩]
  | some r =>
    let first := if s.slotSource n then r.start else (s.lane n).slotOfs.toNat
    ((List.range r.slots).filter fun k => r.owners.getD k 0 == s.ports.nodeId).map fun k =>
      ⟨k, first * 100 + k * r.slotFlits * flitTime gen, r.slotFlits, r.reserve⟩

/-- Flit times of a slot that lie whole within [lo, hi) ns and the guard, but for the one that its SLOT flit takes (R373). -/
def Slot.counted (w : Slot) (gen p lo hi : Nat) : Nat :=
  let ft := flitTime gen
  let lo := max lo 32 * 100
  let hi := min hi (p - 32) * 100
  let a := max 1 (if w.opening < lo then cdiv (lo - w.opening) ft else 0)
  let b := min w.flits ((hi - w.opening) / ft)
  b - a

/-- Curd flits of a slot within an entry (R372, R373). -/
def Slot.room (w : Slot) (gen p lo hi : Nat) : Nat := min (w.counted gen p lo hi) (w.flits - 1 - w.reserve)

/-- A slot's window meets [lo, hi) ns. -/
def Slot.used (w : Slot) (gen lo hi : Nat) : Bool :=
  decide (w.opening < hi * 100 ∧ lo * 100 < w.opening + w.flits * flitTime gen)

/-- Windows one after another cover [pos, hi), in units of 10 ps. -/
def covers (gen hi : Nat) : List Slot → Nat → Bool
  | [], pos => decide (hi ≤ pos)
  | w :: ws, pos => covers gen hi ws (if w.opening ≤ pos then max pos (w.opening + w.flits * flitTime gen) else pos)

/-- The lane is enabled as written and not given to the uplink (R24, R388). -/
def State.laneUsable (s : State) (n : Nat) : Bool :=
  let g := s.upGroup
  let up := s.bw .euCfg 31 && (if s.fw .euCfg 30 29 = 2 then decide (g ≤ n ∧ n < g + 4) else s.fw .euCfg 21 16 == n)
  s.bw (.lkLCfg n) 31 && !up

/-- Type of a path as written; enabled as written. -/
def State.typeOf (s : State) (p : Nat) : Nat := s.fw (.scPathMatch p) 7 0
def State.pathW (s : State) (p : Nat) : Bool := s.bw (.scPathCfg p) 31
/-- The first path entry for a type, by the values as written (R22, R37). -/
def State.pathOfW (s : State) (type : Nat) : Option Nat := (List.range 64).find? fun p => s.pathW p && s.typeOf p == type
/-- The path is merged by the values as written (R308). -/
def State.mergedW (s : State) (p : Nat) : Bool := s.bw .scMergeCfg 31 && s.mergeBitW .scMergePathsLo .scMergePathsHi p

/-- Clusters of a schedule that run a user kernel. -/
def userClusters (l : List Entry) : List Nat :=
  (List.range 16).filter fun c => l.any fun e => e.kind == 1 && e.idx == c && decide (0x100 ≤ fld e.w3 15 0)

/-- A block of a plan. -/
def Plan.block (q : Plan) (c h : Nat) : List Word :=
  match q.params.find? fun p => p.cluster == c && p.handle == blockHandle h with
  | some p => p.words
  | none => []
def Plan.pfb (q : Plan) : Pfb := pfbOf (q.block ((runClusters q.l 1).headD 0) 1)
/-- Every FX_PFB block (R290). -/
def Plan.pfbs (q : Plan) : List Pfb := (runClusters q.l 1).map fun c => pfbOf (q.block c 1)
def Plan.ctnCluster (q : Plan) : Option Nat := (runClusters q.l 2).head?.orElse fun _ => (runClusters q.l 3).head?
def Plan.ctn (q : Plan) : Option Ctn := q.ctnCluster.map fun c => ctnOf (q.block c 2)
def Plan.beam (q : Plan) : Option Beam := (runClusters q.l 4).head?.map fun c => beamOf (q.block c 4)
def Plan.names (q : Plan) (h : Nat) : Bool := runClusters q.l h != []
/-- Spectra per frame. -/
def Plan.sf (q : Plan) : Nat := q.p / q.pfb.ch

/-- Flits per frame that the admission budgets of the device can produce for a type; none where the device originates no curds of it
(R22, R212, R226, R227, R299, R318). -/
def State.originFlits (s : State) (q : Plan) (type : Nat) : Option Nat :=
  let results (cs : List Nat) : Nat := max 3 ((cs.map fun c => s.fw (.eaCResBudget c) 15 0).sum)
  if type = 2 then (if s.bw .hbCfg 0 then some s.hitFlits else none)
  else if type = 3 then (runClusters q.l 5).head?.map fun c => max 3 (evOf (q.block c 5)).budget
  else if type = 4 then (if s.fw .trBudget 8 0 = 0 then none else some s.markFlits)
  else if type = 5 then (if s.fw .trBudget 31 16 = 0 then none else some s.readoutFlits)
  else if type = 0x11 then (if q.names 1 && q.names 2 then some 0 else none)
  else if type = 0x12 then (if q.names 3 then some (results (runClusters q.l 3)) else none)
  else if type = 0x13 then (if q.names 4 then some (results (runClusters q.l 4)) else none)
  else if 0x30 ≤ type ∧ type ≤ 0x7F then (if userClusters q.l != [] then some (results (userClusters q.l)) else none)
  else none

/-- The largest curd of a path (R373). -/
def State.largest (s : State) (q : Plan) (p : Nat) : Nat :=
  let t := s.typeOf p
  if s.mergedW p || (s.originFlits q t).isNone then 257
  else match t with
    | 2 => s.fw .hbCfg 23 16 + 2
    | 4 => 66
    | 5 => 256
    | 0x11 => 195
    | 0x12 => 35
    | 0x13 => 131
    | _ => 257

/-- Entries that emit on a lane, earliest START first, with their indexes. -/
def Plan.onLane (q : Plan) (n : Nat) : List (Entry × Nat) :=
  sortBy (fun a b => decide (a.1.start ≤ b.1.start)) (q.l.zipIdx.filter fun x => x.1.kind == 2 && x.1.cls == 1 && x.1.idx == n)

/-- Shares of one slot taken by entries one after another. -/
def takeSlot (w : Slot) (gen p : Nat) : List (Entry × Nat) → Nat → List (Nat × Nat)
  | [], _ => []
  | (e, _) :: es, left =>
    let c := min left (w.room gen p e.start (e.start + e.dur))
    (e.path, c) :: takeSlot w gen p es (left - c)

/-- Curd flits that the entries of a lane carry for a path. -/
def State.laneFlits (s : State) (q : Plan) (n p : Nat) : Nat :=
  let es := q.onLane n
  let gen := s.genOf n
  if es = [] ∨ s.laneUsable n = false then 0
  else (((s.slotsOf (s.rosterOf q.shadow n 0) n q.p).flatMap fun w => takeSlot w gen q.p es (w.flits - 1 - w.reserve)).filterMap
    fun x => if x.1 = p then some x.2 else none).sum

/-- Flits that an uplink entry of D ns provides: the largest c of R395. -/
def State.uplinkRoom (s : State) (d : Nat) : Nat :=
  let h := if s.bw .euCfg 28 then 86 else 82
  let r := match s.fw .euCfg 30 29 with | 2 => 999 | 1 => 499 | _ => 249
  let k := (s.fw .euMaxPayload 13 0 - 16) / 16
  let bytes := d * r / 80
  let n := bytes / (16 * k + h)
  n * k + (bytes % (16 * k + h) - h) / 16

/-- Flits per frame that a schedule's entries carry for a path. -/
def State.pathFlits (s : State) (q : Plan) (p : Nat) : Nat :=
  ((List.range 48).map fun n => s.laneFlits q n p).sum +
    ((q.l.filter fun e => e.kind == 2 && e.cls == 6 && e.path == p).map fun e => s.uplinkRoom e.dur).sum

/-- Every mesh lane carries the EXCHANGE curds of the channels that travel on it (R299, R306). -/
def State.meshFits (s : State) (q : Plan) (p : Nat) : Bool :=
  match q.ctn with
  | none => true
  | some t =>
    let size := 3 + 3 * q.sf * t.b
    (List.range 44).all fun n =>
      let k := count (fun y => let x := t.chFirst + y; decide (t.owner x ≠ t.k) && t.laneTo (t.owner x) x == n) (List.range t.cx)
      decide (k * size ≤ s.laneFlits q n p) || k == 0

-- the checks -------------------------------------------------------------------------------------------------------------------------------

/-- The first entry for which a test holds. -/
def firstBad (l : List Entry) (f : Nat → Entry → Bool) : Option Nat := (l.zipIdx.find? fun x => f x.2 x.1).map (·.2)

/-- The index that a check of a kernel names (R290). -/
def Plan.namedBy (q : Plan) (h : Nat) (bad : Bool) : Option Nat :=
  if bad then firstBad q.l fun _ e => e.kind == 1 && fld e.w3 15 0 == h else none

/-- Two entries of one resource overlap. -/
def overlap (a b : Entry) : Bool :=
  a.cls == b.cls && a.idx == b.idx && decide (0 < a.dur ∧ 0 < b.dur ∧ a.start < b.start + b.dur ∧ b.start < a.start + a.dur)

/-- The slots check of one entry (R373). -/
def State.slotsBad (s : State) (q : Plan) (e : Entry) : Bool :=
  e.kind == 2 && e.cls == 1 && (
    let n := e.idx
    let gen := s.genOf n
    let ws := s.slotsOf (s.rosterOf q.shadow n 0) n q.p
    let hi := e.start + e.dur
    !s.laneUsable n || !covers gen (hi * 100) ws (e.start * 100) ||
      ((ws.filter fun w => w.used gen e.start hi).any fun w => decide (w.room gen q.p e.start hi < s.largest q e.path)))

/-- The checks of R22, with those of rosters (R371) and housekeeping (R410). -/
def State.coreChecks (s : State) (q : Plan) : List (Option Nat) :=
  let n := q.l.length
  let rosters := (List.range 48).any fun k =>
    [0, 1].any fun d => match s.rosterOf q.shadow k d with | some r => !rosterFits (s.genOf k) q.p r | none => false
  [ if n ≤ 4096 then none else some 4096,
    firstBad q.l fun _ e => decide (e.start < 32 ∨ q.p < e.start + e.dur + 32),
    firstBad q.l fun i e => q.l.zipIdx.any fun x => x.2 != i && overlap e x.1,
    firstBad q.l fun _ e => s.slotsBad q e,
    firstBad q.l fun _ e => e.kind == 2 && !s.pathW e.path,
    if rosters then some n else none,
    if s.house.running && !q.l.any (fun e => e.kind == 3) then some n else none ]

/-- The carriage check of each path (R22): the first emission entry of the path, or the entry count. -/
def State.carriageChecks (s : State) (q : Plan) : List (Option Nat) :=
  (List.range 64).map fun p =>
    let t := s.typeOf p
    if !s.pathW p || s.mergedW p then none
    else match s.originFlits q t with
      | none => none
      | some f =>
        if decide (f ≤ s.pathFlits q p) && (t != 0x11 || s.meshFits q p) then none
        else some ((firstBad q.l fun _ e => e.kind == 2 && e.path == p).getD q.l.length)

/-- Offsets up to the end of a range in shared memory below the parameter blocks. -/
def ofsOk (lo n : Nat) : Bool := decide (lo + n ≤ 0x1F8000)

/-- Words with bits outside their fields. -/
def strayBits (ws : List Word) (masks : List Word) : Bool :=
  (List.range 16).any fun i => decide (pw ws i &&& ~~~(masks.getD i 0) ≠ 0)

/-- Vat ranges of an FX_PFB block: the sample rings of its receivers and the start of its staging ring (R292); the manual gives the
staging ring no size. -/
def Pfb.ranges (f : Pfb) (p : Nat) : List (Nat × Nat) :=
  [(f.sring + f.rxFirst * 16 * p, f.sring + (f.rxFirst + f.rxCount) * 16 * p), (f.stage, f.stage + 16)]
/-- Vat ranges of an FX_CTURN block: corner-turn buffer and receive ring (R300). -/
def Ctn.ranges (t : Ctn) (sf : Nat) : List (Nat × Nat) :=
  [(t.ctbuf, t.ctbuf + 3 * t.s * t.kb * (t.r * t.b)), (t.rring, t.rring + t.frames * (t.n * t.s * (16 * (1 + 3 * sf * t.b))))]

/-- An FX_PFB block breaks its ranges (R290, R291). -/
def State.pfbBad (s : State) (q : Plan) (c : Nat) : Bool :=
  let ws := q.block c 1
  let f := pfbOf ws
  strayBits ws [0x1F0F1300, 0x3F3F, 0x1FFFFF, 0x1FFFFF, 0x1FFFFF, 0xFFFFFFFF, 0x1F, 0xFFFFFFFF, 0x1F] ||
    decide (f.taps < 4 ∨ 16 < f.taps ∨ f.log2Ch < 8 ∨ 13 < f.log2Ch ∨ f.rxCount < 1 ∨ 48 < f.rxCount ∨ s.res.channels < f.rxFirst + f.rxCount) ||
    !ofsOk f.coef (8 * f.taps * f.ch) || !ofsOk f.sel 1 || !ofsOk f.shift f.ch ||
    (f.ranges q.p).any fun r => !s.vatRange r.1 r.2

/-- An FX_CTURN block breaks its ranges. -/
def State.ctnBad (s : State) (q : Plan) (c : Nat) : Bool :=
  let ws := q.block c 2
  let t := ctnOf ws
  strayBits ws [0x3F3F011F, 0x1FFF1FFF, 0x3F, 0xFFFFFFFF, 0x1F, 0xFFFFFFFF, 0x1F, 0xF] ||
    decide (t.n < 2 ∨ 44 < t.n ∨ t.n ≤ t.k ∨ t.log2Kb < 10 ∨ 16 < t.log2Kb ∨ t.cx < 1 ∨ q.pfb.ch < t.chFirst + t.cx ∨ t.lanes < 1 ∨
      43 / (t.n - 1) < t.lanes ∨ t.frames < 2) ||
    (t.ranges q.sf).any fun r => !s.vatRange r.1 r.2

/-- Receivers of a beam. -/
def Plan.beamRx (q : Plan) (b : Beam) : Nat := if b.array then (match q.ctn with | some t => t.r | none => 0) else 48
/-- Channels beamformed. -/
def Plan.beamCh (q : Plan) (b : Beam) : Nat := if b.array then (match q.ctn with | some t => (t.own t.k).2 | none => 0) else b.chCount

/-- An FX_BEAM block breaks its ranges. -/
def Plan.beamBad (q : Plan) (c : Nat) : Bool :=
  let ws := q.block c 4
  let b := beamOf ws
  let third : Word := if b.array then 0 else 0x1FFF1FFF
  strayBits ws [0xF03FF, 0x1FFFFF, 0x1FFFFF, third] || decide (b.beams < 1 ∨ 128 < b.beams ∨ q.sf < 2 ^ b.log2Kp) ||
    (!b.array && decide (b.chCount < 1 ∨ q.pfb.ch < b.chFirst + b.chCount)) ||
    !ofsOk b.wt (8 * b.beams * q.beamRx b) || !ofsOk b.sel 1

/-- Receivers of a plan's RX ranges. -/
def Plan.receivers (q : Plan) : List Nat :=
  (runClusters q.l 1).flatMap fun c => let f := pfbOf (q.block c 1); (List.range f.rxCount).map fun i => f.rxFirst + i

/-- Clusters that are not halted, as written. -/
def State.clustersOn (s : State) : Nat := count (fun c => !s.bw (.eaCCtrl c) 31) (List.range s.res.clusters)

/-- Beams in the third line of R305, with channels and receivers. -/
def Plan.beamTerm (q : Plan) : Nat :=
  match q.beam with | some b => b.beams * 1000000000 * q.beamCh b * (q.beamRx b + 16) * q.p | none => 0

/-- Tiles t of R301. -/
def Ctn.tiles (t : Ctn) : Nat := t.r / 16 * (t.r / 16 + 1)
/-- c of R305. -/
def Ctn.c (t : Ctn) : Nat := if t.data8 then 8 else 2

/-- s_max of R305: A × K_b / (16 × P × t × 10⁹ × (c × K_b + 128)), where A is a × 16 × P × ch. -/
def State.sMax (s : State) (q : Plan) (t : Ctn) : Nat :=
  let ch := q.pfb.ch
  let filters := (q.pfbs.map fun f => f.rxCount * (f.taps + 7)).sum
  let a := 16 * s.clustersOn * 1960000000 * (q.p - 576) * 16 * ch - filters * 2000000000 * q.p * ch - q.beamTerm
  a * t.kb / (16 * q.p * t.tiles * 1000000000 * (t.c * t.kb + 128))

/-- The vat load of R306 stays within 80 % of the variant's bandwidth; both sides times 64 × ch, of which every S_f that R290 allows is a
divisor. -/
def State.vatLoadOk (s : State) (q : Plan) : Bool :=
  let ch := q.pfb.ch
  let nRx := q.receivers.length
  let ring := (q.pfbs.map fun f => f.rxCount * (128 + (f.taps - 1) * (64 / max 1 (q.p / f.ch)))).sum
  let nTb := if s.bw .trTbCfg 31 then
      count (fun n => if n < 32 then s.bw .trTbChmaskLo n else s.bw .trTbChmaskHi (n - 32)) (List.range 48) else 0
  let runs := count (fun e => e.kind == 1 && fld e.w3 15 0 == 4 && (beamOf (q.block e.idx 4)).array) q.l
  let mesh := match q.ctn with
    | some t => (2 * nRx * t.cx * t.b + 3 * t.r * t.s * t.b + 6 * t.tiles * t.s * t.b + t.r * t.s * t.b * runs) * 1000000000 * 64
    | none => 0
  decide (3000000000 * nTb * 64 * ch + 4000000000 * ring * ch + mesh ≤ s.res.vatStacks * 655360000000 * 64 * ch)

/-- Every range lies in ready vat regions (R332). -/
def State.rangesReady (s : State) (rs : List (Nat × Nat)) : Bool := rs.all fun r => s.readyRange true r.1 r.2 64

/-- The checks of R290 and R332 for the FX kernels, one for each case. -/
def State.fxChecks (s : State) (q : Plan) : List (Option Nat) :=
  let pf := runClusters q.l 1
  let ct := runClusters q.l 2
  let xt := runClusters q.l 3
  let bm := runClusters q.l 4
  let fs := if q.pfbs = [] then [q.pfb] else q.pfbs
  let any := pf != [] || bm != [] || ct != [] || xt != []
  let first := if pf != [] then 1 else if ct != [] then 2 else if xt != [] then 3 else 4
  let tcl := ct ++ xt
  let rx := q.receivers
  let sf := q.sf
  let t := q.ctn.getD (ctnOf [])
  let has := q.ctn.isSome
  let data8 (f : Pfb) : Bool := decide (2 ≤ f.req)
  let sfOk (f : Pfb) : Bool := let n := q.p / f.ch; n == 16 || n == 32 || (n == 64 && !data8 f)
  let own3 := xt.any fun c => (q.params.find? fun p => p.cluster == c && p.handle == 3).any fun p => p.words.any (· != 0)
  let late := q.l.any fun e => e.kind == 1 && fld e.w3 15 0 == 1 && decide (e.start < 256)
  let ch3 := q.l.any fun e => (e.kind == 0 || e.kind == 6) && decide (e.idx % 4 = 3) && ct.contains (e.idx / 4)
  let rank := if xt != [] then 3 else 2
  [ q.namedBy 1 (pf.any fun c => s.pfbBad q c),
    q.namedBy (if ct != [] then 2 else 3) (tcl.any fun c => s.ctnBad q c),
    q.namedBy 3 own3,
    q.namedBy 4 (bm.any fun c => q.beamBad c),
    q.namedBy 1 (decide (rx.eraseDups.length ≠ rx.length) || rx.any fun n => !s.bw (.caChCfg n) 0 || s.bw (.caChCfg (n / 2 * 2)) 7),
    q.namedBy (if ct != [] then 2 else 3) (tcl.any fun c => q.block c 2 != q.block (tcl.headD 0) 2),
    q.namedBy 4 (bm.any fun c => q.block c 4 != q.block (bm.headD 0) 4),
    q.namedBy 1 (pf != [] && has && fs.any fun f => t.data8 != data8 f),
    q.namedBy 4 (bm != [] && fs.any fun f => !data8 f),
    q.namedBy first (any && fs.any fun f => decide (q.p % f.ch ≠ 0 ∨ q.org % f.ch ≠ 0)),
    q.namedBy first (any && !fs.all sfOk),
    q.namedBy 1 late,
    q.namedBy 2 ch3,
    q.namedBy rank (has && decide (nSafe (if t.data8 then 0 else 1) < t.kb)),
    q.namedBy rank (has && decide (s.sMax q t < t.s)),
    q.namedBy rank (has && decide (512 * s.clustersOn < t.n * t.s)),
    q.namedBy first (any && !s.vatLoadOk q),
    q.namedBy 2 (ct != [] && (s.pathOfW 0x11).isNone),
    q.namedBy 2 (ct != [] && (match s.pathOfW 0x11 with | some p => decide (t.frames ≤ s.fw (.scPathCfg p) 28 16) | none => false)),
    q.namedBy 1 (pf.any fun c => !s.rangesReady ((pfbOf (q.block c 1)).ranges q.p)),
    q.namedBy rank (has && !s.rangesReady (t.ranges sf)) ]

/-- The checks of R316 for CN_EVENT, with the field ranges of R315. -/
def State.evChecks (s : State) (q : Plan) : List (Option Nat) :=
  match runClusters q.l 5 with
  | [] => []
  | c :: cs =>
    let ws := q.block c 5
    let e := evOf ws
    let h := s.closeOffsetW e.path
    let w := cdiv (e.pre + e.post) q.p + 1
    [ q.namedBy 5 (decide (cs ≠ []) || q.l.any fun x => x.kind == 1 && fld x.w3 15 0 == 5 && decide (fld x.w3 31 16 ≠ 0)),
      q.namedBy 5 (strayBits ws [0xFFFFF, 0xFFFFF, 0x1FFF, 0xFFFF, 0x3F] || decide (e.post < 1 ∨ e.maxRec < 1 ∨ 4096 < e.maxRec)),
      q.namedBy 5 (!s.mergedW e.path || s.typeOf e.path != 2),
      q.namedBy 5 (decide ((s.fw .scMergeCfg 13 8 : Int) < h + (max 2 w : Nat))),
      q.namedBy 5 (decide ((h - 1) * (q.p : Int) < (s.fw .trCfg 19 0 : Int))),
      q.namedBy 5 (s.pathOfW 3).isNone ]

/-- The checks of R353 for press entries. -/
def State.pressChecks (s : State) (q : Plan) : List (Option Nat) :=
  let pr (e : Entry) : Bool := e.kind == 5
  let path (e : Entry) : Nat := fld e.w3 5 0
  [ firstBad q.l fun _ e => pr e && (s.mergedW (path e) || (s.originFlits q (s.typeOf (path e))).isNone),
    firstBad q.l fun _ e => pr e && (let t := s.typeOf (path e); decide (t = 1 ∨ (0x20 ≤ t ∧ t ≤ 0x2F))),
    firstBad q.l fun _ e => pr e && q.l.any fun x => x.kind == 2 && x.path == path e &&
      decide (0 < e.dur ∧ 0 < x.dur ∧ e.start < x.start + x.dur ∧ x.start < e.start + e.dur),
    firstBad q.l fun _ e => pr e && (s.unit e.idx).open_ ]

/-- Every check of SCHED_COMMIT, in a fixed order: the first failing entry of each, none where it passes. -/
def State.checks (s : State) (q : Plan) : List (Option Nat) :=
  s.coreChecks q ++ s.carriageChecks q ++ s.fxChecks q ++ s.evChecks q ++ s.pressChecks q

/-- The index that the reply carries: the lowest of the failing checks. -/
def firstFail (cs : List (Option Nat)) : Option Nat :=
  cs.foldl (fun a c => match a, c with | none, c => c | some x, some y => some (min x y) | some x, none => some x) none

-- plans --------------------------------------------------------------------------------------------------------------------------------------

/-- The period that a pending switch gives: the announced one on a follower; on the root TC_FRAME_NEXT as it stands, or the armed value
where it has been written outside R8's bounds since (DESIGN CHOICE; R14). -/
def State.switchPeriod (s : State) (w : Switch) : Nat :=
  let n := s.f .tcFrameNext 20 0
  if s.follower || decide (n < 256 ∨ 1048576 < n) then w.period.toNat else n

/-- The period of the frame that the next tick starts (R14, R17). -/
def State.nextPeriod (s : State) : Nat :=
  match s.time.switch with
  | some w => if 0 ≤ sdiff 48 (s.time.fn + 1).toNat w.fn.toNat then s.switchPeriod w else s.time.period.toNat
  | none => s.time.period.toNat

/-- O while frames last p: that of today, or the tick of SWITCH_FN (R7, R14). -/
def State.orgAt (s : State) (p : Nat) : Nat :=
  match s.time.switch with
  | some w => if p = s.time.period.toNat then s.time.org.toNat
      else (s.time.tickE.toNat + sdiff 48 w.fn.toNat s.time.fn.toNat * s.time.period.toNat).toNat
  | none => if s.placesTicks then s.time.org.toNat else 0

/-- The active schedule at a period. -/
def State.activePlan (s : State) (p : Nat) : Plan := ⟨s.sched.active, s.sched.params, false, p, s.orgAt p⟩
/-- The committed schedule at a period. -/
def State.commitPlan (s : State) (p : Nat) : Plan := ⟨s.sched.shadow, s.sched.paramsDue, true, p, s.orgAt p⟩

/-- A committed schedule waits for its tick. -/
def State.hasCommit (s : State) : Bool := s.sched.commit && s.sched.swapDue

/-- The active schedule, and a committed one where there is one, pass every check at a period (R15, R17). -/
def State.activeAt (s : State) (p : Nat) : Bool := (firstFail (s.checks (s.activePlan p))).isNone
def State.commitAt (s : State) (p : Nat) : Bool := !s.hasCommit || (firstFail (s.checks (s.commitPlan p))).isNone
def State.feasibleAt (s : State) (p : Nat) : Bool := s.activeAt p && s.commitAt p

/-- No check that passes before fails after. -/
def keeps (before after : List (Option Nat)) : Bool := (before.zip after).all fun x => x.1.isSome || x.2.isNone

/-- R24 for a change from s to t: neither the active schedule nor a committed one, empty or not, loses a check that it passes. -/
def State.protected (s t : State) : Bool :=
  keeps (s.checks (s.activePlan s.time.period.toNat)) (t.checks (s.activePlan s.time.period.toNat)) &&
    (!s.hasCommit || keeps (s.checks (s.commitPlan s.nextPeriod)) (t.checks (s.commitPlan s.nextPeriod)))

/-- A write kept only where R24 allows it. -/
def guarded (s : State) (e : Except Status State) : Except Status State :=
  match e with
  | .ok t => if s.protected t then .ok t else .error .infeasible
  | .error st => .error st

end Sys2Proof.Machine
end

