-- ==== Sys2Proof/Machine/Sched.lean ====
section
/-!
DEFINITION. The schedule commands and their ticks (R19 to R25, R452): load, commit, swap, copy, read; and the entries' ends: curd
emission (R26, R366, R372, R394), the abort at DURATION (R27), the deadline of a path (R35).
-/
namespace Sys2Proof.Machine

/-- The scheduler's record replaced. -/
def State.setSched (s : State) (f : Sched → Sched) : State := { s with sched := f s.sched }

-- SCHED_LOAD (R20, R21, R452) --------------------------------------------------------------------------------------------------------------

/-- Four words as an entry. -/
def entriesOf : List Word → List Entry
  | a :: b :: c :: d :: ws => ⟨a, b, c, d⟩ :: entriesOf ws
  | _ => []

/-- The resource of an entry exists (R21, R45, R257, R342). -/
def State.hasResource (s : State) (e : Entry) : Bool :=
  let i := e.idx
  match e.kind, e.cls with
  | 0, 2 | 6, 2 => decide (i < 4 * s.res.clusters)
  | 1, 0 => decide (i < s.res.clusters)
  | 2, 1 => decide (i < s.res.lanes)
  | 2, 6 | 3, 3 => i == 0
  | 4, 4 => i == 0 || decide (i < s.res.vatStacks)
  | 5, 5 => decide (i < 4)
  | _, _ => false

/-- An entry that the role of the device does not offer (R46, R288, R315). -/
def State.roleBars (s : State) (e : Entry) : Bool :=
  e.kind == 1 && (let h := fld e.w3 15 0
    (decide (1 ≤ h ∧ h ≤ 4) && s.role != 3) || (h == 5 && s.role != 2))

/-- ARG of an entry is out of its range (R46, R255, R288, R342, R352). -/
def State.badArg (s : State) (e : Entry) : Bool :=
  let w := e.w3
  if e.kind = 1 then
    let h := fld w 15 0
    if 1 ≤ h ∧ h ≤ 5 then (decide (h ≤ 4) && decide (fld w 31 16 ≠ 0)) || (h == 3 && s.fuses.variant == .b64s)
    else match SMap.find s.engines.kernels h with
      | some k => !(k.mask.getLsbD e.idx)
      | none => true
  else if e.kind = 4 then fld w 15 0 == 0
  else if e.kind = 5 then fld w 7 6 == 3 || fld w 15 8 == 0 || fld w 31 16 == 0
  else false

/-- SCHED_LOAD (R21, R452): the role, then the ranges, then the locked bank. -/
def execSchedLoad (r : Req) (s : State) : Res :=
  .next (s.runOp 0x300 r (decide (r.len % 4 = 0)) fun s =>
    let first := r.p 11 0
    let es := entriesOf r.payload
    let old := s.sched.shadow
    if es.any s.roleBars then no s .stateRefused
    else if decide (old.length < first ∨ 4096 < first + es.length) || es.any (fun e => !s.hasResource e || s.badArg e) then
      no s .outOfRange
    else needStep s 5 <|
      if s.sched.commit then no s .busy
      else
        let new := old.take first ++ es ++ (if r.p 12 12 = 1 then [] else old.drop (first + es.length))
        yes (s.setSched fun q => { q with shadow := new }))

-- SCHED_COMMIT (R21 to R23, R289) ------------------------------------------------------------------------------------------------------------

/-- The blocks that a schedule names, as they stand in shared memory; FX_XTILE's own block is kept beside that of FX_CTURN (R289). -/
def State.blocksOf (s : State) (l : List Entry) : List ParamCopy :=
  let copy (c h : Nat) : ParamCopy := { cluster := c, handle := h, words := rdWords s.window (Sys2Proof.Machine.blockAddr c h) 16 }
  (List.range 16).flatMap fun c =>
    let names (h : Nat) : Bool := l.any fun e => e.kind == 1 && e.idx == c && fld e.w3 15 0 == h
    (if names 1 then [copy c 1] else []) ++ (if names 2 || names 3 then [copy c 2] else []) ++ (if names 3 then [copy c 3] else []) ++
      (if names 4 then [copy c 4] else []) ++ (if names 5 then [copy c 5] else [])

/-- Whole ns that cover half-ns cycles at the 98 % rule (R70). -/
def cyclesNs (n : Nat) : Nat := cdiv (n * 50) 98

/-- DURATION of an entry as the firmware derives it; none where the word is used as written. The manual gives no formula for
transfers, read-outs and CN_EVENT, so theirs is the free value (R21, R229, R258, R300, R301, R305, R342, R353, R408). -/
def Plan.duration (q : Plan) (e : Entry) (free : Nat) : Option Nat :=
  let engines (h : Nat) : Nat := 16 * max 1 (runClusters q.l h).length
  match e.kind with
  | 0 | 6 => some free
  | 1 =>
    let h := fld e.w3 15 0
    if h = 1 then
      let f := pfbOf (q.block e.idx 1)
      some (cyclesNs (cdiv (f.rxCount * 2 * q.p * (f.taps + 7)) 256))
    else if h = 2 then some 512
    else if h = 3 then
      match q.ctn with
      | some t => some (cyclesNs (cdiv (cdiv (t.tiles * (t.own t.k).2) (engines 3) * (t.c * t.kb + 128) * q.sf) t.kb))
      | none => some 0
    else if h = 4 then
      match q.beam with
      | some b => some (cyclesNs (cdiv (b.beams * q.sf * q.beamCh b * (q.beamRx b + 16)) (16 * engines 4)))
      | none => some 0
    else if h = 5 then some free
    else none
  | 3 => some 64
  | 4 => some (64 + cdiv (fld e.w3 15 0) 2)
  | 5 => some (cdiv ((64 + fld e.w3 31 16 + 40 * fld e.w3 15 8) * 100) 196)
  | _ => none

/-- The entries with their derived DURATION, one free value for each entry at need. -/
def Plan.derive (q : Plan) (free : Nat) : List Entry :=
  q.l.zipIdx.map fun x =>
    match q.duration x.1 (Config.freeNat (free + x.2) % 2 ^ 21) with
    | some d => { x.1 with w1 := BitVec.ofNat 32 (min d (2 ^ 21 - 1)) }
    | none => x.1

/-- The rosters that wait become those of their lanes (R374). -/
def State.swapRosters (s : State) : SMap (Option Roster) → State
  | [] => { s with sched := { s.sched with rosterDue := [] } }
  | (k, r) :: m =>
    let l := s.lane (k / 2)
    State.swapRosters (s.setLane (k / 2) (if k % 2 = 0 then { l with tx := r } else { l with rx := r })) m

/-- The banks change roles; a failing schedule's state ends with it, and the one that takes over brings what its own checks at the new
period gave (R17, R25, R374, R452). -/
def State.swapBanks (s : State) : State :=
  let q := s.sched
  let s := s.setSched fun _ =>
    { q with active := q.shadow, shadow := q.active, bank := !q.bank, swapDue := false, swapNow := false, copyDue := true, running := [],
             begun := [], params := q.paramsDue, paramsDue := [] }
  let s := s.setTime fun t =>
    { t with infeasible := t.switch.isSome && t.infShadow, infForce := t.switch.isNone && t.infShadow, infShadow := false }
  s.swapRosters s.sched.rosterDue

/-- A follower that holds a switch announcement keeps what the checks of a schedule committed after it give at NEXT_PERIOD, for the
case that it becomes active before the switch (DESIGN CHOICE; R17). -/
def State.judgeCommit (s : State) : State :=
  s.setTime fun t => { t with infShadow := s.follower && (match t.switch with | some w => !s.commitAt (s.switchPeriod w) | none => false) }

/-- SCHED_COMMIT: derived durations, the checks, then the swap at the next tick, or at once while no ticks are placed (R21 to R23). -/
def execSchedCommit (r : Req) (s : State) : Res :=
  .next (s.runOp 0x301 r true fun s => needStep s 5 <|
    if s.sched.commit then no s .busy
    else
      let p := s.nextPeriod
      let ps := s.blocksOf s.sched.shadow
      let q : Plan := ⟨s.sched.shadow, ps, true, p, s.orgAt p⟩
      let l := q.derive s.free
      let s : State := { s with free := s.free + l.length, sched := { s.sched with shadow := l } }
      match firstFail (s.checks { q with l }) with
      | some i => (s, some { status := .infeasible, param := i })
      | none =>
        let s := s.setSched fun x => { x with commit := true, swapDue := true, paramsDue := ps }
        let s := s.judgeCommit
        if s.placesTicks then (s, some { status := .ok, param := (s.time.fnAt s.nextTick).toNat % 2 ^ 24 })
        else (s.swapBanks, some { status := .ok, param := 0xFFFFFF }))

/-- SCHEDULE_SWAP: the tick at which a committed schedule becomes active (R23, R25). -/
def execScheduleSwap (s : State) : Res := .next (if s.sched.swapNow && s.sched.swapDue then s.swapBanks else s)

/-- SHADOW_COPY_DONE: the new shadow is a copy of the active schedule, and COMMIT_PENDING ends (R452). -/
def execShadowCopyDone (s : State) : Res :=
  .next (if s.sched.copyDue then s.setSched fun q => { q with shadow := q.active, copyDue := false, commit := false } else s)

/-- SCHED_READ: entries of the active or the shadow schedule (R116, R452). -/
def execSchedRead (r : Req) (s : State) : Res :=
  .next (s.runOp 0x302 r true fun s =>
    let l := if r.p 23 23 = 1 then s.sched.shadow else s.sched.active
    let first := r.p 11 0
    let n := r.p 20 12
    if n < 1 ∨ 256 < n ∨ l.length < first + n then no s .outOfRange
    else needStep s 5 (tell s (((l.drop first).take n).flatMap fun e => [e.w0, e.w1, e.w2, e.w3])))

/-- SC_STATUS. -/
def schedStatus (s : State) : Word :=
  bit32 31 s.sched.commit ||| bit32 30 s.sched.bank ||| at32 16 s.sched.shadow.length ||| BitVec.ofNat 32 s.sched.active.length

-- curd emission --------------------------------------------------------------------------------------------------------------------------------

/-- Curd flits that an entry may still put into a slot of its lane in this frame. -/
def State.slotLeft (s : State) (n : Nat) (w : Slot) (e : Entry) : Nat :=
  let used := SMap.get 0 (s.lane n).openSlots w.num
  min (w.room (s.f (.lkLCfg n) 30 29) s.time.period.toNat e.start (e.start + e.dur)) (w.flits - 1 - w.reserve - used)

/-- Curds of an entry's path inserted into one slot of its lane that is open (R372). -/
def State.insertSlot (s : State) (n : Nat) (e : Entry) (w : Slot) : State :=
  if !(SMap.find (s.lane n).openSlots w.num).isSome then s
  else
    let (t, k) := s.sendPath n e.path (s.slotLeft n w e)
    let l := t.lane n
    t.setLane n { l with openSlots := SMap.put l.openSlots w.num (SMap.get 0 l.openSlots w.num + k) }

/-- The roster in force of a lane and direction; one that failed its check at a switch acts as none (R17). -/
def State.rosterNow (s : State) (n dir : Nat) : Option Roster :=
  (s.rosterOf false n dir).filter fun r => rosterFits (s.f (.lkLCfg n) 30 29) s.time.period.toNat r

/-- The single slot of a lane without a roster is always open. -/
def State.openSingle (s : State) (n : Nat) : State :=
  let l := s.lane n
  if (s.rosterNow n 0).isNone && !(SMap.find l.openSlots 0).isSome then s.setLane n { l with openSlots := SMap.put l.openSlots 0 0 } else s

/-- The slots in force that the device owns on a lane. -/
def State.slotsNow (s : State) (n : Nat) : List Slot := s.slotsOf (s.rosterNow n 0) n s.time.period.toNat

/-- An entry inserts curds into every open slot of its lane. -/
def State.insertAll (s : State) (n : Nat) (e : Entry) : State :=
  let s := s.openSingle n
  (s.slotsNow n).foldl (fun s w => s.insertSlot n e w) s

/-- Emission entries under way on a lane, in the order of the schedule. -/
def State.emitting (s : State) (n : Nat) : List Entry :=
  (s.sched.active.zipIdx.filter fun x => s.sched.running.contains x.2 && x.1.kind == 2 && x.1.cls == 1 && x.1.idx == n).map (·.1)

/-- Every emission entry under way on a lane inserts what it can. -/
def State.pumpLane (s : State) (n : Nat) : State := (s.emitting n).foldl (fun s e => s.insertAll n e) s

/-- Waiting curds of a path that the uplink can take within c flits (R394). -/
def State.uplinkTake (s : State) (p c : Nat) : List Held × State :=
  let (a, b) := takeFit (fun h => s.leaves p h && h.out.isNone) s.sched.held c
  (a, s.setHeld b)

/-- Curds with the waiting amounts of their streams in LOST. -/
def State.takeLostAll (s : State) : List Held → State × List Held
  | [] => (s, [])
  | h :: hs =>
    let (s, c) := (s.readStage h).takeLost h.curd
    let (s, l) := State.takeLostAll s hs
    (s, { h with curd := c } :: l)

/-- The datagram under way has left whole (R394, R399). -/
def State.flushUplink (s : State) : State :=
  match s.uplink.flight with
  | none => s
  | some (q, first, fl, _) =>
    let s := { s with uplink := { s.uplink with flight := none }, out := s.out ++ [Out.curdDatagram q first fl] }
    (s.bump 0x580120 1).bump 0x580108 1

/-- Index of the first rind at or after a flit position, among the starting positions of curds. -/
def firstRind (starts : List Nat) (lo hi : Nat) : BitVec 16 :=
  match starts.find? fun x => decide (lo ≤ x ∧ x < hi) with | some x => BitVec.ofNat 16 (x - lo) | none => 0xFFFF

/-- A stream of flits leaves in datagrams of up to k flits; the last one stays under way (R392, R394). The fuel is the number of
flits. -/
def State.sendDatagrams (s : State) (k : Nat) (all : List Flit) (starts : List Nat) (ends : List (Nat × Held)) : Nat → Nat → State
  | 0, _ => s
  | n + 1, pos =>
    if all.length ≤ pos then s
    else
      let s := s.flushUplink
      let hi := min all.length (pos + k)
      let q := s.uplink.dgramSeq
      let last := (ends.filter fun x => decide (pos < x.1 ∧ x.1 ≤ hi)).map (·.2)
      let u : Uplink := { s.uplink with dgramSeq := q + 1, flight := some (q, firstRind starts pos hi, (all.drop pos).take k, last) }
      let s := { s with uplink := u }
      State.sendDatagrams s k all starts ends n hi

/-- Starting positions of curds in their stream. -/
def startsOf : List Held → Nat → List Nat
  | [], _ => []
  | h :: hs, pos => pos :: startsOf hs (pos + h.curd.flits)

/-- An uplink entry: curds that end before START + DURATION, in datagrams (R394). -/
def State.uplinkEmit (s : State) (e : Entry) : State :=
  let (hs, s) := s.uplinkTake e.path (s.uplinkRoom e.dur)
  let (s, hs) := s.takeLostAll hs
  let starts := startsOf hs 0
  let all := hs.flatMap fun h => curdFlits h.curd
  let k := (s.f .euMaxPayload 13 0 - 16) / 16
  s.sendDatagrams (max 1 k) all starts (List.zipWith (fun (a : Nat) (h : Held) => (a + h.curd.flits, h)) starts hs) all.length 0

/-- CURD_EMISSION: the waiting curds of the path leave within the entry, in the device's slots or on the uplink; an entry whose lane is
not trained, or whose uplink is down, is skipped (R26, R372, R394, R395). -/
def execCurdEmission (entry : Nat) (s : State) : Res :=
  .next (s.runEntry entry 2 fun e s =>
    let s := s.closeHits.closeRennet
    if e.cls = 6 then if s.uplink.up then s.uplinkEmit e else s.skip
    else if s.carries e.idx then (s.setRunning entry).insertAll e.idx e
    else s.skip)

-- the end of an entry --------------------------------------------------------------------------------------------------------------------------

/-- The chain of a transfer is aborted: what its open descriptors write is undefined, and every curd that depended on it is lost
(R27). -/
def State.abortTransfer (s : State) (i ch : Nat) : State :=
  let d := s.dmaCh ch
  let s := (d.open_.map (·.dst) ++ d.dests).foldl State.scrambleRows s
  ((s.setDma ch {}).loseDep i).endRunning i

/-- A housekeeping step, scrub step or press entry whose row has not come by START + DURATION has not completed: it is aborted and
counted, its curds stay as they are and its work is left to a later step (R26, R27, R354). -/
def State.abortStep (s : State) (entry : Nat) (e : Entry) : State :=
  if (s.atStart entry e.kind).isNone || decide (e.kind < 3 ∨ 5 < e.kind) then s
  else
    let s := (s.advanceTo (s.tickCt + BitVec.ofNat 64 ((e.start + e.dur) * 512))).setBegun entry
    if s.time.infForce then s.skip else s.bump 0x300010 1

/-- ENTRY_ABORT: START + DURATION has come. An emission ends; any other entry that has not completed is aborted and counted (R27). -/
def execEntryAbort (entry : Nat) (s : State) : Res :=
  .next (match s.sched.active[entry]? with
    | none => s
    | some e =>
      if !s.sched.running.contains entry then s.abortStep entry e
      else
        let s := s.advanceTo (s.tickCt + BitVec.ofNat 64 ((e.start + e.dur) * 512))
        match e.kind with
        | 0 | 6 => (s.abortTransfer entry e.idx).bump 0x300010 1
        | 1 => if (s.cluster e.idx).run.any (fun k => k.entry == entry) then (s.timeoutRun e.idx).bump 0x300010 1 else s.endRunning entry
        | _ => s.endRunning entry)

/-- CURD_DEADLINE: the curds of a path whose deadline has come are discarded; a merged curd is counted on its path as any other
(R33, R35). -/
def execCurdDeadline (path : Nat) (s : State) : Res :=
  .next (if !s.rel 5 then s
    else
      let late (h : Held) : Bool := h.path == path && s.isLate path h.curd
      (s.setHeld (s.sched.held.filter fun h => !late h)).loseAll (s.sched.held.filter late))

end Sys2Proof.Machine
end

