-- ==== Sys2Proof/Machine/Link.lean ====
section
/-!
DEFINITION. Lanes and the Casud link (R359 to R386): bring-up, deep idle, capability flits, rosters and slots, time exchange, FRAME and
TRIG flits, carriage, enumeration, the feature epoch.
-/
namespace Sys2Proof.Machine

/-- The link record replaced; one lane's record changed. -/
def State.setLink (s : State) (f : Link → Link) : State := { s with link := f s.link }
def State.modLane (s : State) (n : Nat) (f : Lane → Lane) : State := s.setLane n (f (s.lane n))

/-- Address of counter k of lane n (R385). -/
def laneCnt (n k : Nat) : Nat := 0x500040 + n * 0x800 + 8 * k

/-- EN of a lane in force. -/
def State.laneEn (s : State) (n : Nat) : Bool := s.b (.lkLCfg n) 31

/-- A JTAG code that puts the balls under scan control (R444, R445). -/
def scanCode (c : Byte) : Bool := decide (c ∈ ([0x00, 0x03, 0x04, 0x08, 0x09] : List Byte))

-- bring-up (R364 to R367) --------------------------------------------------------------------------------------------------------------------

/-- A lane leaves the trained state: TRAINED clears, LK_DOWN, a curd in transmission is cut off; a LOCKED follower that loses lane 0 goes
to HOLDOVER (R150, R366). -/
def State.untrain (s : State) (n : Nat) : State :=
  let l := s.lane n
  if !l.trained then s
  else
    let s := if l.sending.isSome then s.bump (laneCnt n 11) 1 else s
    let s := s.setLane n { l with trained := false, sending := none, exT1 := none, exT2 := none, exT3 := none, cap := none, slotTrig := none, trigWait := [] }
    let s := s.raise 15 1 (at32 0 n)
    if n = 0 ∧ s.follower = true ∧ s.time.state = 2 then s.enterHoldover else s

/-- The lane stands at step 1 with nothing of the far end known. -/
def Lane.atStep1 (l : Lane) (wake : Bool) : Lane := { l with step := 1, cap := none, wake, deep := false }

/-- Bring-up starts, or the lane stays off where EN in force is 0 or the lane is the uplink's (R364, R366, R388). -/
def State.startLane (s : State) (n : Nat) : State :=
  s.modLane n fun l => if s.laneEn n && !l.uplink then l.atStep1 false else { l with step := 0, cap := none, wake := false, deep := false }

/-- A lane leaves the trained state and restarts at step 1 (R366). -/
def State.dropLane (s : State) (n : Nat) : State := (s.untrain n).startLane n

/-- Several lanes. -/
def State.dropLanes (s : State) : List Nat → State
  | [] => s
  | n :: ns => State.dropLanes (if (s.lane n).trained then s.dropLane n else s) ns

/-- Bring-up restarts at step 1, counted (R364, R385). -/
def State.retrain (s : State) (n : Nat) : State := ((s.untrain n).startLane n).bump (laneCnt n 10) 1

/-- LINK_TRAIN of a lane, while one runs. -/
def State.trainRun (s : State) (n : Nat) : Option Long := s.ports.long.find? fun l => l.op == 0x500 && l.res == n

/-- The reply of LINK_TRAIN: the last step completed (R364). -/
def State.endTrain (s : State) (n : Nat) : State :=
  match s.trainRun n with
  | none => s
  | some l =>
    ({ s with ports := { s.ports with long := s.ports.long.erase l } } : State).reply 0x500 l.req
      { status := .ok, param := (s.lane n).lastStep }

/-- A lane is trained: the link revision of its two ends, LK_UP, the reply of a LINK_TRAIN (R364, R365). -/
def State.trainLane (s : State) (n : Nat) : State :=
  let s := s.modLane n fun l =>
    let c := l.cap.getD ⟨1, 1, 0, 0, 0, 0, true⟩
    { l with step := 5, trained := true, wake := false, lastStep := 4, deaf := false,
             rev := if c.maxRev.toNat < s.boot.linkRev.toNat then c.maxRev else s.boot.linkRev, farNode := c.node }
  (s.raise 15 0 (at32 0 n)).endTrain n

/-- BRINGUP_STEP_COMPLETE: step 3 needs a CAP with SEEN 1; it has exchanged the capability flits (R150, R364). -/
def execBringupStepComplete (lane : Nat) (s : State) : Res :=
  .next (
    let l := s.lane lane
    if !s.rel 8 || !s.link.refclk || scanCode s.test.ir || !s.hasLane lane || l.uplink || decide (l.step < 1 ∨ 4 < l.step) then s
    else if l.step = 3 ∧ (l.cap.any (·.seen)) = false then s
    else if l.step = 4 then s.trainLane lane
    else
      let t := s.setLane lane { l with step := l.step + 1, lastStep := l.step }
      if lane = 0 ∧ l.step = 3 then t.acquire else t)

/-- BRINGUP_TIMEOUT: a step has not completed within 100 ms (R364). -/
def execBringupTimeout (lane : Nat) (s : State) : Res :=
  .next (if s.rel 8 && decide (1 ≤ (s.lane lane).step ∧ (s.lane lane).step ≤ 4) then s.retrain lane else s)

/-- BRINGUP_SIGNAL_LOSS: during steps 2 to 4 (R364). -/
def execBringupSignalLoss (lane : Nat) (s : State) : Res :=
  .next (if s.rel 8 && decide (2 ≤ (s.lane lane).step ∧ (s.lane lane).step ≤ 4) then s.retrain lane else s)

/-- LANE_DOWN: FEC lock or signal lost, or sixteen codewords uncorrectable (R366). -/
def execLaneDown (lane : Nat) (s : State) : Res := .next (if (s.lane lane).trained then s.dropLane lane else s)

/-- Lanes in steps 2 to 4 restart when LANE_REFCLK stops (R364). -/
def State.refclkRetrain (s : State) : List Nat → State
  | [] => s
  | n :: ns => State.refclkRetrain (if 2 ≤ (s.lane n).step ∧ (s.lane n).step ≤ 4 then s.retrain n else s) ns

/-- LANE_REFCLK_LOST (R360, R366). -/
def execLaneRefclkLost (s : State) : Res :=
  .next (
    let s := s.setLink fun l => { l with refclk := false }
    if !s.rel 8 then s else ((s.refclkRetrain (List.range 48)).dropLanes (List.range 48)).raise 15 6 0x3F)

/-- Lanes not trained start bring-up again; a lane in deep idle stays so. -/
def State.startLanes (s : State) : List Nat → State
  | [] => s
  | n :: ns => State.startLanes (if (s.lane n).trained || (s.lane n).deep || !s.laneEn n then s else s.startLane n) ns

/-- LANE_REFCLK_RETURN (R360). -/
def execLaneRefclkReturn (s : State) : Res :=
  .next (
    let s := s.setLink fun l => { l with refclk := true }
    if !s.rel 8 then s else s.startLanes (List.range s.res.lanes))

/-- LINK_TRAIN restarts a lane at step 1; its reply comes when the lane is trained or after 100 ms (R114, R364). -/
def execLinkTrain (r : Req) (s : State) : Res :=
  .next (s.runOp 0x500 r true fun s =>
    let n := fld (r.w 0) 5 0
    if !s.hasLane n then no s .outOfRange
    else needStep s 8 <|
      if !s.laneEn n || (s.lane n).uplink then no s .stateRefused
      else if (s.trainRun n).isSome then no s .busy
      else
        let s := (s.retrain n).modLane n fun l => { l with lastStep := 0 }
        ({ s with ports := { s.ports with long := s.ports.long ++ [{ op := 0x500, res := n, req := r }] } }, none))

/-- LINK_TRAIN_TIMEOUT: 100 ms have passed (R364). -/
def execLinkTrainTimeout (lane : Nat) (s : State) : Res := .next (s.endTrain lane)

/-- LK_Ln_STATUS: zero for removed lanes. -/
def laneStatus (s : State) (n : Nat) : Word :=
  if !s.hasLane n then 0
  else
    let l := s.lane n
    let source := l.trained && (l.takeover || !(List.range 48).any fun k => s.f (.lkLCfg k) 21 16 == n)
    bit32 31 l.trained ||| at32 28 l.step ||| at32 24 l.rev.toNat ||| bit32 19 source ||| bit32 18 l.takeover ||| l.farNode.setWidth 32

/-- LINK_STATUS (R386). -/
def execLinkStatus (r : Req) (s : State) : Res :=
  .next (s.runOp 0x501 r true fun s => needStep s 8 (tell s ((List.range 48).map (laneStatus s))))

/-- LINK_RTT (R383). -/
def execLinkRtt (r : Req) (s : State) : Res :=
  .next (s.runOp 0x504 r true fun s => needStep s 8 (tell s ((List.range 48).map fun n => if s.hasLane n then (s.lane n).rtt else 0)))

-- LK_Ln_CFG (R364, R367, R453) -----------------------------------------------------------------------------------------------------------------

/-- EN and GEN of LK_Ln_CFG. -/
def enGen : Word := 0xE0000000

/-- A value of LK_Ln_CFG comes into force, with what a change of EN or GEN does (R364, R366). -/
def State.applyLane (s : State) (n : Nat) (v : Word) : State :=
  let old := s.reg (.lkLCfg n)
  let s := s.setReg (.lkLCfg n) v
  let l := s.lane n
  if l.uplink ∨ s.rel 8 = false ∨ old &&& enGen = v &&& enGen then s
  else if l.trained then s.dropLane n
  else s.startLane n

/-- LANE_CFG_HOLD_EXPIRY: 1 ms after the write of a held change. With no ticks placed it takes effect now; otherwise at the next tick
(R364, R453). -/
def execLaneCfgHoldExpiry (lane : Nat) (s : State) : Res :=
  .next (match (s.lane lane).heldCfg with
    | none => s
    | some v =>
      if s.placesTicks then s.modLane lane fun l => { l with heldDue := true }
      else
        let s := s.modLane lane fun l => { l with heldCfg := none, heldDue := false }
        ({ s with csr := { s.csr with pend := SMap.erase s.csr.pend (Reg.key (.lkLCfg lane)) } } : State).applyLane lane v)

/-- An entry of a schedule that may run emits on a lane. -/
def State.emitsOn (s : State) (n : Nat) : Bool :=
  let on (l : List Entry) : Bool := l.any fun e => e.kind == 2 && e.cls == 1 && e.idx == n
  on s.sched.active || (s.hasCommit && on s.sched.shadow)

/-- A write of DEEP 1 (R24, R367): a lane that is not trained only keeps the bit. -/
def State.goDeep (s : State) (n : Nat) : Except Status State :=
  let fwd := (List.range 48).any fun k => s.f (.lkLCfg k) 21 16 == n || s.fw (.lkLCfg k) 21 16 == n
  if ((s.lane n).trained ∧ (s.lane n).rev.toNat < 2) ∨ (n = 0 ∧ s.mode = 3) ∨ fwd = true then .error .stateRefused
  else if s.emitsOn n then .error .infeasible
  else if !(s.lane n).trained then .ok s
  else
    let s := s.flushLane n
    let s := { s with out := s.out ++ [Out.sleep n] }
    .ok (s.modLane n fun l => { l with trained := false, step := 6, deep := true, exT1 := none, exT2 := none, exT3 := none,
                                       slotTrig := none, trigWait := [] })

/-- A write of DEEP 0, or the wake by signal detection: step 1 with the shortened steps (R367). -/
def State.wakeLane (s : State) (n : Nat) : State := if (s.lane n).deep then s.modLane n (·.atStep1 true) else s

/-- DEEP of a lane as it stands in its register, and the register with it. -/
def deepBit : Word := 0x10000000
def State.setDeep (s : State) (n : Nat) (on : Bool) : State :=
  let put (v : Word) : Word := if on then v ||| deepBit else v &&& ~~~deepBit
  let k := Reg.key (.lkLCfg n)
  let s := s.setReg (.lkLCfg n) (put (s.reg (.lkLCfg n)))
  let upd (m : SMap Word) : SMap Word := match SMap.find m k with | some v => SMap.put m k (put v) | none => m
  let s := { s with csr := { s.csr with due := upd s.csr.due, pend := upd s.csr.pend } }
  s.modLane n fun l => { l with heldCfg := l.heldCfg.map put }

/-- A write of DEEP: both values. -/
def wrDeep (s : State) (n : Nat) (on : Bool) : Except Status State :=
  if on then
    match s.goDeep n with
    | .ok t => .ok (t.setDeep n true)
    | .error st => .error st
  else .ok ((s.wakeLane n).setDeep n false)

/-- DEEP_IDLE_ENTER (R367). -/
def execDeepIdleEnter (port lane : Nat) (s : State) : Res :=
  .next (if canWrite s port 8 && s.hasLane lane then writeOr s (wrDeep s lane true) else s)

/-- DEEP_IDLE_WAKE (R367). -/
def execDeepIdleWake (port lane : Nat) (s : State) : Res :=
  .next (if canWrite s port 8 && s.hasLane lane then writeOr s (wrDeep s lane false) else s)

/-- SLEEP: the receiving end does the same; a lane below revision 2 has no such KIND (R363, R367). -/
def execSleep (lane : Nat) (s : State) : Res :=
  .next (
    let l := s.lane lane
    if !s.carries lane then s
    else if l.rev.toNat < 2 then s.bump (laneCnt lane 14) 1
    else
      let s := s.flushLane lane
      let s := s.modLane lane fun l => { l with trained := false, step := 6, deep := true, exT1 := none, exT2 := none, exT3 := none,
                                                slotTrig := none, trigWait := [] }
      if lane = 0 ∧ s.follower = true ∧ s.time.state = 2 then s.enterHoldover else s)

/-- SIGNAL_DETECTION: a lane in deep idle wakes (R367). -/
def execSignalDetection (lane : Nat) (s : State) : Res := .next (if s.rel 8 && s.link.refclk then s.wakeLane lane else s)

-- CAP (R365, R380, R382) -----------------------------------------------------------------------------------------------------------------------

/-- The CAP that the device sends on a lane. -/
def State.ownCap (s : State) (n : Nat) : Cap :=
  { maxRev := s.boot.linkRev, gen := BitVec.ofNat 2 (s.f (.lkLCfg n) 30 29), lane := BitVec.ofNat 6 n, node := s.ports.nodeId,
    epoch := s.link.inForce, major := BitVec.ofNat 8 (fld s.boot.fwVersion 31 24), seen := true }

/-- A fresh CAP on every trained lane. -/
def State.sendCaps (s : State) : State :=
  { s with out := s.out ++ (((List.range 48).filter s.carries).map fun n => Out.cap n (s.ownCap n)) }

/-- CAP: kept in step 3; on a trained lane one that differs in more than node ID and epoch restarts the lane at step 3 (R365). -/
def execCap (lane : Nat) (c : Cap) (s : State) : Res :=
  .next (
    let l := s.lane lane
    if !s.rel 8 || l.uplink then s
    else if l.trained then
      match l.cap with
      | some o =>
        if { c with node := o.node, epoch := o.epoch } = o then s.setLane lane { l with cap := some c, farNode := c.node }
        else (s.untrain lane).modLane lane fun l => { l with step := 3, cap := some c, farNode := c.node, lastStep := 2 }
      | none => s.setLane lane { l with cap := some c, farNode := c.node }
    else if l.step = 3 then s.setLane lane { l with cap := some c, farNode := c.node }
    else s)

/-- LINK_UNKNOWN: a KIND that the lane's revision lacks is ignored and counted (R363). -/
def execLinkUnknown (lane : Nat) (kind : Byte) (s : State) : Res :=
  .next (
    let known := decide (1 ≤ kind.toNat ∧ kind.toNat ≤ 9) || (kind == 0x0A && decide (2 ≤ (s.lane lane).rev.toNat))
    if s.rel 8 && s.hasLane lane && !(s.lane lane).uplink && !known then s.bump (laneCnt lane 14) 1 else s)

/-- DAMAGED_CODEWORD: its flits are lost, and so is every curd flit until a SLOT or FRAME flit comes (R369, R383). -/
def execDamagedCodeword (lane : Nat) (curdFlits : Bool) (s : State) : Res :=
  .next (if !s.carries lane then s
    else
      let s := s.bump (laneCnt lane 9) 1
      let s := s.modLane lane fun l => { l with deaf := true, exT2 := none, exT3 := none }
      if curdFlits then (s.bump (laneCnt lane 2) 1).raise 15 2 (at32 0 lane) else s)

-- rosters (R371, R374) --------------------------------------------------------------------------------------------------------------------------

/-- The roster that ROSTER_LOAD's words spell. -/
def rosterOfWords (ws : List Word) : Roster :=
  let slots := fld (pw ws 1) 31 24 + 1
  { slots, slotFlits := fld (pw ws 1) 19 8 + 1, reserve := fld (pw ws 1) 23 20, start := fld (pw ws 2) 20 0,
    owners := (List.range slots).map fun k =>
      BitVec.ofNat 16 (if k % 2 = 0 then fld (pw ws (3 + k / 2)) 31 16 else fld (pw ws (3 + k / 2)) 15 0) }

/-- A roster as words in the format of ROSTER_LOAD; a cleared one has two words. -/
def rosterWords (n dir : Nat) (r : Option Roster) : List Word :=
  let w0 := at32 8 dir ||| at32 0 n
  match r with
  | none => [w0, 0]
  | some r =>
    [w0, at32 24 (r.slots - 1) ||| at32 20 r.reserve ||| at32 8 (r.slotFlits - 1), at32 0 r.start] ++
      (List.range (cdiv r.slots 2)).map fun k => at32 16 (r.owners.getD (2 * k) 0).toNat ||| at32 0 (r.owners.getD (2 * k + 1) 0).toNat

/-- ROSTER_LOAD (R374). -/
def execRosterLoad (r : Req) (s : State) : Res :=
  .next (s.runOp 0x502 r (r.len == 2 || r.len == 3 + cdiv (fld (r.w 1) 31 24 + 1) 2) fun s =>
    let n := fld (r.w 0) 5 0
    let dir := fld (r.w 0) 8 8
    let ro := rosterOfWords r.payload
    let bad := r.len ≠ 2 ∧ (ro.slotFlits < 16 ∨ rosterFits (s.genOf n) s.time.period.toNat ro = false)
    if s.hasLane n = false ∨ bad then no s .outOfRange
    else needStep s 8 <|
      if s.sched.commit then no s .busy
      else yes (s.setSched fun q => { q with rosterDue := SMap.put q.rosterDue (2 * n + dir) (if r.len = 2 then none else some ro) }))

/-- ROSTER_READ (R374). -/
def execRosterRead (r : Req) (s : State) : Res :=
  .next (s.runOp 0x503 r true fun s =>
    let n := r.p 5 0
    let dir := r.p 8 8
    if !s.hasLane n then no s .outOfRange
    else needStep s 8 (tell s (rosterWords n dir (s.rosterOf false n dir))))

-- slots (R371 to R373) ----------------------------------------------------------------------------------------------------------------------------

/-- Emission entries of the active schedule whose time meets a slot. -/
def State.slotEntries (s : State) (n : Nat) (w : Slot) : List Entry :=
  s.sched.active.filter fun e => e.kind == 2 && e.cls == 1 && e.idx == n && w.used (s.f (.lkLCfg n) 30 29) e.start (e.start + e.dur)

/-- An owned slot that is free opens at the transmitter: it is claimed when curds wait for an entry that it meets, and the entries
under way insert theirs (R372). The state and FREE as it is sent. -/
def State.openOwned (s : State) (n : Nat) (w : Slot) : State × Bool :=
  let es := s.slotEntries n w
  let wait := s.sched.held.any fun h => es.any fun e => s.sendable n e.path h
  if es = [] ∨ s.time.aligned = false ∨ s.time.infForce = true then (s, true)
  else
    let s := s.modLane n fun l => { l with openSlots := SMap.put l.openSlots w.num 0 }
    (s.pumpLane n, !wait)

/-- The owner's SLOT flit and what it inserts after it: the flit leaves before the curds of its slot (R372). -/
def State.sendOwned (s : State) (n : Nat) (w : Slot) (number : Byte) (source : BitVec 16) (fn : FN) : State :=
  let (t, f) := s.openOwned n w
  { t with out := s.out ++ [Out.slot n number f source fn] ++ t.out.drop s.out.length }

/-- A slot at the transmitter of a lane, with its SLOT flit: its owner inserts or collides, every other device passes it (R372). -/
def State.passSlot (s : State) (n : Nat) (number : Byte) (free : Bool) (source : BitVec 16) (fn : FN) : State :=
  let s := s.flushLane n
  match (s.slotsNow n).find? fun w => w.num == number.toNat && (s.rosterNow n 0).isSome with
  | none => { s with out := s.out ++ [Out.slot n number free source fn] }
  | some w =>
    if !free then
      let s := (s.bump (laneCnt n 5) 1).raise 15 3 (at32 0 n)
      { s with out := s.out ++ [Out.slot n number false source fn] }
    else s.sendOwned n w number source fn

/-- The slot with the TRIG flits that it takes: RESERVE link flits of a roster (R372). -/
def State.slotAt (s : State) (n : Nat) (number : Byte) (free : Bool) (source : BitVec 16) (fn : FN) : State :=
  let t := s.passSlot n number free source fn
  match s.rosterNow n 0 with
  | none => t
  | some r => t.openTrigs n r.reserve (s.time.ct + BitVec.ofNat 64 (r.slotFlits * flitTime (s.f (.lkLCfg n) 30 29) * 512 / 100))

/-- The forward-out lane of a lane in force (R377). -/
def State.fwdLane (s : State) (n : Nat) : Option Nat := let k := s.f (.lkLCfg n) 21 16; if k = 0x3F then none else some k

/-- SLOT: ends the loss after damage, and opens the slot of the forward-out lane, whose SLOT_OFS is the time at which slot 0 opens there
(R369, R371, R372). -/
def execSlot (lane : Nat) (number : Byte) (free : Bool) (source : BitVec 16) (fn : FN) (s : State) : Res :=
  .next (if !s.carries lane then s
    else
      let s := s.modLane lane fun l => { l with deaf := false, slotSeen := true }
      match s.fwdLane lane with
      | none => s
      | some k =>
        if !s.carries k || (s.lane k).takeover then s
        else
          let ofs := (ctDiff s.time.ct s.tickCt / 512).toNat
          let s := if number = 0 then s.modLane k fun l => { l with slotOfs := BitVec.ofNat 21 ofs } else s
          s.slotAt k number free source fn)

/-- SLOT_OPEN: the slot source, or a device in TAKEOVER, opens a slot at its time after the tick; a lane without a roster has the one
slot of its sender, at 32 ns (R371, R373). -/
def execSlotOpen (lane number : Nat) (s : State) : Res :=
  .next (
    let l := s.lane lane
    let source := !(List.range 48).any fun k => s.f (.lkLCfg k) 21 16 == lane
    if !s.carries lane || !s.placesTicks || !(source || l.takeover) then s
    else
      let gen := s.f (.lkLCfg lane) 30 29
      let go (at_ : Nat) : State := s.advanceTo (s.tickCt + BitVec.ofNat 64 (at_ * 512 / 100))
      match s.rosterNow lane 0, s.slotsNow lane with
      | none, w :: _ =>
        if number ≠ 0 then s
        else ((go w.opening).flushLane lane).sendOwned lane w 0 s.ports.nodeId s.time.fn
      | none, [] => s
      | some r, _ =>
        if r.slots ≤ number then s
        else
          let first := if source then r.start else l.slotOfs.toNat
          (go (first * 100 + number * r.slotFlits * flitTime gen)).slotAt lane (BitVec.ofNat 8 number) true s.ports.nodeId s.time.fn)

/-- TAKEOVER: no SLOT flit on the forward-in lane for two frames (R373). -/
def execTakeover (lane : Nat) (s : State) : Res :=
  .next (if s.carries lane && !(s.lane lane).takeover && (s.rosterNow lane 0).isSome &&
      ((List.range 48).any fun k => s.f (.lkLCfg k) 21 16 == lane && decide (2 ≤ (s.lane k).slotQuiet)) then
      (s.modLane lane fun l => { l with takeover := true }).raise 15 5 (at32 0 lane)
    else s)

-- time exchange (R149, R150, R383) ------------------------------------------------------------------------------------------------------------------

/-- TIME_EXCHANGE_START, in the link interval: TRIG flits that wait, TS_SYNC stamped t1, a FRAME flit, and FRAME_SW while a switch is pending
(R16, R372, R383). -/
def execTimeExchangeStart (lane : Nat) (s : State) : Res :=
  .next (if !s.carries lane then s
    else
      let s := (s.flushLane lane).flushTrigs lane
      let seq := (s.lane lane).exSeq + 1
      let t := s.time
      let sw := match t.switch with | some w => [Out.frameSw lane w.fn (BitVec.ofNat 21 (s.switchPeriod w))] | none => []
      let s := s.modLane lane fun l => { l with exSeq := seq, exT1 := some t.ct, slotTrig := none }
      { s with out := s.out ++ [Out.tsSync lane seq, Out.frame lane t.period t.fn t.epoch t.aligned t.switch.isSome] ++ sw })

/-- TS_SYNC: stamped t2 and answered with TS_REQ, stamped t3 (R383). -/
def execTsSync (lane : Nat) (seq : Byte) (t2 : CT) (s : State) : Res :=
  .next (if !s.carries lane then s
    else
      let s := s.advanceTo t2
      let s := s.modLane lane fun l => { l with rxSeq := seq, exT2 := some t2, exT3 := some s.time.ct }
      { s with out := s.out ++ [Out.tsReq lane seq] })

/-- TS_REQ: stamped t4; TS_DATA with t1 and t4 − t1 is sent (R383). -/
def execTsReq (lane : Nat) (seq : Byte) (t4 : CT) (s : State) : Res :=
  .next (match (s.lane lane).exT1 with
    | some t1 =>
      if s.carries lane && (s.lane lane).exSeq == seq then
        let s := (s.advanceTo t4).modLane lane fun l => { l with exT1 := none }
        { s with out := s.out ++ [Out.tsData lane seq t1 (BitVec.ofInt 32 (ctDiff t4 t1))] }
      else s
    | none => s)

/-- TS_DATA completes an exchange: theta and rtt, on lane 0 of a follower for the servo, whose update comes before the next exchange counts
(R149, R383). -/
def execTsData (lane : Nat) (seq : Byte) (t1 : CT) (d41 : Word) (s : State) : Res :=
  .next (match (s.lane lane).exT2, (s.lane lane).exT3 with
    | some t2, some t3 =>
      if !s.carries lane || (s.lane lane).rxSeq != seq then s
      else
        let a : Int := (s.reg (.lkLAsym lane)).toInt
        let d : Int := d41.toNat
        let theta2 := ctDiff t2 t1 - (d - ctDiff t3 t1) - a
        let rtt := w32 (d - ctDiff t3 t2)
        let s := s.modLane lane fun l => { l with exT2 := none, exT3 := none, rtt }
        if lane = 0 ∧ s.follower = true ∧ s.time.state ≠ 0 then
          s.servo.setTime fun t => { t with rtt, thetas := t.thetas ++ [theta2] }
        else s
    | _, _ => s)

/-- FRAME: ends the loss after damage; on lane 0 it gives a follower P, FN, epoch and the upstream ALIGNED (R10, R13, R150, R369). -/
def execFrame (lane : Nat) (period : BitVec 21) (fn : FN) (epoch : Word) (aligned switchPending : Bool) (s : State) : Res :=
  .next (if !s.carries lane then s
    else
      let s := s.modLane lane fun l => { l with deaf := false }
      if lane ≠ 0 ∨ s.follower = false then s
      else
        let s := s.setTime fun t => { t with upSeen := true, upPeriod := period, upFn := fn, upEpoch := epoch, upAligned := aligned,
                                             upLt := t.lt }
        if !aligned then
          let s := s.clearAligned
          s.setTime fun t => { t with switch := if switchPending then t.switch else none, switchNow := false,
                                      infeasible := switchPending && t.infeasible, infShadow := switchPending && t.infShadow }
        else if s.time.state ≠ 0 ∧ (s.time.taken = false ∨ (s.time.fresh = false ∧ s.time.aligned = false)) then s.takeFrame
        else s)

/-- FRAME_SW: a follower checks the announced period and holds the switch; one that comes too late clears ALIGNED, and the FRAME flit
that follows gives P, O and FN afresh (R16, R17). -/
def execFrameSw (lane : Nat) (switchFn : FN) (nextPeriod : BitVec 21) (s : State) : Res :=
  .next (if !s.carries lane || decide (lane ≠ 0) || !s.follower || !s.time.taken then s
    else if s.time.switch = some { fn := switchFn, period := nextPeriod } then s
    else if sdiff 48 switchFn.toNat s.time.fn.toNat ≤ 0 then s.clearAligned.dropCommit
    else
      let a := s.activeAt nextPeriod.toNat
      let c := s.commitAt nextPeriod.toNat
      let s := s.setTime fun t =>
        { t with switch := some { fn := switchFn, period := nextPeriod }, infeasible := !a, infShadow := !c }
      if a && c then s else s.raise 5 12 0)

-- broadcasts and carriage ----------------------------------------------------------------------------------------------------------------------------

/-- TRIG: a broadcast not seen before is forwarded and offered to the local arbiter as source bit 8 (R219, R384). -/
def execTrigFlit (lane : Nat) (origin : BitVec 16) (sources : BitVec 10) (t : CT) (s : State) : Res :=
  .next (if !s.carries lane || s.link.trigSeen.contains (origin, t) then s
    else
      let s := (s.sendTrig origin sources t lane (List.range 48)).rememberTrig origin t
      if s.rel 5 && s.b .trSrcEn 8 then s.arbiter { t, sources := sources ||| 0x100, origin } else s)

/-- The oldest notice of a port as a NOTICE carriage curd on its lane (R103, R376). -/
def State.carryNotice (s : State) (p n : Nat) : State :=
  match (s.port p).notices with
  | [] => s
  | x :: xs => (s.setPort p { s.port p with notices := xs }).sendCarriage n 0x22 (noticeWords s.ports.nodeId x)

/-- CARRIAGE_SEND: the first carriage curd of a lane leaves, never within an emission entry of the lane; with none waiting, a notice of the
lane's port goes out (R376). -/
def execCarriageSend (lane : Nat) (s : State) : Res :=
  .next (if !s.carries lane || decide (s.emitting lane ≠ []) then s
    else
      let s := if (s.lane lane).carriage ≠ [] then s
        else if lane = 0 then s.carryNotice 2 0
        else if lane = s.ports.noticeLane then s.carryNotice 3 lane else s
      match (s.lane lane).carriage with
      | [] => s
      | c :: cs => (s.modLane lane fun l => { l with carriage := cs }).transmit lane c)

/-- The clock of a lane stands still (R422, R423). -/
def State.laneStopped (s : State) (n : Nat) : Bool := s.rel 8 && s.hasLane n && (!s.link.refclk || !(s.lane n).trained)

/-- The rest of the packet whose first carriage curd is lost (R376). -/
def dropPacket : List Curd → List Curd
  | [] => []
  | c :: cs => if ffld (c.payload.headD 0) 119 112 = 2 ∧ ffld (c.payload.headD 0) 127 120 = 0 then cs.drop 1 else cs

/-- CDC_DROP: a word for a FIFO whose reader clock has stopped is dropped and counted; the curd that loses it is discarded whole (R423). -/
def execCdcDrop (lane : Nat) (carriage : Bool) (s : State) : Res :=
  .next (if !s.laneStopped lane then s
    else
      let s := s.bump 0x48 1
      if carriage then s.modLane lane fun l => { l with carriage := dropPacket l.carriage }
      else
        match (s.lane lane).sending with
        | none => s
        | some c =>
          let s := s.modLane lane fun l => { l with sending := none }
          match s.pathOf c.rind.stream with
          | some p => s.lose p c
          | none => s)

-- enumeration and the feature epoch (R380, R382) -----------------------------------------------------------------------------------------------------

/-- ENUMERATE sets the node ID; every trained lane gets a fresh CAP (R24, R365, R380). The control pair holds the node ID, so no domain
need be released for it (DESIGN CHOICE: R78 does not say what the opcode reaches). -/
def execEnumerate (r : Req) (s : State) : Res :=
  .next (s.runOp 0x004 r true fun s =>
    let id := r.p 15 0
    if id = 0 ∨ id = 0xFFFF then no s .outOfRange
    else if r.len = 1 ∧ s.ports.nodeId ≠ 0 then no s .stateRefused
    else
      let t : State := { s with ports := { s.ports with nodeId := BitVec.ofNat 16 id } }
      if !s.protected t then no s .infeasible else yes t.sendCaps)

/-- The features that a mask asks for. -/
def maskFeatures (ws : List Word) : List Nat :=
  (List.range (32 * ws.length)).filter fun f => (ws.getD (f / 32) 0).getLsbD (f % 32)

/-- Why a PREPARE is refused: unknown features, and for feature 0 the trained lanes below revision 3 (R382). -/
def State.epochCauses (s : State) (fs : List Nat) : List Word :=
  ((fs.filter (· ≠ 0)).map fun f => 0x40000000 ||| BitVec.ofNat 32 f) ++
    (if fs.contains 0 then
      ((List.range 48).filter fun n => s.carries n && decide ((s.lane n).rev.toNat < 3)).map fun n =>
        0x80000000 ||| at32 16 n ||| at32 0 (s.lane n).rev.toNat
     else [])

/-- FEATURE_EPOCH (R382). -/
def execFeatureEpoch (r : Req) (s : State) : Res :=
  .next (s.runOp 0x005 r true fun s =>
    let ep := BitVec.ofNat 16 (fld (r.w 0) 15 0)
    match r.p 1 0 with
    | 0 =>
      if ep ≠ s.link.inForce + 1 then no s .outOfRange
      else needStep s 8 <|
        match s.epochCauses (maskFeatures (r.payload.drop 2)) with
        | [] => yes (s.setLink fun l => { l with prepared := ep, featuresPrep := r.payload.drop 2 })
        | ws => (s, some { status := .epochRefused, payload := ws })
    | 1 =>
      if sdiff 32 (r.w 1).toNat s.time.fn.toNat < 1024 then no s .outOfRange
      else needStep s 8 <|
        if s.link.prepared ≠ ep then no s .epochRefused
        else yes (s.setLink fun l => { l with commitFn := some (r.w 1) })
    | 2 => needStep s 8 (yes (s.setLink fun l => { l with prepared := l.inForce, commitFn := none, epochNow := false }))
    | _ => no s .outOfRange)

/-- EPOCH_SWITCH: at the tick of SWITCH_FN the epoch comes into force, and fresh CAPs go out (R365, R382). -/
def execEpochSwitch (s : State) : Res :=
  .next (if s.link.epochNow && s.link.commitFn.isSome then
      (s.setLink fun l => { l with inForce := l.prepared, features := l.featuresPrep, commitFn := none, epochNow := false }).sendCaps
    else s)

end Sys2Proof.Machine
end

