-- ==== Sys2Proof/Machine/Ports.lean ====
section
/-!
DEFINITION. The command ports: checks 1 to 3 and the queue (R105, R113, R115), requests for other nodes (R378, R380), the
management SPI transactions (R111, R112), CMD_DATA of the test access port (R446).
-/
namespace Sys2Proof.Machine

/-- The request that a packet's words spell, from the port and lane they came on (R100). -/
def reqOf (port lane : Nat) (ws : List Word) : BitVec 12 × Req :=
  let w0 := ws.getD 0 0
  let w1 := ws.getD 1 0
  let w2 := ws.getD 2 0
  (BitVec.ofNat 12 (fld w0 27 16),
   { port, lane, tag := BitVec.ofNat 16 (fld w0 15 0), node := BitVec.ofNat 16 (fld w1 15 0), flags := BitVec.ofNat 8 (fld w2 31 24),
     param := BitVec.ofNat 24 (fld w2 23 0), payload := (ws.drop 4).dropLast })

/-- A packet that is never executed because of a fault of it or of its carriage (R122 word 14). -/
def State.notExecuted (s : State) (counter : Nat) : State :=
  let s := s.bump counter 1
  { s with ports := { s.ports with unexecuted := stick16 s.ports.unexecuted } }

/-- A packet kept in a lane's carriage queue, its curds unchanged (R376, R378). -/
def State.sendCurds (s : State) (cs : List Curd) : List Nat → State
  | [] => s
  | n :: ns =>
    let l := s.lane n
    State.sendCurds (s.setLane n { l with carriage := l.carriage ++ cs }) cs ns

/-- A request packet of the device's own ports sent as REQUEST curds on lanes. -/
def State.sendRequest (s : State) (ws : List Word) : List Nat → State
  | [] => s
  | n :: ns => State.sendRequest (s.sendCarriage n 0x20 ws) ws ns

/-- Trained lanes whose DOWN is 1 (R378). -/
def State.downLanes (s : State) : List Nat := (List.range 48).filter fun n => s.carries n && s.b (.lkLCfg n) 25

/-- The ENUMERATE form that is a NODE 0x0000 request for a device on the chain (R380). -/
def chainEnumerate (op : BitVec 12) (r : Req) : Bool := op == 0x004 && r.len == 1 && r.node == 0

/-- The lanes on which a request goes out downward (R378, R380). -/
def State.downFor (s : State) (op : BitVec 12) (r : Req) (own : Bool) : List Nat :=
  let me := s.ports.nodeId
  if chainEnumerate op r then
    if me = 0 then []
    else if me.toNat = fld (r.w 0) 15 0 then
      let n := fld (r.w 0) 21 16
      if s.carries n then [n] else []
    else s.downLanes.filter fun n => (s.lane n).farNode != 0
  else if r.node = 0 ∨ r.node = me then []
  else if me = 0 ∧ own = false then []
  else s.downLanes

/-- The device executes the request (R115, R380). -/
def State.admits (s : State) (op : BitVec 12) (r : Req) : Bool :=
  let me := s.ports.nodeId
  if chainEnumerate op r then r.port == 2 && me == 0
  else r.node == me || r.node == 0xFFFF || (r.node == 0 && (r.port == 0 || r.port == 1 || r.port == 4 || me == 0))

/-- A whole packet at a port: checks 1 to 3 of R105, then its way by NODE (R113, R115, R378). -/
def State.takePacket (s : State) (port lane : Nat) (ws : List Word) : State :=
  let (op, r) := reqOf port lane ws
  let bad := 0x50018 + port * 0x40
  if fld (ws.getD 0 0) 31 28 ≠ 5 then s.notExecuted bad
  else if ws.length < 5 ∨ crcWords ws.dropLast ≠ ws.getLastD 0 then
    (s.notExecuted bad).deliver port lane r.tag (replyWords s.ports.nodeId op r.tag { status := .crcFail })
  else if ws.length ≠ fld (ws.getD 1 0) 31 16 + 5 ∨ 1026 < fld (ws.getD 1 0) 31 16 then s.reply op r { status := .badLength }
  else
    let own := port == 0 || port == 1 || port == 4
    let away := own && (chainEnumerate op r || (r.node != s.ports.nodeId && r.node != 0))
    let full := away && decide (64 ≤ s.ports.outstanding.length)
    let s := if away && !full then
        let lanes := s.downFor op r true
        let s : State := { s with ports := { s.ports with outstanding := s.ports.outstanding ++ [{ tag := r.tag, target := r.node, port }] } }
        s.sendRequest ws lanes
      else s
    if full && !r.broadcast then s.reply op r { status := .busy }
    else if s.admits op r then s.enqueue op r
    else s

/-- The port hardware runs: the control pair's domain is released and the ROM has started. -/
def State.portUp (s : State) : Bool := s.rel 4 && s.boot.romOn

/-- PACKET_RECEIVE: a whole packet arrives at a port that the interpreter serves (R94, R105, R113, R451). -/
def execPacketReceive (port lane : Nat) (words : List Word) (s : State) : Res :=
  .next (if s.portUp && decide (port < 5) && s.portServes port then s.takePacket port lane words else s)

-- management SPI -----------------------------------------------------------------------------------------------------------------

/-- WRITE: one packet, discarded while 16 replies wait (R111, R112). -/
def execMgmtWrite (words : List Word) (s : State) : Res :=
  .next (if !s.portUp then s
    else if 16 ≤ (s.port 0).replies.length then
      (s.setPort 0 { s.port 0 with discarded := true }).notExecuted 0x50028
    else s.takePacket 0 0 words)

/-- A READ shifts out a notice: one that a READ has begun before, or the oldest where no reply waits (R111, R112). -/
def Port.atNotice (q : Port) : Bool := (q.begun || q.replies.isEmpty) && !q.notices.isEmpty

/-- The words of the packet that a READ shifts out: the one begun before, else the oldest reply, else the oldest notice (R111, R112). -/
def State.front (s : State) (p : Nat) : Option (List Word) :=
  let q := s.port p
  if q.atNotice then q.notices.head?.map (noticeWords s.ports.nodeId) else q.replies.head?

/-- The packet that READ shifted out whole leaves the port (R112). -/
def State.dropFront (s : State) (p : Nat) : State :=
  let q := s.port p
  s.setPort p (if q.atNotice then { q with notices := q.notices.drop 1, begun := false } else q.dropReply)

/-- READ: the oldest packet is shifted out and leaves once its trailer is out; zero words with nothing waiting (R111, R112). -/
def execMgmtRead (complete : Bool) (s : State) : Res :=
  .next (if !s.portUp then s
    else match s.front 0 with
      | none => { s with out := s.out ++ [.spi [0]] }
      | some ws =>
        if complete then ({ s with out := s.out ++ [.spi ws] } : State).dropFront 0
        else ({ s with out := s.out ++ [.spi ws.dropLast] } : State).setPort 0 { s.port 0 with begun := (s.port 0).atNotice })

/-- STATUS: one byte, which also ends the discard mark (R111). -/
def execMgmtStatus (s : State) : Res :=
  .next (if !s.portUp then s
    else
      let q := s.port 0
      let b := (if q.replies = [] then 0 else 0x80) + (if q.notices = [] then 0 else 0x40) + (if q.discarded then 0x20 else 0) +
        q.replies.length
      ({ s with out := s.out ++ [.spiStatus (BitVec.ofNat 8 b)] } : State).setPort 0 { q with discarded := false })

-- JTAG ----------------------------------------------------------------------------------------------------------------------------

/-- Capture-DR of CMD_DATA: the next word of the oldest reply or notice with bit [32] set, or bit [32] clear (R446). -/
def execCmdDataCapture (s : State) : Res :=
  .next (if s.test.ir ≠ 0x20 ∨ s.portUp = false then s
    else
      let q := s.port 1
      let i := s.ports.jtagTx
      let note := if i = 0 then decide (q.replies = []) else s.ports.jtagNotice
      let pkt : Option (List Word) := if note then q.notices.head?.map (noticeWords s.ports.nodeId) else q.replies.head?
      match pkt with
      | none => { s with out := s.out ++ [.jtag false 0] }
      | some ws =>
        let s : State := { s with out := s.out ++ [.jtag true (ws.getD i 0)] }
        if i + 1 < ws.length then { s with ports := { s.ports with jtagTx := i + 1, jtagNotice := note } }
        else
          let s := { s with ports := { s.ports with jtagTx := 0, jtagNotice := false } }
          s.setPort 1 (if note then { q with notices := q.notices.drop 1 } else q.dropReply))

/-- Update-DR of CMD_DATA with bit [32] at 1 appends a word; the packet ends with its trailer as LENGTH gives (R446). -/
def execCmdDataUpdate (valid : Bool) (w : Word) (s : State) : Res :=
  .next (if s.test.ir ≠ 0x20 ∨ s.portUp = false ∨ valid = false then s
    else
      let ws := s.ports.jtagRx ++ [w]
      if ws.length < 2 ∨ ws.length < fld (ws.getD 1 0) 31 16 + 5 then { s with ports := { s.ports with jtagRx := ws } }
      else
        let s := { s with ports := { s.ports with jtagRx := [] } }
        if 16 ≤ (s.port 1).replies.length then (s.setPort 1 { s.port 1 with discarded := true }).notExecuted 0x50068
        else s.takePacket 1 0 ws)

/-- OUTSTANDING_TIMEOUT: an entry is freed after 1 s (R378). -/
def execOutstandingTimeout (tag node : BitVec 16) (s : State) : Res :=
  .next { s with ports := { s.ports with outstanding := eraseFirst (fun o => o.tag == tag && o.target == node) s.ports.outstanding } }

end Sys2Proof.Machine
end

