-- ==== Sys2Proof/Machine/Receive.lean ====
section
/-!
DEFINITION. Where received curds go (R369, R370, R375 to R379): checks and sequence numbers, segment forwarding, carriage packets with the
chain's requests, replies and notices, strangers, merge, kernels, relay.
-/
namespace Sys2Proof.Machine

/-- The last SEQ of a stream on a lane noted; the step g of R370 with the streams, least recently used first. -/
def noteSeq (l : List (Nat × BitVec 16)) (key : Nat) (seq : BitVec 16) : Option Nat × List (Nat × BitVec 16) :=
  match l.find? fun x => x.1 == key with
  | some (_, last) => (some (seq - last - 1).toNat, (l.filter fun x => x.1 != key) ++ [(key, seq)])
  | none => (none, (if 64 ≤ l.length then l.drop 1 else l) ++ [(key, seq)])

/-- A received curd's sequence number is tracked (R370); whether it reveals a gap. -/
def State.trackSeq (s : State) (n : Nat) (c : Curd) : State × Bool :=
  let (g, l) := noteSeq (s.lane n).streams c.key c.rind.seq
  let s := s.modLane n fun x => { x with streams := l }
  match g with
  | none => (s, false)
  | some g =>
    if g = 0 then (s, false)
    else if g < 32768 then (s.bump (laneCnt n 4) g, true)
    else (s.bump (laneCnt n 13) 1, false)

-- carriage (R376, R378) ------------------------------------------------------------------------------------------------------------------------

/-- The command port of a lane (R107). -/
def lanePort (n : Nat) : Nat := if n = 0 then 2 else 3

/-- Words that a carriage curd holds behind its first flit. -/
def carriageWords (c : Curd) : List Word := (c.payload.drop 1).flatMap flitWords

/-- The packet that a carriage curd completes, with the curds it came in; a first part waits, and a part whose other part is lost is
discarded (R376). -/
def State.joinParts (s : State) (n : Nat) (c : Curd) : State × Option (List Word × List Curd) :=
  let h := c.payload.headD 0
  let part := ffld h 127 120
  let parts := ffld h 119 112
  let size := ffld h 111 96
  let set (l : List (Nat × Curd)) : State := { s with ports := { s.ports with parts := l } }
  let same (x : Nat × Curd) : Bool := x.1 == n && x.2.rind.source == c.rind.source && x.2.rind.type == c.rind.type
  let others := s.ports.parts.filter fun x => !same x
  if parts = 1 then (s, some ((carriageWords c).take size, [c]))
  else if parts = 2 ∧ part = 0 then (set (others ++ [(n, c)]), none)
  else
    match s.ports.parts.find? same with
    | some (_, a) =>
      if part = 1 ∧ parts = 2 ∧ c.rind.seq = a.rind.seq + 1 then
        (set others, some ((((carriageWords a).take 1016) ++ carriageWords c).take size, [a, c]))
      else (set others, none)
    | none => (s, none)

/-- A REQUEST: executed where R115 admits it, and forwarded downward unchanged (R378, R380); a segment forwards it itself (R377). -/
def State.request (s : State) (n : Nat) (ws : List Word) (cs : List Curd) (segment : Bool) : State :=
  let port := lanePort n
  let (op, r) := reqOf port n ws
  let lanes := if segment then [] else s.downFor op r false
  let s := s.sendCurds cs lanes
  if s.admits op r && (!segment || r.node == s.ports.nodeId || r.broadcast || chainEnumerate op r) then s.takePacket port n ws else s

/-- The notice that a packet's words spell. -/
def noticeOf (ws : List Word) : Notice :=
  let w (i : Nat) : Word := ws.getD i 0
  { block := fld (w 2) 23 16, code := BitVec.ofNat 16 (fld (w 2) 15 0), tag := BitVec.ofNat 16 (fld (w 0) 15 0),
    ct := w 4 ++ w 5, count := w 6, detail := w 7, node := some (BitVec.ofNat 16 (fld (w 1) 15 0)) }

/-- A notice of the chain handed to a port, unless 32 wait there (R126, R378). -/
def State.handNotice (s : State) (p : Nat) (x : Notice) : State :=
  let q := s.port p
  if p = 4 ∧ s.uplink.up = true ∧ q.notices = [] then s.sendDatagram s.ports.noticePeer (noticeWords s.ports.nodeId x)
  else if 32 ≤ q.notices.length then s.bump (0x50020 + p * 0x40) 1
  else s.setPort p { q with notices := q.notices ++ [x] }

/-- A REPLY on a DOWN lane: to the port of the outstanding request that it answers, else upward, else nowhere (R378). -/
def State.replyIn (s : State) (ws : List Word) (cs : List Curd) : State :=
  let tag := BitVec.ofNat 16 (fld (ws.getD 0 0) 15 0)
  let node := BitVec.ofNat 16 (fld (ws.getD 1 0) 15 0)
  match s.ports.outstanding.find? fun o => o.tag == tag && (o.target == node || o.target == 0) with
  | some o =>
    ({ s with ports := { s.ports with outstanding := s.ports.outstanding.erase o } } : State).deliver o.port 0 tag ws
  | none => if s.carries 0 then s.sendCurds cs [0] else s

/-- A NOTICE on a DOWN lane: upward, or to the port in LK_NOTICE_PORT where lane 0 is not trained (R378). -/
def State.noticeIn (s : State) (ws : List Word) (cs : List Curd) : State :=
  if s.carries 0 then s.sendCurds cs [0] else s.handNotice (s.f .lkNoticePort 2 0) (noticeOf ws)

/-- A carriage curd (R376, R378). -/
def State.carriageIn (s : State) (n : Nat) (c : Curd) (segment : Bool) : State :=
  let down := n ≠ 0 ∧ s.b (.lkLCfg n) 25 = true
  match s.joinParts n c with
  | (s, none) => s
  | (s, some (ws, cs)) =>
    match c.rind.type.toNat with
    | 0x20 => s.request n ws cs segment
    | 0x21 => if down ∧ segment = false then s.replyIn ws cs else s
    | _ => if down ∧ segment = false then s.noticeIn ws cs else s

-- strangers (R375) --------------------------------------------------------------------------------------------------------------------------------

/-- The curd is a stranger on its lane. -/
def State.stranger (s : State) (n : Nat) (c : Curd) : Bool :=
  (match s.rosterNow n 1 with | some r => !r.owners.contains c.rind.source | none => false) ||
    decide ((s.lane n).rev.toNat < c.rind.rev.toNat)

/-- A stranger counted; LK_STRANGER at most once per frame, whatever the lane (R375). -/
def State.countStranger (s : State) (n : Nat) : State :=
  let s := s.bump (laneCnt n 6) 1
  if s.link.lane.any fun c => c.2.strangerNow then s else (s.modLane n fun l => { l with strangerNow := true }).raise 15 4 (at32 0 n)

/-- A stranger's rind enters the quarantine FIFO of 16. -/
def State.quarantine (s : State) (n : Nat) (c : Curd) : State :=
  if 16 ≤ s.link.quarantine.length then s.raise 15 8 (at32 0 n)
  else s.setLink fun l => { l with quarantine := l.quarantine ++ [(c.rind.bits, n)] }

-- delivery and relay (R377, R379) -------------------------------------------------------------------------------------------------------------------

/-- Bytes of relayed curds held. -/
def State.relayed (s : State) : Nat := ((s.sched.held.filter fun h => h.kind == 1).map (·.bytes)).sum

/-- A curd held for relaying, or discarded for want of space (R379). -/
def State.relay (s : State) (n p : Nat) (c : Curd) : State :=
  let size := s.f .lkRelay 28 16 * 4096
  if size < s.relayed + curdBytes c then ((s.lose p c).bump (laneCnt n 12) 1).raise 15 7 (at32 0 n)
  else s.hold { curd := c, path := p, kind := 1, lane := n, bytes := curdBytes c }

/-- The consumer of a type on this device is a kernel: EXCHANGE curds where the active schedule runs FX_CTURN (R300). -/
def State.kernelType (s : State) (type : Nat) : Bool := type == 0x11 && s.ctn.isSome

/-- A curd whose type is that of an enabled path: merged, late, delivered, or relayed (R35, R308, R377). -/
def State.onPath (s : State) (n p : Nat) (c : Curd) (gap : Bool) : State :=
  if s.isMerged p then s.mergeTake n p c gap
  else if s.isLate p c then s.lose p c
  else if s.kernelType c.rind.stream then (if c.rind.type = 1 then s else s.deliverExchange c)
  else s.relay n p c

/-- The rows of R377 from the stranger row on. -/
def State.settleCurd (s : State) (n : Nat) (c : Curd) (gap : Bool) : State :=
  let odd := s.stranger n c
  let s := if odd then s.countStranger n else s
  if odd ∧ s.f (.lkLCfg n) 27 26 = 1 then s.bump (laneCnt n 7) 1
  else if odd ∧ s.f (.lkLCfg n) 27 26 = 2 then s.quarantine n c
  else match s.pathOf c.rind.stream with
    | some p => s.onPath n p c gap
    | none => if odd then s else s.unpathed c n

/-- A type that travels in carriage. -/
def isCarriage (c : Curd) : Bool := decide (0x20 ≤ c.rind.type.toNat ∧ c.rind.type.toNat ≤ 0x22)

/-- CURD_RECEIVE: the first row of R369 that applies, then the first of R377. -/
def execCurdReceive (lane : Nat) (c : Curd) (crcOk : Bool) (s : State) : Res :=
  .next (if !s.carries lane || (s.lane lane).deaf then s
    else if !crcOk || c.rind.length == 0 || decide (c.payload.length ≠ c.rind.length.toNat) then s.bump (laneCnt lane 3) 1
    else
      let s := s.bump (laneCnt lane 0) 1
      let (s, gap) := s.trackSeq lane c
      match s.fwdLane lane with
      | some k =>
        let s := if s.carries k then s.transmit k c else s.bump (laneCnt lane 15) 1
        if isCarriage c then s.carriageIn lane c true else s
      | none => if isCarriage c then s.carriageIn lane c false else s.settleCurd lane c gap)

end Sys2Proof.Machine
end

