-- ==== Sys2Proof/Machine/Region.lean ====
section
/-! DEFINITION. Memory regions (R330 to R332, R346): REGION_SET with the functions that use a range, the end of init, REGION_READ. -/
namespace Sys2Proof.Machine

/-- Two ranges share a byte. -/
def meet (a b : Nat × Nat) : Bool := decide (a.1 < b.2 ∧ b.1 < a.2 ∧ a.1 < a.2 ∧ b.1 < b.2)

/-- The range of the transient buffer for values of its registers: space and range (R223). -/
def State.tbRange (s : State) (cfg sram : Word) : Bool × (Nat × Nat) :=
  if s.isF || cfg.getLsbD 30 then
    let lo := 0x42000000 + fld sram 11 0 * 4096
    (false, (lo, lo + fld sram 28 16 * 4096))
  else let g := s.region (fld cfg 5 0); (!g.sram, (g.base, g.base + g.size))

/-- The merge ring for a value of SC_MERGE_CFG and of SC_MERGE_SLOT (R311). -/
def State.mergeRange (s : State) (cfg slot : Word) : Nat × Nat :=
  let g := s.region (fld cfg 5 0)
  (g.base, g.base + fld cfg 13 8 * (fld slot 19 0 * 1024))

/-- Vat ranges of the parameter-block copies of a schedule (R331). -/
def Plan.ranges (q : Plan) : List (Nat × Nat) :=
  q.params.flatMap fun c =>
    if c.handle = 1 then (pfbOf c.words).ranges q.p
    else if c.handle = 2 then (ctnOf c.words).ranges q.sf
    else []

/-- Every range that a function in force or pending uses, with its space (R331). -/
def State.inUse (s : State) : List (Bool × (Nat × Nat)) :=
  let tb (cfg sram : Word) : List (Bool × (Nat × Nat)) := if cfg.getLsbD 31 then [s.tbRange cfg sram] else []
  let mg (cfg slot : Word) : List (Bool × (Nat × Nat)) := if cfg.getLsbD 31 then [(true, s.mergeRange cfg slot)] else []
  let st (cfg stage : Word) : List (Bool × (Nat × Nat)) :=
    if cfg.getLsbD 0 then
      let lo := 0x42000000 + fld stage 11 0 * 4096
      [(false, (lo, lo + fld stage 28 16 * 4096))]
    else []
  let p := s.time.period.toNat
  tb (s.reg .trTbCfg) (s.reg .trTbSram) ++ tb (s.regW .trTbCfg) (s.regW .trTbSram) ++
    mg (s.reg .scMergeCfg) (s.reg .scMergeSlot) ++ mg (s.regW .scMergeCfg) (s.regW .scMergeSlot) ++
    st (s.reg .hbCfg) (s.reg .hbStage) ++ st (s.regW .hbCfg) (s.regW .hbStage) ++
    ((s.activePlan p).ranges ++ (if s.sched.commit && s.sched.swapDue then (s.commitPlan s.nextPeriod).ranges else [])).map fun r => (true, r)

/-- A function uses a byte of a region. -/
def State.regionUsed (s : State) (g : Region) : Bool :=
  s.inUse.any fun u => u.1 == !g.sram && meet u.2 (g.base, g.base + g.size)

/-- The range lies in present and trained stacks, or in global SRAM (R331). -/
def State.regionPlace (s : State) (g : Region) : Bool :=
  if g.sram then decide (0x42000000 ≤ g.base ∧ g.base + g.size ≤ 0x43000000)
  else s.vatRange g.base (g.base + g.size) &&
    (List.range 4).all fun k => s.stackUp k || decide (g.base + g.size ≤ k * stackBytes ∨ (k + 1) * stackBytes ≤ g.base)

/-- The OUT_OF_RANGE rows of R331 for a definition. -/
def State.regionBad (s : State) (n : Nat) (g : Region) (cls owner : Nat) : Bool :=
  let unit := if g.sram then 4096 else 2 ^ 20
  decide (cls = 3 ∨ 4 < owner ∨ g.ceLimit = 0 ∨ g.base % unit ≠ 0 ∨ g.size % unit ≠ 0) || !s.regionPlace g ||
    s.vat.regions.any fun c => decide (c.1 ≠ n) && decide (c.2.state ≠ 0) && c.2.sram == g.sram &&
      meet (c.2.base, c.2.base + c.2.size) (g.base, g.base + g.size)

/-- The words of a class-M region of SRAM keep its tag when it is deleted or moved away (R328, R336). -/
def State.leaveTags (s : State) (g : Region) : State :=
  if g.sram && g.state == 2 && g.cls == 1 then { s with vat := { s.vat with stale := (g.base, g.base + g.size) :: s.vat.stale } } else s

/-- REGION_SET (R330 to R332). -/
def execRegionSet (r : Req) (s : State) : Res :=
  .next (s.runOp 0x210 r true fun s =>
    let n := fld (r.w 0) 5 0
    let old := s.region n
    let base := (r.w 2).toNat * 2 ^ 32 + (r.w 1).toNat
    let size := (r.w 4).toNat * 2 ^ 32 + (r.w 3).toNat
    let w := r.w 5
    let g : Region :=
      { base, size, sram := (r.w 0).getLsbD 8, cls := BitVec.ofNat 2 (fld (r.w 0) 13 12), owner := fld (r.w 0) 18 16,
        ceLimit := fld w 23 16, spareMax := fld w 11 8, scrub := w.getLsbD 2, spareEn := w.getLsbD 1, wbOnCe := w.getLsbD 0, state := 1,
        spares := old.spares }
    let moved := decide (old.base ≠ g.base ∨ old.size ≠ g.size ∨ old.sram ≠ g.sram ∨ old.cls ≠ g.cls ∨ old.state = 0)
    if r.w 6 ≠ 0 ∨ r.w 7 ≠ 0 then no s .outOfRange
    else if size ≠ 0 && s.regionBad n g (fld (r.w 0) 13 12) g.owner then no s .outOfRange
    else needStep s 6 <|
      if (size = 0 ∨ moved = true) ∧ old.state ≠ 0 ∧ s.regionUsed old = true then no s .stateRefused
      else if old.state = 1 then no s .busy
      else if size = 0 then
        let t := if old.state = 0 then s else s.freeRange (!old.sram) old.base (old.base + old.size)
        yes ((t.leaveTags old).setRegion n {})
      else if moved then yes ((s.leaveTags old).setRegion n g)
      else yes (s.setRegion n { g with state := old.state }))

/-- REGION_READY: init has written zero with a valid code into every word (R332). -/
def execRegionReady (region : Nat) (s : State) : Res :=
  .next (
    let g := s.region region
    if g.state ≠ 1 then s
    else
      let v := !g.sram
      let hi := g.base + g.size
      let s := (s.freeRange v g.base hi).retag v g.base hi
      let s := s.setPoison v ((s.poison v).filter fun c => !decide (g.base ≤ c.1 ∧ c.1 < hi))
      let s := s.setMem v (zeroRange (s.mem v) g.base hi)
      (s.setRegion region { g with state := 2 }).raise 12 1 (at32 0 region))

/-- The words of a region (R330). -/
def regionWords (n : Nat) (g : Region) : List Word :=
  [at32 16 g.owner ||| at32 12 g.cls.toNat ||| bit32 8 g.sram ||| at32 0 n, lo32 g.base, hi32 g.base, lo32 g.size, hi32 g.size,
   at32 16 g.ceLimit ||| at32 8 g.spareMax ||| bit32 2 g.scrub ||| bit32 1 g.spareEn ||| bit32 0 g.wbOnCe,
   at32 8 g.spares ||| at32 0 g.state.toNat, 0]

/-- REGION_READ (R330). -/
def execRegionRead (r : Req) (s : State) : Res :=
  .next (s.runOp 0x211 r true fun s => needStep s 6 (tell s (regionWords (r.p 5 0) (s.region (r.p 5 0)))))

end Sys2Proof.Machine
end

