-- ==== Sys2Proof/Machine/Test.lean ====
section
/-!
DEFINITION. Test access: the JTAG instruction register and scan control (R444, R445), BIST (R447), the test multiplexers
(R448 to R450).
-/
namespace Sys2Proof.Machine

/-- Test access replaced. -/
def State.setTest (s : State) (f : TestAccess → TestAccess) : State := { s with test := f s.test }

/-- A JTAG code as it selects: one that is not listed selects BYPASS (R444). -/
def jtagCode (c : Byte) : Byte :=
  if c ∈ ([0x00, 0x01, 0x02, 0x03, 0x04, 0x08, 0x09, 0x20] : List Byte) then c else 0xFF

/-- The test access port runs: VDD_CTRL and VDD_IO are good (R57, R444). -/
def State.tapOn (s : State) : Bool := !s.power.off && s.power.good.getLsbD 2 && s.power.good.getLsbD 9

/-- Enabled lanes start bring-up when the balls come back (R445). -/
def State.lanesBack (s : State) : List Nat → State
  | [] => s
  | n :: ns => State.lanesBack (if s.laneEn n && !(s.lane n).uplink then s.startLane n else s) ns

/-- An instruction comes into force: under scan control every trained lane falls, and when the balls come back every lane with
EN 1 starts bring-up again (R445). -/
def State.loadIr (s : State) (c : Byte) : State :=
  let was := scanCode s.test.ir
  let now := scanCode c
  let t := s.setTest fun q => { q with ir := c }
  let lanes := List.range s.res.lanes
  if !s.rel 8 then t
  else if now && !was then t.dropLanes lanes
  else if was && !now then t.lanesBack lanes
  else t

/-- JTAG_INSTRUCTION: a code is loaded (R444, R445). -/
def execJtagInstruction (code : Byte) (s : State) : Res :=
  .next (if s.tapOn then s.loadIr (jtagCode code) else s)

/-- TEST_LOGIC_RESET: TRST_N low or five TCK cycles with TMS high select IDCODE (R444). -/
def execTestLogicReset (s : State) : Res := .next (if s.tapOn then s.loadIr 0x02 else s)

-- BIST (R447) ---------------------------------------------------------------------------------------------------------------------

/-- A register bit is set in force or in a value that waits. -/
def State.either (s : State) (r : Reg) (i : Nat) : Bool := s.b r i || (s.regW r).getLsbD i

/-- The conditions that refuse a BIST_RUN by state (R447). -/
def bistRefused (s : State) (mask : Nat) : Bool :=
  decide (s.sched.active ≠ []) || s.sched.commit || s.time.ticking ||
  (mask.testBit 3 && ((List.range 48).any (fun n => s.either (.lkLCfg n) 31) || s.either .euCfg 31)) ||
  (mask.testBit 4 && (List.range 48).any fun n => s.either (.caChCfg n) 0) ||
  (mask.testBit 5 && s.vat.regions.any fun g => !g.2.sram && g.2.state != 0)

/-- The step of R77 that releases what a target tests (R78, R447). -/
def bistStep : Nat → Nat
  | 0 => 5 | 1 => 11 | 2 => 8 | 3 => 8 | 4 => 9 | _ => 6

/-- BIST_RUN: it starts with SERVICE at 0, and the reply comes at its end (R137, R447). -/
def execBistRun (r : Req) (s : State) : Res :=
  .next (s.runOp 0xF00 r true fun s =>
    let m := (r.w 0).toNat
    if m = 0 ∨ 64 ≤ m then no s .outOfRange
    else if !(List.range 6).all (fun i => !m.testBit i || s.rel (bistStep i)) then no s .clockStopped
    else if bistRefused s m then no s .stateRefused
    else if s.test.bist.isSome then no s .busy
    else
      let s := s.setTest fun q => { q with bist := some (r, BitVec.ofNat 6 m) }
      let s : State := { s with pair := { s.pair with service := some (s.b .cpCtrl 0) },
                                ports := { s.ports with long := s.ports.long ++ [{ op := 0xF00, res := 0, req := r }] } }
      (s.setReg .cpCtrl (s.reg .cpCtrl &&& 0xFFFFFFFE), none))

/-- n instruction slots whose content the manual leaves open after their test. -/
def freeStore (seed : Nat) : SMap (BitVec 64) :=
  (List.range 2048).foldl (fun m i => SMap.set 0 m i (BitVec.ofNat 64 (Config.freeNat (seed + i)))) []

/-- The stores of the clusters of a list after their test. -/
def State.freeStores (s : State) : List Nat → State
  | [] => s
  | c :: cs =>
    let cl := { SMap.get {} s.engines.cl c with store := freeStore s.free }
    State.freeStores { s with engines := { s.engines with cl := SMap.set {} s.engines.cl c cl }, free := s.free + 2048 } cs

/-- BIST_DONE: the targets that failed, the first failure's place; SRAM is left zero, instruction stores hold what nobody states,
stacks likewise, where no region lets it be seen; SERVICE comes back (R137, R327, R447). -/
def execBistDone (failed : BitVec 6) (target : BitVec 4) (unit : BitVec 12) (addr : Word) (s : State) : Res :=
  .next (match s.test.bist with
    | none => s
    | some (r, mask) =>
      let f := failed &&& mask
      let w1 : Word := if f = 0 then BitVec.ofNat 32 s.freeVal else at32 28 target.toNat ||| at32 16 unit.toNat
      let w2 : Word := if f = 0 then BitVec.ofNat 32 (s.freeVal / 2 ^ 32) else addr
      let s := if f = 0 then s.draw else s
      let s := if mask.getLsbD 0 then { s with window := [], vat := { s.vat with poisonWin := [], stale := [] } } else s
      let s := if mask.getLsbD 1 then s.freeStores (List.range s.res.clusters) else s
      let s : State := { s with ports := { s.ports with long := s.ports.long.filter fun l => l.op != 0xF00 },
                                pair := { s.pair with service := none },
                                test := { s.test with bist := none, result := f } }
      |> fun t => t.setReg .cpCtrl ((t.reg .cpCtrl &&& 0xFFFFFFFE) ||| bit32 0 (s.pair.service.getD false))
      let s := s.raise 18 0 0
      let s := if f = 0 then s else s.raise 18 1 0
      s.reply 0xF00 r { status := .ok, payload := [f.setWidth 32, w1, w2] })

-- test multiplexers (R448 to R450) --------------------------------------------------------------------------------------------------

/-- A code of an ATEST ball that is listed and names nothing removed (R448). -/
def atestOk (s : State) (c : Nat) : Bool :=
  c == 0 || decide (1 ≤ c ∧ c ≤ 0x30 ∧ c ≤ s.res.channels) || decide (0x40 ≤ c ∧ c ≤ 0x43) || decide (0x48 ≤ c ∧ c ≤ 0x52) ||
  c == 0x58

/-- GROUP and INDEX of the digital multiplexer are admitted: groups only on K48-D128S, the channel or lane present (R449). -/
def dtestOk (s : State) (group index : Nat) : Bool :=
  group == 0 ||
  (s.res.role == 5 && decide (group ≤ 5) && !(group == 2 && decide (s.res.channels ≤ index)) &&
    !(group == 3 && decide (s.res.lanes ≤ index)))

/-- A write of TD_ATEST_SEL (R448, R450). -/
def wrAtest (s : State) (v : Word) : Except Status State :=
  if !atestOk s (fld v 7 0) || !atestOk s (fld v 15 8) then .error .outOfRange
  else if s.test.bist.isSome then .error .busy
  else .ok (s.setReg .tdAtestSel (v &&& 0xFFFF))

/-- A write of TD_DTEST_SEL (R449, R450). -/
def wrDtest (s : State) (v : Word) : Except Status State :=
  if !dtestOk s (fld v 4 0) (fld v 13 8) then .error .outOfRange
  else if s.test.bist.isSome then .error .busy
  else .ok (s.setReg .tdDtestSel (v &&& 0x3F1F))

/-- TESTMUX_SET writes both registers and returns what they held (R450). -/
def execTestmuxSet (r : Req) (s : State) : Res :=
  .next (s.runOp 0xF01 r true fun s =>
    let w := r.w 0
    let old : Word := at32 24 (s.f .tdDtestSel 13 8) ||| at32 16 (s.f .tdDtestSel 4 0) ||| at32 0 (s.f .tdAtestSel 15 0)
    let e := wrAtest s (at32 0 (fld w 15 0))
    match e with
    | .error st => no s st
    | .ok t =>
      match wrDtest t (at32 8 (fld w 29 24) ||| at32 0 (fld w 20 16)) with
      | .error st => no s st
      | .ok t => tell t [old])

/-- TD_STATUS. -/
def tdStatus (s : State) : Word :=
  bit32 31 s.test.bist.isSome ||| bit32 30 (scanCode s.test.ir) ||| s.test.ir.setWidth 32

end Sys2Proof.Machine
end

