-- ==== Sys2Proof/Machine/Uplink.lean ====
section
/-!
DEFINITION. The Ethernet uplink (R387 to R399): lanes given to it, link up and down, received frames with ARP, command datagrams and PTP,
and the PTP client's estimates for the time core (R12, R148, R398).
-/
namespace Sys2Proof.Machine

/-- The uplink record replaced. -/
def State.setUp (s : State) (f : Uplink → Uplink) : State := { s with uplink := f s.uplink }

-- EU_CFG (R387, R388) ------------------------------------------------------------------------------------------------------------------------

/-- Lanes that a value of EU_CFG names. -/
def euLanes (v : Word) : List Nat :=
  let n := fld v 21 16
  if fld v 30 29 = 2 then [n, n + 1, n + 2, n + 3] else [n]

/-- The link goes down: a datagram under way is cut off, and the curds whose last octet it carried are lost (R388, R395). -/
def State.uplinkDown (s : State) : State :=
  if !s.uplink.up then s
  else
    let f := s.uplink.flight
    let s := (s.setUp fun u => { u with up := false, fecLock := false, flight := none }).raise 16 1 0
    match f with
    | none => s
    | some (_, _, _, hs) => ((s.bump 0x580128 1).raise 16 2 0).loseAll hs

/-- Lanes given to the uplink, or given back. -/
def State.giveLanes (s : State) (on : Bool) : List Nat → State
  | [] => s
  | n :: ns => State.giveLanes (s.modLane n fun l => { l with uplink := on }) on ns

/-- A value of EU_CFG comes into force (R388). -/
def State.applyEu (s : State) (v : Word) : State :=
  let old := s.reg .euCfg
  let s := s.setReg .euCfg v
  if v.getLsbD 31 && !old.getLsbD 31 then s.giveLanes true (euLanes v)
  else if !v.getLsbD 31 && old.getLsbD 31 then (s.uplinkDown).giveLanes false (euLanes old)
  else s

/-- A write of EU_CFG (R360, R387, R388, R453). -/
def wrEuCfg (s : State) (v : Word) : Except Status State :=
  let v := v &&& 0xFE3F0FFF
  let on := v.getLsbD 31
  let g := s.upGroup
  let n := fld v 21 16
  let held := s.b .euCfg 31 || s.bw .euCfg 31
  if fld v 30 29 = 3 then .error .outOfRange
  else if on && decide (n < g ∨ g + 4 ≤ n ∨ (fld v 30 29 = 2 ∧ n ≠ g)) then .error .outOfRange
  else if on && (held || s.b .lkRefCfg 0 || (euLanes v).any fun k => s.laneEn k || s.bw (.lkLCfg k) 31) then .error .stateRefused
  else if s.placesTicks then .ok (s.pendReg .euCfg v)
  else .ok ((s.applyEu v).setNow .euCfg v)

/-- UPLINK_ENABLE: a write of EU_CFG with EN 1 (R388). -/
def execUplinkEnable (port : Nat) (value : Word) (s : State) : Res :=
  .next (if canWrite s port 8 && value.getLsbD 31 then writeOr s (guarded s (wrEuCfg s value)) else s)

-- link ------------------------------------------------------------------------------------------------------------------------------------------

/-- The uplink's own addresses. -/
def State.euMac (s : State) : BitVec 48 := (s.reg .euMacHi).setWidth 16 ++ s.reg .euMacLo

/-- The lanes run the uplink: EN in force, or a download attempt on port 4 (R388, R396). -/
def State.euRuns (s : State) : Bool :=
  s.rel 8 && s.link.refclk && (s.b .euCfg 31 || (s.boot.downloading && decide (s.boot.sampled.bootSel = 3)))

/-- Notices that wait for the link leave. -/
def State.sendNotices (s : State) : List Notice → State
  | [] => s
  | x :: xs => State.sendNotices (s.sendDatagram s.ports.noticePeer (noticeWords s.ports.nodeId x)) xs

/-- EU_UP: block lock and FEC lock; one gratuitous ARP (R388, R390). -/
def execEuUp (s : State) : Res :=
  .next (if !s.euRuns || s.uplink.up then s
    else
      let s := (s.setUp fun u => { u with up := true, fecLock := true }).raise 16 0 0
      let s := ({ s with out := s.out ++ [Out.gratuitousArp] } : State).bump 0x580108 1
      let q := s.port 4
      (s.setPort 4 { q with notices := [] }).sendNotices q.notices)

/-- EU_DOWN (R388, R395). -/
def execEuDown (s : State) : Res := .next s.uplinkDown

-- PTP (R397, R398) ---------------------------------------------------------------------------------------------------------------------------------

/-- The PTP client runs. -/
def State.ptpOn (s : State) : Bool := s.b .euPtpCfg 31

/-- Byte i of a message in words, most significant byte first. -/
def msgByte (ws : List Word) (i : Nat) : Nat := (ws.getD (i / 4) 0).toNat / 2 ^ (24 - 8 * (i % 4)) % 256
/-- n bytes of a message as a number. -/
def msgNat (ws : List Word) (i n : Nat) : Nat := (List.range n).foldl (fun a k => a * 256 + msgByte ws (i + k)) 0

/-- The data set of an Announce message (IEEE 1588-2019, named by R397). -/
def announceOf (ws : List Word) : PtpMaster :=
  { identity := BitVec.ofNat 64 (msgNat ws 53 8), priority1 := BitVec.ofNat 8 (msgByte ws 47), clockClass := BitVec.ofNat 8 (msgByte ws 48),
    accuracy := BitVec.ofNat 8 (msgByte ws 49), variance := BitVec.ofNat 16 (msgNat ws 50 2), priority2 := BitVec.ofNat 8 (msgByte ws 52),
    steps := BitVec.ofNat 16 (msgNat ws 61 2), utcOffset := BitVec.ofNat 16 (msgNat ws 44 2) }

/-- The order of the default best master clock algorithm: the numbers compared, first to last. -/
def masterRank (m : PtpMaster) : List Nat :=
  [m.priority1.toNat, m.clockClass.toNat, m.accuracy.toNat, m.variance.toNat, m.priority2.toNat, m.identity.toNat, m.steps.toNat]
/-- One list of numbers is not after another. -/
def rankLe : List Nat → List Nat → Bool
  | a :: as, b :: bs => if a = b then rankLe as bs else decide (a < b)
  | _, _ => true

/-- An Announce enters the foreign master table of four, and the best master is selected; a change while LOCKED in ROOT_PTP raises
EU_PTP_MASTER (R397, R398). -/
def State.announce (s : State) (m : PtpMaster) : State :=
  let l := (sortBy (fun a b => rankLe (masterRank a) (masterRank b)) ((s.uplink.masters.filter fun x => x.identity != m.identity) ++ [m])).take 4
  let best := l.head?
  let changed := (s.uplink.selected.map (·.identity)) != (best.map (·.identity))
  let s := s.setUp fun u => { u with masters := l, selected := best }
  if changed && decide (s.mode = 2) && s.time.state == 2 then s.raise 16 4 0 else s

/-- A timestamp of a PTP message in fine units: its ten bytes from byte i, with the correctionField of bytes 8 to 15. -/
def msgTime (ws : List Word) (i : Nat) : CT :=
  BitVec.ofNat 64 ((msgNat ws i 6 * 1000000000 + msgNat ws (i + 6) 4) * 512) + (BitVec.ofNat 64 (msgNat ws 8 8)).sshiftRight 7

/-- A PTP message accepted by the client: Announce, Sync of one or two steps, Follow_Up and Delay_Resp (R389, R397, R399). -/
def State.ptpMessage (s : State) (ws : List Word) : State :=
  if msgByte ws 0 / 16 ≠ s.f .euPtpCfg 11 8 ∨ msgByte ws 4 ≠ s.f .euPtpCfg 23 16 then s
  else
    let s := s.bump 0x580130 1
    match msgByte ws 0 % 16 with
    | 0xB => s.announce (announceOf ws)
    | 0x0 => s.setUp fun u => { u with lost := false, syncT1 := some (msgTime ws 34, s.time.ct) }
    | 0x8 => s.setUp fun u => { u with syncT1 := u.syncT1.map fun x => (msgTime ws 34, x.2) }
    | 0x9 => s.setUp fun u => { u with delayLog := BitVec.ofNat 8 (msgByte ws 33), delayT3 := none }
    | _ => s

/-- PTP_OFFSET_ESTIMATE: an estimate in fine units and the PTP time in ns reach the time core, which uses them only in ROOT_PTP
(R12, R148, R397, R398). -/
def execPtpOffsetEstimate (offset : Int) (n : Nat) (s : State) : Res :=
  .next (if !s.rel 7 || !s.ptpOn || !s.uplink.up || decide (s.mode ≠ 2) || s.time.state == 0 then s
    else if usFine < offset.natAbs then
      let s := s.setTime fun t => { t with ptpGood := 0 }
      if s.time.ticking then (s.setTime fun t => { t with state := 1, waitHost := true, holding := false }).clearAligned
      else s.stepCt (BitVec.ofNat 64 (n * 512)) (BitVec.ofNat 32 (n / 2 ^ 55))
    else
      let s := (s.setTime fun t => { t with ptpGood := if offset.natAbs ≤ 51200 then t.ptpGood + 1 else 0, steer := steerFree s.freeVal }).draw
      if s.time.state = 3 ∨ (s.time.state = 1 ∧ 16 ≤ s.time.ptpGood) then s.lock else s)

/-- PTP_SYNC_TIMEOUT: no Sync for four intervals: a LOCKED time core enters HOLDOVER, and EU_PTP_LOST is raised (R152, R398). -/
def execPtpSyncTimeout (s : State) : Res :=
  .next (if !s.ptpOn || decide (s.mode ≠ 2) || s.uplink.lost then s
    else
      let s := (s.setUp fun u => { u with lost := true }).raise 16 3 0
      if s.time.state = 2 then s.enterHoldover else s)

/-- PTP_DELAY_REQ (R397). -/
def execPtpDelayReq (s : State) : Res :=
  .next (if s.ptpOn && s.uplink.up && s.uplink.selected.isSome then
      let q := s.uplink.delaySeq
      let s := s.setUp fun u => { u with delaySeq := q + 1, delayT3 := some s.time.ct }
      ({ s with out := s.out ++ [Out.delayReq q] } : State).bump 0x580108 1
    else s)

-- received frames (R389 to R393) ---------------------------------------------------------------------------------------------------------------------

/-- A discard under R389 or R392. -/
def State.euDiscard (s : State) : State := s.bump 0x580118 1

/-- The PTP group: MAC and IPv4 address. -/
def ptpMac : BitVec 48 := 0x01005E000181
def ptpIp : Word := 0xE0000181

/-- A UDP datagram to EU_IP: command datagrams on EU_PORTS.CMD (R392, R393). -/
def State.datagram (s : State) (src : EthPeer) (dstPort : BitVec 16) (ws : List Word) : State :=
  let w0 := ws.getD 0 0
  if dstPort.toNat ≠ s.f .euPorts 31 16 ∨ ws.length < 4 ∨ fld w0 31 8 ≠ 0x4B5512 then s.euDiscard
  else
    let pkt := ws.drop 4
    let tag := fld (pkt.getD 0 0) 15 0
    let s := { s with ports := { s.ports with peers := SMap.put s.ports.peers tag src } }
    if s.portUp then s.takePacket 4 0 pkt else s

/-- ETH_FRAME_RECEIVE (R389 to R393, R396, R397). -/
def execEthFrameReceive (fr : EthFrame) (s : State) : Res :=
  .next (if !s.uplink.up then s
    else
      let s := s.bump 0x580100 1
      let vlanOk := if s.b .euCfg 28 then fr.vlan == some (BitVec.ofNat 12 (s.f .euCfg 11 0)) else fr.vlan.isNone
      let own := fr.dst == s.euMac
      let all := fr.dst == 0xFFFFFFFFFFFF
      let group := fr.dst == ptpMac && s.ptpOn
      if !fr.fcsOk then (s.bump 0x580110 1).euDiscard
      else if !vlanOk then s.euDiscard
      else match fr.body with
        | .arpRequest target ip mac =>
          if !own && !all then s.euDiscard
          else if target ≠ s.reg .euIp then s
          else ({ s with out := s.out ++ [Out.arpReply { mac, ip }] } : State).bump 0x580108 1
        | .udp srcIp dstIp srcPort dstPort ipOk udpOk ws =>
          if !own || !ipOk || !udpOk || dstIp != s.reg .euIp then s.euDiscard
          else s.datagram { mac := fr.src, ip := srcIp, port := srcPort } dstPort ws
        | .ptp dstIp port ipOk udpOk ws =>
          let mine := (own && dstIp == s.reg .euIp) || ((own || group) && dstIp == ptpIp)
          if !mine || !s.ptpOn || !ipOk || !udpOk || !(port == 319 || port == 320) then s.euDiscard else s.ptpMessage ws
        | _ => s.euDiscard)

end Sys2Proof.Machine
end

