-- ==== Sys2Proof/Machine/Views.lean ====
section
/-!
DEFINITION. What each register reads as (R5, R428): the views of the block state behind read-only fields, the values of several words
with one snapshot latch (R418), and the registers whose read removes something (R79, R160, R231, R375).
-/
namespace Sys2Proof.Machine

/-- A statistics counter's two words (R39). -/
def Counter.lo (c : Counter) : Word := c.value.setWidth 32
def Counter.hi (c : Counter) : Word := bit32 16 c.ovf ||| (c.value >>> 32).setWidth 32

/-- Timing discriminator states of 32 channels from `base` on (R180, R182). -/
def discWord (s : State) (base n : Nat) : Word :=
  BitVec.ofNat 32 (flags n fun i => (s.chan (base + i)).disc && s.chanOn (base + i))

/-- Pairs that interleave (R182). -/
def pairWord (s : State) : Word := BitVec.ofNat 32 (flags (s.res.channels / 2) fun k => s.paired (2 * k))

/-- A port can carry packets (R107). -/
def portEnabled (s : State) (n : Nat) : Bool :=
  s.portUp && (match n with
    | 0 => true
    | 1 => true
    | 2 => s.carries 0
    | 3 => (List.range 48).any fun k => k != 0 && s.carries k
    | _ => s.uplink.up)

/-- CMD_PORTn_STATUS. -/
def portStatus (s : State) (n : Nat) : Word :=
  at32 8 (count (fun q => q.2.port == n) s.ports.queue) ||| bit32 2 (portEnabled s n) ||| (s.port n).cls.setWidth 32

/-- CP_CTRL with its two requests. -/
def cpCtrl (s : State) : Word := s.reg .cpCtrl ||| bit32 2 s.pair.force ||| bit32 1 s.pair.readmit

/-- CP_MISMATCH_INFO. -/
def mismatchInfo (s : State) : Word :=
  at32 30 s.pair.kind.toNat ||| at32 16 s.pair.unmatched.toNat ||| s.pair.misTag.setWidth 32

/-- TC_PULSEk_CFG. -/
def pulseCfg (q : Pulse) : Word := bit32 2 q.armed ||| q.mode.setWidth 32

/-- Soft spares applied and free spare rows of a stack; zero, as at reset, until the factory repairs are applied at the release of the vat
domain, and of an absent stack (R338, R341, R347). -/
def spareStatus (s : State) (k : Nat) : Word :=
  if !s.rel 6 || decide (s.res.vatStacks ≤ k) then 0
  else
  let used := count (fun e : Nat × SoftEntry => e.2.stack == k) s.vat.soft
  let taken := ((s.vat.taken.filter fun e => e.1 / 256 == k).map fun e => count (fun i => e.2.getLsbD i) (List.range 4)).sum
  at32 16 used ||| BitVec.ofNat 32 (1024 - taken)

/-- IG_SOFT_ENTRY (R347). -/
def softEntryWord (s : State) : Word :=
  match SMap.find s.vat.soft (s.f .igSoftSel 11 0) with
  | some e => bit32 31 true ||| at32 28 e.stack ||| at32 24 e.channel ||| at32 20 e.bank ||| at32 4 e.row ||| at32 0 e.spare
  | none => 0

/-- Vat transactions in flight: zero while no channel has one open, otherwise a number the manual leaves open, 0 to 8,192 (R345). -/
def inflight (s : State) : Word :=
  BitVec.ofNat 32 (if s.engines.dma.any fun c => c.2.open_.any fun o => o.src.vat || o.dst.vat then s.freeVal % 8193 else 0)

/-- The head of a stamp FIFO, with its length (R160). -/
def stampFifo (s : State) (n : Nat) : List (CT × Bool) := if n = 0 then s.time.stamps0 else s.time.stamps1
def stampStat (l : List (CT × Bool)) : Word :=
  match l with
  | (_, o) :: _ => bit32 31 true ||| bit32 30 o ||| at32 0 l.length
  | [] => 0

/-- TR_MISS_STAT. -/
def missStat (s : State) : Word :=
  match s.rennet.misses with
  | (_, src) :: _ => bit32 31 true ||| bit32 30 s.rennet.missOvf ||| at32 16 src.toNat ||| at32 0 s.rennet.misses.length
  | [] => 0

/-- LK_QUAR_STAT, and word w of the head rind. -/
def quarStat (s : State) : Word :=
  match s.link.quarantine with
  | (_, n) :: _ => bit32 31 true ||| at32 16 n ||| at32 0 s.link.quarantine.length
  | [] => 0
def quarWord (s : State) (w : Nat) : Word := BitVec.ofNat 32 ((s.link.quarantine.head?.map fun q => q.1.toNat).getD 0 / 2 ^ (32 * w))

/-- LK_Ln_TXDELAY: (rtt − A) / 2 in fine units, rounded down. -/
def txDelay (s : State) (n : Nat) : Word :=
  w32 ((((s.lane n).rtt.toInt - (s.reg (.lkLAsym n)).toInt) : Int) / 2)

/-- One register as a read shows it, latches apart. Fields without a value of their own show block state; every other register shows
the value last written (R5). -/
def liveValue (s : State) (r : Reg) : Word :=
  match r with
  | .variant => s.res.variant
  | .idResources => s.res.ids
  | .gsEventSummary => eventSummary s
  | .crResetCause => s.power.cause
  | .crReleaseStatus => releaseStatus s
  | .crBootStatus => bootStatus s
  | .crStraps => strapsWord s
  | .crFuseStatus => fuseStatus s
  | .crFwVersion => s.boot.fwVersion
  | .crClkStatus => clkStatus s
  | .crClkCtrl => bit32 0 s.clocks.returning
  | .crOscTrim => at32 8 s.clocks.trim.toNat ||| BitVec.ofNat 32 (s.f .crOscTrim 5 0)
  | .pmSupplyGood => supplyGoodWord s
  | .pmWarn => s.reg .pmWarn &&& (if s.isF then 0x67F else 0x7FF)
  | .cpStatus => cpStatus s
  | .cpCtrl => cpCtrl s
  | .cpWdogCfg => bit32 31 s.pair.wdogOn ||| s.reg .cpWdogCfg
  | .cpMismatchInfo => mismatchInfo s
  | .cpMismatchAddr => s.pair.misAddr
  | .cmdPortStatus n => portStatus s n
  | .cmdPortSubscribe n => (s.port n).mask.setWidth 32
  | .cmdPortNoticeSeq n => (s.port n).seq.setWidth 32
  | .tcStatus => tcStatus s
  | .tcCtLo => s.time.ct.setWidth 32
  | .tcCtHi => (s.time.ct >>> 32).setWidth 32
  | .tcEpoch => s.time.epoch
  | .tcLtLo => s.time.lt.setWidth 32
  | .tcLtHi => (s.time.lt >>> 32).setWidth 32
  | .tcHt => s.ht
  | .tcFnLo => s.time.fn.setWidth 32
  | .tcFnHi => (s.time.fn >>> 32).setWidth 32
  | .tcOffset => s.time.offset
  | .tcRtt => s.time.rtt
  | .tcSteer => s.time.steer
  | .tcStampLo n => lo32 (((stampFifo s n).head?.map fun e => e.1.toNat).getD 0)
  | .tcStampHi n => hi32 (((stampFifo s n).head?.map fun e => e.1.toNat).getD 0)
  | .tcStampStat n => stampStat (stampFifo s n)
  | .tcFramePeriod => s.time.period.setWidth 32
  | .tcFrameCtrl => frameCtrl s
  | .tcPulseCfg k => pulseCfg (SMap.get {} s.time.pulses k)
  | .tcPulseStartLo k => (SMap.get {} s.time.pulses k).start.setWidth 32
  | .tcPulseStartHi k => ((SMap.get {} s.time.pulses k).start >>> 32).setWidth 32
  | .tcPulsePeriodLo k => (SMap.get {} s.time.pulses k).period.setWidth 32
  | .tcPulsePeriodHi k => ((SMap.get {} s.time.pulses k).period >>> 32).setWidth 32
  | .tcPulseWidth k => (SMap.get {} s.time.pulses k).width
  | .caChStatus n => chanStatus s n
  | .caPairStatus => pairWord s
  | .caDiscLo => discWord s 0 32
  | .caDiscHi => discWord s 32 16
  | .mdChCrc n => mdCrc s n
  | .hbChStatus n => hitStatus s n
  | .trStatus => rennetStatus s
  | .trTbCfg => s.regW .trTbCfg ||| bit32 30 s.isF
  | .trTbDepth => BitVec.ofNat 32 s.tbBlocks
  | .trCmpCtrl => bit32 0 s.rennet.cmpArmed
  | .trMissLo => lo32 ((s.rennet.misses.head?.map fun m => m.1.toNat).getD 0)
  | .trMissHi => hi32 ((s.rennet.misses.head?.map fun m => m.1.toNat).getD 0)
  | .trMissStat => missStat s
  | .eaStatus c e => engStatus (s.eng (16 * c + e))
  | .eaFlags c e => (s.eng (16 * c + e)).flags.setWidth 32
  | .eaOvfBanks c e => BitVec.ofNat 32 (flags 8 fun b => ((s.eng (16 * c + e)).bank b).ovf != 0)
  | .eaPc c e => (s.eng (16 * c + e)).pc.setWidth 32
  | .eaAgBase c e k => ((s.eng (16 * c + e)).ag k).base.setWidth 32
  | .eaAgStep c e k => agStepWord ((s.eng (16 * c + e)).ag k)
  | .eaAgLen c e k => ((s.eng (16 * c + e)).ag k).len.setWidth 32
  | .eaAgPend c e k => agPendWord ((s.eng (16 * c + e)).ag k)
  | .eaAgIndex c e k => ((s.eng (16 * c + e)).ag k).index.setWidth 32
  | .eaCStatus c => clusterStatus (s.cluster c)
  | .eaCDmaStatus c => dmaStatus s c
  | .scStatus => schedStatus s
  | .vtStatus => at32 28 s.vat.hot.toNat ||| at32 20 s.vat.failed.toNat ||| at32 16 s.vat.trained.toNat ||| (s.res.ids &&& 0xF)
  | .vtInflight => inflight s
  | .vtTemp k => (SMap.get 0 s.vat.temps k).setWidth 32
  | .vtRegionBaseLo n => lo32 (s.region n).base
  | .vtRegionBaseHi n => hi32 (s.region n).base
  | .vtRegionSizeLo n => lo32 (s.region n).size
  | .vtRegionSizeHi n => hi32 (s.region n).size
  | .vtRegionCfg n =>
    let g := s.region n
    at32 24 g.state.toNat ||| at32 16 g.owner ||| at32 12 g.cls.toNat ||| bit32 8 g.sram
  | .vtRegionPolicy n =>
    let g := s.region n
    at32 28 g.spares ||| at32 16 g.ceLimit ||| at32 8 g.spareMax ||| bit32 2 g.scrub ||| bit32 1 g.spareEn ||| bit32 0 g.wbOnCe
  | .igLogStatus => logStatus s
  | .igSpareStatus k => spareStatus s k
  | .igSoftEntry => softEntryWord s
  | .igScrubCursorLo k => lo32 (SMap.get 0 s.vat.cursors k)
  | .igScrubCursorHi k => hi32 (SMap.get 0 s.vat.cursors k)
  | .igLogW k w =>
    match s.vat.log[k]? with
    | some e => (match w with | 0 => e.w0 | 1 => e.w1 | 2 => e.w2 | _ => e.w3)
    | none => 0
  | .prStatus => pressStatus s
  | .lkLCfg n => s.regW (.lkLCfg n) ||| bit32 15 (s.lane n).uplink
  | .lkLStatus n => laneStatus s n
  | .lkLRtt n => (s.lane n).rtt
  | .lkLTxdelay n => txDelay s n
  | .lkLSlotOfs n => (s.lane n).slotOfs.setWidth 32
  | .lkNodeId => s.ports.nodeId.setWidth 32
  | .lkEpoch => at32 16 s.link.prepared.toNat ||| s.link.inForce.setWidth 32
  | .lkQuar0 => quarWord s 0
  | .lkQuar w => quarWord s (w + 1)
  | .lkQuarStat => quarStat s
  | .euStatus => bit32 31 s.uplink.up ||| bit32 30 s.uplink.fecLock
  | .euPtpStatus => bit32 31 s.uplink.selected.isSome ||| ((s.uplink.selected.map PtpMaster.utcOffset).getD 0).setWidth 32
  | .euPtpMasterLo => ((s.uplink.selected.map PtpMaster.identity).getD 0).setWidth 32
  | .euPtpMasterHi => (((s.uplink.selected.map PtpMaster.identity).getD 0) >>> 32).setWidth 32
  | .hkStatus => hkStatus s
  | .hkDieHottest => dieHottest s
  | .hkDie k => (SMap.get 0 s.house.die k).setWidth 32
  | .hkDieB k => (SMap.get 0 s.house.die (k + 4)).setWidth 32
  | .hkEntW0 k => s.hkW0 k
  | .hkEntW1 k => s.hkW1 k
  | .hkResValue k => (SMap.get {} s.house.results k).value
  | .hkResStat k => (SMap.get {} s.house.results k).stat
  | .hkResTime k => (SMap.get {} s.house.results k).time
  | .tdStatus => tdStatus s
  | .tdBistResult => s.test.result.setWidth 32
  | .cntLo a => (s.cnt a).lo
  | .cntHi a => (s.cnt a).hi
  | r => s.regW r

/-- The other words of a value of several words, by its low word (R418). -/
def latchedWith : Reg → List Reg
  | .cntLo a => [.cntHi a]
  | .tcCtLo => [.tcCtHi, .tcEpoch]
  | .tcLtLo => [.tcLtHi]
  | .tcFnLo => [.tcFnHi]
  | .tcStampLo n => [.tcStampHi n, .tcStampStat n]
  | .tcPulseStartLo k => [.tcPulseStartHi k]
  | .tcPulsePeriodLo k => [.tcPulsePeriodHi k]
  | .caDiscLo => [.caDiscHi]
  | .trMissLo => [.trMissHi, .trMissStat]
  | .vtRegionBaseLo n => [.vtRegionBaseHi n]
  | .vtRegionSizeLo n => [.vtRegionSizeHi n]
  | .igScrubCursorLo k => [.igScrubCursorHi k]
  | .lkQuar0 => [.lkQuar 0, .lkQuar 1, .lkQuar 2, .lkQuarStat]
  | .euPtpMasterLo => [.euPtpMasterHi]
  | .hkResValue k => [.hkResStat k, .hkResTime k]
  | _ => []

/-- A word that reads from its latch (R418). -/
def fromLatch : Reg → Bool
  | .cntHi _ => true
  | .tcCtHi => true
  | .tcEpoch => true
  | .tcLtHi => true
  | .tcFnHi => true
  | .tcStampHi _ => true
  | .tcStampStat _ => true
  | .tcPulseStartHi _ => true
  | .tcPulsePeriodHi _ => true
  | .caDiscHi => true
  | .trMissHi => true
  | .trMissStat => true
  | .vtRegionBaseHi _ => true
  | .vtRegionSizeHi _ => true
  | .igScrubCursorHi _ => true
  | .lkQuar _ => true
  | .lkQuarStat => true
  | .euPtpMasterHi => true
  | .hkResStat _ => true
  | .hkResTime _ => true
  | _ => false

/-- What a read of a register returns; a latched word is zero until its low word has been read (R418). -/
def State.readValue (s : State) (r : Reg) : Word := if fromLatch r then SMap.get 0 s.csr.latch r.addr else liveValue s r

/-- One word put into its latch. -/
def State.latchWord (s : State) (r : Reg) (v : Word) : State :=
  { s with csr := { s.csr with latch := SMap.set 0 s.csr.latch r.addr v } }

/-- The words of a list copied into their latches as they stand in `now`. -/
def State.latchAll (s now : State) : List Reg → State
  | [] => s
  | r :: rs => State.latchAll (s.latchWord r (liveValue now r)) now rs

/-- A read of a low word copies every other word of its value (R418). -/
def State.latchOf (s : State) (r : Reg) : State := s.latchAll s (latchedWith r)

/-- A read takes the head stamp (R160). -/
def State.dropStamp (s : State) (n : Nat) : State :=
  s.setTime fun t => if n = 0 then { t with stamps0 := t.stamps0.drop 1 } else { t with stamps1 := t.stamps1.drop 1 }

/-- A read takes the head miss entry; OVF clears when the FIFO empties (R231). -/
def State.dropMiss (s : State) : State :=
  s.setRennet fun r => { r with misses := r.misses.drop 1, missOvf := r.missOvf && decide (1 < r.misses.length) }

/-- A read takes the head of the quarantine FIFO (R375). -/
def State.dropQuarantine (s : State) : State := s.setLink fun l => { l with quarantine := l.quarantine.drop 1 }

/-- What a read clears, except on an Observer port (R5, R79, R110). -/
def State.readClear (s : State) (r : Reg) : State :=
  match r with
  | .crResetCause => s.setPow fun p => { p with cause := 0 }
  | .tcStampLo n => s.dropStamp n
  | .trMissLo => s.dropMiss
  | .lkQuar0 => s.dropQuarantine
  | _ => s

end Sys2Proof.Machine
end

