-- ==== Sys2Proof/Machine/Csr.lean ====
section
/-!
DEFINITION. Register access (R3 to R6, R45, R78, R117 to R119, R422, R427): which address a device serves, what a write of each
register does, and the CSR opcodes with the rows that are one register access of their own.
-/
namespace Sys2Proof.Machine

-- addresses -------------------------------------------------------------------------------------------------------------------------------

/-- The address lies within the register range of a resource that the variant lacks (R45, R427). -/
def removed (s : State) (a : Nat) : Bool :=
  let q := s.res
  let gone (base size n : Nat) : Bool := decide (n ≤ (a - base) / size)
  if 0x100000 ≤ a ∧ a < 0x10C000 then gone 0x100000 0x400 q.channels
  else if 0x10C000 ≤ a ∧ a < 0x120000 then q.channels == 0
  else if 0x120000 ≤ a ∧ a < 0x127000 then gone 0x120000 0x200 q.channels
  else if 0x127000 ≤ a ∧ a < 0x128000 then q.channels == 0
  else if 0x128000 ≤ a ∧ a < 0x140000 then gone 0x128000 0x800 q.channels
  else if 0x140000 ≤ a ∧ a < 0x14C000 then gone 0x140000 0x100 q.channels
  else if a = 0x200C00 ∨ a = 0x200C04 then false
  else if 0x200000 ≤ a ∧ a < 0x300000 then gone 0x200000 0x10000 q.clusters
  else if 0x400010 ≤ a ∧ a < 0x400020 then gone 0x400010 4 q.vatStacks
  else if 0x420020 ≤ a ∧ a < 0x420030 then gone 0x420020 4 q.vatStacks
  else if 0x420108 ≤ a ∧ a < 0x420120 then gone 0x420100 8 q.vatStacks
  else if 0x500000 ≤ a ∧ a < 0x518000 then gone 0x500000 0x800 q.lanes
  else false

/-- The step of R77 that releases the block of an address (R78); what the control pair holds itself needs none. R55 names domains and not
blocks: HB, TR, SC, IG and PR are taken to lie with the SRAM and fabric (5), EU with the lanes (8) (DESIGN CHOICE). -/
def accessStep (a : Nat) : Nat :=
  if a < 0x60000 then 0 else if a < 0x100000 then 7 else if a < 0x140000 then 9 else if a < 0x200000 then 5
  else if a < 0x300000 then 11 else if a < 0x400000 then 5 else if a < 0x420000 then 6 else if a < 0x500000 then 5
  else if a < 0x600000 then 8 else if a < 0x700000 then 10 else 4

/-- The register at an address that this device has (R45, R117, R427). -/
def State.regHere (s : State) (a : Nat) : Option Reg := if removed s a then none else regAt a

/-- A register that a stopped LANE_REFCLK keeps from being written: of the lane registers only the asymmetry has no place in the CTRL
domain (R422). LK_L0_ASYM is TC_ASYM, in the time core (R428). -/
def cdcStops (s : State) (r : Reg) : Bool :=
  match r with
  | .lkLAsym n => decide (n ≠ 0) && !s.link.refclk
  | _ => false

-- plain writes ----------------------------------------------------------------------------------------------------------------------------

/-- A W1C write: an action write of the register's block (R5, R135). -/
def State.clearBits (s : State) (r : Reg) (m : Word) : State :=
  if m = 0 then s else s.action (blockOf r.addr) fun s => s.setReg r (s.reg r &&& ~~~m)

/-- A write by the access codes alone: RW at once, RWF at the next tick, W1C cleared, everything else ignored (R3, R5). -/
def State.writePlain (s : State) (r : Reg) (v : Word) : State :=
  let i := r.info
  let s := if i.w1c = 0 then s else s.clearBits r (v &&& i.w1c)
  let s := if i.rw = 0 then s else s.setReg r ((s.reg r &&& ~~~i.rw) ||| (v &&& i.rw))
  if i.rwf = 0 then s else s.pendReg r (v &&& i.rwf)

/-- A write refused with OUT_OF_RANGE where its value is bad. -/
def rangeThen (bad : Bool) (e : Except Status State) : Except Status State := if bad then .error .outOfRange else e

/-- A write refused with STATE_REFUSED where the state forbids it. -/
def stateThen (bad : Bool) (e : Except Status State) : Except Status State := if bad then .error .stateRefused else e

/-- A write refused with BUSY while a command holds the resource. -/
def busyThen (bad : Bool) (e : Except Status State) : Except Status State := if bad then .error .busy else e

-- ID and global status, clocks --------------------------------------------------------------------------------------------------------------

/-- A write of ACTIVE_ROLE (R54). -/
def wrRole (s : State) (v : Word) : Except Status State :=
  let v := v &&& 3
  rangeThen (v == 0) <|
    stateThen (s.res.role != 5 || !s.sched.active.isEmpty || s.sched.commit || anyPathEnabled s || s.time.ticking || s.follower)
      (.ok (s.setReg .idRole v))

/-- A write of GS_CNT_CLEAR: every counter of the named blocks goes to zero (R417). -/
def wrCntClear (s : State) (v : Word) : State :=
  let hit (a : Nat) : Bool := v.getLsbD (blockOf a)
  if v &&& 0xFFFFF = 0 then s
  else s.action 19 fun s => { s with csr := { s.csr with counters := s.csr.counters.filter fun c => !hit c.1 } }

/-- A write of CR_CLK_CTRL: RETURN is W1S (R69, R135). -/
def wrClkCtrl (s : State) (v : Word) : Except Status State :=
  if !v.getLsbD 0 then .ok s
  else match (if s.replayed 1 then .ok s else wrReturn s) with
    | .ok _ => .ok (s.action 1 fun s => writeOr s (wrReturn s))
    | .error st => .error st

-- time core -----------------------------------------------------------------------------------------------------------------------------------

/-- ARM of a period switch as the root judges it: the rows of R15 in their order. -/
def armStop (s : State) : Option Status :=
  let fn := (s.reg .tcFrameSwitchHi).toNat % 2 ^ 16 * 2 ^ 32 + (s.reg .tcFrameSwitchLo).toNat
  let p := s.f .tcFrameNext 20 0
  if sdiff 48 fn s.time.fn.toNat < 1024 then some .outOfRange
  else if p < 256 ∨ 1048576 < p then some .outOfRange
  else if !s.feasibleAt p then some .infeasible
  else if s.time.switch.isSome then some .stateRefused
  else none

/-- The switch armed with the registers as they stand. -/
def State.armSwitch (s : State) : State :=
  s.setTime fun t => { t with switch := some ⟨(s.reg .tcFrameSwitchHi).setWidth 16 ++ s.reg .tcFrameSwitchLo, (s.reg .tcFrameNext).setWidth 21⟩ }

/-- RUN 1 written on the root: a stop is cancelled, or ticks start afresh (R13). -/
def State.runOn (s : State) : State :=
  s.setTime fun t =>
    if t.ticking then { t with run := true, stopping := false, stopNow := false }
    else { t with run := true, ticking := true, stopping := false, stopNow := false, first := true, org := 0, waitHost := false,
                  waitReturn := false }

/-- RUN 0 written on the root: the next tick is the last (R13). -/
def State.runOff (s : State) : State := s.setTime fun t => { t with run := false, stopping := t.ticking }

/-- A write of TC_FRAME_CTRL (R10, R13, R15). -/
def wrFrameCtrl (s : State) (v : Word) : Except Status State :=
  let arm := v.getLsbD 1
  let clear (s : State) : State := if v.getLsbD 5 then s.setTime fun t => { t with switchDone := false } else s
  let acts (s : State) : State :=
    if arm || v.getLsbD 5 then s.action 5 fun s => clear (if arm && !s.follower then s.armSwitch else s) else s
  if s.follower then stateThen (v.getLsbD 0 || arm) (.ok (acts s))
  else match (if arm && !s.replayed 5 then armStop s else none) with
    | some st => .error st
    | none => .ok (let s := acts s; if v.getLsbD 0 then s.runOn else s.runOff)

/-- A write of the switch registers: the root's only (R10). -/
def wrSwitchReg (s : State) (r : Reg) (v : Word) : Except Status State := stateThen s.follower (.ok (s.writePlain r v))

-- channels ------------------------------------------------------------------------------------------------------------------------------------

/-- A write of CA_CHn_CFG (R163, R165, R190). -/
def wrChCfg (s : State) (n : Nat) (v : Word) : Except Status State :=
  let v := v &&& (if n % 2 = 1 then 0x71 else 0xF1)
  rangeThen (fld v 5 4 == 3) <| busyThen (v.getLsbD 0 && s.calBusy n) (.ok (s.pendReg (.caChCfg n) v))

/-- A write of CA_CHn_WIN (R177, R180). -/
def wrChWin (s : State) (n : Nat) (v : Word) : Except Status State :=
  rangeThen (decide (fld v 28 16 ≤ fld v 11 0 ∨ 4096 < fld v 28 16)) (.ok (s.writePlain (.caChWin n) v))

/-- A calibration that applies its results runs on a channel or its partner (R190). -/
def State.calApplies (s : State) (n : Nat) : Bool :=
  let on (k : Nat) : Bool := match (s.chan k).cal with | some (_, _, apply) => apply | none => false
  on n || on (if n % 2 = 0 then n + 1 else n - 1)

/-- A bin-table word may be written: the channel is not enabled, or it is the odd one of a pair whose even channel is (R189). -/
def State.binFree (s : State) (n : Nat) : Bool := !s.enAny n || (decide (n % 2 = 1) && s.paired n && s.b (.caChCfg (n - 1)) 0)

/-- A write of a mordant register (R188 to R190). -/
def wrMd (s : State) (n : Nat) (e : Except Status State) : Except Status State := busyThen (s.calApplies n) e

-- hit builder -----------------------------------------------------------------------------------------------------------------------------------

/-- The states of R213, by the values as written. The staging area needs room for the HIT path in the front-end role only: in another role the
device forms no HIT curds, and those that it forwards do not wait there. DEDUCED: log 79. -/
def hitConfigBad (s : State) : Bool :=
  let g := s.stageRange
  let tb (cfg sram : Word) : Bool := cfg.getLsbD 31 && !(s.tbRange cfg sram).1 && meet (s.tbRange cfg sram).2 g
  let short : Bool := (List.range 64).any fun p =>
    s.bw (.scPathCfg p) 31 && s.fw (.scPathMatch p) 7 0 == 2 &&
      decide (((g.2 - g.1 : Nat) : Int) < ((s.fw (.scPathCfg p) 28 16 : Int) - s.fw (.scPathCfg p) 12 0) * s.hitFlits * 16)
  decide (s.fw .hbCfg 23 16 < s.hitItem) || (s.role == 1 && short) || decide (0x43000000 < g.2) ||
    tb (s.reg .trTbCfg) (s.reg .trTbSram) || tb (s.regW .trTbCfg) (s.regW .trTbSram)

/-- A write that R213 refuses when it would leave one of those states. -/
def hitGuard (e : Except Status State) : Except Status State :=
  match e with
  | .ok t => if hitConfigBad t then .error .outOfRange else .ok t
  | .error st => .error st

/-- A write of HB_CHn_SNIP (R200). -/
def wrSnip (s : State) (n : Nat) (v : Word) : Except Status State :=
  let len := fld v 13 8
  rangeThen (decide (len < 2 ∨ 32 < len ∨ 8 * len < fld v 23 16 + 1 ∨ fld v 23 16 + 256 < 8 * len)) <|
    hitGuard (.ok (s.writePlain (.hbChSnip n) v))

/-- A write of HB_CFG: EN 1 only in the front-end role (R46, R214). -/
def wrHbCfg (s : State) (v : Word) : Except Status State :=
  stateThen (v.getLsbD 0 && s.role != 1) <| rangeThen (decide (fld v 23 16 < 2)) <| hitGuard (.ok (s.writePlain .hbCfg v))

-- rennet ----------------------------------------------------------------------------------------------------------------------------------------

/-- A change of TR_CFG, TR_TB_CFG, TR_TB_SRAM or a channel mask while rennet is armed or an arm is pending (R222). -/
def wrArmed (s : State) (r : Reg) (v : Word) : Except Status State :=
  stateThen ((s.rennet.armed || s.rennet.armDue.isSome) && decide (s.regW r ≠ v)) (.ok (s.pendReg r v))

/-- A write of a channel mask (R45, R222, R223). -/
def wrMask (s : State) (r : Reg) (v : Word) (lo : Nat) : Except Status State :=
  let v := v &&& r.info.rwf
  rangeThen ((List.range 32).any fun i => v.getLsbD i && decide (s.res.channels ≤ lo + i)) (wrArmed s r v)

/-- A write of TR_TB_CFG (R222, R223, R332). -/
def wrTbCfg (s : State) (v : Word) : Except Status State :=
  let v := (v &&& 0xC000003F) ||| bit32 30 s.isF
  let g := s.region (fld v 5 0)
  let vat := v.getLsbD 31 && !v.getLsbD 30
  rangeThen (vat && (decide (g.state = 0) || g.sram)) <|
    stateThen (vat && decide (g.state = 1)) <|
      stateThen (v.getLsbD 31 && s.regW .trTbChmaskLo == 0 && s.regW .trTbChmaskHi == 0) <|
        stateThen ((s.rennet.armed || s.rennet.armDue.isSome) && decide ((s.regW .trTbCfg ||| bit32 30 s.isF) ≠ v)) (.ok (s.pendReg .trTbCfg v))

/-- A write of TR_OUT_CFG (R236). -/
def wrOutCfg (s : State) (v : Word) : Except Status State :=
  rangeThen (decide (fld v 30 23 < 4 ∨ fld v 19 0 < s.fw .trCfg 19 0 + 64)) (.ok (s.writePlain .trOutCfg v))

/-- A write of TR_PATk_CARE_HI: EN 1 with a required channel of value 1 (R216). -/
def wrCareHi (s : State) (k : Nat) (v : Word) : Except Status State :=
  let any := decide (s.regW (.trPatCareLo k) &&& s.regW (.trPatValueLo k) ≠ 0 ∨ v &&& s.regW (.trPatValueHi k) &&& 0xFFFF ≠ 0)
  rangeThen (v.getLsbD 31 && !any) (.ok (s.writePlain (.trPatCareHi k) v))

-- scheduler and merge -----------------------------------------------------------------------------------------------------------------------------

/-- The type of an enabled path entry is that of another one enabled, in force or pending (R36). -/
def typeTaken (s : State) (p type : Nat) : Bool :=
  (List.range 64).any fun q => decide (q ≠ p) &&
    ((s.b (.scPathCfg q) 31 && s.f (.scPathMatch q) 7 0 == type) || (s.bw (.scPathCfg q) 31 && s.fw (.scPathMatch q) 7 0 == type))

/-- The bounds of R36 for the values as written. -/
def pathBad (s : State) (p : Nat) : Bool :=
  s.bw (.scPathCfg p) 31 &&
    (decide (s.fw (.scPathCfg p) 28 16 < 2 ∨ 4096 < s.fw (.scPathCfg p) 28 16 ∨ s.fw (.scPathCfg p) 28 16 < s.fw (.scPathCfg p) 12 0 + 2) ||
      typeTaken s p (s.fw (.scPathMatch p) 7 0))

/-- A write of SC_PATHp_CFG (R36, R213, R314). -/
def wrPathCfg (s : State) (p : Nat) (v : Word) : Except Status State :=
  let t := s.writePlain (.scPathCfg p) v
  rangeThen (pathBad t p) <|
    (if t.fw (.scPathMatch p) 7 0 = 2 then hitGuard else id) <| stateThen (!v.getLsbD 31 && s.mergeOn && s.mergeBitW .scMergePathsLo .scMergePathsHi p) (.ok t)

/-- A write of SC_PATHp_MATCH (R36). -/
def wrPathMatch (s : State) (p : Nat) (v : Word) : Except Status State :=
  let t := s.writePlain (.scPathMatch p) v
  rangeThen (pathBad t p) (.ok t)

/-- A merge register outside the concentrator role (R46, R314). -/
def inMergeRole (s : State) (e : Except Status State) : Except Status State := stateThen (s.role != 2) e

-- lanes ---------------------------------------------------------------------------------------------------------------------------------------------

/-- The values of LK_Ln_CFG that are refused (R45, R364, R375, R377). -/
def laneCfgBad (s : State) (n : Nat) (v : Word) : Bool :=
  let k := fld v 21 16
  decide (fld v 30 29 = 0 ∨ fld v 27 26 = 3) ||
    (decide (k ≠ 0x3F) && (!s.hasLane k || (decide (k ≠ n) && decide (s.fw (.lkLCfg k) 30 29 ≠ fld v 30 29))))

/-- DEEP as a write of LK_Ln_CFG carries it (R367). -/
def wrDeepField (s : State) (n : Nat) (v : Word) : Except Status State :=
  if !v.getLsbD 28 then wrDeep s n false
  else if s.bw (.lkLCfg n) 28 && !(s.lane n).trained then .ok s
  else wrDeep s n true

/-- The RWF fields as written. A change of EN or GEN of a trained lane is held; the others wait for the tick, or act at once while no
ticks are placed (R364, R453). -/
def State.laneFields (s : State) (n : Nat) (v : Word) : State :=
  let r : Reg := .lkLCfg n
  let old := s.reg r
  if (s.lane n).trained = true ∧ (old ^^^ v) &&& enGen ≠ 0 then
    let s := s.modLane n fun l => { l with heldCfg := some v, heldDue := false }
    let s := if s.placesTicks then s else s.setReg r ((v &&& ~~~enGen) ||| (old &&& enGen))
    s.pendReg r v
  else
    let s := s.modLane n fun l => { l with heldCfg := none, heldDue := false }
    if s.placesTicks then s.pendReg r v else (s.applyLane n v).setNow r v

/-- A write of LK_Ln_CFG (R364, R367, R375, R377). -/
def wrLaneCfg (s : State) (n : Nat) (v : Word) : Except Status State :=
  let v := v &&& 0xFF3F0000
  if laneCfgBad s n v then .error .outOfRange
  else match wrDeepField s n v with
    | .ok s => .ok (s.laneFields n v)
    | .error st => .error st

/-- An RWF register that acts at once while no ticks are placed (R453). -/
def State.pendOrNow (s : State) (r : Reg) (v : Word) : State :=
  if s.placesTicks then s.pendReg r v else s.setNow r v

/-- A write of LK_REF_CFG: SPREAD 1 only while no lane is given to the uplink (R360). -/
def wrRefCfg (s : State) (v : Word) : Except Status State :=
  stateThen (v.getLsbD 0 && (List.range 48).any fun n => (s.lane n).uplink) (.ok (s.writePlain .lkRefCfg v))

/-- A write of EU_MAX_PAYLOAD: a multiple of 16 from 4,144 to 8,208 (R394). -/
def wrMaxPayload (s : State) (v : Word) : Except Status State :=
  let n := fld v 13 0
  rangeThen (decide (n % 16 ≠ 0 ∨ n < 4144 ∨ 8208 < n)) (.ok (s.pendOrNow .euMaxPayload (v &&& 0x3FFF)))

-- integrity -------------------------------------------------------------------------------------------------------------------------------------------

/-- IG_LOG_CTRL.CLEAR empties the log (R344). -/
def State.clearLog (s : State) : State := s.action 13 fun s => { s with vat := { s.vat with log := [], logFull := false } }

-- one write ---------------------------------------------------------------------------------------------------------------------------------------------

/-- What a write of a register does, before R24; every register without a rule of its own follows its access codes. -/
def wrReg (s : State) (r : Reg) (v : Word) : Except Status State :=
  match r with
  | .idRole => wrRole s v
  | .gsCntClear => .ok (wrCntClear s v)
  | .crClkCtrl => wrClkCtrl s v
  | .pmWarn => .ok (s.clearBits .pmWarn (v &&& (if s.isF then 0x67F else 0x7FF)))
  | .pmWarnEn => .ok (s.setReg .pmWarnEn (v &&& (if s.isF then 0x67F else 0x7FF)))
  | .cpCtrl => wrCpCtrl s v
  | .cpWdogCfg => wrWdogCfg s v
  | .cpWdogFeed => wrFeed s v
  | .tcSrcCfg => wrSrcCfg s v
  | .tcRefaFreq => rangeThen (decide (fld v 17 0 < 10000 ∨ 200000 < fld v 17 0)) (.ok (s.writePlain .tcRefaFreq v))
  | .tcRefbFreq => rangeThen (decide (fld v 17 0 < 10000 ∨ 200000 < fld v 17 0)) (.ok (s.writePlain .tcRefbFreq v))
  | .tcHoldLimit => rangeThen (fld v 15 0 == 0) (.ok (s.writePlain .tcHoldLimit v))
  | .tcFrameNext => wrSwitchReg s .tcFrameNext v
  | .tcFrameSwitchLo => wrSwitchReg s .tcFrameSwitchLo v
  | .tcFrameSwitchHi => wrSwitchReg s .tcFrameSwitchHi v
  | .tcFrameCtrl => wrFrameCtrl s v
  | .caChCfg n => wrChCfg s n v
  | .caChAuto n => rangeThen (decide (511 < fld v 11 0)) (.ok (s.writePlain (.caChAuto n) v))
  | .caChCf n => rangeThen (fld v 10 8 == 0) (.ok (s.writePlain (.caChCf n) v))
  | .caChTdc n => rangeThen (decide (2 ≤ fld v 1 0)) (.ok (s.writePlain (.caChTdc n) v))
  | .caChWin n => wrChWin s n v
  | .caBiasKey => .ok (s.action 6 fun s => wrBiasKey s v)
  | .caBiasCtrl => wrBiasCtrl s v
  | .mdChOffset n k => wrMd s n (.ok (s.writePlain (.mdChOffset n k) v))
  | .mdChGain n k => rangeThen (decide (fld v 15 0 < 0x2000)) (wrMd s n (.ok (s.writePlain (.mdChGain n k) v)))
  | .mdChSkew n => wrMd s n (.ok (s.writePlain (.mdChSkew n) v))
  | .mdChIlv n => wrMd s n (.ok (if n % 2 = 1 then s else s.writePlain (.mdChIlv n) v))
  | .mdChCrc n => wrMd s n (.ok s)
  | .mdBin n p k => stateThen (!s.binFree n) (wrMd s n (.ok (s.writePlain (.mdBin n p k) v)))
  | .hbChSnip n => wrSnip s n v
  | .hbChBudget n => hitGuard (.ok (s.writePlain (.hbChBudget n) v))
  | .hbCfg => wrHbCfg s v
  | .hbStage => hitGuard (.ok (s.writePlain .hbStage v))
  | .trCfg => rangeThen (decide (fld v 19 0 < 64)) (wrArmed s .trCfg v)
  | .trBudget => rangeThen (decide (256 < fld v 8 0)) (.ok (s.writePlain .trBudget v))
  | .trTbCfg => wrTbCfg s v
  | .trTbSram => wrArmed s .trTbSram (v &&& 0x1FFF0FFF)
  | .trTbChmaskLo => wrMask s .trTbChmaskLo v 0
  | .trTbChmaskHi => wrMask s .trTbChmaskHi v 32
  | .trRoChmaskLo => wrMask s .trRoChmaskLo v 0
  | .trRoChmaskHi => wrMask s .trRoChmaskHi v 32
  | .trOutCfg => wrOutCfg s v
  | .trCmpCtrl => if !v.getLsbD 0 then .ok s else match (if s.replayed 9 then .ok s else wrCmpArm s) with
      | .ok _ => .ok (s.action 9 fun s => writeOr s (wrCmpArm s))
      | .error st => .error st
  | .trPatCareHi k => wrCareHi s k v
  | .eaFlags c e => wrEaFlags s (16 * c + e) v
  | .eaOvfBanks c e => wrEaOvfBanks s (16 * c + e) v
  | .eaPc c e => wrEaPc s (16 * c + e) v
  | .eaAgBase c e k => wrEaAgBase s (16 * c + e) k v
  | .eaAgStep c e k => wrEaAgStep s (16 * c + e) k v
  | .eaAgLen c e k => wrEaAgLen s (16 * c + e) k v
  | .eaAgPend c e k => wrEaAgPend s (16 * c + e) k v
  | .eaAgIndex c e k => wrEaAgIndex s (16 * c + e) k v
  | .scPathCfg p => wrPathCfg s p v
  | .scPathMatch p => wrPathMatch s p v
  | .scMergeCfg => inMergeRole s (wrMergeCfg s v)
  | .scMergeSlot => inMergeRole s (wrMergeOther s .scMergeSlot v 0xFFFFF)
  | .scMergePathsLo => inMergeRole s (wrMergeOther s .scMergePathsLo v 0xFFFFFFFF)
  | .scMergePathsHi => inMergeRole s (wrMergeOther s .scMergePathsHi v 0xFFFFFFFF)
  | .scMergeSinkLo => inMergeRole s (wrMergeOther s .scMergeSinkLo v 0xFFFFFFFF)
  | .scMergeSinkHi => inMergeRole s (wrMergeOther s .scMergeSinkHi v 0xFFFFFFFF)
  | .scMergeInmaskLo => inMergeRole s (wrMergeOther s .scMergeInmaskLo v 0xFFFFFFFE)
  | .scMergeInmaskHi => inMergeRole s (wrMergeOther s .scMergeInmaskHi v 0xFFFF)
  | .scMergeEvents => inMergeRole s (.ok (s.writePlain .scMergeEvents v))
  | .scMergeEventEn => inMergeRole s (.ok (s.writePlain .scMergeEventEn v))
  | .igLogCtrl => .ok (if v.getLsbD 0 then s.clearLog else s)
  | .igDefaultOwner => rangeThen (decide (4 < fld v 2 0)) (.ok (s.writePlain .igDefaultOwner v))
  | .lkLCfg n => wrLaneCfg s n v
  | .lkRefCfg => wrRefCfg s v
  | .lkNoticePort => rangeThen (decide (4 < fld v 2 0)) (.ok (s.writePlain .lkNoticePort v))
  | .lkRelay => .ok (s.pendOrNow .lkRelay (v &&& 0x1FFF0FFF))
  | .euCfg => wrEuCfg s v
  | .euMaxPayload => wrMaxPayload s v
  | .hkCfg => wrHkCfg s v
  | .hkExcCfg k => wrHkExcCfg s k v
  | .tdAtestSel => wrAtest s v
  | .tdDtestSel => wrDtest s v
  | r => .ok (s.writePlain r v)

/-- One write access, its status and the state after it: a value outside its range before a clock that is stopped, that before the
register's own conditions (R24, R45, R78, R105, R117, R422). -/
def State.writeAt (s : State) (port a : Nat) (v : Word) : State × Status :=
  if s.boot.state ≠ 1 ∧ rindAddr a = false then (s, .minimalMode)
  else if keeperOnly a && decide ((s.port port).cls ≠ 2) then (s, .classRefused)
  else match s.regHere a with
    | none => (s, .outOfRange)
    | some r =>
      if !s.rel (accessStep a) then (s, if wrReg s r v matches .error .outOfRange then .outOfRange else .clockStopped)
      else if cdcStops s r then (s.bump 0x40 1, .cdcTimeout)
      else match guarded s (wrReg s r v) with
        | .ok t => (t, .ok)
        | .error st => (s, st)

/-- A count that the manual leaves open while vat descriptors are in flight is drawn anew (R322). -/
def State.drawFor (s : State) (r : Reg) : State :=
  match r with
  | .eaCDmaStatus _ => s.draw
  | .vtInflight => s.draw
  | _ => s

/-- One read access: its status and value, and the state after it. Latches are taken; RC fields are cleared but on an Observer port
(R45, R78, R110, R117, R418). -/
def State.readAt (s : State) (port a : Nat) : State × Status × Word :=
  if s.boot.state ≠ 1 ∧ rindAddr a = false then (s, .minimalMode, 0)
  else match s.regHere a with
    | none => (s, .outOfRange, 0)
    | some r =>
      if !s.rel (accessStep a) then (s, .clockStopped, 0)
      else
        let v := s.readValue r
        let t := (s.latchOf r).drawFor r
        (if (s.port port).cls = 0 then t else t.readClear r, .ok, v)

-- opcodes -----------------------------------------------------------------------------------------------------------------------------------------------

/-- CSR_READ (R117). -/
def execCsrRead (r : Req) (s : State) : Res :=
  .next (s.runOp 0x100 r true fun s =>
    let (t, st, v) := s.readAt r.port (r.w 0).toNat
    if st = .ok then tell t [v] else no s st)

/-- CSR_WRITE (R117). -/
def execCsrWrite (r : Req) (s : State) : Res :=
  .next (s.runOp 0x101 r true fun s =>
    let (t, st) := s.writeAt r.port (r.w 0).toNat (r.w 1)
    no t st)

/-- Reads of a block in order; it stops at the first that fails (R118). -/
def State.readMany (s : State) (port a stride : Nat) : Nat → State × Status × List Word
  | 0 => (s, .ok, [])
  | n + 1 =>
    let (t, st, v) := s.readAt port a
    if st = .ok then
      let (u, st, vs) := State.readMany t port (a + stride) stride n
      (u, st, v :: vs)
    else (s, st, [])

/-- CSR_READ_BLOCK (R118). -/
def execCsrReadBlock (r : Req) (s : State) : Res :=
  .next (s.runOp 0x102 r true fun s =>
    let n := r.p 8 0
    if n = 0 ∨ 256 < n then no s .outOfRange
    else
      let (t, st, vs) := s.readMany r.port (r.w 0).toNat (if r.p 9 9 = 1 then 0 else 4) n
      (t, some { status := st, param := vs.length, payload := vs }))

/-- Writes of a block in order: how many were completed; it stops at the first that fails (R118). -/
def State.writeMany (s : State) (port a stride : Nat) : List Word → State × Status × Nat
  | [] => (s, .ok, 0)
  | v :: vs =>
    let (t, st) := s.writeAt port a v
    if st = .ok then
      let (u, st, n) := State.writeMany t port (a + stride) stride vs
      (u, st, n + 1)
    else (t, st, 0)

/-- CSR_WRITE_BLOCK (R118). -/
def execCsrWriteBlock (r : Req) (s : State) : Res :=
  .next (s.runOp 0x103 r (decide (r.len = r.p 8 0 + 1)) fun s =>
    let (t, st, n) := s.writeMany r.port (r.w 0).toNat (if r.p 9 9 = 1 then 0 else 4) (r.payload.drop 1)
    (t, some { status := st, param := n }))

/-- The bits that a W1S or W1C field gets outside a mask: none (R119). -/
def actionBits : Reg → Word
  | .gsCntClear => 0xFFFFF
  | .crClkCtrl => 1
  | .cpCtrl => 6
  | .cpWdogCfg => 0x80000000
  | .tcFrameCtrl => 0x22
  | .trCmpCtrl => 1
  | .igLogCtrl => 1
  | .eaFlags _ _ => 0xF
  | .eaOvfBanks _ _ => 0xFF
  | r => r.info.w1c

/-- CSR_MODIFY: a read that clears nothing, then the write (R119). -/
def execCsrModify (r : Req) (s : State) : Res :=
  .next (s.runOp 0x104 r true fun s =>
    let a := (r.w 0).toNat
    let (_, st, old) := s.readAt r.port a
    match s.regHere a with
    | none => no s (if st = .ok then .outOfRange else st)
    | some q =>
      if st ≠ .ok then no s st
      else
        let mask := r.w 1
        let v := (old &&& ~~~mask &&& ~~~(actionBits q)) ||| (r.w 2 &&& mask)
        let (t, st) := ((s.latchOf q).drawFor q).writeAt r.port a v
        if st = .ok then tell t [old, v] else no t st)

-- rows that are one access ---------------------------------------------------------------------------------------------------------------------------------

/-- REGISTER_WRITE: one write of a register by a port that may write (R5). -/
def execRegisterWrite (port : Nat) (addr value : Word) (s : State) : Res :=
  .next (if canWriteRom s port then (s.writeAt port addr.toNat value).1 else s)

/-- SNAPSHOT_READ: the read of a low word takes the latches of its value (R418). -/
def execSnapshotRead (addr : Word) (s : State) : Res :=
  .next (match s.regHere addr.toNat with
    | some r => if s.serving && s.rel (accessStep addr.toNat) && (decide (s.boot.state = 1) || rindAddr addr.toNat) then s.latchOf r else s
    | none => s)

/-- A read that reaches a block through a port. -/
def State.reads (s : State) (n : Nat) : Bool := s.serving && s.rel n && decide (s.boot.state = 1)

/-- RC_READ: a read of a register with RC fields (R5, R110). -/
def execRcRead (port : Nat) (addr : Word) (s : State) : Res :=
  .next (if s.serving && s.portServes port then (s.readAt port addr.toNat).1 else s)

/-- STAMP_READ: TC_STAMPn_LO is read; the head stamp leaves its FIFO but on an Observer port (R160). -/
def execStampRead (port n : Nat) (s : State) : Res :=
  .next (
    if s.reads 7 && decide (n < 2) then
      let t := s.latchOf (.tcStampLo n)
      if (s.port port).cls = 0 then t else t.dropStamp n
    else s)

/-- MISS_READ: TR_MISS_LO is read; the head entry leaves but on an Observer port (R231). -/
def execMissRead (port : Nat) (s : State) : Res :=
  .next (
    if s.reads 5 then
      let t := s.latchOf .trMissLo
      if (s.port port).cls = 0 then t else t.dropMiss
    else s)

/-- QUARANTINE_READ: LK_QUAR0 is read; the head rind leaves but on an Observer port (R375). -/
def execQuarantineRead (port : Nat) (s : State) : Res :=
  .next (
    if s.reads 8 then
      let t := s.latchOf .lkQuar0
      if (s.port port).cls = 0 then t else t.dropQuarantine
    else s)

/-- CNT_CLEAR: a write of GS_CNT_CLEAR (R417). -/
def execCntClear (port : Nat) (value : Word) (s : State) : Res := .next (if canWriteRom s port then wrCntClear s value else s)

/-- LOG_CLEAR: a write of 1 to IG_LOG_CTRL.CLEAR (R344). -/
def execLogClear (port : Nat) (s : State) : Res :=
  .next (if canWrite s port 5 then s.clearLog else s)

/-- ACTIVE_ROLE_WRITE (R54). -/
def execActiveRoleWrite (port : Nat) (value : Word) (s : State) : Res :=
  .next (if canKeepRom s port then writeOr s (guarded s (wrRole s value)) else s)

/-- MERGE_ENABLE: a write of SC_MERGE_CFG with EN 1 (R314). -/
def execMergeEnable (port : Nat) (value : Word) (s : State) : Res :=
  .next (if canWrite s port 5 && value.getLsbD 31 then
      writeOr s (guarded s (inMergeRole s (wrMergeCfg s value)))
    else s)

/-- CDC_TIMEOUT: a CSR_WRITE that a stopped clock leaves without an acknowledge: refused, not written, counted (R422). -/
def execCdcTimeout (r : Req) (s : State) : Res :=
  .next (
    let stops := decide (s.boot.state = 1) &&
      (match s.regHere (r.w 0).toNat with | some q => s.rel (accessStep (r.w 0).toNat) && cdcStops s q | none => false)
    if !stops then s
    else s.runOp 0x101 r true fun s =>
      if keeperOnly (r.w 0).toNat && decide ((s.port r.port).cls ≠ 2) then no s .classRefused else no (s.bump 0x40 1) .cdcTimeout)

end Sys2Proof.Machine
end

