-- ==== Sys2Proof/Machine/Mismatch.lean ====
section
/-!
DEFINITION. A mismatch of the control pair (R130, R131, R134, R136): what is taken back of the command just executed, the plain writes that
may have reached the fabric wrong, and the start of the arbitration.
-/
namespace Sys2Proof.Machine

-- what is taken back (R130, R133) ---------------------------------------------------------------------------------------------------------

/-- The carriage curds at the end of a lane's queue hold a packet in these parts: their number, newest last. -/
def tailParts (l : List Curd) (ws : List Word) : Nat :=
  let has (n : Nat) (parts : List (List Flit)) : Bool := decide ((l.drop (l.length - n)).map (·.payload) = parts)
  if ws.length ≤ 1016 then (if has 1 [carriageFlits 0 1 ws.length ws] then 1 else 0)
  else if has 2 [carriageFlits 0 2 ws.length (ws.take 1016), carriageFlits 1 2 ws.length (ws.drop 1016)] then 2 else 0

/-- Carriage curds that have not left are taken back with their sequence numbers. -/
def State.uncarry (s : State) (n : Nat) (ws : List Word) : Option State :=
  let l := s.lane n
  let k := tailParts l.carriage ws
  if k = 0 then none
  else
    let key := streamKey s.ports.nodeId 0x21
    let s := s.setLane n { l with carriage := l.carriage.take (l.carriage.length - k) }
    some { s with sched := { s.sched with seq := SMap.set 0 s.sched.seq key (s.seqOf 0x21 - BitVec.ofNat 16 k) } }

/-- A reply that its port still holds is taken back; none once it has left: then it had matched (R130). -/
def State.unreply (s : State) (r : Req) (ws : List Word) : Option State :=
  match r.port with
  | 2 => s.uncarry 0 ws
  | 3 => s.uncarry r.lane ws
  | 4 => none
  | p =>
    let q := s.port p
    if q.late.getLast? = some ws then some (s.setPort p { q with late := q.late.dropLast })
    else if q.replies.getLast? = some ws then some (s.setPort p { q with replies := q.replies.dropLast })
    else none

/-- A long command that the interrupted command has started does not run on: it is started again by the re-execution (R132, R133). -/
def State.unstart (s : State) (op : BitVec 12) (r : Req) : State :=
  let s := { s with ports := { s.ports with long := s.ports.long.filter fun l => !(l.op == op && l.req == r) },
                    boot := { s.boot with flashOps := s.boot.flashOps.filter fun q => q.2.2 != r } }
  let s : State := if op = 0x702 && s.time.freq.any (fun q => q.req == r) then s.setTime fun t => { t with freq := none } else s
  let s : State := if op = 0xF00 && s.test.bist.any (fun q => q.1 == r) then
      let back := (s.reg .cpCtrl &&& 0xFFFFFFFE) ||| bit32 0 (s.pair.service.getD false)
      let t : State := { s with test := { s.test with bist := none }, pair := { s.pair with service := none } }
      t.setReg .cpCtrl back
    else s
  if op = 0x410 then s.setChan (fld (r.w 0) 5 0) { s.chan (fld (r.w 0) 5 0) with cal := none } else s

/-- The command just executed as the interrupted one: what it sent and started is taken back; none where that is past (R130, R132). -/
def State.takeBack (s : State) (op : BitVec 12) (r : Req) : Option State :=
  if !s.pair.compared then none
  else (match s.pair.lastReply with | none => some s | some ws => s.unreply r ws).map fun (t : State) => t.unstart op r

-- the unmatched plain writes (R134) -------------------------------------------------------------------------------------------------------

/-- Registers whose every write is an action write: the WO ones (R130). -/
def onlyActions : Reg → Bool
  | .cpWdogFeed | .caBiasKey => true
  | _ => false

/-- A plain write that reached the fabric unmatched, with a value that nobody knows: it has the effect that a write of it has, its W1C and
W1S bits written 0 (R134). -/
def State.wrongWrite (s : State) (addr : Nat) : State :=
  let v := BitVec.ofNat 32 s.freeVal
  let s := s.draw
  match s.regHere addr with
  | none => s
  | some r => if onlyActions r || !s.rel (accessStep addr) then s else writeOr s (wrReg s r (v &&& ~~~(actionBits r)))

/-- Several such writes: the address of each after the first is unknown too (R134). -/
def State.wrongWrites (s : State) (addr : Nat) : Nat → State
  | 0 => s
  | n + 1 =>
    let s := s.wrongWrite addr
    State.wrongWrites s.draw (s.freeVal % 2 ^ 30 * 4) n

-- the mismatch (R131) ----------------------------------------------------------------------------------------------------------------------

/-- The gates close, the record is made, both self-tests start (R131). -/
def State.beginArbitration (s : State) (kind : BitVec 2) (u : Nat) (addr : Word) (tag : BitVec 16) (hit : Option (BitVec 12 × Req))
    (late : Bool) : State :=
  let s := s.setPair fun p => { p with testing := true, standby := 3, wdogPaused := true, force := false, swapping := none,
                                       interrupted := hit, kind, unmatched := BitVec.ofNat 6 u, misTag := tag, lastReply := none,
                                       startTag := if late then p.startTag else p.pushTag, misAddr := if u = 0 then 0 else addr }
  ((s.bump 0x40028 1).raise 3 0 0).setPair fun p => { p with gate := false }

/-- The command just executed, when the TAG is its own; otherwise no command is interrupted. -/
def State.mismatchLast (s : State) (kind : BitVec 2) (u : Nat) (addr : Word) (tag : BitVec 16) : State :=
  let t := s.wrongWrites addr.toNat u
  match s.pair.lastCmd with
  | some (op, r) =>
    match (if r.tag = tag then t.takeBack op r else none) with
    | some t => t.beginArbitration kind u addr tag (some (op, r)) true
    | none => t.beginArbitration kind u addr tag none false
  | none => t.beginArbitration kind u addr tag none false

/-- MISMATCH: the interrupted command is the one at the front of the queue with that TAG, which the mismatch has kept from ending, or the
one just executed while its reply can still be taken back; its unmatched plain writes may have left wrong values behind (R131, R134,
R136). -/
def execMismatch (kind : BitVec 2) (unmatched : Nat) (addr : Word) (tag : BitVec 16) (s : State) : Res :=
  .next (if !s.serving || s.pair.standby != 0 then s
    else
      let u := min unmatched 32
      match s.nextCmd with
      | some (op, r) =>
        if r.tag = tag then
          let s := { s with ports := { s.ports with queue := if s.pair.interrupted.isSome then s.ports.queue else s.ports.queue.drop 1 } }
          (s.wrongWrites addr.toNat u).beginArbitration kind u addr tag (some (op, r)) false
        else s.mismatchLast kind u addr tag
      | none => s.mismatchLast kind u addr tag)

end Sys2Proof.Machine
end

