-- ==== Sys2Proof/Machine/Tick.lean ====
section
/-!
DEFINITION. The frame tick (R7 to R18, R25, R28, R34, R453): where ticks fall, what a tick does at once, the RWF values that take effect at
it, period switches, and RUN.
-/
namespace Sys2Proof.Machine

-- RWF values ------------------------------------------------------------------------------------------------------------------------------

/-- The value of a register that takes effect now, when one does. -/
def dueOf (due : SMap Word) (r : Reg) : Option Word := SMap.find due r.key

/-- What new CA_CHn values do to a channel at the tick (R165 to R168, R173, R190): `old` holds the values before it. -/
def State.chanEffect (s old : State) (due : SMap Word) (n : Nat) : State :=
  let t := s.tickCt
  let c := s.chan n
  let was := old.b (.caChCfg n) 0
  let now := s.b (.caChCfg n) 0
  let cfg := (dueOf due (.caChCfg n)).isSome
  let differs (r : Reg) (m : Word) : Bool := old.reg r &&& m != s.reg r &&& m
  let c := if differs (.caChLe n) 0xFFFFFFFF || differs (.caChCf n) 0xFFFFFFFF || differs (.caChTdc n) 0xB then
    { c with settleUntil := some (t + BitVec.ofNat 64 102400) } else c
  let range := if cfg || (old.paired n && !s.paired n) then BitVec.ofNat 2 (s.f (.caChCfg n) 5 4) else c.range
  let restart := now && (!was || old.paired n != s.paired n)
  let moved := now && range != c.range
  let c := { c with range, dropping := c.dropping && !(cfg && c.dropDue), dropDue := c.dropDue && !cfg, disc := c.disc && now && !(s.paired n && n % 2 == 1) }
  let fresh (c : Chan) : Chan := { c with dropping := false, dropDue := false, quiet := 0, quietNow := true }
  let (ended, done) := if restart || (was && !now) then c.flush (if old.paired n then 256 else 512) s.freeVal else (c, [])
  let s := if done = [] then s else ((if done.any (·.2) then s.raise 7 0 (at32 0 n) else s).draw).ringSamples n (done.map (·.1))
  let s :=
    if restart then (s.setChan n ((fresh ended).startInv .enable t)).logMark n 2 t range (s.invSamples n .enable)
    else if moved then
      let c := { (c.startInv .range t) with quiet := 0 }
      (s.setChan n c).logMark n 1 t range (s.invSamples n (c.inv.getD .range))
    else if was && !now then
      (s.setChan n { (fresh ended) with inv := none, drop := false }).setRennet fun r =>
        { r with zeroTo := SMap.put r.zeroTo n (s.extFine t / s.spanOf n) }
    else s.setChan n c
  if was != now then s.fxEnable n now else s

/-- Every channel in turn. -/
def State.chanEffects (s old : State) (due : SMap Word) : List Nat → State
  | [] => s
  | n :: ns => State.chanEffects (s.chanEffect old due n) old due ns

/-- A path entry whose EN takes effect at 0 or whose TYPE changes: every curd of the old type that waits for it is discarded (R40). -/
def State.pathEffect (s old : State) (p : Nat) : State :=
  let gone := old.b (.scPathCfg p) 31 &&
    (!s.b (.scPathCfg p) 31 || decide (old.f (.scPathMatch p) 7 0 ≠ s.f (.scPathMatch p) 7 0))
  if !gone then s
  else
    let waiting := s.sched.held.filter fun h => h.path == p
    let open_ := s.merge.held.filter fun m => m.path == p && !m.closed
    let s := (s.setHeld (s.sched.held.filter fun h => h.path != p)).setMerge fun m => { m with held := m.held.filter fun x => x.path != p || x.closed }
    let s := s.loseAll waiting
    open_.foldl (fun s m => s.lose p m.curd) s

/-- Every path in turn. -/
def State.pathEffects (s old : State) : List Nat → State
  | [] => s
  | p :: ps => State.pathEffects (s.pathEffect old p) old ps

/-- The transient buffer after its registers have changed: what it holds is valid from the tick on (R223, R228). -/
def State.bufferEffect (s old : State) : State :=
  let differs := [Reg.trTbCfg, .trTbSram, .trTbChmaskLo, .trTbChmaskHi].any fun r => old.reg r != s.reg r
  if !differs then s
  else s.setRennet fun r => { r with blocks := [], zeroTo := [], since := if s.b .trTbCfg 31 then some s.tickCt else none }

/-- Lane configurations that take effect, with what a change of EN or GEN does (R364). -/
def State.laneEffects (s : State) (due : SMap Word) : List Nat → State
  | [] => s
  | n :: ns => State.laneEffects (match dueOf due (.lkLCfg n) with | some v => s.applyLane n v | none => s) due ns

/-- Every RWF value that the tick has caught takes effect (R25). -/
def State.takeRwf (s : State) : State :=
  let due := s.csr.due
  let old := s
  let s := match dueOf due .euCfg with | some v => s.applyEu v | none => s
  let s := s.laneEffects due (List.range 48)
  let s := { s with csr := { s.csr with inForce := due.foldl (fun (m : SMap Word) (c : Nat × Word) => SMap.put m c.1 c.2) s.csr.inForce, due := [] } }
  let s := s.chanEffects old due (List.range s.res.channels)
  let s := s.pathEffects old (List.range 64)
  let s := if old.b .scMergeCfg 31 && !s.b .scMergeCfg 31 then s.mergeOff else s
  s.bufferEffect old

/-- RWF_TAKE_EFFECT (R25). -/
def execRwfTakeEffect (s : State) : Res := .next (if s.csr.due = [] then s else s.takeRwf)

-- period switch and stop ------------------------------------------------------------------------------------------------------------------------

/-- The tick that starts frame SWITCH_FN gives the new period (R14, R17). -/
def State.takeSwitch (s : State) : State :=
  match s.time.switch with
  | none => s
  | some w =>
    let p := BitVec.ofNat 21 (s.switchPeriod w)
    s.setTime fun t => { t with period := p, org := t.tickE, switch := none, switchNow := false, switchDone := true,
                                infForce := t.infForce || t.infeasible, infeasible := false }

/-- PERIOD_SWITCH (R14). -/
def execPeriodSwitch (s : State) : Res := .next (if s.time.switchNow then s.takeSwitch else s)

/-- The last tick that the root places: RUN in force is 0 (R13). -/
def State.endRun (s : State) : State :=
  (s.setTime fun t => { t with ticking := false, stopping := false, stopNow := false, switch := none, switchNow := false, infeasible := false,
                               infShadow := false, first := false }).clearAligned.dropCommit

/-- LAST_TICK (R13). -/
def execLastTick (s : State) : Res := .next (if s.time.stopNow then s.endRun else s)

/-- RUN_START: a write of RUN 1 by a port that may write; a follower refuses it (R10, R13). -/
def execRunStart (port : Nat) (s : State) : Res :=
  .next (if canWrite s port 7 && !s.follower then s.runOn else s)

/-- RUN_STOP: a write of RUN 0; a follower's RUN stays 0 (R10, R13). -/
def execRunStop (port : Nat) (s : State) : Res :=
  .next (if canWrite s port 7 && !s.follower then s.runOff else s)

/-- FRAME_SWITCH_ARM: a write of ARM 1 with RUN as it stands (R10, R15). -/
def execFrameSwitchArm (port : Nat) (s : State) : Res :=
  .next (if canWrite s port 7 && !s.follower && (armStop s).isNone then s.action 5 State.armSwitch else s)

-- the tick ---------------------------------------------------------------------------------------------------------------------------------------

/-- The state that a meaning leaves. -/
def after (r : Res) (s : State) : State := match r with | .next t => t | _ => s

/-- Entries of the frame that has ended and are not complete: each was aborted at its end (R27). -/
def State.abortAll (s : State) : List Nat → State
  | [] => s
  | i :: is => State.abortAll (after (execEntryAbort i s) s) is

/-- Merged paths whose close at the last tick has yet to be made (R308). -/
def State.closeAll (s : State) : List Nat → State
  | [] => s
  | p :: ps => State.closeAll (after (execMergeClose p [] s) s) ps

/-- TRIG_ARM_TAKES_EFFECT: at a tick, with the RWF values of that tick (R222). -/
def execTrigArmTakesEffect (s : State) : Res :=
  let s := after (execRwfTakeEffect s) s
  .next (if s.rennet.armNow then s.takeArm else s)

/-- TRIG_DISARM_TAKES_EFFECT (R222, R232). -/
def execTrigDisarmTakesEffect (s : State) : Res :=
  let s := after (execRwfTakeEffect s) s
  .next (if s.rennet.disarmNow then s.takeDisarm else s)

/-- What takes effect at the last tick has taken effect, though its own rows have not come: the RWF values, the schedule, the period, the
arm and the epoch of the new frame govern everything in it (R14, R23, R25, R222, R382). -/
def State.settleNow (s : State) : State :=
  if s.settled then s
  else
    let s := after (execRwfTakeEffect s) s
    let s := after (execScheduleSwap s) s
    let s := after (execPeriodSwitch s) s
    let s := after (execTrigArmTakesEffect s) s
    let s := after (execTrigDisarmTakesEffect s) s
    let s := after (execEpochSwitch s) s
    after (execLastTick s) s

/-- The chain of an FX_CTURN run read and completed, a descriptor at a time (R300). -/
def State.runChain (s : State) (ch : Nat) : Nat → State
  | 0 => s
  | n + 1 => if !(s.dmaCh ch).busy then s else State.runChain (after (execDmaDescriptorDone ch (after (execDmaDescriptor ch [] s) s)) s) ch n

/-- The chains of a frame's corner turn complete before its closing tick (R300). -/
def State.closeChains (s : State) : List Nat → State
  | [] => s
  | c :: cs =>
    let q := s.dmaCh (4 * c + 3)
    State.closeChains (if q.busy && q.entry == fxChain then s.runChain (4 * c + 3) 1024 else s) cs

/-- What the last tick still has to do is done before the next one. -/
def State.settleTick (s : State) : State :=
  let s := s.closeAll s.merge.closeDue
  let s := ((after (execMergeSlotEmpty s) s).settleNow).drainTrigs (BitVec.ofNat 64 (s.nextTick * 512))
  let s := ((s.abortAll s.sched.running).closeChains (List.range s.res.clusters)).closeHits
  after (execLastTick s) s

/-- The root's time core is ready (R12). -/
def State.rootReady (s : State) : Bool :=
  match s.mode with
  | 0 => true
  | 1 => s.time.timeSet && decide (s.time.state = 2 ∨ s.time.state = 3)
  | _ => decide (s.time.state = 2 ∨ s.time.state = 3)

/-- ALIGNED is set at this tick (R12, R150). -/
def State.alignsNow (s : State) : Bool :=
  let t := s.time
  if s.follower then decide (t.state = 2) && t.upAligned && t.fresh
  else s.rootReady && !t.stopping && !t.waitHost && !(t.waitReturn && (t.pllRef == 3 || t.stepped))

/-- ALIGNED and what it brings. -/
def State.align (s : State) : State :=
  if s.time.aligned || !s.alignsNow then s else s.setTime fun t => { t with aligned := true, waitReturn := false }

/-- Types of the result streams that the device originates (R32, R34): those that it has formed, and those of the ROM kernels of the
active schedule. -/
def State.resultStreams (s : State) : List Nat :=
  let rom : Nat → Option Nat := fun h => match h with | 1 => some 0x11 | 3 => some 0x12 | 4 => some 0x13 | 5 => some 0x03 | _ => none
  let run := (s.sched.active.filter fun e => e.kind == 1).filterMap fun e => rom (e.w3.toNat % 65536)
  let own := s.sched.formed.filter fun c => c.1 / 256 == s.ports.nodeId.toNat
  let formed := (own.map (·.1 % 256)).filter fun k => decide (k = 0x03 ∨ (0x10 ≤ k ∧ k ≤ 0x1F) ∨ (0x30 ≤ k ∧ k ≤ 0x7F))
  (run ++ formed).eraseDups

/-- Those streams closed at a frame. -/
def State.closeStreams (s : State) (fn : Word) : List Nat → State
  | [] => s
  | k :: ks => State.closeStreams (s.closeStream k fn) fn ks

/-- At the first tick no whole frame lies behind: what was seen between frames does not count towards a rise of gain (R170). -/
def State.firstTick (s : State) : List Nat → State
  | [] => s
  | n :: ns => State.firstTick (if s.chanOn n then s.setChan n { s.chan n with quietNow := true } else s) ns

/-- The budget of the ended frame is kept for its late items, and the frame counts towards a rise of gain (R30, R170, R201). -/
def State.tickChan (s : State) (fn : FN) : List Nat → State
  | [] => s
  | n :: ns =>
    let c := s.chan n
    let s :=
      if !s.chanOn n then s
      else
        let s := s.setChan n { c with quiet := if c.quietNow then c.quiet + 1 else 0, quietNow := true }
        let h := s.hitChan n
        if h.frames.any fun f => f.fn == fn then s else s.setHitChan n { h with frames := h.frames ++ [s.hitFrame n fn] }
    State.tickChan s fn ns

/-- Each lane at a tick: the transmission under way has ended, its slots close, and SLOT flits are counted per frame (R366, R372, R373). -/
def State.tickLane (s : State) : List Nat → State
  | [] => s
  | n :: ns =>
    let s := s.flushLane n
    let l := s.lane n
    let again := l.slotSeen && l.slotFull
    let s := s.setLane n { l with strangerNow := false, openSlots := [], slotSeen := false, slotFull := l.slotSeen,
                                  slotQuiet := if (s.fwdLane n).isSome && !l.slotSeen then l.slotQuiet + 1 else 0 }
    let s := match s.fwdLane n with
      | some k => if again then s.modLane k fun l => { l with takeover := false } else s
      | none => s
    State.tickLane s ns

/-- Budgets of every cluster reopen (R28, R267). -/
def State.tickCluster (s : State) : List Nat → State
  | [] => s
  | c :: cs => State.tickCluster (s.setCluster c { s.cluster c with resUsed := 0 }) cs

/-- RWF values that wait: the tick catches them. A held change of a lane keeps EN and GEN until its own tick (R25, R364). -/
def State.catchLane (s : State) : List Nat → State
  | [] => s
  | n :: ns =>
    let r : Reg := .lkLCfg n
    let l := s.lane n
    let s := match l.heldCfg with
      | none => s
      | some v =>
        if l.heldDue || !l.trained then s.setLane n { l with heldCfg := none, heldDue := false }
        else
          let now := (v &&& ~~~enGen) ||| (s.reg r &&& enGen)
          { s with csr := { s.csr with due := SMap.put s.csr.due r.key now, pend := SMap.put s.csr.pend r.key v } }
    State.catchLane s ns

/-- Pending values become due. -/
def State.catchRwf (s : State) : State :=
  let s := { s with csr := { s.csr with due := s.csr.pend, pend := [] } }
  s.catchLane (List.range 48)

/-- What the tick sets going for the rows that follow it (R13, R14, R25, R222, R308, R311, R382). -/
def State.raiseDue (s : State) : State :=
  let fn := s.time.fn
  let here (w : Word) : Bool := decide (0 ≤ sdiff 32 fn.toNat w.toNat)
  let s := s.setTime fun t =>
    { t with stopNow := t.ticking && t.stopping,
             switchNow := !t.stopping && (match t.switch with | some w => decide (0 ≤ sdiff 48 fn.toNat w.fn.toNat) | none => false),
             freq := t.freq.map fun q =>
               if q.opened then q else { q with opened := true, start := s.tickCt, unaligned := !t.aligned } }
  let s := s.setSched fun q => { q with swapNow := q.swapDue, begun := [] }
  let s := s.setRennet fun r => { r with armNow := r.armDue.isSome, disarmNow := r.disarmDue }
  let s := s.setLink fun l => { l with epochNow := match l.commitFn with | some w => here w | none => false }
  s.setMerge fun m => { m with closeDue := (List.range 64).filter s.isMerged, emptyDue := s.b .scMergeCfg 31 }

/-- The frame that ends: its results are formed, its streams closed, its budgets gone (R28, R30, R34). -/
def State.endFrame (s : State) : State :=
  let fn := s.time.fn
  let s := s.tickChan fn (List.range s.res.channels)
  let s := s.zeroNow.endRennet fn (BitVec.ofNat 64 (s.nextTick * 512))
  let close : CT := BitVec.ofNat 64 ((s.nextTick + 320 + s.f .hbCfg 13 8 * 16) * 512)
  let s := if 0 < s.res.channels then { s with hits := { s.hits with ended := s.hits.ended ++ [(fn, close)] } } else s
  let s := s.setHeld (s.sched.held.map fun h => if h.kind = 0 then { h with ready := true } else h)
  s.closeStreams (fn.setWidth 32) s.resultStreams

/-- Marks of once-a-frame events and budgets at a tick (R28, R33, R202, R227, R318). -/
def State.reopen (s : State) : State :=
  let s := (s.tickLane (List.range 48)).flushUplink
  let s := s.tickCluster (List.range s.res.clusters)
  let s := { s with hits := { s.hits with wheyNow := false }, engines := { s.engines with wheyNow := false } }
  let s := s.setRennet fun r => { r with wheyNow := false }
  let s := s.setSched fun q => { q with lossNow := [] }
  s.setMerge fun m => { m with evUsed := 0, evWhey := false }

/-- The tick itself: time, FN, and ALIGNED (R7, R9, R12, R150). -/
def State.placeTick (s : State) : State :=
  let e := s.nextTick
  let s := s.advanceTo (BitVec.ofNat 64 (e * 512))
  let s := s.setTime fun t =>
    { t with tickE := BitVec.ofNat 87 e, first := false,
             fn := t.fnAt e }
  s.align

/-- FRAME_TICK: the frame that runs ends, and the next one starts (R7, R9, R25, R28, R34). -/
def execFrameTick (s : State) : Res :=
  .next (
    let s := s.settleTick
    if !s.rel 7 || !s.placesTicks then s
    else
      let s := if s.time.first then s.firstTick (List.range s.res.channels) else s.endFrame
      let s := s.placeTick
      let s := s.reopen
      (s.closeRennet.catchRwf).raiseDue)

end Sys2Proof.Machine
end

