-- ==== Sys2Proof/Machine/Sample.lean ====
section
/-!
DEFINITION. The channel events of a frame: a sample leaves its digitiser, is corrected, and reaches the hit builder's history, the sample
ring and the transient buffer (R164, R165, R185, R186, R223, R224, R292); a stop is taken in (R174 to R177); a hit forms its item (R193 to
R202). Each is judged by what is in force from its tick on (R25).
-/
namespace Sys2Proof.Machine

/-- A digitiser of a released, enabled channel takes a sample (R164). -/
def execDigitiserSample (ch : Nat) (code : BitVec 12) (s : State) : Res :=
  let s := s.settleNow
  let g := s.governor ch
  .next (if !s.chanOn g || decide (s.res.channels ≤ ch) then s
    else
      let (s, done) := s.takeSample ch code
      let c := s.chan g
      let odd := s.paired ch && decide (ch % 2 = 1)
      let t := ((if odd then c.lastOdd else c.lastEven).getD s.time.ct)
      (s.ringSamples g done).bufferSample g t code)

/-- TDC_STOP: an edge of a channel's discriminator (R174 to R177). -/
def execTdcStop (ch : Nat) (trailing : Bool) (cycle : Byte) (coarse : BitVec 12) (bin : BitVec 9) (s : State) : Res :=
  let s := s.settleNow
  .next (s.takeStop ch (s.stopAt ch trailing cycle coarse bin))

/-- HIT_FORM: the oldest timing stop whose trailing stop is settled forms its item, whether or not its channel is enabled still (R193 to
R202). -/
def execHitForm (ch : Nat) (s : State) : Res :=
  let s := s.settleNow
  .next (if !s.rel 5 || decide (s.res.channels ≤ ch) then s else (s.drainStops ch none 16).formHit ch)

/-- TOT_WAIT_EXPIRY: the oldest hit that still waits gets no trailing stop (R196). -/
def execTotWaitExpiry (ch : Nat) (s : State) : Res :=
  let s := s.settleNow
  .next (if !s.rel 5 || decide (s.res.channels ≤ ch) then s
    else
      let s := s.drainStops ch none 16
      s.setChan ch { s.chan ch with hits := endWait (s.chan ch).hits })

/-- TRIG_IN_EDGE, with what its frame has in force (R25, R159, R160, R215). -/
def execTrigInEdge (t : CT) (s : State) : Res := trigInEdge t s.settleNow

/-- PATTERN_FIRE, with what its frame has in force (R25, R216, R217). -/
def execPatternFire (k : Nat) (cycle : CT) (s : State) : Res := patternFire k cycle s.settleNow

/-- CT_COMPARE, with what its frame has in force (R25, R218). -/
def execCtCompare (s : State) : Res := ctCompare s.settleNow

/-- TRIGGER_DECISION, with what its frame has in force (R25, R220, R221). -/
def execTriggerDecision (s : State) : Res := triggerDecision s.settleNow

/-- AUTO_TIMEOUT, with what its frame has in force (R25, R234). -/
def execAutoTimeout (s : State) : Res := autoTimeout s.settleNow

/-- AUTORANGE_DROP, with what its frame has in force (R25, R168). -/
def execAutorangeDrop (ch : Nat) (s : State) : Res := autorangeDrop ch s.settleNow

/-- AUTORANGE_RISE, with what its frame has in force (R25, R170). -/
def execAutorangeRise (ch : Nat) (s : State) : Res := autorangeRise ch s.settleNow

end Sys2Proof.Machine
end

