-- ==== Sys2Proof/Machine/System.lean ====
section
/-!
DEFINITION. The system commands of R116, R121, R122 and R126: ECHO, IDENTIFY, RESET_DEVICE and its reset, HEALTH_REPORT,
NOTICE_SUBSCRIBE.
-/
namespace Sys2Proof.Machine

/-- ECHO: the payload comes back unchanged (R116). -/
def execEcho (r : Req) (s : State) : Res := .next (s.runOp 0x000 r true fun s => tell s r.payload)

/-- The six words of IDENTIFY (R116, R52, R53). -/
def identifyWords (s : State) : List Word :=
  [0x4B480001, s.res.variant, s.res.ids, s.reg .idRole,
   at32 16 s.boot.linkRev.toNat ||| s.ports.nodeId.setWidth 32, s.boot.fwVersion]

/-- IDENTIFY (R116). -/
def execIdentify (r : Req) (s : State) : Res := .next (s.runOp 0x001 r true fun s => tell s (identifyWords s))

/-- RESET_DEVICE: the key PARAM, then the reset is scheduled (R121). -/
def execResetDevice (r : Req) (s : State) : Res :=
  .next (s.runOp 0x002 r true fun s =>
    if r.param = 0x525354 then yes { s with ports := { s.ports with resetDue := some (r.broadcast || r.noAck) } }
    else no s .outOfRange)

/-- The scheduled reset takes effect: queued commands and every buffer are lost with everything else (R72, R121). -/
def execResetDeviceReset (s : State) : Res :=
  .next (if s.ports.resetDue.isSome || s.fires 4 then s.reset_ 4 0xF true s.power.rstLow false else s)

/-- HEALTH_REPORT changes nothing (R122). -/
def execHealthReport (r : Req) (s : State) : Res := .next (s.runOp 0x003 r true fun s => tell s (healthWords s))

/-- NOTICE_SUBSCRIBE sets the arrival port's mask and returns the one before (R126); on port 3 its lane is kept (R103). -/
def execNoticeSubscribe (r : Req) (s : State) : Res :=
  .next (s.runOp 0x006 r true fun s =>
    let q := s.port r.port
    let t := s.setPort r.port { q with mask := BitVec.ofNat 19 (r.p 18 0) }
    let t := if r.port = 3 then { t with ports := { t.ports with noticeLane := r.lane } }
      else if r.port = 4 then { t with ports := { t.ports with noticePeer := SMap.get {} t.ports.peers r.tag.toNat } } else t
    (t, some { status := .ok, param := q.mask.toNat }))

end Sys2Proof.Machine
end

