-- ==== Sys2Proof/Machine/Dispatch.lean ====
section
/-! DEFINITION. The dispatch: one arm for each command, a direct call of its meaning. -/
namespace Sys2Proof.Machine

/-- The effect of a command on everything but the queue of waiting commands. -/
def exec (i : Instr) (s : State) : Host.Outcome State Fault Refusal :=
  match i with
  | .echo r => Sys2Proof.Machine.execEcho r s
  | .identify r => Sys2Proof.Machine.execIdentify r s
  | .resetDevice r => Sys2Proof.Machine.execResetDevice r s
  | .resetDeviceReset => Sys2Proof.Machine.execResetDeviceReset s
  | .healthReport r => Sys2Proof.Machine.execHealthReport r s
  | .enumerate r => Sys2Proof.Machine.execEnumerate r s
  | .featureEpoch r => Sys2Proof.Machine.execFeatureEpoch r s
  | .noticeSubscribe r => Sys2Proof.Machine.execNoticeSubscribe r s
  | .csrRead r => Sys2Proof.Machine.execCsrRead r s
  | .csrWrite r => Sys2Proof.Machine.execCsrWrite r s
  | .csrReadBlock r => Sys2Proof.Machine.execCsrReadBlock r s
  | .csrWriteBlock r => Sys2Proof.Machine.execCsrWriteBlock r s
  | .csrModify r => Sys2Proof.Machine.execCsrModify r s
  | .registerWrite port addr value => Sys2Proof.Machine.execRegisterWrite port addr value s
  | .snapshotRead addr => Sys2Proof.Machine.execSnapshotRead addr s
  | .rcRead port addr => Sys2Proof.Machine.execRcRead port addr s
  | .stampRead port n => Sys2Proof.Machine.execStampRead port n s
  | .missRead port => Sys2Proof.Machine.execMissRead port s
  | .quarantineRead port => Sys2Proof.Machine.execQuarantineRead port s
  | .memRead r found => Sys2Proof.Machine.execMemRead r found s
  | .memWrite r found => Sys2Proof.Machine.execMemWrite r found s
  | .readModifyWrite vat addr bytes found => Sys2Proof.Machine.execReadModifyWrite vat addr bytes found s
  | .regionSet r => Sys2Proof.Machine.execRegionSet r s
  | .regionReady region => Sys2Proof.Machine.execRegionReady region s
  | .regionRead r => Sys2Proof.Machine.execRegionRead r s
  | .spareRow r => Sys2Proof.Machine.execSpareRow r s
  | .rowMoveDone stack found => Sys2Proof.Machine.execRowMoveDone stack found s
  | .writeBack vat addr => Sys2Proof.Machine.execWriteBack vat addr s
  | .imageErase r => Sys2Proof.Machine.execImageErase r s
  | .imageEraseDone => Sys2Proof.Machine.execImageEraseDone s
  | .imageWrite r => Sys2Proof.Machine.execImageWrite r s
  | .imageWriteDone => Sys2Proof.Machine.execImageWriteDone s
  | .imageVerify r => Sys2Proof.Machine.execImageVerify r s
  | .imageVerifyDone => Sys2Proof.Machine.execImageVerifyDone s
  | .imageArm r => Sys2Proof.Machine.execImageArm r s
  | .imageConfirm r => Sys2Proof.Machine.execImageConfirm r s
  | .imageInfo r => Sys2Proof.Machine.execImageInfo r s
  | .bootGo r => Sys2Proof.Machine.execBootGo r s
  | .schedLoad r => Sys2Proof.Machine.execSchedLoad r s
  | .schedCommit r => Sys2Proof.Machine.execSchedCommit r s
  | .scheduleSwap => Sys2Proof.Machine.execScheduleSwap s
  | .shadowCopyDone => Sys2Proof.Machine.execShadowCopyDone s
  | .schedRead r => Sys2Proof.Machine.execSchedRead r s
  | .kernelLoad r => Sys2Proof.Machine.execKernelLoad r s
  | .kernelInfo r => Sys2Proof.Machine.execKernelInfo r s
  | .trigArm r => Sys2Proof.Machine.execTrigArm r s
  | .trigArmTakesEffect => Sys2Proof.Machine.execTrigArmTakesEffect s
  | .trigDisarm r => Sys2Proof.Machine.execTrigDisarm r s
  | .trigDisarmTakesEffect => Sys2Proof.Machine.execTrigDisarmTakesEffect s
  | .trigForce r => Sys2Proof.Machine.execTrigForce r s
  | .segmentRead r found => Sys2Proof.Machine.execSegmentRead r found s
  | .calRun r => Sys2Proof.Machine.execCalRun r s
  | .calRunDone ch m => Sys2Proof.Machine.execCalRunDone ch m s
  | .linkTrain r => Sys2Proof.Machine.execLinkTrain r s
  | .linkTrainTimeout lane => Sys2Proof.Machine.execLinkTrainTimeout lane s
  | .linkStatus r => Sys2Proof.Machine.execLinkStatus r s
  | .rosterLoad r => Sys2Proof.Machine.execRosterLoad r s
  | .rosterRead r => Sys2Proof.Machine.execRosterRead r s
  | .linkRtt r => Sys2Proof.Machine.execLinkRtt r s
  | .pressJob r found => Sys2Proof.Machine.execPressJob r found s
  | .pressFlush r found => Sys2Proof.Machine.execPressFlush r found s
  | .timeSet r => Sys2Proof.Machine.execTimeSet r s
  | .timeRead r => Sys2Proof.Machine.execTimeRead r s
  | .freqMeasure r => Sys2Proof.Machine.execFreqMeasure r s
  | .freqMeasureDone stamps lost => Sys2Proof.Machine.execFreqMeasureDone stamps lost s
  | .pulseSet r => Sys2Proof.Machine.execPulseSet r s
  | .pulseRise k => Sys2Proof.Machine.execPulseRise k s
  | .pulseFall k => Sys2Proof.Machine.execPulseFall k s
  | .hkSeqLoad r => Sys2Proof.Machine.execHkSeqLoad r s
  | .hkSeqStart r => Sys2Proof.Machine.execHkSeqStart r s
  | .hkRead r => Sys2Proof.Machine.execHkRead r s
  | .bistRun r => Sys2Proof.Machine.execBistRun r s
  | .bistDone failed target unit addr => Sys2Proof.Machine.execBistDone failed target unit addr s
  | .testmuxSet r => Sys2Proof.Machine.execTestmuxSet r s
  | .runStart port => Sys2Proof.Machine.execRunStart port s
  | .runStop port => Sys2Proof.Machine.execRunStop port s
  | .lastTick => Sys2Proof.Machine.execLastTick s
  | .frameSwitchArm port => Sys2Proof.Machine.execFrameSwitchArm port s
  | .periodSwitch => Sys2Proof.Machine.execPeriodSwitch s
  | .frameTick => Sys2Proof.Machine.execFrameTick s
  | .rwfTakeEffect => Sys2Proof.Machine.execRwfTakeEffect s
  | .laneCfgHoldExpiry lane => Sys2Proof.Machine.execLaneCfgHoldExpiry lane s
  | .returnSwitch port => Sys2Proof.Machine.execReturnSwitch port s
  | .returnSwitchDone => Sys2Proof.Machine.execReturnSwitchDone s
  | .oscTrimStep => Sys2Proof.Machine.execOscTrimStep s
  | .activeRoleWrite port value => Sys2Proof.Machine.execActiveRoleWrite port value s
  | .readmit port => Sys2Proof.Machine.execReadmit port s
  | .forceSwap port => Sys2Proof.Machine.execForceSwap port s
  | .watchdogFeed port value => Sys2Proof.Machine.execWatchdogFeed port value s
  | .watchdogEnable port value => Sys2Proof.Machine.execWatchdogEnable port value s
  | .biasKey port value => Sys2Proof.Machine.execBiasKey port value s
  | .biasKeyClose => Sys2Proof.Machine.execBiasKeyClose s
  | .biasEnableWrite port value => Sys2Proof.Machine.execBiasEnableWrite port value s
  | .modeWrite port value => Sys2Proof.Machine.execModeWrite port value s
  | .referenceTakeBack port value => Sys2Proof.Machine.execReferenceTakeBack port value s
  | .cmpArm port => Sys2Proof.Machine.execCmpArm port s
  | .ctCompare => Sys2Proof.Machine.execCtCompare s
  | .cntClear port value => Sys2Proof.Machine.execCntClear port value s
  | .logClear port => Sys2Proof.Machine.execLogClear port s
  | .deepIdleEnter port lane => Sys2Proof.Machine.execDeepIdleEnter port lane s
  | .deepIdleWake port lane => Sys2Proof.Machine.execDeepIdleWake port lane s
  | .mergeEnable port value => Sys2Proof.Machine.execMergeEnable port value s
  | .uplinkEnable port value => Sys2Proof.Machine.execUplinkEnable port value s
  | .supplyGood n => Sys2Proof.Machine.execSupplyGood n s
  | .supplyBad n => Sys2Proof.Machine.execSupplyBad n s
  | .supplyWarn n => Sys2Proof.Machine.execSupplyWarn n s
  | .powerOnReset supply => Sys2Proof.Machine.execPowerOnReset supply s
  | .rstNReset => Sys2Proof.Machine.execRstNReset s
  | .watchdogExpiry => Sys2Proof.Machine.execWatchdogExpiry s
  | .clockLossReset => Sys2Proof.Machine.execClockLossReset s
  | .fuseCrcExhaustion => Sys2Proof.Machine.execFuseCrcExhaustion s
  | .resetHoldEnd => Sys2Proof.Machine.execResetHoldEnd s
  | .domainRelease => Sys2Proof.Machine.execDomainRelease s
  | .fuseLoad failRow => Sys2Proof.Machine.execFuseLoad failRow s
  | .xtalWaitExpiry khz => Sys2Proof.Machine.execXtalWaitExpiry khz s
  | .pllLock => Sys2Proof.Machine.execPllLock s
  | .dividerRampDone => Sys2Proof.Machine.execDividerRampDone s
  | .pllUnlock pll => Sys2Proof.Machine.execPllUnlock pll s
  | .fallbackSwitch => Sys2Proof.Machine.execFallbackSwitch s
  | .forcedSwitch => Sys2Proof.Machine.execForcedSwitch s
  | .oscReadyTimeout => Sys2Proof.Machine.execOscReadyTimeout s
  | .ckOscFail => Sys2Proof.Machine.execCkOscFail s
  | .primaryOk => Sys2Proof.Machine.execPrimaryOk s
  | .bootRomStart => Sys2Proof.Machine.execBootRomStart s
  | .bootAttempt sfdp => Sys2Proof.Machine.execBootAttempt sfdp s
  | .downloadTimeout => Sys2Proof.Machine.execDownloadTimeout s
  | .packetReceive port lane words => Sys2Proof.Machine.execPacketReceive port lane words s
  | .mgmtWrite words => Sys2Proof.Machine.execMgmtWrite words s
  | .mgmtRead complete => Sys2Proof.Machine.execMgmtRead complete s
  | .mgmtStatus => Sys2Proof.Machine.execMgmtStatus s
  | .cmdDataCapture => Sys2Proof.Machine.execCmdDataCapture s
  | .cmdDataUpdate valid w => Sys2Proof.Machine.execCmdDataUpdate valid w s
  | .jtagInstruction code => Sys2Proof.Machine.execJtagInstruction code s
  | .testLogicReset => Sys2Proof.Machine.execTestLogicReset s
  | .outstandingTimeout tag node => Sys2Proof.Machine.execOutstandingTimeout tag node s
  | .mismatch kind unmatched addr tag => Sys2Proof.Machine.execMismatch kind unmatched addr tag s
  | .arbitration aPasses bPasses => Sys2Proof.Machine.execArbitration aPasses bPasses s
  | .failOver => Sys2Proof.Machine.execFailOver s
  | .standbySelftestSlice passes => Sys2Proof.Machine.execStandbySelftestSlice passes s
  | .demotedSelftest passes => Sys2Proof.Machine.execDemotedSelftest passes s
  | .resyncDone => Sys2Proof.Machine.execResyncDone s
  | .takeBack => Sys2Proof.Machine.execTakeBack s
  | .transfer entry => Sys2Proof.Machine.execTransfer entry s
  | .dmaDescriptor ch found => Sys2Proof.Machine.execDmaDescriptor ch found s
  | .dmaDescriptorDone ch => Sys2Proof.Machine.execDmaDescriptorDone ch s
  | .kernelRun entry => Sys2Proof.Machine.execKernelRun entry s
  | .kernelRunComplete cluster => Sys2Proof.Machine.execKernelRunComplete cluster s
  | .curdEmission entry => Sys2Proof.Machine.execCurdEmission entry s
  | .housekeepingStep entry => Sys2Proof.Machine.execHousekeepingStep entry s
  | .scrubStep entry found => Sys2Proof.Machine.execScrubStep entry found s
  | .pressEntry entry => Sys2Proof.Machine.execPressEntry entry s
  | .transientBufferReadout entry found => Sys2Proof.Machine.execTransientBufferReadout entry found s
  | .entryAbort entry => Sys2Proof.Machine.execEntryAbort entry s
  | .curdDeadline path => Sys2Proof.Machine.execCurdDeadline path s
  | .tdcStop ch trailing cycle coarse bin => Sys2Proof.Machine.execTdcStop ch trailing cycle coarse bin s
  | .autorangeDrop ch => Sys2Proof.Machine.execAutorangeDrop ch s
  | .autorangeRise ch => Sys2Proof.Machine.execAutorangeRise ch s
  | .invIntervalEnd ch => Sys2Proof.Machine.execInvIntervalEnd ch s
  | .hitForm ch => Sys2Proof.Machine.execHitForm ch s
  | .totWaitExpiry ch => Sys2Proof.Machine.execTotWaitExpiry ch s
  | .hitFrameClose parityErrors stagePoison => Sys2Proof.Machine.execHitFrameClose parityErrors stagePoison s
  | .patternFire k cycle => Sys2Proof.Machine.execPatternFire k cycle s
  | .trigInEdge t => Sys2Proof.Machine.execTrigInEdge t s
  | .autoTimeout => Sys2Proof.Machine.execAutoTimeout s
  | .triggerDecision => Sys2Proof.Machine.execTriggerDecision s
  | .trigOutPulse => Sys2Proof.Machine.execTrigOutPulse s
  | .recordComplete => Sys2Proof.Machine.execRecordComplete s
  | .rearmComplete => Sys2Proof.Machine.execRearmComplete s
  | .nop e w => Sys2Proof.Machine.execNop e w s
  | .halt e w => Sys2Proof.Machine.execHalt e w s
  | .br e w => Sys2Proof.Machine.execBr e w s
  | .brdec e w => Sys2Proof.Machine.execBrdec e w s
  | .id e w => Sys2Proof.Machine.execId e w s
  | .time e w => Sys2Proof.Machine.execTime e w s
  | .li e w => Sys2Proof.Machine.execLi e w s
  | .addi e w => Sys2Proof.Machine.execAddi e w s
  | .add e w => Sys2Proof.Machine.execAdd e w s
  | .sub e w => Sys2Proof.Machine.execSub e w s
  | .slli e w => Sys2Proof.Machine.execSlli e w s
  | .srai e w => Sys2Proof.Machine.execSrai e w s
  | .cmp e w => Sys2Proof.Machine.execCmp e w s
  | .cmpi e w => Sys2Proof.Machine.execCmpi e w s
  | .agset e w => Sys2Proof.Machine.execAgset e w s
  | .agget e w => Sys2Proof.Machine.execAgget e w s
  | .setlen e w => Sys2Proof.Machine.execSetlen e w s
  | .agexp e w => Sys2Proof.Machine.execAgexp e w s
  | .agidx e w => Sys2Proof.Machine.execAgidx e w s
  | .ld e w found => Sys2Proof.Machine.execLd e w found s
  | .ldp e w found => Sys2Proof.Machine.execLdp e w found s
  | .st e w => Sys2Proof.Machine.execSt e w s
  | .stp e w => Sys2Proof.Machine.execStp e w s
  | .vadd e w => Sys2Proof.Machine.execVadd e w s
  | .vsub e w => Sys2Proof.Machine.execVsub e w s
  | .vsra e w => Sys2Proof.Machine.execVsra e w s
  | .vand e w => Sys2Proof.Machine.execVand e w s
  | .vor e w => Sys2Proof.Machine.execVor e w s
  | .vxor e w => Sys2Proof.Machine.execVxor e w s
  | .vmov e w => Sys2Proof.Machine.execVmov e w s
  | .vtag e w => Sys2Proof.Machine.execVtag e w s
  | .vget e w => Sys2Proof.Machine.execVget e w s
  | .vsplat e w => Sys2Proof.Machine.execVsplat e w s
  | .mac8 e w => Sys2Proof.Machine.execMac8 e w s
  | .mac4 e w => Sys2Proof.Machine.execMac4 e w s
  | .mac16 e w => Sys2Proof.Machine.execMac16 e w s
  | .bclr e w => Sys2Proof.Machine.execBclr e w s
  | .movs e w => Sys2Proof.Machine.execMovs e w s
  | .emit e w => Sys2Proof.Machine.execEmit e w s
  | .resultAdmission cluster => Sys2Proof.Machine.execResultAdmission cluster s
  | .trig e w apart => Sys2Proof.Machine.execTrig e w apart s
  | .mergeClose path found => Sys2Proof.Machine.execMergeClose path found s
  | .mergeSlotEmpty => Sys2Proof.Machine.execMergeSlotEmpty s
  | .epochSwitch => Sys2Proof.Machine.execEpochSwitch s
  | .ppsEdge t => Sys2Proof.Machine.execPpsEdge t s
  | .refPresent which => Sys2Proof.Machine.execRefPresent which s
  | .refLost which => Sys2Proof.Machine.execRefLost which s
  | .ppsLost => Sys2Proof.Machine.execPpsLost s
  | .epochWrap => Sys2Proof.Machine.execEpochWrap s
  | .servoUpdate => Sys2Proof.Machine.execServoUpdate s
  | .exchangeTimeout => Sys2Proof.Machine.execExchangeTimeout s
  | .holdLimitExpiry => Sys2Proof.Machine.execHoldLimitExpiry s
  | .ptpOffsetEstimate offset n => Sys2Proof.Machine.execPtpOffsetEstimate offset n s
  | .ptpSyncTimeout => Sys2Proof.Machine.execPtpSyncTimeout s
  | .bringupStepComplete lane => Sys2Proof.Machine.execBringupStepComplete lane s
  | .bringupTimeout lane => Sys2Proof.Machine.execBringupTimeout lane s
  | .laneDown lane => Sys2Proof.Machine.execLaneDown lane s
  | .laneRefclkLost => Sys2Proof.Machine.execLaneRefclkLost s
  | .curdReceive lane c crcOk => Sys2Proof.Machine.execCurdReceive lane c crcOk s
  | .damagedCodeword lane curdFlits => Sys2Proof.Machine.execDamagedCodeword lane curdFlits s
  | .cap lane c => Sys2Proof.Machine.execCap lane c s
  | .slot lane number free source fn => Sys2Proof.Machine.execSlot lane number free source fn s
  | .slotOpen lane number => Sys2Proof.Machine.execSlotOpen lane number s
  | .takeover lane => Sys2Proof.Machine.execTakeover lane s
  | .tsSync lane seq t2 => Sys2Proof.Machine.execTsSync lane seq t2 s
  | .tsReq lane seq t4 => Sys2Proof.Machine.execTsReq lane seq t4 s
  | .tsData lane seq t1 d41 => Sys2Proof.Machine.execTsData lane seq t1 d41 s
  | .timeExchangeStart lane => Sys2Proof.Machine.execTimeExchangeStart lane s
  | .frame lane period fn epoch aligned switchPending => Sys2Proof.Machine.execFrame lane period fn epoch aligned switchPending s
  | .frameSw lane switchFn nextPeriod => Sys2Proof.Machine.execFrameSw lane switchFn nextPeriod s
  | .trigFlit lane origin sources t => Sys2Proof.Machine.execTrigFlit lane origin sources t s
  | .sleep lane => Sys2Proof.Machine.execSleep lane s
  | .linkUnknown lane kind => Sys2Proof.Machine.execLinkUnknown lane kind s
  | .carriageSend lane => Sys2Proof.Machine.execCarriageSend lane s
  | .cdcTimeout r => Sys2Proof.Machine.execCdcTimeout r s
  | .cdcDrop lane carriage => Sys2Proof.Machine.execCdcDrop lane carriage s
  | .euUp => Sys2Proof.Machine.execEuUp s
  | .euDown => Sys2Proof.Machine.execEuDown s
  | .ethFrameReceive fr => Sys2Proof.Machine.execEthFrameReceive fr s
  | .hkConnect => Sys2Proof.Machine.execHkConnect s
  | .hkSettleEnd => Sys2Proof.Machine.execHkSettleEnd s
  | .hkConversionEnd microvolt2p23 => Sys2Proof.Machine.execHkConversionEnd microvolt2p23 s
  | .hkResultPublish => Sys2Proof.Machine.execHkResultPublish s
  | .sensorFault source kind => Sys2Proof.Machine.execSensorFault source kind s
  | .dieSensorRead values => Sys2Proof.Machine.execDieSensorRead values s
  | .stackTrainingDone stack ok => Sys2Proof.Machine.execStackTrainingDone stack ok s
  | .stackTempRead stack value => Sys2Proof.Machine.execStackTempRead stack value s
  | .powerOff => Sys2Proof.Machine.execPowerOff s
  | .rstNRelease => Sys2Proof.Machine.execRstNRelease s
  | .laneRefclkReturn => Sys2Proof.Machine.execLaneRefclkReturn s
  | .signalDetection lane => Sys2Proof.Machine.execSignalDetection lane s
  | .bringupSignalLoss lane => Sys2Proof.Machine.execBringupSignalLoss lane s
  | .digitiserSample ch code => Sys2Proof.Machine.execDigitiserSample ch code s
  | .oscSettled => Sys2Proof.Machine.execOscSettled s
  | .trigOutFall => Sys2Proof.Machine.execTrigOutFall s
  | .ptpDelayReq => Sys2Proof.Machine.execPtpDelayReq s

end Sys2Proof.Machine
end

