-- ==== Sys2Proof/Machine/Opcode.lean ====
section
/-!
DEFINITION. The interpreter of commands (R113, R116): OPCODE picks the row whose meaning a packet has.
-/
namespace Sys2Proof.Machine

/-- The meaning of the row that an OPCODE names; an OPCODE without a row gets the answer that the checks of R105 give it (R116). -/
def execOpcode (op : BitVec 12) (r : Req) (s : State) : Res :=
  match op.toNat with
  | 0x000 => execEcho r s
  | 0x001 => execIdentify r s
  | 0x002 => execResetDevice r s
  | 0x003 => execHealthReport r s
  | 0x004 => execEnumerate r s
  | 0x005 => execFeatureEpoch r s
  | 0x006 => execNoticeSubscribe r s
  | 0x100 => execCsrRead r s
  | 0x101 => execCsrWrite r s
  | 0x102 => execCsrReadBlock r s
  | 0x103 => execCsrWriteBlock r s
  | 0x104 => execCsrModify r s
  | 0x200 => execMemRead r [] s
  | 0x201 => execMemWrite r [] s
  | 0x210 => execRegionSet r s
  | 0x211 => execRegionRead r s
  | 0x212 => execSpareRow r s
  | 0x280 => execImageErase r s
  | 0x281 => execImageWrite r s
  | 0x282 => execImageVerify r s
  | 0x283 => execImageArm r s
  | 0x284 => execImageConfirm r s
  | 0x285 => execImageInfo r s
  | 0x286 => execBootGo r s
  | 0x300 => execSchedLoad r s
  | 0x301 => execSchedCommit r s
  | 0x302 => execSchedRead r s
  | 0x310 => execKernelLoad r s
  | 0x311 => execKernelInfo r s
  | 0x400 => execTrigArm r s
  | 0x401 => execTrigForce r s
  | 0x402 => execTrigDisarm r s
  | 0x403 => execSegmentRead r [] s
  | 0x410 => execCalRun r s
  | 0x500 => execLinkTrain r s
  | 0x501 => execLinkStatus r s
  | 0x502 => execRosterLoad r s
  | 0x503 => execRosterRead r s
  | 0x504 => execLinkRtt r s
  | 0x600 => execPressJob r [] s
  | 0x601 => execPressFlush r [] s
  | 0x700 => execTimeSet r s
  | 0x701 => execTimeRead r s
  | 0x702 => execFreqMeasure r s
  | 0x703 => execPulseSet r s
  | 0x800 => execHkSeqLoad r s
  | 0x801 => execHkSeqStart r s
  | 0x802 => execHkRead r s
  | 0xF00 => execBistRun r s
  | 0xF01 => execTestmuxSet r s
  | _ => .next (s.runOp op r true yes)

/-- The interpreter takes the command that is next, in order of arrival; while none waits nothing happens (R113). -/
def State.interpret (s : State) : Res :=
  match s.nextCmd with
  | none => .next s
  | some (op, r) => execOpcode op r s

end Sys2Proof.Machine
end

