-- ==== Sys2Proof/Machine/Idle.lean ====
section
/-! DEFINITION. What a step does when no command of the table waits. -/
namespace Sys2Proof.Machine

/-- With no row waiting, the interpreter executes the next of the command packets that ports have queued, and nothing happens where there is
none (R113): every tick, edge and timer of the block is a row of the table. DESIGN CHOICE: log 2. -/
def idle (s : State) : Res := s.interpret

end Sys2Proof.Machine
end

