-- ==== Sys2Proof/Safety.lean ====
section
/-! DEFINITION. What counts as a safe run: every step answers a next state, and the memories keep their canonical form. -/
namespace Sys2Proof.Machine

/-- Both byte memories are canonical: addresses strictly rising, nothing listed that equals the fill. -/
abbrev MemInv (s : State) : Prop := Memory.wf s.window = true ∧ Memory.wf s.vatMem = true

end Sys2Proof.Machine
end

