-- ==== Sys2Proof/WellFormed.lean ====
section
/-!
DEFINITION. Well-formed commands: operands that name something within the ranges that the manual gives it, whatever the variant
(R41, R100, R107, R126, R238, R257, R328, R359, R368). The machine does not need them: a meaning given an operand out of its range
answers too.
-/
namespace Sys2Proof

/-- A request: one of the five ports, one of the 48 lanes, at most 1,026 payload words (R100, R107). -/
def Req.wf (r : Req) : Bool := decide (r.port < 5) && decide (r.lane < 48) && decide (r.payload.length ≤ 1026)

/-- A finding stands at the first byte of a 16-byte word (R329). -/
def Finding.wf (f : Finding) : Bool := decide (f.addr % 16 = 0)

/-- A curd holds as many payload flits as its rind's LENGTH tells (R208). -/
def Curd.wf (c : Curd) : Bool := decide (c.payload.length = c.rind.length.toNat)

/-- A calibration measures 512 bins of each path, or three ranges of each digitiser (R191). -/
def CalMeasure.wf : CalMeasure → Bool
  | .density timing trailing _ => decide (timing.length = 512) && decide (trailing.length = 512)
  | .sweep even odd => decide (even.length = 3) && decide (odd.length = 3)
  | .interleave _ _ => true

/-- A command whose operands lie in their ranges. -/
def Instr.wf : Instr → Bool
  | .echo r | .identify r | .resetDevice r => r.wf
  | .resetDeviceReset => true
  | .healthReport r | .enumerate r | .featureEpoch r | .noticeSubscribe r | .csrRead r | .csrWrite r | .csrReadBlock r
  | .csrWriteBlock r | .csrModify r => r.wf
  | .registerWrite port _ _ => decide (port < 5)
  | .snapshotRead _ => true
  | .rcRead port _ => decide (port < 5)
  | .stampRead port n => decide (port < 5) && decide (n < 2)
  | .missRead port | .quarantineRead port => decide (port < 5)
  | .memRead r found | .memWrite r found => r.wf && (found.all Finding.wf)
  | .readModifyWrite _ _ bytes found => (bytes.all fun c => decide (c.1 < 64)) && (found.all Finding.wf)
  | .regionSet r => r.wf
  | .regionReady region => decide (region < 64)
  | .regionRead r | .spareRow r => r.wf
  | .rowMoveDone stack found => decide (stack < 4) && (found.all Finding.wf)
  | .writeBack _ _ => true
  | .imageErase r => r.wf
  | .imageEraseDone => true
  | .imageWrite r => r.wf
  | .imageWriteDone => true
  | .imageVerify r => r.wf
  | .imageVerifyDone => true
  | .imageArm r | .imageConfirm r | .imageInfo r | .bootGo r | .schedLoad r | .schedCommit r => r.wf
  | .scheduleSwap | .shadowCopyDone => true
  | .schedRead r | .kernelLoad r | .kernelInfo r | .trigArm r => r.wf
  | .trigArmTakesEffect => true
  | .trigDisarm r => r.wf
  | .trigDisarmTakesEffect => true
  | .trigForce r => r.wf
  | .segmentRead r found => r.wf && (found.all Finding.wf)
  | .calRun r => r.wf
  | .calRunDone ch m => decide (ch < 48) && m.wf
  | .linkTrain r => r.wf
  | .linkTrainTimeout lane => decide (lane < 48)
  | .linkStatus r | .rosterLoad r | .rosterRead r | .linkRtt r => r.wf
  | .pressJob r found | .pressFlush r found => r.wf && (found.all Finding.wf)
  | .timeSet r | .timeRead r | .freqMeasure r => r.wf
  | .freqMeasureDone _ _ => true
  | .pulseSet r => r.wf
  | .pulseRise k | .pulseFall k => decide (k < 4)
  | .hkSeqLoad r | .hkSeqStart r | .hkRead r | .bistRun r => r.wf
  | .bistDone _ _ _ _ => true
  | .testmuxSet r => r.wf
  | .runStart port | .runStop port => decide (port < 5)
  | .lastTick => true
  | .frameSwitchArm port => decide (port < 5)
  | .periodSwitch | .frameTick | .rwfTakeEffect => true
  | .laneCfgHoldExpiry lane => decide (lane < 48)
  | .returnSwitch port => decide (port < 5)
  | .returnSwitchDone | .oscTrimStep => true
  | .activeRoleWrite port _ | .readmit port | .forceSwap port | .watchdogFeed port _ | .watchdogEnable port _
  | .biasKey port _ => decide (port < 5)
  | .biasKeyClose => true
  | .biasEnableWrite port _ | .modeWrite port _ | .referenceTakeBack port _ | .cmpArm port => decide (port < 5)
  | .ctCompare => true
  | .cntClear port _ | .logClear port => decide (port < 5)
  | .deepIdleEnter port lane | .deepIdleWake port lane => decide (port < 5) && decide (lane < 48)
  | .mergeEnable port _ | .uplinkEnable port _ => decide (port < 5)
  | .supplyGood n | .supplyBad n | .supplyWarn n => decide (n < 11)
  | .powerOnReset supply => supply.all fun x => decide (x < 11)
  | .rstNReset | .watchdogExpiry | .clockLossReset | .fuseCrcExhaustion | .resetHoldEnd | .domainRelease => true
  | .fuseLoad failRow => failRow.all fun x => decide (x < 32)
  | .xtalWaitExpiry _ | .pllLock | .dividerRampDone => true
  | .pllUnlock pll => decide (pll < 3)
  | .fallbackSwitch | .forcedSwitch | .oscReadyTimeout | .ckOscFail | .primaryOk | .bootRomStart | .bootAttempt _
  | .downloadTimeout => true
  | .packetReceive port lane words => decide (port < 5) && decide (lane < 48) && decide (words.length ≤ 1031)
  | .mgmtWrite words => decide (words.length ≤ 1031)
  | .mgmtRead _ | .mgmtStatus | .cmdDataCapture | .cmdDataUpdate _ _ | .jtagInstruction _ | .testLogicReset
  | .outstandingTimeout _ _ => true
  | .mismatch _ unmatched _ _ => decide (unmatched < 64)
  | .arbitration _ _ | .failOver | .standbySelftestSlice _ | .demotedSelftest _ | .resyncDone | .takeBack => true
  | .transfer entry => decide (entry < 4096)
  | .dmaDescriptor ch found => decide (ch < 64) && (found.all Finding.wf)
  | .dmaDescriptorDone ch => decide (ch < 64)
  | .kernelRun entry => decide (entry < 4096)
  | .kernelRunComplete cluster => decide (cluster < 16)
  | .curdEmission entry | .housekeepingStep entry => decide (entry < 4096)
  | .scrubStep entry found => decide (entry < 4096) && (found.all Finding.wf)
  | .pressEntry entry => decide (entry < 4096)
  | .transientBufferReadout entry found => decide (entry < 4096) && (found.all Finding.wf)
  | .entryAbort entry => decide (entry < 4096)
  | .curdDeadline path => decide (path < 64)
  | .tdcStop ch _ _ _ _ | .autorangeDrop ch | .autorangeRise ch | .invIntervalEnd ch | .hitForm ch | .totWaitExpiry ch =>
    decide (ch < 48)
  | .hitFrameClose _ _ => true
  | .patternFire k _ => decide (k < 4)
  | .trigInEdge _ | .autoTimeout | .triggerDecision | .trigOutPulse | .recordComplete | .rearmComplete => true
  | .nop e _ | .halt e _ | .br e _ | .brdec e _ | .id e _ | .time e _ | .li e _ | .addi e _ | .add e _ | .sub e _ | .slli e _
  | .srai e _ | .cmp e _ | .cmpi e _ | .agset e _ | .agget e _ | .setlen e _ | .agexp e _ | .agidx e _ => decide (e < 256)
  | .ld e _ found | .ldp e _ found => decide (e < 256) && (found.all Finding.wf)
  | .st e _ | .stp e _ | .vadd e _ | .vsub e _ | .vsra e _ | .vand e _ | .vor e _ | .vxor e _ | .vmov e _ | .vtag e _
  | .vget e _ | .vsplat e _ | .mac8 e _ | .mac4 e _ | .mac16 e _ | .bclr e _ | .movs e _ | .emit e _ => decide (e < 256)
  | .resultAdmission cluster => decide (cluster < 16)
  | .trig e _ _ => decide (e < 256)
  | .mergeClose path found => decide (path < 64) && (found.all Finding.wf)
  | .mergeSlotEmpty | .epochSwitch | .ppsEdge _ => true
  | .refPresent which => decide (which < 3)
  | .refLost which => decide (which < 2)
  | .ppsLost | .epochWrap | .servoUpdate | .exchangeTimeout | .holdLimitExpiry | .ptpOffsetEstimate _ _ | .ptpSyncTimeout =>
    true
  | .bringupStepComplete lane | .bringupTimeout lane | .laneDown lane => decide (lane < 48)
  | .laneRefclkLost => true
  | .curdReceive lane c _ => decide (lane < 48) && c.wf
  | .damagedCodeword lane _ | .cap lane _ | .slot lane _ _ _ _ => decide (lane < 48)
  | .slotOpen lane number => decide (lane < 48) && decide (number < 256)
  | .takeover lane | .tsSync lane _ _ | .tsReq lane _ _ | .tsData lane _ _ _ | .timeExchangeStart lane
  | .frame lane _ _ _ _ _ | .frameSw lane _ _ | .trigFlit lane _ _ _ | .sleep lane | .linkUnknown lane _ | .carriageSend lane =>
    decide (lane < 48)
  | .cdcTimeout r => r.wf
  | .cdcDrop lane _ => decide (lane < 48)
  | .euUp | .euDown | .ethFrameReceive _ | .hkConnect | .hkSettleEnd | .hkConversionEnd _ | .hkResultPublish => true
  | .sensorFault source kind => decide (source < 10) && decide (kind < 3)
  | .dieSensorRead values => decide (values.length = 8)
  | .stackTrainingDone stack _ | .stackTempRead stack _ => decide (stack < 4)
  | .powerOff | .rstNRelease | .laneRefclkReturn => true
  | .signalDetection lane | .bringupSignalLoss lane => decide (lane < 48)
  | .digitiserSample ch _ => decide (ch < 48)
  | .oscSettled | .trigOutFall | .ptpDelayReq => true

end Sys2Proof
end

