-- ==== Sys2Proof/Certificates/Slice0/Obligations.lean ====
section
/-!
DEFINITION. The statements of the first slice. Each says what commands do to the state: the conclusion is that exec answers a next
state, and what that state holds. `ran op r a u` is what remains after a command of a port has had its effect and is answered;
`Accepts` are the conditions of R105 and R113 under which a command runs at all.
-/
namespace Sys2Proof.Claims
open Sys2Proof.Machine

/-- A command that left its port runs: an interpreter serves its port, a broadcast is of an opcode marked B, its turn has come, and
checks 4 to 8 pass. -/
abbrev Accepts (s : State) (op : BitVec 12) (r : Req) (tie : Bool) : Prop :=
  s.hears op r = true ∧ s.turn op r = true ∧ s.gate op.toNat r tie = none

/-- A command that has had its effect, answered and ended. -/
def ran (op : BitVec 12) (r : Req) (a : Answer) (u : State) : State :=
  (u.replyLast op r a).endCmd (!readsOnly op.toNat && (decide (a.status = .ok) || decide (a.param ≠ 0)))

/-- The address of a register that this device has, in a released domain, served in the present mode (R45, R78, R94). -/
abbrev Readable (s : State) (a : Nat) (q : Reg) : Prop :=
  (s.boot.state = 1 ∨ rindAddr a = true) ∧ s.regHere a = some q ∧ s.rel (accessStep a) = true

/-- A register that a port may write: readable, within the port's class, its clock running, no rule of its own but its access codes, and a
write that fails no check of an admitted schedule (R24, R78, R109, R422). -/
abbrev Writable (s : State) (port a : Nat) (q : Reg) (v : Word) : Prop :=
  Readable s a q ∧ (keeperOnly a = true → (s.port port).cls = 2) ∧ cdcStops s q = false ∧
    (∀ t x, wrReg t q x = .ok (t.writePlain q x)) ∧ s.protected (s.writePlain q v) = true

/-- A read of a register: its latches, and what the read clears but on an Observer port (R110, R418). -/
def readState (s : State) (port : Nat) (q : Reg) : State :=
  if (s.port port).cls = 0 then (s.latchOf q).drawFor q else ((s.latchOf q).drawFor q).readClear q

/-- A command that is an opcode of R116, with its request and the count that its rule ties LENGTH to. -/
def opcodeRow : Instr → Option (BitVec 12 × Req × Bool)
  | .echo r => some (0x000, r, true) | .identify r => some (0x001, r, true) | .resetDevice r => some (0x002, r, true)
  | .healthReport r => some (0x003, r, true) | .enumerate r => some (0x004, r, true) | .featureEpoch r => some (0x005, r, true)
  | .noticeSubscribe r => some (0x006, r, true) | .csrRead r => some (0x100, r, true) | .csrWrite r => some (0x101, r, true)
  | .csrReadBlock r => some (0x102, r, true) | .csrWriteBlock r => some (0x103, r, decide (r.len = r.p 8 0 + 1))
  | .csrModify r => some (0x104, r, true) | .memRead r _ => some (0x200, r, true) | .memWrite r _ => some (0x201, r, true)
  | .regionSet r => some (0x210, r, true) | .regionRead r => some (0x211, r, true) | .spareRow r => some (0x212, r, true)
  | .imageErase r => some (0x280, r, true) | .imageWrite r => some (0x281, r, true) | .imageVerify r => some (0x282, r, true)
  | .imageArm r => some (0x283, r, true) | .imageConfirm r => some (0x284, r, true) | .imageInfo r => some (0x285, r, true)
  | .bootGo r => some (0x286, r, true) | .schedLoad r => some (0x300, r, decide (r.len % 4 = 0))
  | .schedCommit r => some (0x301, r, true) | .schedRead r => some (0x302, r, true)
  | .kernelLoad r => some (0x310, r, decide (r.len = 2 + 2 * fld (r.w 0) 27 16))
  | .hkSeqLoad r => some (0x800, r, decide (1 ≤ fld (r.w 0) 13 8 ∧ fld (r.w 0) 13 8 ≤ 32 ∧ r.len = 1 + 2 * fld (r.w 0) 13 8))
  | .kernelInfo r => some (0x311, r, true) | .trigArm r => some (0x400, r, true) | .trigForce r => some (0x401, r, true)
  | .trigDisarm r => some (0x402, r, true) | .segmentRead r _ => some (0x403, r, true) | .calRun r => some (0x410, r, true)
  | .linkTrain r => some (0x500, r, true) | .linkStatus r => some (0x501, r, true)
  | .rosterLoad r => some (0x502, r, r.len == 2 || r.len == 3 + cdiv (fld (r.w 1) 31 24 + 1) 2)
  | .rosterRead r => some (0x503, r, true) | .linkRtt r => some (0x504, r, true) | .pressJob r _ => some (0x600, r, true)
  | .pressFlush r _ => some (0x601, r, true) | .timeSet r => some (0x700, r, true) | .timeRead r => some (0x701, r, true)
  | .freqMeasure r => some (0x702, r, true) | .pulseSet r => some (0x703, r, true)
  | .hkSeqStart r => some (0x801, r, true) | .hkRead r => some (0x802, r, true)
  | .bistRun r => some (0xF00, r, true) | .testmuxSet r => some (0xF01, r, true)
  | _ => none

/-- Commands that may change a byte of the window or vat memory: stores, transfers, kernels and press jobs, what arrives or is sampled
into memory, reads that may meet a miscorrected block, the abort of an entry, what a tick brings into force, the zeroing of a region or at
a release or self-test, and resets. -/
def storesBytes : Instr → Bool
  | .memWrite _ _ | .readModifyWrite _ _ _ _ | .st _ _ | .stp _ _ | .dmaDescriptor _ _ | .kernelRun _ | .pressJob _ _
  | .pressFlush _ _ | .curdReceive _ _ _ | .digitiserSample _ _ | .recordComplete | .entryAbort _ | .frameTick | .regionReady _
  | .memRead _ _ | .segmentRead _ _ | .ld _ _ _ | .ldp _ _ _ | .resultAdmission _ | .mergeClose _ _ | .scrubStep _ _ | .rowMoveDone _ _
  | .transientBufferReadout _ _ | .rwfTakeEffect | .trigArmTakesEffect | .trigDisarmTakesEffect
  | .domainRelease | .bistDone _ _ _ _ | .arbitration _ _ | .ckOscFail | .clockLossReset | .fallbackSwitch | .fuseCrcExhaustion
  | .oscReadyTimeout | .powerOff | .powerOnReset _ | .resetDeviceReset | .rstNReset | .supplyBad _ | .watchdogExpiry => true
  | _ => false

/-- Commands of a frame that first bring into force what the last tick has left to do. -/
def settlesFirst : Instr → Bool
  | .tdcStop _ _ _ _ _ | .autorangeDrop _ | .autorangeRise _ | .hitForm _ | .totWaitExpiry _ | .patternFire _ _ | .trigInEdge _
  | .ctCompare | .autoTimeout | .triggerDecision => true
  | _ => false

/-- Commands that may change a byte of the flash: the ends of an erase and of a write, and those that write the boot record. -/
def writesFlash : Instr → Bool
  | .imageEraseDone | .imageWriteDone | .imageArm _ | .imageConfirm _ | .bootAttempt _ | .downloadTimeout | .bootGo _ => true
  | _ => false

end Sys2Proof.Claims

open Sys2Proof Sys2Proof.Machine Sys2Proof.Claims

-- the queue and every command ---------------------------------------------------------------------------------------------------------

/-- A step takes the command at the front of the queue and runs it with the rest waiting. On an empty queue the interpreter executes the
packet that is next at the ports, and where none waits nothing changes (the model's choice: log 2). -/
def Obligations.StepRunsTheFrontCommand : Prop :=
  (∀ (c : Instr) (rest : List Instr) (s : State), s.pending = c :: rest → step s = exec c { s with pending := rest }) ∧
    ∀ s : State, s.pending = [] → (s.nextCmd = none → step s = .next s) ∧
      ∀ op r, s.nextCmd = some (op, r) → step s = execOpcode op r s

/-- Every command answers a next state, in every state and whatever its operands: the block never stops. -/
def Obligations.EveryCommandAnswersANextState : Prop :=
  ∀ (c : Instr) (s : State), ∃ t, exec c s = .next t

/-- The frame of every command: none writes the fuse array or the balls or touches the queue of waiting commands, only the commands of
`storesBytes` change a byte of memory, and only those of `writesFlash` a byte of the flash. -/
def Obligations.EveryCommandKeepsWhatItMayNotWrite : Prop :=
  ∀ (c : Instr) (s t : State), exec c s = .next t → (t.fuses = s.fuses ∧ t.straps = s.straps ∧ t.pending = s.pending) ∧
    (storesBytes c = false → (settlesFirst c = false ∨ s.settled = true) → t.window = s.window ∧ t.vatMem = s.vatMem) ∧
    (writesFlash c = false → t.flash = s.flash)

/-- Both byte memories keep their canonical form through every step: addresses strictly rising, nothing listed that equals the fill. -/
def Obligations.EveryStepKeepsMemoryCanonical : Prop :=
  ∀ s t : State, MemInv s → step s = .next t → MemInv t

/-- Reset memory is canonical. -/
def Obligations.ResetMemoryIsCanonical : Prop := MemInv State.reset

-- reset and registers -------------------------------------------------------------------------------------------------------------------

/-- State.reset: nothing released, the latch of a power-on reset at the first rise, every stored register at its Reset value, no
command waiting at a port, memory, outputs and queue empty. -/
def Obligations.ResetLeavesEverythingUnreleased : Prop :=
  State.reset.power.released = 0 ∧ State.reset.power.cause = 0x01F00001 ∧ (∀ n, 1 ≤ n → State.reset.rel n = false) ∧
    (∀ q : Reg, State.reset.reg q = q.resetIn State.reset ∧ State.reset.regW q = State.reset.reg q) ∧
    State.reset.ports.queue = [] ∧ State.reset.window = [] ∧ State.reset.vatMem = [] ∧ State.reset.out = [] ∧
    State.reset.pending = [] ∧ State.reset.time.ct = 0 ∧ State.reset.time.period = 0x800 ∧ State.reset.time.ticking = false

/-- The address of a register names that register and no other: the address map is read as it is written. -/
def Obligations.RegisterAddressesNameTheirRegister : Prop :=
  (∀ k n, n < 48 → k < 3 → regAt (Reg.addr (.mdChGain n k)) = some (.mdChGain n k)) ∧
    (∀ n p k, n < 48 → p < 2 → k < 256 → regAt (Reg.addr (.mdBin n p k)) = some (.mdBin n p k)) ∧
    (∀ p, p < 64 → regAt (Reg.addr (.scPathCfg p)) = some (.scPathCfg p) ∧ regAt (Reg.addr (.scPathMatch p)) = some (.scPathMatch p)) ∧
    (∀ n, n < 48 → regAt (Reg.addr (.lkLCfg n)) = some (.lkLCfg n) ∧ regAt (Reg.addr (.lkLStatus n)) = some (.lkLStatus n) ∧
      regAt (Reg.addr (.lkLAsym n)) = some (.lkLAsym n)) ∧
    (∀ c e, c < 16 → e < 16 → regAt (Reg.addr (.eaPc c e)) = some (.eaPc c e)) ∧
    (∀ r, r < 64 → regAt (Reg.addr (.vtRegionCfg r)) = some (.vtRegionCfg r)) ∧
    (∀ n, n < 48 → regAt (Reg.addr (.caChCfg n)) = some (.caChCfg n) ∧ regAt (Reg.addr (.hbChSnip n)) = some (.hbChSnip n))

/-- A plain write: the RW bits take the value at once, the RWF bits wait for the tick and are what a read gives, W1C bits written
as 1 clear, and no other register changes. -/
def Obligations.PlainWritesFollowTheAccessCodes : Prop :=
  ∀ (q : Reg) (v : Word) (s : State),
    (q.info.w1c = 0 → q.info.rwf = 0 → (s.writePlain q v).reg q = (s.reg q &&& ~~~q.info.rw) ||| (v &&& q.info.rw)) ∧
    (q.info.w1c = 0 → q.info.rw = 0 → q.info.rwf ≠ 0 →
      (s.writePlain q v).regW q = v &&& q.info.rwf ∧ (s.writePlain q v).reg q = s.reg q) ∧
    (q.info.rw = 0 → q.info.rwf = 0 → s.pair.replaying = false →
      (s.writePlain q v).reg q = s.reg q &&& ~~~(v &&& q.info.w1c)) ∧
    (∀ p : Reg, p.key ≠ q.key → s.pair.replaying = false → (s.writePlain q v).reg p = s.reg p ∧ (s.writePlain q v).regW p = s.regW p)

/-- REGISTER_WRITE, CSR_WRITE, CSR_READ, CSR_MODIFY and the block forms complete: a register that has no rule of its own takes the value
by its access codes and the answer is OK; a read answers with the register's value, with its latches taken and its RC fields cleared; a
block goes through all of its registers in order. A write that is refused changes nothing else and answers with its status. -/
def Obligations.RegisterCommandsWriteAndRead : Prop :=
  (∀ (r : Req) (q : Reg) (s u : State),
    (∀ (port : Nat) (addr value : Word), canWriteRom s port = true → Writable s port addr.toNat q value →
      exec (.registerWrite port addr value) s = .next (s.writePlain q value)) ∧
    (Accepts s 0x101 r true → s.startCmd 0x101 r = u → Writable u r.port (r.w 0).toNat q (r.w 1) →
      exec (.csrWrite r) s = .next (ran 0x101 r { status := .ok } (u.writePlain q (r.w 1)))) ∧
    (Accepts s 0x100 r true → s.startCmd 0x100 r = u → Readable u (r.w 0).toNat q →
      exec (.csrRead r) s = .next (ran 0x100 r { status := .ok, payload := [u.readValue q] } (readState u r.port q))) ∧
    (∀ (n : Nat) (f : Nat → State) (g : Nat → Reg), Accepts s 0x102 r true → r.p 8 0 = n → 1 ≤ n → n ≤ 256 → f 0 = s.startCmd 0x102 r →
      (∀ k, k < n → Readable (f k) ((r.w 0).toNat + k * (if r.p 9 9 = 1 then 0 else 4)) (g k) ∧ f (k + 1) = readState (f k) r.port (g k)) →
      exec (.csrReadBlock r) s = .next (ran 0x102 r
        { status := .ok, param := n, payload := (List.range n).map fun k => (f k).readValue (g k) } (f n))) ∧
    (∀ (n : Nat) (f : Nat → State) (g : Nat → Reg), Accepts s 0x103 r (decide (r.len = r.p 8 0 + 1)) → r.p 8 0 = n →
      f 0 = s.startCmd 0x103 r → (∀ k, k < n → Writable (f k) r.port ((r.w 0).toNat + k * (if r.p 9 9 = 1 then 0 else 4)) (g k) (r.w (k + 1)) ∧
        f (k + 1) = (f k).writePlain (g k) (r.w (k + 1))) →
      exec (.csrWriteBlock r) s = .next (ran 0x103 r { status := .ok, param := n } (f n))) ∧
    (∀ v, Accepts s 0x104 r true → s.startCmd 0x104 r = u → Readable u (r.w 0).toNat q →
      v = (u.readValue q &&& ~~~(r.w 1) &&& ~~~(actionBits q)) ||| (r.w 2 &&& r.w 1) →
      Writable ((u.latchOf q).drawFor q) r.port (r.w 0).toNat q v →
      exec (.csrModify r) s = .next (ran 0x104 r { status := .ok, payload := [u.readValue q, v] }
        (((u.latchOf q).drawFor q).writePlain q v)))) ∧
  ∀ (r : Req) (s : State),
    (∀ (port : Nat) (addr value : Word), canWriteRom s port = true →
      exec (.registerWrite port addr value) s = .next (s.writeAt port addr.toNat value).1) ∧
    (Accepts s 0x101 r true → ∀ t st, (s.startCmd 0x101 r).writeAt r.port (r.w 0).toNat (r.w 1) = (t, st) →
      exec (.csrWrite r) s = .next (ran 0x101 r { status := st } t)) ∧
    (Accepts s 0x100 r true → ∀ t v, (s.startCmd 0x100 r).readAt r.port (r.w 0).toNat = (t, .ok, v) →
      exec (.csrRead r) s = .next (ran 0x100 r { status := .ok, payload := [v] } t)) ∧
    (Accepts s 0x102 r true → 1 ≤ r.p 8 0 → r.p 8 0 ≤ 256 → ∀ t st vs,
      (s.startCmd 0x102 r).readMany r.port (r.w 0).toNat (if r.p 9 9 = 1 then 0 else 4) (r.p 8 0) = (t, st, vs) →
      exec (.csrReadBlock r) s = .next (ran 0x102 r { status := st, param := vs.length, payload := vs } t)) ∧
    (Accepts s 0x103 r (decide (r.len = r.p 8 0 + 1)) → ∀ t st n,
      (s.startCmd 0x103 r).writeMany r.port (r.w 0).toNat (if r.p 9 9 = 1 then 0 else 4) (r.payload.drop 1) = (t, st, n) →
      exec (.csrWriteBlock r) s = .next (ran 0x103 r { status := st, param := n } t)) ∧
    (Accepts s 0x104 r true → ∀ q old t u, (s.startCmd 0x104 r).regHere (r.w 0).toNat = some q →
      (s.startCmd 0x104 r).readAt r.port (r.w 0).toNat = (u, .ok, old) →
      (((s.startCmd 0x104 r).latchOf q).drawFor q).writeAt r.port (r.w 0).toNat
        ((old &&& ~~~(r.w 1) &&& ~~~(actionBits q)) ||| (r.w 2 &&& r.w 1)) = (t, .ok) →
      exec (.csrModify r) s = .next (ran 0x104 r
        { status := .ok, payload := [old, (old &&& ~~~(r.w 1) &&& ~~~(actionBits q)) ||| (r.w 2 &&& r.w 1)] } t))

/-- One register write: a Keeper-only address on a lower port, an address with no register, a domain that is not released, and a write
that its own rule refuses leave the state as it was, each with its status. -/
def Obligations.RefusedRegisterWritesChangeNothing : Prop :=
  ∀ (s : State) (port a : Nat) (v : Word), s.boot.state = 1 →
    (keeperOnly a = true → (s.port port).cls ≠ 2 → s.writeAt port a v = (s, .classRefused)) ∧
    (keeperOnly a = false → s.regHere a = none → s.writeAt port a v = (s, .outOfRange)) ∧
    (∀ q st, keeperOnly a = false → s.regHere a = some q → s.rel (accessStep a) = false → wrReg s q v = .error st →
      s.writeAt port a v = (s, if st = .outOfRange then .outOfRange else .clockStopped)) ∧
    (∀ q st, keeperOnly a = false → s.regHere a = some q → s.rel (accessStep a) = true → cdcStops s q = false →
      wrReg s q v = .error st → s.writeAt port a v = (s, st))

/-- A read through a port returns the value of a register with an RC field whatever the class of the port; on an Observer port nothing is
cleared, on the others the cause latch is cleared and the head entry of the read FIFO removed. -/
def Obligations.ReadsClearRcFieldsExceptOnObserverPorts : Prop :=
  ∀ (port : Nat) (addr : Word) (q : Reg) (s : State), s.serving = true → s.boot.state = 1 → s.regHere addr.toNat = some q →
    s.rel (accessStep addr.toNat) = true → (∀ n, q = .tcStampLo n → n < 2) →
    (∃ t, exec (.rcRead port addr) s = .next t ∧ s.readAt port addr.toNat = (t, .ok, s.readValue q) ∧
      t.window = s.window ∧ t.vatMem = s.vatMem ∧ t.ports = s.ports) ∧
    ((s.port port).cls = 0 → ∃ t, exec (.rcRead port addr) s = .next t ∧ t.power.cause = s.power.cause ∧ t.time.stamps0 = s.time.stamps0 ∧
      t.time.stamps1 = s.time.stamps1 ∧ t.rennet.misses = s.rennet.misses ∧ t.link.quarantine = s.link.quarantine) ∧
    ((s.port port).cls ≠ 0 → ∃ t, exec (.rcRead port addr) s = .next t ∧
      t.power.cause = (if q = .crResetCause then 0 else s.power.cause) ∧
      t.time.stamps0 = (if q = .tcStampLo 0 then s.time.stamps0.drop 1 else s.time.stamps0) ∧
      t.time.stamps1 = (if q = .tcStampLo 1 then s.time.stamps1.drop 1 else s.time.stamps1) ∧
      t.rennet.misses = (if q = .trMissLo then s.rennet.misses.drop 1 else s.rennet.misses) ∧
      t.link.quarantine = (if q = .lkQuar0 then s.link.quarantine.drop 1 else s.link.quarantine))

/-- Reads of latched and popped registers: a read of a low word takes the latches of its value; a stamp, a miss or a quarantined rind
leaves its FIFO on an Operator or Keeper port and stays on an Observer port. -/
def Obligations.ReadsLatchAndPop : Prop :=
  ∀ (port n : Nat) (addr : Word) (s : State),
    (∀ q, s.regHere addr.toNat = some q → s.serving = true → s.rel (accessStep addr.toNat) = true → s.boot.state = 1 →
      exec (.snapshotRead addr) s = .next (s.latchOf q)) ∧
    (s.serving = true → s.portServes port = true → exec (.rcRead port addr) s = .next (s.readAt port addr.toNat).1) ∧
    (s.reads 7 = true → n < 2 → exec (.stampRead port n) s = .next
      (if (s.port port).cls = 0 then s.latchOf (.tcStampLo n) else (s.latchOf (.tcStampLo n)).dropStamp n)) ∧
    (s.reads 5 = true → exec (.missRead port) s = .next
      (if (s.port port).cls = 0 then s.latchOf .trMissLo else (s.latchOf .trMissLo).dropMiss)) ∧
    (s.reads 8 = true → exec (.quarantineRead port) s = .next
      (if (s.port port).cls = 0 then s.latchOf .lkQuar0 else (s.latchOf .lkQuar0).dropQuarantine))

/-- CNT_CLEAR zeroes every counter of the named blocks and no other; LOG_CLEAR empties the error log; ACTIVE_ROLE_WRITE sets the role of
an unconfigured development device; a lane's asymmetry is not written while LANE_REFCLK is stopped. -/
def Obligations.ActionWritesHaveTheirEffect : Prop :=
  ∀ (port : Nat) (value : Word) (r : Req) (s : State),
    (canWriteRom s port = true → s.pair.replaying = false → ∃ t, exec (.cntClear port value) s = .next t ∧
      (∀ a, t.cnt a = if value.getLsbD (blockOf a) then {} else s.cnt a) ∧ t.csr.inForce = s.csr.inForce ∧ t.ports = s.ports) ∧
    (canWrite s port 5 = true → s.boot.state = 1 → s.pair.replaying = false → ∃ t, exec (.logClear port) s = .next t ∧
      t.vat = { s.vat with log := [], logFull := false } ∧ t.csr = s.csr) ∧
    (canKeepRom s port = true → s.res.role = 5 → value &&& 3 ≠ 0 → s.sched.active = [] → s.sched.commit = false →
      anyPathEnabled s = false → s.time.ticking = false → s.follower = false →
      s.protected (s.setReg .idRole (value &&& 3)) = true →
      exec (.activeRoleWrite port value) s = .next (s.setReg .idRole (value &&& 3))) ∧
    (∀ q, Accepts s 0x101 r true → s.regHere (r.w 0).toNat = some q → s.rel (accessStep (r.w 0).toNat) = true → cdcStops s q = true → s.boot.state = 1 →
      keeperOnly (r.w 0).toNat = false →
      exec (.cdcTimeout r) s = .next (ran 0x101 r { status := .cdcTimeout } ((s.startCmd 0x101 r).bump 0x40 1)))

-- ports -----------------------------------------------------------------------------------------------------------------------------------

/-- Checks 4 to 8: they are made in their order (what the minimal mode does not serve, an opcode with no row, LENGTH, the class of the
port, the role), and a command that one of them refuses has no effect but its reply, for every opcode; one whose turn has not come waits. -/
def Obligations.ChecksAreMadeInOrderAndRefusedCommandsOnlyReply : Prop :=
  (∀ (c : Instr) (op : BitVec 12) (r : Req) (tie : Bool) (s : State), opcodeRow c = some (op, r, tie) → s.hears op r = true →
    (∀ st, s.turn op r = true → s.gate op.toNat r tie = some st →
      exec c s = .next (((s.startCmd op r).replyLast op r { status := st }).endCmd false)) ∧
    (s.turn op r = false → s.nextCmd ≠ some (op, r) → (op, r) ∉ s.ports.queue → s.ports.queue.length < 64 →
      exec c s = .next { s with ports := { s.ports with queue := s.ports.queue ++ [(op, r)] } })) ∧
  ∀ (s : State) (op : Nat) (r : Req) (tie : Bool),
    (s.served op r = false → s.gate op r tie = some .minimalMode) ∧
    (s.served op r = true → opInfo op = none → s.gate op r tie = some .unknownOpcode) ∧
    (∀ i, s.served op r = true → opInfo op = some i → (r.len < i.lo ∨ i.hi < r.len ∨ tie = false) →
      s.gate op r tie = some .badLength) ∧
    (∀ i, s.served op r = true → opInfo op = some i → i.lo ≤ r.len → r.len ≤ i.hi → tie = true → s.classAdmits op i r = false →
      s.gate op r tie = some .classRefused) ∧
    (∀ i, s.served op r = true → opInfo op = some i → i.lo ≤ r.len → r.len ≤ i.hi → tie = true → s.classAdmits op i r = true →
      s.gate op r tie = if s.roleStops op r = true then some .stateRefused else none)

/-- ECHO's reply holds the payload unchanged and waits on the port it came from (none with NO_ACK); IDENTIFY, HEALTH_REPORT,
NOTICE_SUBSCRIBE and RESET_DEVICE: their answers and effects; RESET_DEVICE_RESET is a reset with the latch of R72, after which nothing
is released and the fuses and the flash are as before. -/
def Obligations.SystemCommandsAnswer : Prop :=
  ∀ (r : Req) (s : State),
    (Accepts s 0x000 r true → r.port < 2 → r.broadcast = false → s.pair.interrupted = none →
      (r.noAck = false → ∃ t, exec (.echo r) s = .next t ∧
        t.port r.port = (s.port r.port).putReply (replyWords s.ports.nodeId 0x000 r.tag { status := .ok, payload := r.payload }) ∧
        (∀ p, p ≠ r.port → t.port p = s.port p) ∧
        t.ports.queue = s.ports.queue.drop 1 ∧ t.csr = s.csr ∧ t.time = s.time ∧ t.sched = s.sched ∧ t.vat = s.vat) ∧
      (r.noAck = true → exec (.echo r) s = .next (s.startCmd 0x000 r))) ∧
    (Accepts s 0x001 r true → exec (.identify r) s = .next (ran 0x001 r { status := .ok, payload :=
      [0x4B480001, s.res.variant, s.res.ids, s.reg .idRole, at32 16 s.boot.linkRev.toNat ||| s.ports.nodeId.setWidth 32,
       s.boot.fwVersion] } (s.startCmd 0x001 r))) ∧
    (Accepts s 0x003 r true → exec (.healthReport r) s = .next (ran 0x003 r { status := .ok, payload := healthWords s }
      (s.startCmd 0x003 r))) ∧
    (Accepts s 0x006 r true → r.port ≠ 3 → r.port ≠ 4 → exec (.noticeSubscribe r) s = .next (ran 0x006 r
      { status := .ok, param := (s.port r.port).mask.toNat }
      ((s.startCmd 0x006 r).setPort r.port { s.port r.port with mask := BitVec.ofNat 19 (r.p 18 0) }))) ∧
    (Accepts s 0x002 r true → r.param = 0x525354 → ∃ u, exec (.resetDevice r) s = .next (ran 0x002 r { status := .ok } u) ∧
      u.ports.resetDue = some (r.broadcast || r.noAck) ∧ u.csr = s.csr ∧ u.power = s.power) ∧
    (s.ports.resetDue.isSome = true → ∃ t, exec .resetDeviceReset s = .next t ∧ t.power.released = 0 ∧
      t.power.cause = causeAfter s.power.cause (s.power.cycle != []) 4 0xF ∧ t.power.hold = true ∧ t.csr = {} ∧ t.ports = {} ∧ t.fuses = s.fuses ∧
      t.flash = s.flash ∧ t.window = [] ∧ t.vatMem = [])

/-- A packet that passes checks 1 to 3, names this device and finds room enters the queue, from any port, the management SPI and
CMD_DATA; the fourth and last word of a packet on CMD_DATA completes it. -/
def Obligations.GoodPacketsEnterTheQueue : Prop :=
  ∀ (port lane : Nat) (ws : List Word) (w : Word) (op : BitVec 12) (r : Req) (s : State), s.portUp = true →
    fld (ws.getD 0 0) 31 28 = 5 → 5 ≤ ws.length → crcWords ws.dropLast = ws.getLastD 0 →
    ws.length = fld (ws.getD 1 0) 31 16 + 5 → fld (ws.getD 1 0) 31 16 ≤ 1026 → r.node = s.ports.nodeId →
    chainEnumerate op r = false → s.ports.queue.length < 64 → bcastOk op.toNat r = true →
    (port < 5 → s.portServes port = true → reqOf port lane ws = (op, r) → exec (.packetReceive port lane ws) s = .next
      { s with ports := { s.ports with queue := s.ports.queue ++ [(op, r)] } }) ∧
    ((s.port 0).replies.length < 16 → reqOf 0 0 ws = (op, r) → exec (.mgmtWrite ws) s = .next
      { s with ports := { s.ports with queue := s.ports.queue ++ [(op, r)] } }) ∧
    (s.test.ir = 0x20 → s.ports.jtagRx ++ [w] = ws → (s.port 1).replies.length < 16 → reqOf 1 0 ws = (op, r) →
      exec (.cmdDataUpdate true w) s = .next
        { s with ports := { s.ports with jtagRx := [], queue := s.ports.queue ++ [(op, r)] } })

/-- What the ports hand out: a READ of the management port shifts out the oldest reply, which leaves with its trailer; STATUS tells what
waits and ends the discard mark; CMD_DATA gives the next word of the oldest reply; an outstanding request is freed after its time. -/
def Obligations.PortsHandOutWhatWaits : Prop :=
  ∀ (s : State) (ws : List Word) (rest : List (List Word)), s.portUp = true →
    ((s.port 0).replies = ws :: rest → (s.port 0).begun = false →
      exec (.mgmtRead true) s = .next (({ s with out := s.out ++ [.spi ws] } : State).setPort 0 (s.port 0).dropReply) ∧
      ((s.port 0).late = [] → (s.port 0).dropReply = { s.port 0 with replies := rest }) ∧
      ∃ t, exec (.mgmtRead false) s = .next t ∧ t.out = s.out ++ [.spi ws.dropLast] ∧ t.port 0 = s.port 0 ∧ t.csr = s.csr) ∧
    (∀ m ms, (s.port 0).notices = m :: ms → (s.port 0).replies = [] → (∃ t, exec (.mgmtRead false) s = .next t ∧
        t.out = s.out ++ [.spi (noticeWords s.ports.nodeId m).dropLast] ∧ t.port 0 = { s.port 0 with begun := true }) ∧
      ∃ t, exec (.mgmtRead true) s = .next t ∧ t.out = s.out ++ [.spi (noticeWords s.ports.nodeId m)] ∧
        t.port 0 = { s.port 0 with notices := ms, begun := false }) ∧
    ((s.port 0).replies = [] → (s.port 0).notices = [] → exec (.mgmtRead true) s = .next { s with out := s.out ++ [.spi [0]] }) ∧
    ((s.port 0).replies.length ≤ 16 → ∃ b t, exec .mgmtStatus s = .next t ∧ t.out = s.out ++ [.spiStatus b] ∧
      (b.getLsbD 7 = decide ((s.port 0).replies ≠ [])) ∧ b.toNat % 32 = (s.port 0).replies.length ∧
      (b.getLsbD 6 = decide ((s.port 0).notices ≠ [])) ∧ (b.getLsbD 5 = (s.port 0).discarded) ∧ (t.port 0).discarded = false ∧
      (t.port 0).replies = (s.port 0).replies ∧ t.csr = s.csr) ∧
    (s.test.ir = 0x20 → (s.port 1).replies = ws :: rest → s.ports.jtagTx = 0 → 1 < ws.length →
      ∃ t, exec .cmdDataCapture s = .next t ∧ t.out = s.out ++ [.jtag true (ws.getD 0 0)] ∧ t.ports.jtagTx = 1 ∧
        (t.port 1).replies = ws :: rest) ∧
    (∀ tag node, ∃ t, exec (.outstandingTimeout tag node) s = .next t ∧
      t.ports.outstanding = eraseFirst (fun o => o.tag == tag && o.target == node) s.ports.outstanding ∧
      t.csr = s.csr ∧ t.ports.queue = s.ports.queue)

-- images and boot -------------------------------------------------------------------------------------------------------------------------

/-- Erase, write and verify of a flash slot are long commands: the command starts one and sends no reply, its end changes the slot, or
records the failure code of R87, and replies; the RAM image of a download is written and verified at once. -/
def Obligations.ImageCommandsWorkOnASlot : Prop :=
  ∀ (r : Req) (k : Nat) (s : State), (k < 2 → s.boot.state ≠ 0 → flashBusy s = false → slotBusy s k = false → r.p 1 0 = k →
      (Accepts s 0x280 r true → slotHeld s k = false → ∃ t, exec (.imageErase r) s = .next t ∧
        t.boot.flashOps = s.boot.flashOps ++ [(.erase, k, r)] ∧ verOf t.boot k = none ∧ t.flash = s.flash ∧ t.ramImage = s.ramImage) ∧
      (Accepts s 0x281 r true → slotHeld s k = false → (r.w 0).toNat % 4 = 0 → (r.w 0).toNat + 4 * (r.len - 1) ≤ 0x300000 →
        ∃ t, exec (.imageWrite r) s = .next t ∧ t.boot.flashOps = s.boot.flashOps ++ [(.write, k, r)] ∧ verOf t.boot k = none ∧
          t.flash = s.flash) ∧
      (Accepts s 0x282 r true → ∃ t, exec (.imageVerify r) s = .next t ∧ t.boot.flashOps = s.boot.flashOps ++ [(.verify, k, r)] ∧
        t.flash = s.flash)) ∧
    (s.boot.state = 0 → s.boot.downloading = true → r.p 1 0 = 2 →
      (Accepts s 0x281 r true → (r.w 0).toNat % 4 = 0 → (r.w 0).toNat + 4 * (r.len - 1) ≤ 0x300000 → ∃ u : State,
        exec (.imageWrite r) s = .next (ran 0x281 r { status := .ok } u) ∧ u.boot.verRam = none ∧ u.flash = s.flash ∧
        u.ramImage = wrBytes s.ramImage (r.w 0).toNat (leWords (r.payload.drop 1))) ∧
      (Accepts s 0x282 r true → ∃ u : State, exec (.imageVerify r) s = .next (ran 0x282 r { status := .ok, param := s.imgCheck 2 } u) ∧
        u.boot.verRam = some (BitVec.ofNat 8 (s.imgCheck 2)) ∧ u.ramImage = s.ramImage)) ∧
    (s.flashOp .erase = some (.erase, k, r) → ∃ u : State, exec .imageEraseDone s = .next (u.reply 0x280 r { status := .ok }) ∧
      u = { s with boot := { s.boot with flashOps := s.boot.flashOps.erase (.erase, k, r) }, flash := u.flash } ∧
      ∀ a, SMap.get flashDefault u.flash a =
        if slotBase k ≤ a ∧ a < slotBase k + 0x300000 then flashDefault else SMap.get flashDefault s.flash a) ∧
    (s.flashOp .write = some (.write, k, r) → ∃ u : State, exec .imageWriteDone s = .next (u.reply 0x281 r { status := .ok }) ∧
      u = { s with boot := { s.boot with flashOps := s.boot.flashOps.erase (.write, k, r) }, flash := u.flash } ∧
      ∀ a, SMap.get flashDefault u.flash a =
        if slotBase k + (r.w 0).toNat ≤ a ∧ a < slotBase k + (r.w 0).toNat + (leWords (r.payload.drop 1)).length then
          (leWords (r.payload.drop 1)).getD (a - (slotBase k + (r.w 0).toNat)) 0 else SMap.get flashDefault s.flash a) ∧
    (s.flashOp .verify = some (.verify, k, r) → k < 2 → ∃ u : State,
      exec .imageVerifyDone s = .next (u.reply 0x282 r { status := .ok, param := s.imgCheck k }) ∧
      u.boot.flashOps = s.boot.flashOps.erase (.verify, k, r) ∧ verOf u.boot k = some (BitVec.ofNat 8 (s.imgCheck k)) ∧ u.flash = s.flash)

/-- IMAGE_ARM and IMAGE_CONFIRM write the boot record with SEQ one higher into the copy not in force, IMAGE_INFO answers the record and
both headers, and BOOT_GO starts the verified RAM image. -/
def Obligations.BootRecordCommandsWriteTheRecord : Prop :=
  ∀ (r : Req) (k : Nat) (s : State),
    (Accepts s 0x283 r true → r.p 1 0 = k → k < 2 → s.boot.state ≠ 0 → slotHeld s k = false → flashBusy s = false → slotBusy s k = false →
      verOf s.boot k = some 0 → (s.boot.state = 1 → armedSlot s.bootRec ≠ some s.boot.slot.toNat ∧
        fld (BitVec.ofNat 32 (hdr (s.imgBytes k 0 256) 8 4)) 31 24 ≤ fld s.boot.fwVersion 31 24 + 1 ∧
        fld s.boot.fwVersion 31 24 ≤ fld (BitVec.ofNat 32 (hdr (s.imgBytes k 0 256) 8 4)) 31 24 + 1) →
      exec (.imageArm r) s = .next (ran 0x283 r { status := .ok }
        ((s.startCmd 0x283 r).writeRec s.bootRec.active (BitVec.ofNat 8 k) 0))) ∧
    (Accepts s 0x284 r true → armedSlot s.bootRec = some s.boot.slot.toNat → flashBusy s = false →
      exec (.imageConfirm r) s = .next (ran 0x284 r { status := .ok }
        ((s.startCmd 0x284 r).writeRec (BitVec.ofNat 8 s.boot.slot.toNat) 0xFF 0))) ∧
    (Accepts s 0x285 r true → flashBusy s = false → ∃ ws : List Word, ws.length = 136 ∧
      (∀ i, i < 8 → ws.getD i 0 = BitVec.ofNat 32 (leNat (((recFull s.bootRec).drop (4 * i)).take 4))) ∧
      exec (.imageInfo r) s = .next (ran 0x285 r { status := .ok, payload := ws } (s.startCmd 0x285 r))) ∧
    (Accepts s 0x286 r true → s.boot.state = 0 → s.boot.downloading = true → s.boot.verRam = some 0 → ∃ u : State,
      exec (.bootGo r) s = .next (ran 0x286 r { status := .ok } u) ∧ u.boot.state = 1 ∧ u.boot.downloading = false ∧
      u.boot.source = BitVec.ofNat 2 s.boot.sampled.bootSel.toNat ∧ u.pair.wdogOn = true ∧ u.pair.wdogPeriod = 0x3E8 ∧
      u.boot.entry = BitVec.ofNat 32 (hdr (s.imgBytes 2 0 256) 0x10 4) ∧ u.ctrlA = u.ctrlB ∧
      u.ctrlA = cellsOf 0 (s.imgBytes 2 0x100 (hdr (s.imgBytes 2 0 256) 0xC 4))) ∧
    (∀ active armed tries : Byte, recInForce (s.writeRec active armed tries).flash =
        some (match recInForce s.flash with | some (0, _) => 1 | _ => 0, ⟨s.bootRec.seq + 1, active, armed, tries⟩) ∧
      ∀ a, 0x2000 ≤ a → SMap.get flashDefault (s.writeRec active armed tries).flash a = SMap.get flashDefault s.flash a)

/-- The boot ROM: what BOOT_SEL and the fuse load settle at once, an attempt whose image passes the checks starts it, one whose checks
fail or whose download ends counts as failed, and after six the device is in rind mode. -/
def Obligations.BootAttemptsStartOrFail : Prop :=
  ∀ (par : FlashPar) (s : State),
    (s.rel 4 = true → s.boot.romOn = false → ∃ t, exec .bootRomStart s = .next t ∧ t.boot.romOn = true ∧ t.ports.drivers = true ∧
      (s.boot.passed = false → t.boot.state = 2 ∧ t.boot.reason = 2) ∧
      (s.boot.passed = true → s.boot.sampled.bootSel = 7 → t.boot.state = 2 ∧ t.boot.reason = 1) ∧
      (s.boot.passed = true → s.boot.sampled.bootSel.toNat < 4 → t.boot.state = s.boot.state)) ∧
    (∀ slot, s.rel 5 = true → s.boot.romOn = true → s.boot.state = 0 → s.boot.downloading = false → 0 < s.boot.tried → s.boot.tried < 6 →
      attemptSlot s.boot (s.boot.tried + 1) = some slot →
      (s.imgCheck slot = 0 → ∃ t, exec (.bootAttempt (some par)) s = .next t ∧ t.boot.state = 1 ∧ t.boot.source = 0 ∧
        t.boot.slot = BitVec.ofNat 2 slot ∧ t.boot.attempt = s.boot.tried + 1 ∧ t.pair.wdogOn = true ∧ t.boot.flashPar = some par ∧
        t.boot.sckMhz = 50 ∧ Out.bootSpi 0x5A 10 ∈ t.out ∧ t.ctrlA = cellsOf 0 (s.imgBytes slot 0x100 (hdr (s.imgBytes slot 0 256) 0xC 4))) ∧
      (s.imgCheck slot ≠ 0 → ∃ t, exec (.bootAttempt (some par)) s = .next t ∧ t.boot.tried = s.boot.tried + 1 ∧
        t.boot.state = (if s.boot.tried = 5 then 2 else 0)) ∧
      (∃ t, exec (.bootAttempt none) s = .next t ∧ t.boot.state = 2 ∧ t.boot.reason = 4)) ∧
    (s.boot.downloading = true → s.downloadReady = true → s.boot.tried < 6 → ∃ t, exec .downloadTimeout s = .next t ∧ t.boot.downloading = false ∧
      t.boot.lastFail = 9 ∧ t.boot.state = s.boot.state ∧ t.flash = s.flash)

-- supplies, resets, clocks ------------------------------------------------------------------------------------------------------------------

/-- A passing fuse load or a failing row is recorded, three failures end the loads by a reset, the trim code moves one step at a time, and
the next domain is released when everything it waits for is there. -/
def Obligations.BringUpGoesInItsOrder : Prop :=
  ∀ (row : Nat) (s : State),
    (s.rel 3 = true → s.rel 4 = false → s.boot.passed = false → s.power.noFuse = false → s.boot.fuseTries < 3 →
      exec (.fuseLoad (some row)) s = .next { s with boot := { s.boot with fuseTries := s.boot.fuseTries + 1, failRow := BitVec.ofNat 5 row } } ∧
      ∃ t, exec (.fuseLoad none) s = .next t ∧ t = { s with boot := t.boot, power := t.power } ∧ t.boot.passed = true ∧
        t.power.fuseDone = (s.power.fuseDone || s.clocks.trim == s.fuses.trim)) ∧
    (s.boot.fuseTries = 3 → s.boot.passed = false → exec .fuseCrcExhaustion s = .next (s.reset_ 6 0xF true s.power.rstLow true)) ∧
    (s.power.off = false → s.clocks.trim ≠ trimTarget s → ∃ t, exec .oscTrimStep s = .next t ∧ t.clocks.oscReady = false ∧
      ((s.clocks.trim.toNat < (trimTarget s).toNat ∧ t.clocks.trim.toNat = s.clocks.trim.toNat + 1) ∨
        ((trimTarget s).toNat < s.clocks.trim.toNat ∧ t.clocks.trim.toNat + 1 = s.clocks.trim.toNat)) ∧
      t = { s with clocks := t.clocks, power := t.power }) ∧
    (s.power.off = false → s.power.hold = false → s.power.rstLow = false → s.power.released < 11 →
      suppliesGood s (s.power.released + 1) = true → stepReady s (s.power.released + 1) = true →
      ∃ t, exec .domainRelease s = .next t ∧ t.power.released = s.power.released + 1 ∧
        (s.power.released + 1 = 4 → ∀ p, p < 5 → (t.port p).cls = portClass s p) ∧
        (s.power.released + 1 = 5 → t.window = [])) ∧
    (s.power.hold = true → s.clocks.trim = 0x20 → exec .resetHoldEnd s = .next { s with power := { s.power with hold := false, cycle := [] } })

/-- Resets: a supply that becomes bad under a released domain, RST_N, the watchdog and the clock loss reset everything but the cause latch,
each with its latch; supplies that warn, and those that are good, only set their bit; at power-off the latch is lost too. -/
def Obligations.ResetsLeaveTheirLatch : Prop :=
  ∀ (n : Nat) (s : State), s.power.off = false →
    (noComparator s n = false → ∃ t, exec (.supplyGood n) s = .next t ∧ t = { s with power := t.power } ∧ (n < 11 → t.power.good.getLsbD n = true) ∧
      ∀ k, k ≠ n → t.power.good.getLsbD k = s.power.good.getLsbD k) ∧
    (noComparator s n = false → s.power.good.getLsbD n = true →
      (supplyInUse s n = true → ∃ t, exec (.supplyBad n) s = .next t ∧ t.power.released = 0 ∧ t.power.cause = causeAfter s.power.cause (s.power.cycle != []) 1 n ∧
        t.power.good.getLsbD n = false ∧ t.csr = {} ∧ t.flash = s.flash) ∧
      (supplyInUse s n = false → s.fires 1 = false → ∃ t, exec (.supplyBad n) s = .next t ∧ t = { s with power := t.power } ∧ t.power.good.getLsbD n = false) ∧
      (s.b .pmWarnEn n = false → exec (.supplyWarn n) s = .next (s.orReg .pmWarn (bit32 n true))) ∧
      (s.b .pmWarnEn n = true → exec (.supplyWarn n) s = .next (s.raise 2 n 0))) ∧
    (noComparator s n = false → s.power.good.getLsbD n = false → exec (.powerOnReset (some n)) s = .next (s.reset_ 1 n true s.power.rstLow false)) ∧
    (exec .rstNReset s = .next (s.reset_ 2 0xF false true false)) ∧
    (∃ t, exec .rstNRelease s = .next t ∧ t = { s with power := { s.power with rstLow := false, cycle := [] } }) ∧
    (s.pair.wdogOn = true → s.pair.wdogPaused = false → exec .watchdogExpiry s = .next (s.reset_ 3 0xF true s.power.rstLow false)) ∧
    (exec .clockLossReset s = .next (s.reset_ 5 0xF true s.power.rstLow false)) ∧
    (∃ t, exec .powerOff s = .next t ∧ t.power.off = true ∧ t.power.good = 0 ∧ t.power.cause = ({} : Power).cause ∧ t.csr = {} ∧
      t.fuses = s.fuses ∧ t.straps = s.straps ∧ t.flash = s.flash ∧
      ∃ u : State, exec (.powerOnReset none) t = .next u ∧ u.power.off = false ∧ u.power.cause = 0x01F00001)

/-- The clocks come up: the measured primary clock enables the PLLs on it, four failed periods enable them on the oscillator, the PLLs
lock, the dividers ramp, and a lost lock raises its event. -/
def Obligations.ClocksComeUp : Prop :=
  ∀ (khz pll : Nat) (s : State),
    (s.rel 2 = true → s.clocks.enabled = false → s.boot.sampled.clkMode ≠ 3 →
      (∀ m, primaryMhz s.boot.sampled.clkMode.toNat khz = some m → ∃ t, exec (.xtalWaitExpiry khz) s = .next t ∧ t.clocks.enabled = true ∧
        t.clocks.onPrimary = true ∧ t.clocks.extMhz = m ∧ t = { s with clocks := t.clocks }) ∧
      (primaryMhz s.boot.sampled.clkMode.toNat khz = none → s.clocks.checks < 3 →
        exec (.xtalWaitExpiry khz) s = .next { s with clocks := { s.clocks with checks := s.clocks.checks + 1 } }) ∧
      (primaryMhz s.boot.sampled.clkMode.toNat khz = none → 3 ≤ s.clocks.checks → ∃ t, exec (.xtalWaitExpiry khz) s = .next t ∧
        t.clocks.enabled = true ∧ t.clocks.onPrimary = false ∧ t.clocks.fallback = true)) ∧
    (s.clocks.enabled = true → ∃ t, exec .pllLock s = .next t ∧ t.clocks.lockSys = true ∧ t.clocks.lockCtrl = true ∧
      t.clocks.lockVat = !s.isF ∧ (s.rel 7 = true → t.time.pllLock = true) ∧ t = { s with clocks := t.clocks, time := t.time }) ∧
    (∃ t, exec .dividerRampDone s = .next t ∧ (1 < s.clocks.rampCtrl → t.clocks.rampCtrl = 1 ∧ t.power.clockDone = true) ∧
      (s.clocks.rampCtrl ≤ 1 → 1 < s.clocks.rampCore → t = { s with clocks := { s.clocks with rampCore := 1 } }) ∧
      (s.clocks.rampCtrl ≤ 1 → s.clocks.rampCore ≤ 1 → 1 < s.clocks.rampEng → t = { s with clocks := { s.clocks with rampEng := 1 } })) ∧
    (s.clocks.enabled = true → (pll < 2 ∨ pll = 2 ∧ s.isF = false) → ∃ t, exec (.pllUnlock pll) s = .next t ∧
      (pll = 0 → t.clocks.lockSys = false ∧ t.clocks.lockCtrl = s.clocks.lockCtrl ∧ t.clocks.lockVat = s.clocks.lockVat) ∧
      (pll = 1 → t.clocks.lockCtrl = false ∧ t.clocks.lockSys = s.clocks.lockSys) ∧ (pll = 2 → t.clocks.lockVat = false) ∧
      (t.reg .crClkEvents).getLsbD 3 = true)

/-- The primary clock fails and returns: fallback with its event, a latched trip while the oscillator settles, a clock-loss reset where no
oscillator runs, the forced switch, the oscillator's own failure, RETURN and the end of the return. -/
def Obligations.ClockFailuresFallBackAndReturn : Prop :=
  ∀ (port : Nat) (s : State), s.power.clockDone = true → s.boot.sampled.clkMode ≠ 3 →
    (s.clocks.returning = false → s.clocks.onPrimary = true → s.clocks.oscOk = true → s.clocks.oscReady = true →
      ∃ t, exec .fallbackSwitch s = .next t ∧ t.clocks.fallback = true ∧ t.clocks.onPrimary = false ∧ t.clocks.primaryOk = false ∧
        (t.reg .crClkEvents).getLsbD 0 = true ∧ (s.rel 7 = true → s.time.pllRef = 0 → t.time.pllRef = 3 ∧ t.time.state = 0 ∧ t.time.ct = s.time.ct)) ∧
    (s.clocks.returning = false → s.clocks.onPrimary = true → s.clocks.oscOk = true → s.clocks.oscReady = false →
      exec .fallbackSwitch s = .next { s with clocks := { s.clocks with primaryOk := false, latched := true } }) ∧
    (s.clocks.returning = false → s.clocks.onPrimary = true → s.clocks.oscOk = false →
      ∃ t, exec .fallbackSwitch s = .next t ∧ t.power.cause = causeAfter s.power.cause (s.power.cycle != []) 5 0xF ∧ t.power.released = 0) ∧
    (s.clocks.fallback = true → ∃ t, exec .forcedSwitch s = .next t ∧ (t.reg .crClkEvents).getLsbD 1 = true ∧ t.clocks = s.clocks) ∧
    (s.clocks.latched = true → s.clocks.oscReady = false → ∃ t, exec .oscReadyTimeout s = .next t ∧
      t.power.cause = causeAfter s.power.cause (s.power.cycle != []) 5 0xF) ∧
    (s.rel 1 = true → s.clocks.latched = true → ∃ t, exec .oscSettled s = .next t ∧ t.clocks.fallback = true ∧ t.clocks.latched = false) ∧
    (s.clocks.onPrimary = true → ∃ t, exec .ckOscFail s = .next t ∧ t.clocks.oscOk = false ∧ (t.reg .crClkEvents).getLsbD 2 = true) ∧
    (s.clocks.onPrimary = false → ∃ t, exec .ckOscFail s = .next t ∧ t.power.released = 0 ∧ t.power.cause = causeAfter s.power.cause (s.power.cycle != []) 5 0xF) ∧
    (exec .primaryOk s = .next { s with clocks := { s.clocks with primaryOk := true } }) ∧
    (canWriteRom s port = true → s.clocks.primaryOk = true → s.clocks.fallback = true →
      exec (.returnSwitch port) s = .next { s with clocks := { s.clocks with returning := true } }) ∧
    (s.clocks.returning = true → ∃ t, exec .returnSwitchDone s = .next t ∧ t.clocks.returning = false ∧ t.clocks.fallback = false ∧
      t.clocks.onPrimary = true ∧ (t.reg .crClkEvents).getLsbD 5 = true)

-- the control pair --------------------------------------------------------------------------------------------------------------------------

/-- A mismatch closes the gate, raises CP_MISMATCH, is recorded, and starts both self-tests, whose outcomes settle control by the table of
R131; a double failure is a watchdog reset of which only the latch keeps a record. -/
def Obligations.MismatchIsSettledBySelfTests : Prop :=
  ∀ (kind : BitVec 2) (u : Nat) (addr : Word) (tag : BitVec 16) (s : State),
    (s.serving = true → s.pair.standby = 0 → ∃ t, exec (.mismatch kind u addr tag) s = .next t ∧ t.pair.gate = false ∧ t.pair.testing = true ∧
      t.pair.standby = 3 ∧ t.pair.wdogPaused = true ∧ t.pair.kind = kind ∧ t.pair.misTag = tag ∧
      t.pair.misAddr = (if u = 0 then 0 else addr) ∧ t.pair.unmatched = BitVec.ofNat 6 (min u 32) ∧
      (t.reg .cpEvents).getLsbD 0 = true) ∧
    (s.pair.testing = true →
      exec (.arbitration false false) s = .next (s.reset_ 3 0xF true s.power.rstLow false) ∧
      (s.power.cycle = [] → fld (s.reset_ 3 0xF true s.power.rstLow false).power.cause 31 24 = 3 ∧
        (s.reset_ 3 0xF true s.power.rstLow false).power.cause.getLsbD 2 = true ∧
        (s.reset_ 3 0xF true s.power.rstLow false).pair = {}) ∧
      (∃ t, exec (.arbitration true true) s = .next t ∧ t.pair.inB = false ∧ t.pair.standby = 0 ∧ t.pair.testing = false ∧
        t.pair.unresolved = stick16 s.pair.unresolved ∧ (t.reg .cpEvents).getLsbD 2 = true) ∧
      (∀ a, ∃ t, exec (.arbitration a (!a)) s = .next t ∧ t.pair.inB = !a ∧ t.pair.standby = 2 ∧ t.pair.testing = false ∧
        t.pair.failovers = (if s.pair.inB = !a then s.pair.failovers else stick16 s.pair.failovers)))

/-- Control after a mismatch and the standby: the interrupted command is the one being executed, a fail-over opens the gate with it first
in the queue; a failed slice demotes the standby, three passed tests in a row repair it, AUTO_READMIT or READMIT readmits it, it
resynchronises, and processor A takes control back; the watchdog is fed by one value only. -/
def Obligations.ControlFailsOverAndTheStandbyReturns : Prop :=
  ∀ (port : Nat) (value : Word) (s : State),
    (∀ kind u addr tag c, s.serving = true → s.pair.standby = 0 → s.nextCmd = some c → c.2.tag = tag → ∃ t,
      exec (.mismatch kind u addr tag) s = .next t ∧ t.pair.interrupted = some c) ∧
    (∀ kind addr c, s.serving = true → s.pair.standby = 0 → s.nextCmd = none → s.pair.lastCmd = some c → s.pair.compared = true →
      s.pair.lastReply = none → ∃ t, exec (.mismatch kind 0 addr c.2.tag) s = .next t ∧ t.pair.interrupted = some c) ∧
    (s.pair.testing = false → s.pair.swapping.isSome = true → ∃ t, exec .failOver s = .next t ∧ t.pair.gate = true ∧
      t.pair.swapping = none ∧ t.pair.wdogPaused = false ∧ t.nextCmd = s.nextCmd ∧ t.ports.queue = s.ports.queue) ∧
    (s.pair.testing = false → s.pair.swapping = none → s.pair.force = true → s.pair.standby = 0 → ∃ t, exec .failOver s = .next t ∧
      t.pair.force = false ∧ t.pair.inB = (!s.pair.inB) ∧ (t.reg .cpEvents).getLsbD 1 = true) ∧
    (s.pair.standby = 0 → s.rel 4 = true → ∃ t, exec (.standbySelftestSlice false) s = .next t ∧ t.pair.standby = 2 ∧
      t.pair.sliceFails = stick16 s.pair.sliceFails ∧ t.pair.repaired = false ∧ (t.reg .cpEvents).getLsbD 3 = true) ∧
    (s.pair.standby = 2 → (∃ t, exec (.demotedSelftest true) s = .next t ∧ t = { s with pair := t.pair } ∧
        t.pair.repaired = decide (2 ≤ s.pair.passes) ∧ (t.pair.standby = if 2 ≤ s.pair.passes ∧ s.b .cpCtrl 3 = true then 1 else 2)) ∧
      exec (.demotedSelftest false) s = .next { s with pair := { s.pair with passes := 0, repaired := false } }) ∧
    (s.pair.standby = 1 → ∃ t, exec .resyncDone s = .next t ∧ t.pair.standby = 0 ∧ t.pair.resynced = true ∧
      (t.reg .cpEvents).getLsbD 4 = true) ∧
    (s.pair.inB = true → s.pair.standby = 0 → s.pair.resynced = true → s.b .cpCtrl 0 = false → s.pair.gate = true →
      ∃ t, exec .takeBack s = .next t ∧ t.pair.inB = false ∧ t.pair.gate = false ∧ t.pair.swapping = some true) ∧
    (canKeep s port = true → s.pair.replaying = false →
      (s.pair.repaired = true → s.b .cpCtrl 2 = false → ∃ t, exec (.readmit port) s = .next t ∧ t.pair.standby = 1 ∧ t.pair.readmit = true) ∧
      (s.pair.standby = 0 → s.b .cpCtrl 1 = false → ∃ t, exec (.forceSwap port) s = .next t ∧ t.pair.force = true) ∧
      (∃ t, exec (.watchdogFeed port value) s = .next t ∧ t.pair.wdogOn = s.pair.wdogOn ∧ t.csr = s.csr ∧
        t.pair.wdogPeriod = if value = 0xA5C3 then BitVec.ofNat 11 (s.f .cpWdogCfg 10 0) else s.pair.wdogPeriod) ∧
      (value.getLsbD 31 = true → fld value 10 0 ≠ 0 → ∃ t, exec (.watchdogEnable port value) s = .next t ∧ t.pair.wdogOn = true ∧
        t.pair.wdogPeriod = (if s.pair.wdogOn then s.pair.wdogPeriod else BitVec.ofNat 11 (fld value 10 0)) ∧
        t.reg .cpWdogCfg = value &&& 0x7FF))

-- test access -----------------------------------------------------------------------------------------------------------------------------

/-- Test access: an instruction code comes into force and scan control drops the trained lanes, a test-logic reset selects IDCODE, BIST
starts with SERVICE at 0 and its end reports and restores it, and TESTMUX_SET answers what both registers held. -/
def Obligations.TestAccessTakesEffect : Prop :=
  ∀ (r : Req) (code : Byte) (failed : BitVec 6) (target : BitVec 4) (unit : BitVec 12) (addr : Word) (s : State),
    (s.tapOn = true → (∃ t, exec (.jtagInstruction code) s = .next t ∧ t.test.ir = jtagCode code ∧
        (scanCode (jtagCode code) = true → scanCode s.test.ir = false → s.rel 8 = true → ∀ n, n < s.res.lanes → (t.lane n).trained = false)) ∧
      ∃ t, exec .testLogicReset s = .next t ∧ t.test.ir = 0x02) ∧
    (Accepts s 0xF00 r true → (r.w 0).toNat ≠ 0 → (r.w 0).toNat < 64 →
      (∀ i, i < 6 → (r.w 0).toNat.testBit i = true → s.rel (bistStep i) = true) → bistRefused s (r.w 0).toNat = false →
      s.test.bist = none → ∃ t, exec (.bistRun r) s = .next t ∧ t.test.bist = some (r, BitVec.ofNat 6 (r.w 0).toNat) ∧
        t.pair.service = some (s.b .cpCtrl 0) ∧ t.b .cpCtrl 0 = false) ∧
    (∀ mask, s.test.bist = some (r, mask) → failed &&& mask ≠ 0 → ∃ u : State, exec (.bistDone failed target unit addr) s = .next
        (u.reply 0xF00 r { status := .ok, payload := [(failed &&& mask).setWidth 32, at32 28 target.toNat ||| at32 16 unit.toNat, addr] }) ∧
      u.test.bist = none ∧ u.test.result = failed &&& mask ∧ u.b .cpCtrl 0 = s.pair.service.getD false ∧
      (u.reg .tdEvents).getLsbD 0 = true ∧ (u.reg .tdEvents).getLsbD 1 = true ∧ (mask.getLsbD 0 = true → u.window = [])) ∧
    (Accepts s 0xF01 r true → atestOk s (fld (r.w 0) 7 0) = true → atestOk s (fld (r.w 0) 15 8) = true →
      dtestOk s (fld (r.w 0) 20 16) (fld (r.w 0) 29 24) = true → s.test.bist = none → ∃ u : State,
      exec (.testmuxSet r) s = .next (ran 0xF01 r { status := .ok, payload :=
        [at32 24 (s.f .tdDtestSel 13 8) ||| at32 16 (s.f .tdDtestSel 4 0) ||| at32 0 (s.f .tdAtestSel 15 0)] } u) ∧
      u.f .tdAtestSel 15 0 = fld (r.w 0) 15 0 ∧ u.f .tdDtestSel 4 0 = fld (r.w 0) 20 16 ∧ u.f .tdDtestSel 13 8 = fld (r.w 0) 29 24)

-- regions -----------------------------------------------------------------------------------------------------------------------------------

/-- REGION_SET defines a region in init, and withdraws one with SIZE zero; init ends with the range zeroed and ready, every byte outside
it unchanged; REGION_READ answers the eight words. -/
def Obligations.RegionsAreDefinedZeroedAndRead : Prop :=
  ∀ (r : Req) (n : Nat) (s : State), s.rel 6 = true →
    (∀ g : Region, Accepts s 0x210 r true → fld (r.w 0) 5 0 = n → r.w 6 = 0 → r.w 7 = 0 → (s.region n).state = 0 →
      g = { base := (r.w 2).toNat * 2 ^ 32 + (r.w 1).toNat, size := (r.w 4).toNat * 2 ^ 32 + (r.w 3).toNat,
            sram := (r.w 0).getLsbD 8, cls := BitVec.ofNat 2 (fld (r.w 0) 13 12), owner := fld (r.w 0) 18 16,
            ceLimit := fld (r.w 5) 23 16, spareMax := fld (r.w 5) 11 8, scrub := (r.w 5).getLsbD 2, spareEn := (r.w 5).getLsbD 1,
            wbOnCe := (r.w 5).getLsbD 0, state := 1, spares := (s.region n).spares } →
      g.size ≠ 0 → s.regionBad n g (fld (r.w 0) 13 12) (fld (r.w 0) 18 16) = false →
      ∃ u : State, exec (.regionSet r) s = .next (ran 0x210 r { status := .ok } u) ∧ u.region n = g ∧
        (∀ k, k ≠ n → u.region k = s.region k) ∧ u.window = s.window ∧ u.vatMem = s.vatMem) ∧
    (Accepts s 0x210 r true → fld (r.w 0) 5 0 = n → r.w 6 = 0 → r.w 7 = 0 → r.w 3 = 0 → r.w 4 = 0 → (s.region n).state = 2 →
      s.regionUsed (s.region n) = false → ∃ u : State, exec (.regionSet r) s = .next (ran 0x210 r { status := .ok } u) ∧
        u.region n = {} ∧ ∀ k, k ≠ n → u.region k = s.region k) ∧
    ((s.region n).state = 1 → ∃ t, exec (.regionReady n) s = .next t ∧ (t.region n).state = 2 ∧ (t.reg .vtEvents).getLsbD 1 = true ∧
      ((s.region n).sram = true → t.vatMem = s.vatMem ∧ ∀ a, rdByte t.window a =
        if (s.region n).base ≤ a ∧ a < (s.region n).base + (s.region n).size then 0 else rdByte s.window a) ∧
      ((s.region n).sram = false → t.window = s.window ∧ ∀ a, rdByte t.vatMem a =
        if (s.region n).base ≤ a ∧ a < (s.region n).base + (s.region n).size then 0 else rdByte s.vatMem a)) ∧
    (Accepts s 0x211 r true → exec (.regionRead r) s = .next
      (ran 0x211 r { status := .ok, payload := regionWords (r.p 5 0) (s.region (r.p 5 0)) } (s.startCmd 0x211 r)))

-- chain time ----------------------------------------------------------------------------------------------------------------------------------

/-- TIME_SET steps CT at once in FREE and waits for the PPS edge in ROOT_REF; TIME_READ answers chain time, epoch, FN and status of one
cycle; FREQ_MEASURE opens one measurement. -/
def Obligations.TimeCommandsSetAndRead : Prop :=
  ∀ (r : Req) (s : State), s.rel 7 = true →
    (Accepts s 0x700 r true → ((r.w 0) ++ (r.w 1)).toNat % 512 = 0 → s.time.ticking = false →
      (s.mode = 0 → ∃ u : State, exec (.timeSet r) s = .next (ran 0x700 r { status := .ok } u) ∧ u.time.ct = (r.w 0) ++ (r.w 1) ∧
        u.time.epoch = r.w 2 ∧ (u.reg .tcEvents).getLsbD 8 = true) ∧
      (s.mode = 1 → exec (.timeSet r) s = .next (ran 0x700 r { status := .ok }
        ((s.startCmd 0x700 r).setTime fun t => { t with setCt := some ((r.w 0) ++ (r.w 1), r.w 2) })))) ∧
    (Accepts s 0x701 r true → exec (.timeRead r) s = .next (ran 0x701 r { status := .ok, payload := [hi32 s.time.ct.toNat,
      lo32 s.time.ct.toNat, s.time.epoch, lo32 s.time.fn.toNat, hi32 s.time.fn.toNat, tcStatus s] } (s.startCmd 0x701 r))) ∧
    (Accepts s 0x702 r true → fld (r.w 0) 2 0 ≤ 4 → 1 ≤ (r.w 1).toNat → (r.w 1).toNat ≤ 64000 →
      nominalKhz s (fld (r.w 0) 2 0) ≤ 20000 * (fld (r.w 0) 31 16 + 1) → s.time.freq = none →
      ∃ t, exec (.freqMeasure r) s = .next t ∧ ∃ q, t.time.freq = some q ∧ q.req = r ∧ q.div = fld (r.w 0) 31 16 + 1 ∧
        q.gateMs = (r.w 1).toNat ∧ t.time.ct = s.time.ct) ∧
    (∀ q stamps lost taken used x xs, s.time.freq = some q → q.opened = true → q.within stamps = taken → usedStamps q.div 0 none taken = used →
      used = x :: xs → 2 ≤ xs.length → ∃ ws : List Word, ∃ u : State,
      exec (.freqMeasureDone stamps lost) s = .next (u.reply 0x702 q.req { status := .ok, payload := ws }) ∧ ws.length = 8 ∧
      ws.getD 3 0 = BitVec.ofNat 32 used.length ∧ ws.getD 4 0 = BitVec.ofNat 32 (taken.length - used.length) ∧
      ws.getD 5 0 = lo32 x.2.toNat ∧ ws.getD 6 0 = hi32 x.2.toNat ∧ (ws.getD 7 0).getLsbD 0 = false ∧
      (ws.getD 7 0).getLsbD 1 = q.stepped ∧ u.time.freq = none)

/-- Pulse outputs: PULSE_SET loads an output that is low, and queues for one that is high; it rises at START with CT there, falls WIDTH
units of 62.5 ps later, and a periodic one stays armed for its next instant. -/
def Obligations.PulseOutputsRiseAndFall : Prop :=
  ∀ (r : Req) (k : Nat) (q : Pulse) (s : State), s.rel 7 = true → SMap.get {} s.time.pulses k = q →
    (Accepts s 0x703 r true → fld (r.w 0) 1 0 = k → (r.w 0) &&& 0xFFFFFCFC = 0 → fld (r.w 0) 9 8 ≠ 3 →
      (fld (r.w 0) 9 8 = 0 ∨ pulseBad (fld (r.w 0) 9 8) ((r.w 1) ++ (r.w 2)) (fld (r.w 3) 15 0 * 2 ^ 32 + (r.w 4).toNat) (r.w 5).toNat
        (if q.high then q.fall else s.time.ct) = false) →
      ∃ u : State, exec (.pulseSet r) s = .next (ran 0x703 r { status := .ok } u) ∧
        (q.high = false → (SMap.get {} u.time.pulses k).armed = decide (fld (r.w 0) 9 8 ≠ 0) ∧
          (fld (r.w 0) 9 8 ≠ 0 → (SMap.get {} u.time.pulses k).next = (r.w 1) ++ (r.w 2) ∧ (SMap.get {} u.time.pulses k).width = r.w 5)) ∧
        (q.high = true → (SMap.get {} u.time.pulses k).queued.isSome = true ∧ (SMap.get {} u.time.pulses k).high = true) ∧
        ∀ j, j ≠ k → SMap.get {} u.time.pulses j = SMap.get {} s.time.pulses j) ∧
    (q.armed = true → q.high = false → 0 ≤ ctDiff q.next s.time.ct → ∃ t, exec (.pulseRise k) s = .next t ∧ t.time.ct = q.next ∧
      (SMap.get {} t.time.pulses k).high = true ∧ (SMap.get {} t.time.pulses k).fall = q.next + BitVec.ofNat 64 (q.width.toNat * 32) ∧
      (SMap.get {} t.time.pulses k).armed = decide (q.mode = 2) ∧
      (q.mode = 2 → (SMap.get {} t.time.pulses k).next = q.next + BitVec.ofNat 64 (q.period.toNat * 32))) ∧
    (q.high = true → 0 ≤ ctDiff q.fall s.time.ct → ∃ t, exec (.pulseFall k) s = .next t ∧ t.time.ct = q.fall ∧
      (SMap.get {} t.time.pulses k).high = false ∧ ∀ j, j ≠ k → SMap.get {} t.time.pulses j = SMap.get {} s.time.pulses j)

/-- References: a present one is noted, a lost one moves PLL_TIME to the other or to holdover, PPS edges apply a waiting TIME_SET, and at
the wrap of CT the epoch increments. -/
def Obligations.ReferencesAndPpsSteerTheRoot : Prop :=
  ∀ (c : CT) (e : Word) (t0 : CT) (s : State), s.rel 7 = true →
    (exec (.refPresent 0) s = .next { s with time := { s.time with refA := true } } ∧
      exec (.refPresent 1) s = .next { s with time := { s.time with refB := true } } ∧
      exec (.refPresent 2) s = .next { s with time := { s.time with pps := s.time.pps || decide (3 ≤ s.time.ppsRun) } }) ∧
    (s.mode = 1 → s.time.pllRef = 1 → s.time.refA = true →
      (s.b .tcSrcCfg 5 = true → s.b .tcSrcCfg 4 = false → s.time.refB = true → ∃ t, exec (.refLost 0) s = .next t ∧ t.time.pllRef = 2 ∧ t.time.refA = false ∧
        t.time.state = s.time.state ∧ (t.reg .tcEvents).getLsbD 3 = true ∧ (t.reg .tcEvents).getLsbD 4 = true) ∧
      (s.b .tcSrcCfg 5 = false ∨ s.b .tcSrcCfg 4 = true ∨ s.time.refB = false → ∃ t, exec (.refLost 0) s = .next t ∧
        t.time.pllRef = (if s.clocks.fallback then 3 else 0) ∧ t.time.state = 3 ∧
        (t.reg .tcEvents).getLsbD 2 = true)) ∧
    (s.time.pps = true → ∃ t, exec .ppsLost s = .next t ∧ t.time.pps = false ∧ (t.reg .tcEvents).getLsbD 6 = true ∧ t.time.ct = s.time.ct ∧
      t.time.state = s.time.state) ∧
    (∀ (falling : Bool) (u v : State), s.time.ppsIn = falling → { s with time := { s.time with ppsIn := !falling } } = v →
      ((v.advanceTo t0).stamp 0 t0).ppsPresence = u →
      (falling ≠ s.b .tcSrcCfg 7 → exec (.ppsEdge t0) s = .next v) ∧
      (falling = s.b .tcSrcCfg 7 → s.mode = 1 → s.b .tcSrcCfg 6 = true → u.time.pps = true → s.time.setCt = some (c, e) →
        s.time.aligned = false → ∃ t, exec (.ppsEdge t0) s = .next t ∧ t.time.ct = ctAdd c (ppsDelay s) ∧ t.time.epoch = e ∧
        t.time.state = 2 ∧ t.time.setCt = none ∧ t.time.timeSet = true)) ∧
    (∃ t, exec .epochWrap s = .next t ∧ t.time.ct = 0 ∧ t.time.epoch = s.time.epoch + 1 ∧ (t.reg .tcEvents).getLsbD 11 = true ∧
      t.time.fn = s.time.fn)

/-- The follower: a first large average steps CT and takes the frame afresh, sixteen small ones lock it, a large one in LOCKED loses the
alignment; no exchange for 16 frames is holdover, whose limit ends ALIGNED; MODE starts from its beginning. -/
def Obligations.FollowersAcquireLockAndHold : Prop :=
  ∀ (port : Nat) (value : Word) (s : State), s.rel 7 = true →
    (∀ (n : Nat) (sum : Int), s.follower = true → 2 ^ s.f .tcSrcCfg 11 8 = n → n ≤ s.time.thetas.length →
      (s.time.thetas.drop (s.time.thetas.length - n)).foldl (· + ·) 0 = sum →
      (s.time.state = 1 → s.time.firstAvg = false → sum = 0 → s.time.within = 15 → ∃ t, exec .servoUpdate s = .next t ∧
        t.time.state = 2 ∧ t.time.ct = s.time.ct ∧ t.time.offset = 0 ∧ t.time.thetas = [] ∧ (t.reg .tcEvents).getLsbD 1 = true) ∧
      (s.time.state = 1 → s.time.firstAvg = true → sum % (2 * n : Int) = 0 → 512000 < (sum / (2 * n : Int)).natAbs →
        ∃ t, exec .servoUpdate s = .next t ∧ t.time.ct = ctAdd s.time.ct (-(sum / (2 * n : Int))) ∧ t.time.epoch = s.time.upEpoch ∧
        (t.reg .tcEvents).getLsbD 8 = true) ∧
      (s.time.state = 2 → sum % (2 * n : Int) = 0 → 512 < (sum / (2 * n : Int)).natAbs → s.time.aligned = true → ∃ t, exec .servoUpdate s = .next t ∧ t.time.state = 1 ∧ t.time.aligned = false ∧ t.time.ct = s.time.ct ∧
        (t.reg .tcEvents).getLsbD 0 = true)) ∧
    (s.follower = true → s.time.state = 2 → ∃ t, exec .exchangeTimeout s = .next t ∧ t.time.state = 3 ∧ t.time.ct = s.time.ct ∧
      t.time.aligned = s.time.aligned ∧ (t.reg .tcEvents).getLsbD 2 = true) ∧
    (s.time.state = 3 → s.time.holding = true → 2 ≤ s.mode → ∃ t, exec .holdLimitExpiry s = .next t ∧ t.time.aligned = false ∧
      t.time.state = 3 ∧ t.time.ct = s.time.ct) ∧
    (canWrite s port 7 = true → fld value 2 0 ≤ 3 → 4 ≤ fld value 11 8 → fld value 11 8 ≤ 10 →
      (fld value 2 0 ≠ s.mode → s.time.ticking = false → anyPathEnabled s = false → ∃ t, exec (.modeWrite port value) s = .next t ∧
        t.mode = fld value 2 0 ∧ t.reg .tcSrcCfg = value &&& 0xFF7 ∧ t.time.ct = s.time.ct ∧ t.time.aligned = false ∧
        (fld value 2 0 ≤ 1 → t.time.state = 0) ∧ (fld value 2 0 = 2 → t.time.state = 1)) ∧
      (fld value 2 0 = s.mode → ∃ t, exec (.referenceTakeBack port value) s = .next t ∧ t.reg .tcSrcCfg = value &&& 0xFF7 ∧
        (s.mode = 1 → value.getLsbD 4 = false → s.time.pllRef = 2 → s.time.refA = true → t.time.pllRef = 1 ∧
          (s.time.state = 3 → t.time.state = 2))))

namespace Sys2Proof.Claims
/-- The plan that SCHED_COMMIT checks: the shadow schedule with its derived durations and the blocks as they stand. -/
def derivedPlan (s : State) : Plan :=
  let q : Plan := ⟨s.sched.shadow, s.blocksOf s.sched.shadow, true, s.nextPeriod, s.orgAt s.nextPeriod⟩
  { q with l := q.derive s.free }
/-- The state with those durations in its shadow schedule. -/
def withDurations (s : State) : State :=
  { s with free := s.free + (derivedPlan s).l.length, sched := { s.sched with shadow := (derivedPlan s).l } }
end Sys2Proof.Claims

-- frames ----------------------------------------------------------------------------------------------------------------------------------------

/-- A frame tick falls at O + kP, at or after the present instant and not at the last tick; CT comes to it and FN counts one more, or
starts at E / P at the first tick of a run. What the last tick left to do has been done before, and what waits for this tick is due. -/
def Obligations.TicksFallOnTheFrameGrid : Prop :=
  ∀ s u : State, s.settleTick = u → u.rel 7 = true → u.placesTicks = true → 0 < u.time.period.toNat → u.time.e + 2 ^ 23 < 2 ^ 87 →
    ∃ t, exec .frameTick s = .next t ∧ u.time.e ≤ t.time.tickE.toNat ∧ t.time.tickE.toNat ≤ u.time.e + 2 * u.time.period.toNat ∧
      ((t.time.tickE.toNat : Int) - u.time.org.toNat) % u.time.period.toNat = 0 ∧ (u.time.first = false → t.time.tickE ≠ u.time.tickE) ∧
      t.time.ct = BitVec.ofNat 64 (t.time.tickE.toNat * 512) ∧
      t.time.fn = (if u.time.first then BitVec.ofNat 48 (t.time.tickE.toNat / u.time.period.toNat) else u.time.fn + 1) ∧
      t.time.period = u.time.period ∧ t.time.first = false ∧ t.sched.active = u.sched.active ∧
      (∀ k v, SMap.find u.csr.pend k = some v → (∀ n, n < 48 → k ≠ Reg.key (.lkLCfg n)) → SMap.find t.csr.due k = some v) ∧
      t.sched.swapNow = u.sched.swapDue ∧ t.rennet.armNow = u.rennet.armDue.isSome ∧ t.rennet.disarmNow = u.rennet.disarmDue

/-- RUN, ARM and the switch: a write of RUN 1 starts the ticks, RUN 0 makes the next tick the last, ARM keeps the period of TC_FRAME_NEXT
for the tick of SWITCH_FN, which makes it, or on the root what TC_FRAME_NEXT holds then, the period and that tick the origin; at the last tick the ticks and ALIGNED end. -/
def Obligations.RunAndPeriodSwitchTakeEffect : Prop :=
  ∀ (port : Nat) (s : State), (canWrite s port 7 = true → s.boot.state = 1 → s.follower = false →
      (s.time.ticking = false → ∃ t, exec (.runStart port) s = .next t ∧ t = { s with time := t.time } ∧ t.time.run = true ∧
        t.time.ticking = true ∧ t.time.first = true ∧ t.time.org = 0 ∧ t.time.ct = s.time.ct) ∧
      (s.time.ticking = true → ∃ t, exec (.runStop port) s = .next t ∧ t = { s with time := t.time } ∧ t.time.run = false ∧
        t.time.stopping = true ∧ t.time.ticking = true) ∧
      (armStop s = none → s.pair.replaying = false → ∃ t, exec (.frameSwitchArm port) s = .next t ∧ t.csr = s.csr ∧ t.sched = s.sched ∧
        t.time.switch = some ⟨(s.reg .tcFrameSwitchHi).setWidth 16 ++ s.reg .tcFrameSwitchLo, (s.reg .tcFrameNext).setWidth 21⟩ ∧
        t.time.period = s.time.period)) ∧
    (∀ w, s.time.switchNow = true → s.time.switch = some w → ∃ t, exec .periodSwitch s = .next t ∧ t = { s with time := t.time } ∧
      t.time.period = BitVec.ofNat 21 (s.switchPeriod w) ∧ t.time.org = s.time.tickE ∧ t.time.switch = none ∧ t.time.switchDone = true ∧ t.time.fn = s.time.fn ∧
      t.time.ct = s.time.ct) ∧
    (s.time.stopNow = true → ∃ t, exec .lastTick s = .next t ∧ t.time.ticking = false ∧ t.time.aligned = false ∧ t.time.switch = none ∧
      t.time.ct = s.time.ct ∧ (s.time.aligned = true → (t.reg .tcEvents).getLsbD 0 = true))

/-- Values of RWF registers that a tick has caught are in force after RWF_TAKE_EFFECT, and none waits as due; a lane's held EN and GEN come
into force when their hold expires. -/
def Obligations.RwfValuesTakeEffect : Prop :=
  ∀ (q : Reg) (v : Word) (n : Nat) (s : State),
    (SMap.find s.csr.due q.key = some v → (s.csr.due.map (·.1)).Nodup → regAt q.addr = some q → q.key = q.addr → q.info.w1c = 0 →
      ∃ t, exec .rwfTakeEffect s = .next t ∧ t.reg q = v ∧ t.csr.due = [] ∧ t.csr.pend = s.csr.pend ∧ t.time.fn = s.time.fn ∧
        t.sched.active = s.sched.active) ∧
    (n < 48 → (s.lane n).heldCfg = some v → s.placesTicks = false → ∃ t, exec (.laneCfgHoldExpiry n) s = .next t ∧ (t.lane n).heldCfg = none ∧
      t.reg (.lkLCfg n) = v)

-- the schedule --------------------------------------------------------------------------------------------------------------------------------

/-- SCHED_LOAD replaces entries of the shadow schedule; SCHED_COMMIT replies the lowest entry that a check names, or the frame of the swap,
or swaps at once while no ticks are placed; SCHED_READ answers four words an entry. -/
def Obligations.ScheduleCommandsLoadCommitAndRead : Prop :=
  ∀ (r : Req) (es l : List Entry) (s u : State), s.rel 5 = true →
    (Accepts s 0x300 r (decide (r.len % 4 = 0)) → entriesOf r.payload = es → es.any s.roleBars = false → r.p 11 0 ≤ s.sched.shadow.length →
      r.p 11 0 + es.length ≤ 4096 → (∀ e, e ∈ es → s.hasResource e = true ∧ s.badArg e = false) → s.sched.commit = false →
      s.sched.shadow.take (r.p 11 0) ++ es ++ (if r.p 12 12 = 1 then [] else s.sched.shadow.drop (r.p 11 0 + es.length)) = l →
      exec (.schedLoad r) s = .next (ran 0x300 r { status := .ok } ((s.startCmd 0x300 r).setSched fun q => { q with shadow := l }))) ∧
    (Accepts s 0x301 r true → s.sched.commit = false → s.startCmd 0x301 r = u →
      (∀ i, firstFail ((withDurations u).checks (derivedPlan u)) = some i →
        exec (.schedCommit r) s = .next (ran 0x301 r { status := .infeasible, param := i } (withDurations u))) ∧
      (firstFail ((withDurations u).checks (derivedPlan u)) = none → s.placesTicks = true → ∃ t : State,
        exec (.schedCommit r) s = .next (ran 0x301 r { status := .ok, param := (s.time.fnAt s.nextTick).toNat % 2 ^ 24 } t) ∧
        t.sched.commit = true ∧ t.sched.swapDue = true ∧ t.sched.active = s.sched.active ∧ t.sched.shadow = (derivedPlan u).l) ∧
      (firstFail ((withDurations u).checks (derivedPlan u)) = none → s.placesTicks = false → ∃ t : State,
        exec (.schedCommit r) s = .next (ran 0x301 r { status := .ok, param := 0xFFFFFF } t) ∧
        t.sched.active = (derivedPlan u).l ∧ t.sched.shadow = s.sched.active ∧ t.sched.bank = !s.sched.bank)) ∧
    (Accepts s 0x302 r true → es = (if r.p 23 23 = 1 then s.sched.shadow else s.sched.active) → 1 ≤ r.p 20 12 → r.p 20 12 ≤ 256 →
      r.p 11 0 + r.p 20 12 ≤ es.length → (es.drop (r.p 11 0)).take (r.p 20 12) = l → exec (.schedRead r) s = .next
        (ran 0x302 r { status := .ok, payload := l.flatMap fun e => [e.w0, e.w1, e.w2, e.w3] } (s.startCmd 0x302 r)))

/-- At its tick a committed schedule becomes the active one with its parameter blocks, the old one the shadow, which then becomes a copy of
the active one; entries load as four words and unload as the same four. -/
def Obligations.SchedulesSwapAndCopy : Prop :=
  (∀ s : State, (s.sched.swapNow = true → s.sched.swapDue = true → ∃ t, exec .scheduleSwap s = .next t ∧ t.sched.active = s.sched.shadow ∧
      t.sched.shadow = s.sched.active ∧ t.sched.params = s.sched.paramsDue ∧ t.sched.bank = (!s.sched.bank) ∧ t.sched.swapDue = false ∧
      t.sched.held = s.sched.held ∧ t.csr = s.csr) ∧
    (s.sched.copyDue = true → exec .shadowCopyDone s = .next
      { s with sched := { s.sched with shadow := s.sched.active, copyDue := false, commit := false } })) ∧
  ∀ es : List Entry, entriesOf (es.flatMap fun e => [e.w0, e.w1, e.w2, e.w3]) = es

/-- Emission: at START the frames whose close has come are closed (`u`), the waiting curds of the entry's path leave in their order, and those
of every other path stay; the end of an entry ends it, and one that has not begun is counted and not run; at a path's deadline its late curds
are discarded and the loss is reported. -/
def Obligations.CurdsLeaveInOrderOrAreLost : Prop :=
  ∀ (i path : Nat) (e : Entry) (s u : State),
    (s.atStart i 2 = some e → s.time.infForce = false → (e.cls = 1 ∧ s.carries e.idx = true ∨ e.cls = 6 ∧ s.uplink.up = true) →
      ((s.advanceTo (s.tickCt + BitVec.ofNat 64 (e.start * 512))).setBegun i).closeHits.closeRennet = u →
      ∃ t, exec (.curdEmission i) s = .next t ∧ i ∈ t.sched.begun ∧
        (t.sched.held.map fun h => (h.curd, h.path)).Sublist (u.sched.held.map fun h => (h.curd, h.path)) ∧
        (t.sched.held.filter fun h => h.path != e.path) = (u.sched.held.filter fun h => h.path != e.path) ∧
        t.sched.active = s.sched.active ∧ (e.cls = 1 → i ∈ t.sched.running)) ∧
    (s.sched.active[i]? = some e → s.sched.running.contains i = true → e.kind ≠ 1 → ∃ t, exec (.entryAbort i) s = .next t ∧
      i ∉ t.sched.running ∧ t.sched.active = s.sched.active) ∧
    (s.sched.active[i]? = some e → s.sched.running.contains i = false → 3 ≤ e.kind → e.kind ≤ 5 → s.atStart i e.kind = some e →
      ∃ t, exec (.entryAbort i) s = .next t ∧ i ∈ t.sched.begun ∧ t.sched.held = s.sched.held ∧ t.sched.active = s.sched.active ∧
        (s.time.infForce = false → t.cnt 0x300010 = (s.cnt 0x300010).add 1)) ∧
    (s.rel 5 = true → ∃ t, exec (.curdDeadline path) s = .next t ∧
      t.sched.held = (s.sched.held.filter fun h => !(h.path == path && s.isLate path h.curd)) ∧
      ((s.sched.held.any fun h => h.path == path && s.isLate path h.curd) = true → path ∉ s.sched.lossNow →
        (t.reg .scEvents).getLsbD 0 = true) ∧
      ((s.sched.held.any fun h => h.path == path && s.isLate path h.curd) = false → t = s))

-- channels -------------------------------------------------------------------------------------------------------------------------------------------

/-- A detected drop lowers the range by one step and opens an INV interval, quiet frames raise it at a tick, an interval runs its full
length, and a sample of a digitiser stands on its grid; no other channel changes. `q` is a state whose last tick may have left things to do
and `s` that state with them done. -/
def Obligations.ChannelRangesAndSamples : Prop :=
  ∀ (ch : Nat) (code : BitVec 12) (q s : State), q.settleNow = s → s.chanOn ch = true →
    ((s.chan ch).dropDue = true → (s.chan ch).range ≠ 0 → ∃ t, exec (.autorangeDrop ch) q = .next t ∧
      (t.chan ch).range = (s.chan ch).range - 1 ∧ (t.chan ch).invFrom = s.time.ct ∧ (t.chan ch).inv.isSome = true ∧
      (t.chan ch).dropDue = false ∧ (∀ k, k ≠ ch → t.chan k = s.chan k) ∧ t.time = s.time) ∧
    (s.b (.caChCfg ch) 6 = true → s.f (.caChAuto ch) 23 16 ≠ 0 → s.f (.caChAuto ch) 23 16 ≤ (s.chan ch).quiet →
      (s.chan ch).range.toNat < s.f (.caChCfg ch) 5 4 → ∃ t, exec (.autorangeRise ch) q = .next t ∧
      (t.chan ch).range = (s.chan ch).range + 1 ∧ (t.chan ch).quiet = 0 ∧ (t.chan ch).invFrom = s.tickCt ∧
      ∀ k, k ≠ ch → t.chan k = s.chan k) ∧
    (∀ cause, (s.chan ch).inv = some cause → 0 ≤ ctDiff ((s.chan ch).invFrom + BitVec.ofNat 64 (invLength cause)) s.time.ct →
      ∃ t, exec (.invIntervalEnd ch) s = .next t ∧ (t.chan ch).inv = none ∧ (t.chan ch).range = (s.chan ch).range ∧
        t.time.ct = (s.chan ch).invFrom + BitVec.ofNat 64 (invLength cause)) ∧
    (s.paired ch = false → ∃ t, exec (.digitiserSample ch code) q = .next t ∧
      t.time.ct = sampleInstant s.time.ct (s.chan ch).lastEven 0 ∧ (t.chan ch).lastEven = some t.time.ct ∧
      (t.chan ch).dropDue = ((s.chan ch).dropDue || (s.b (.caChCfg ch) 6 && !(s.chan ch).invAt t.time.ct &&
        overRange (s.ovrMargin ch) code.toNat && (s.chan ch).range != 0 && !(s.chan ch).dropping)) ∧
      (t.chan ch).range = (s.chan ch).range ∧ ∀ k, k ≠ ch → t.chan k = s.chan k)

/-- A timing stop within its window enters the FIFO with the frame, the tick and the corrected stamp of R187; one outside is counted and
kept out; nothing of another channel changes. -/
def Obligations.StopsAreStampedWithinTheWindow : Prop :=
  ∀ (ch : Nat) (cycle : Byte) (coarse : BitVec 12) (bin : BitVec 9) (p : Stop) (q s : State), q.settleNow = s → s.chanOn ch = true →
    s.stopAt ch false cycle coarse bin = p → 0 ≤ ctDiff p.ct s.time.ct → (s.chan ch).drop = false → (s.chan ch).lastTiming = none →
    (s.chan ch).fifo = [] → ∃ t, exec (.tdcStop ch false cycle coarse bin) q = .next t ∧
      t.time.ct = p.ct ∧ (t.chan ch).lastTiming = some p.ct ∧ (∀ k, k ≠ ch → t.chan k = s.chan k) ∧
      (s.f (.caChWin ch) 11 0 * 512 ≤ p.raw % (4096 * 512) → p.raw % (4096 * 512) < s.f (.caChWin ch) 28 16 * 512 →
        (s.b (.caChWin ch) 31 = true ∨ p.cycle = 0) → ∃ x : Stop, (t.chan ch).fifo = [x] ∧ x.corrected = correctStamp s ch p ∧
          x.bin = bin ∧ x.fn = s.time.fn ∧ x.period = s.time.period.toNat ∧ x.rangeSwitch = (s.chan ch).dropping) ∧
      (p.raw % (4096 * 512) < s.f (.caChWin ch) 11 0 * 512 ∨ s.f (.caChWin ch) 28 16 * 512 ≤ p.raw % (4096 * 512) ∨
        (s.b (.caChWin ch) 31 = false ∧ p.cycle ≠ 0) → (t.chan ch).fifo = [] ∧ (t.chan ch).timingLost = true)

/-- The bias enables: only the key opens the window, an enable is set only while it is open, and it closes; CAL_RUN starts on a disabled
channel and its end replies the results. -/
def Obligations.BiasKeyAndCalibration : Prop :=
  ∀ (port : Nat) (value : Word) (r : Req) (ch : Nat) (s : State),
    (canWrite s port 9 = true → 0 < s.res.channels →
      (s.pair.replaying = false → ∃ t, exec (.biasKey port value) s = .next t ∧ t.b .caBiasCtrl 16 = decide (value = 0xB1A5) ∧
        (∀ i, i ≠ 16 → t.b .caBiasCtrl i = s.b .caBiasCtrl i) ∧ t.chans = s.chans) ∧
      (s.b .caBiasCtrl 16 = true ∨ (value &&& ~~~(s.reg .caBiasCtrl)) &&& 0xF = 0 → ∃ t, exec (.biasEnableWrite port value) s = .next t ∧
        t.reg .caBiasCtrl = (value &&& 0xF0F) ||| (s.reg .caBiasCtrl &&& 0x10000) ∧ t.chans = s.chans) ∧
      (s.b .caBiasCtrl 16 = false → (value &&& ~~~(s.reg .caBiasCtrl)) &&& 0xF ≠ 0 → exec (.biasEnableWrite port value) s = .next s)) ∧
    (∃ t, exec .biasKeyClose s = .next t ∧ t.b .caBiasCtrl 16 = false ∧ ∀ i, i ≠ 16 → t.b .caBiasCtrl i = s.b .caBiasCtrl i) ∧
    (Accepts s 0x410 r true → fld (r.w 0) 5 0 = ch → ch < s.res.channels → fld (r.w 0) 9 8 = 1 → (r.w 1).toNat < 8 → r.w 2 = 0 →
      r.w 3 = 0 → s.rel 9 = true → s.enAny ch = false → s.calBusy ch = false → ∃ t, exec (.calRun r) s = .next t ∧
        (t.chan ch).cal = some (1, r.w 1, (r.w 0).getLsbD 12) ∧
        t.ports.long = s.ports.long ++ [{ op := 0x410, res := ch, req := r }]) ∧
    (∀ l par apply dt residual, (s.chan ch).cal = some (2, par, apply) → (s.ports.long.find? fun l => l.op == 0x410 && l.res == ch) = some l →
      ∃ u : State, exec (.calRunDone ch (.interleave dt residual)) s = .next (u.reply 0x410 l.req
          { status := .ok, payload := [BitVec.ofNat 32 (low 8 (sat 8 dt)), BitVec.ofNat 32 (min residual 0xFFFFFFFF)] }) ∧
        (u.chan ch).cal = none ∧ (u.reg .mdEvents).getLsbD 1 = true ∧
        (apply = true → ch < 48 → u.regW (.mdChIlv ch) = BitVec.ofNat 32 (low 8 (sat 8 dt))) ∧ (apply = false → u.csr.pend = s.csr.pend))

-- hits ------------------------------------------------------------------------------------------------------------------------------------------------

/-- The oldest hit that waits for nothing forms its item with the values of its frame: suppressed, or admitted within the frame's budget and
put on its way to the FIFO, or refused as whey while the device is not aligned; a hit whose trailing stop does not come is closed. -/
def Obligations.HitsFormItems : Prop :=
  ∀ (ch : Nat) (h : OpenHit) (rest : List OpenHit) (it : Item) (amp tot : Nat) (op : Bool) (q s u : State), q.settleNow = s →
    s.rel 5 = true → ch < s.res.channels → (s.chan ch).fifo = [] → (s.chan ch).hits = h :: rest →
    s.setChan ch { s.chan ch with hits := rest } = u →
    (s.formItem ch h = (it, amp, tot, op) → h.settled s.time.ct = true → sdiff 48 it.fn.toNat s.time.fn.toNat ≤ 0 →
      (passes (s.hitValues ch it.fn) amp tot op = false → ∃ t, exec (.hitForm ch) q = .next t ∧ t.hits = s.hits ∧ (t.chan ch).hits = rest) ∧
      (∀ f, passes (s.hitValues ch it.fn) amp tot op = true → s.budgetOf ch it.fn = some f → s.time.aligned = true →
        s.time.infForce = false → s.b .hbCfg 0 = true → (s.pathOf 2).isSome = true → f.used + it.flits.length ≤ f.budget →
        it.flits.length ≤ (u.transport.hitChan ch).free → ∃ t, exec (.hitForm ch) q = .next t ∧
          t.hits.items = u.transport.hits.items ++ [it] ∧ (t.chan ch).hits = rest ∧
          (t.hitChan ch).queue = (u.transport.hitChan ch).queue ++ itemWrites it.flits ∧
          t.budgetOf ch it.fn = some { f with used := f.used + it.flits.length }) ∧
      (passes (s.hitValues ch it.fn) amp tot op = true → s.time.aligned = false → ∃ t, exec (.hitForm ch) q = .next t ∧
        t.hits.items = s.hits.items ∧ (t.chan ch).hits = rest ∧ t.hits.wheyNow = true)) ∧
    (h.closed = false → ∃ t, exec (.totWaitExpiry ch) q = .next t ∧ (t.chan ch).hits = { h with closed := true } :: rest ∧
      t.hits = s.hits)

/-- The close of the oldest ended frame, at its instant: its items leave the hit builder in the order of their stamps as HIT curds on their
path, packed in order and ready 64 ns later, and items of other frames stay. `u` is the state with the frame's late items formed. -/
def Obligations.HitFramesCloseIntoCurds : Prop :=
  ∀ (fn : FN) (close : CT) (rest : List (FN × CT)) (p : Nat) (parity stage : List Nat) (s u : State), s.rel 5 = true →
    s.hits.ended = (fn, close) :: rest → ((s.advanceTo close).formAll (List.range s.res.channels)).transport = u →
    u.pathOf 2 = some p → closedItems u.hits.items fn parity ≠ [] → ∃ t, exec (.hitFrameClose parity stage) s = .next t ∧
      t.hits.ended = rest ∧ t.hits.items = (u.hits.items.filter fun i => i.fn != fn) ∧
      ((t.sched.held.drop u.sched.held.length).map fun h => (h.path, h.curd.rind.type, h.curd.rind.fn, h.curd.payload, h.readyAt)) =
        ((packItems (u.f .hbCfg 23 16) (closedItems u.hits.items fn parity) [] 0).map fun g =>
          (p, 2, fn.setWidth 32, g.flatMap (·.flits), some (close + 32768))) ∧
      t.sched.held.take u.sched.held.length = u.sched.held

-- rennet ------------------------------------------------------------------------------------------------------------------------------------------------

/-- Sources offer their candidates to the arbiter in the order of T: TRIG_FORCE, TRIG_IN, the compare, a pattern unit and the auto timer. `q` is a state whose
last tick may have left things to do and `s` that state with them done. -/
def Obligations.TriggerSourcesOfferCandidates : Prop :=
  ∀ (port k n : Nat) (r : Req) (t0 cycle : CT) (q s : State), q.settleNow = s → s.rel 5 = true → 512 < s.decide_ →
    (Accepts s 0x401 r true → s.rennet.armed = true → s.b .trSrcEn 6 = true → ∃ u : State,
      exec (.trigForce r) s = .next (ran 0x401 r { status := .ok } u) ∧ u.rennet.cands = insertCand
        { t := s.time.ct &&& ~~~(0x1FF : CT), sources := 0x40, origin := s.ports.nodeId } s.rennet.cands) ∧
    (s.rel 7 = true → s.rennet.lastIn = none → s.b .trSrcEn 4 = true → 0 ≤ ctDiff t0 s.time.ct → ∃ u, exec (.trigInEdge t0) q = .next u ∧
      u.time.ct = t0 ∧ u.rennet.lastIn = some t0 ∧ u.rennet.cands = insertCand
        { t := t0, sources := 0x10, origin := s.ports.nodeId, ovf := stampOvf s t0 } s.rennet.cands) ∧
    (canWrite s port 7 = true → s.pair.replaying = false →
      usFine ≤ ctDiff ((s.reg .trCmpTargetHi) ++ (s.reg .trCmpTargetLo)) s.time.ct → ∃ u, exec (.cmpArm port) s = .next u ∧
        u.rennet = { s.rennet with cmpArmed := true, cmpAt := (s.reg .trCmpTargetHi) ++ (s.reg .trCmpTargetLo) } ∧ u.csr = s.csr) ∧
    (s.rel 7 = true → s.rennet.cmpArmed = true → 0 ≤ ctDiff s.rennet.cmpAt s.time.ct → ∃ u, exec .ctCompare q = .next u ∧
      u.time.ct = s.rennet.cmpAt ∧ u.rennet.cmpArmed = decide (s.reg .trCmpPeriod ≠ 0) ∧
      (s.reg .trCmpPeriod ≠ 0 → u.rennet.cmpAt = s.rennet.cmpAt.plus ((s.reg .trCmpPeriod).toNat * 512)) ∧
      (s.b .trSrcEn 5 = true → u.rennet.cands = insertCand { t := s.rennet.cmpAt, sources := 0x20, origin := s.ports.nodeId } s.rennet.cands) ∧
      (s.b .trSrcEn 5 = false → u.rennet.cands = s.rennet.cands)) ∧
    (k < 4 → s.rel 9 = true → s.b (.trPatCareHi k) 31 = true → s.b .trSrcEn k = true → SMap.find s.rennet.lastFire k = none →
      (∀ m, m < 48 → s.care k m = true → s.patValue k m = s.seen m (s.f (.trPatCareHi k) 21 16 + 1) cycle) →
      ((List.range 48).filter fun m => s.care k m && s.patValue k m && s.roseIn cycle m).head? = some n →
      (s.chan n).lastStamp = some t0 → ctDiff cycle s.time.ct = 0 → ctDiff cycle (t0.plus s.decide_) < 0 →
      ∃ u, exec (.patternFire k cycle) q = .next u ∧ SMap.find u.rennet.lastFire k = some cycle ∧
        u.rennet.cands = insertCand { t := t0, sources := BitVec.ofNat 10 (2 ^ k), origin := s.ports.nodeId } s.rennet.cands) ∧
    (s.rennet.armed = true → s.rennet.arm.auto = true → s.rennet.cands.any (·.auto) = false → s.rennet.arm.mode = 1 →
      (s.rennet.autoBase.getD s.rennet.armTick).plus (s.rennet.arm.timeout * 512) = t0 → 0 ≤ ctDiff t0 s.time.ct →
      ∃ u, exec .autoTimeout q = .next u ∧ u.time.ct = t0 ∧
        u.rennet.cands = insertCand { t := t0, sources := 0x200, origin := s.ports.nodeId, auto := true } s.rennet.cands)

/-- The first candidate is settled by the first row of R221 that applies: not armed at T, the same T as the last trigger, within the
hold-off, a miss while the segment is busy, accepted in stream mode with a mark; TRIG_OUT pulses rise and fall at their instants. `q` is a
state whose last tick and trigger FIFOs may have left things to do and `s` that state with them done. -/
def Obligations.TriggerDecisionsFollowTheRows : Prop :=
  ∀ (c l : Cand) (cs : List Cand) (t0 : CT) (ts : List CT) (q s : State),
    (q.settleNow.nextCand = s → s.rel 5 = true → s.rennet.cands = c :: cs →
      (s.rennet.armedAt c.t = false → s.rennet.closing = false → ∃ t, exec .triggerDecision q = .next t ∧ t.rennet = { s.rennet with cands := cs }) ∧
      (s.rennet.armedAt c.t = true → s.rennet.last = some l → ctDiff c.t l.t = 0 → ∃ t, exec .triggerDecision q = .next t ∧
        t.rennet.last = some { l with sources := l.sources ||| c.sources } ∧ t.rennet.num = s.rennet.num ∧ t.rennet.cands = cs) ∧
      (s.rennet.armedAt c.t = true → s.rennet.last = some l → 0 < ctDiff c.t l.t → ctDiff c.t l.t ≤ (s.f .trCfg 31 20 * ns : Nat) →
        s.rennet.closing = false → ∃ t, exec .triggerDecision q = .next t ∧ t.rennet = { s.rennet with cands := cs }) ∧
      (s.rennet.armedAt c.t = true → (s.rennet.last = none ∨ ∃ x, s.rennet.last = some x ∧ (s.f .trCfg 31 20 * ns : Nat) < ctDiff c.t x.t) →
        s.rennet.arm.mode = 2 → s.rennet.busyAt c.t = true → s.rennet.misses.length < 16 → ∃ t, exec .triggerDecision q = .next t ∧ t.rennet.misses = s.rennet.misses ++ [(c.t, c.sources)] ∧
        t.rennet.num = s.rennet.num ∧ t.rennet.cands = cs ∧ (t.reg .trEvents).getLsbD 2 = true) ∧
      (s.rennet.armedAt c.t = true → (s.rennet.last = none ∨ ∃ x, s.rennet.last = some x ∧ (s.f .trCfg 31 20 * ns : Nat) < ctDiff c.t x.t) →
        s.rennet.arm.mode = 1 → s.rennet.arm.readout = false → s.time.aligned = true → s.time.infForce = false → s.b .trOutCfg 31 = false →
        SMap.get 0 s.rennet.perFrame (s.frameOf c.t).toNat < fld (s.trFrame c.t).budget 8 0 → ∃ t, exec .triggerDecision q = .next t ∧
          t.rennet.num = s.rennet.num + 1 ∧ t.rennet.last = some c ∧ t.rennet.autoBase = some c.t ∧
          t.rennet.marks = s.rennet.marks ++ [{ num := s.rennet.num, cand := c, noRo := false, fn := s.frameOf c.t }])) ∧
    (s.rel 7 = true → s.rennet.outQueue = t0 :: ts → s.rennet.outHigh = false → 0 ≤ ctDiff t0 s.time.ct →
      ∃ t, exec .trigOutPulse s = .next t ∧ t.rennet.outHigh = true ∧ t.rennet.outQueue = ts ∧ t.time.ct = t0) ∧
    (s.rel 7 = true → s.rennet.outFall = some t0 → s.rennet.outHigh = true → 0 ≤ ctDiff t0 s.time.ct →
      ∃ t, exec .trigOutFall s = .next t ∧ t.rennet.outHigh = false ∧ t.rennet.outFall = none ∧ t.time.ct = t0)

/-- TRIG_ARM and TRIG_DISARM wait for a tick and take effect there, with the RWF values of that tick in force (`u`); records complete, rearm,
and are read; read-out entries take the read-outs that are ready. -/
def Obligations.ArmsAndRecordsTakeEffect : Prop :=
  ∀ (r : Req) (a : Arm) (q : Record) (g : Seg) (i k entry : Nat) (e : Entry) (found : List Finding) (u s : State),
    (Accepts s 0x400 r true → s.rel 7 = true →
      a = { mode := BitVec.ofNat 2 (fld (r.w 0) 1 0), auto := (r.w 0).getLsbD 2, readout := (r.w 0).getLsbD 3, pre := fld (r.w 1) 27 0,
            post := fld (r.w 2) 27 0, records := fld (r.w 3) 15 0 + 1, timeout := (r.w 4).toNat } →
      (a.mode = 1 ∧ s.streamStop a = none ∨ a.mode = 2 ∧ s.segmentStop a = none) → (a.auto = true → 1000 ≤ a.timeout) →
      r.w 5 = 0 → r.w 6 = 0 → r.w 7 = 0 → s.rennet.armed = false → s.rennet.armDue = none →
      exec (.trigArm r) s = .next (ran 0x400 r { status := .ok } ((s.startCmd 0x400 r).setRennet fun x => { x with armDue := some a }))) ∧
    (exec .rwfTakeEffect s = .next u → u.rennet.armNow = true → u.rennet.armDue = some a → ∃ t, exec .trigArmTakesEffect s = .next t ∧
      t = { u with rennet := t.rennet } ∧ t.rennet.armed = true ∧ t.rennet.arm = a ∧ t.rennet.armTick = u.tickCt ∧ t.rennet.records = [] ∧ t.rennet.num = 0 ∧ t.rennet.armDue = none ∧
      t.rennet.segOpen = decide (a.mode = 2)) ∧
    (Accepts s 0x402 r true → s.rel 7 = true → exec (.trigDisarm r) s = .next (ran 0x402 r { status := .ok }
      ((s.startCmd 0x402 r).setRennet fun x => { x with armDue := none, armNow := false, disarmDue := x.armed }))) ∧
    (exec .rwfTakeEffect s = .next u → u.rennet.disarmNow = true → u.rennet.disarmDue = true → u.rennet.segOpen = false →
      ∃ t, exec .trigDisarmTakesEffect s = .next t ∧ t.rennet.armed = false ∧ t.rennet.disarmDue = false ∧
        t.rennet.disarmTick = some u.tickCt) ∧
    (s.rennet.records.getLast? = some q → s.rennet.seg = some g → q.done = false → s.rel 9 = true → ∃ t, exec .recordComplete s = .next t ∧
      t.rennet.records.length = s.rennet.records.length ∧ (∃ x, t.rennet.records.getLast? = some x ∧ x.done = true ∧ x.t = q.t ∧ x.num = q.num) ∧
      (s.rennet.closing = false → s.rennet.records.length < s.rennet.arm.records → t.rennet.rearming = true) ∧
      (s.rennet.arm.records ≤ s.rennet.records.length → t.rennet.segClosed = true ∧ t.rennet.armed = false)) ∧
    (s.rennet.rearming = true → s.rennet.records.getLast? = some q → s.rennet.seg = some g → ∃ t, exec .rearmComplete s = .next t ∧
      t = { s with rennet := t.rennet } ∧ t.rennet.rearming = false ∧ t.rennet.rearmAt.isSome = true ∧ t.rennet.records = s.rennet.records) ∧
    (Accepts s 0x403 r true → s.rel 9 = true → fld (r.w 0) 15 0 = i → s.rennet.seg = some g → s.rennet.records[i]? = some q →
      q.done = true → fld (r.w 1) 5 0 < s.res.channels →
      (List.range g.chans.length).find? (fun j => decide (g.chans[j]? = some (fld (r.w 1) 5 0))) = some k → 1 ≤ fld (r.w 1) 15 8 →
      fld (r.w 1) 15 8 ≤ 42 → fld (r.w 1) 29 16 + fld (r.w 1) 15 8 ≤ g.len → s.rennet.segClosed = true →
      ∃ (t : State) (st : Status) (ws : List Word), exec (.segmentRead r found) s = .next (ran 0x403 r { status := st, payload := ws } t) ∧
        (st = .ok ∨ st = .poisoned) ∧ ws.length = 16 + 24 * fld (r.w 1) 15 8 ∧ ws.take 16 = recordWords g i q (decide (st = .poisoned)) ∧
        t.rennet = s.rennet) ∧
    (s.atStart entry 6 = some e → s.advanceTo (s.tickCt.plus (e.start * 512)) = u → s.rennet.readouts.Nodup →
      ∃ t, exec (.transientBufferReadout entry found) s = .next t ∧ entry ∈ t.sched.begun ∧
        (∀ x, x ∈ t.rennet.readouts ↔ x ∈ s.rennet.readouts ∧ x ∉ u.readyReadouts u.time.ct) ∧
        (s.time.infForce = false → s.rel 11 = true → e.idx / 4 < s.res.clusters → (s.dmaCh e.idx).busy = false →
          entry ∈ t.sched.running ∧ (t.dmaCh e.idx).busy = true ∧ (t.dmaCh e.idx).next = fld e.w3 8 0))

namespace Sys2Proof.Claims
/-- Engine e issues the instruction with opcode op and word w: it runs, it fetched the word from its store or from the ROM, clean, and its
predicate holds. -/
abbrev Issues (s : State) (e op : Nat) (w : EngWord) : Prop :=
  s.canIssue e = true ∧ w.poisoned = false ∧ ((s.eng e).pc.toNat < 0x800 ∧ s.slotWord e (s.eng e).pc.toNat = w.bits op ∨ 0x1000 ≤ (s.eng e).pc.toNat) ∧
    (s.eng e).pred w.pred = true
/-- The engine with its pc past the word. -/
def past (s : State) (e : Nat) : Engine := { s.eng e with pc := (s.eng e).pc + 1 }
/-- Nothing changes but engine e, which becomes g. -/
def OnlyEngine (s : State) (e : Nat) (r : Res) (g : Engine) : Prop :=
  ∃ t : State, r = .next t ∧ t = { s with engines := { s.engines with eng := t.engines.eng } } ∧ t.eng e = g ∧ ∀ k, k ≠ e → t.eng k = s.eng k
/-- Engine e becomes g, no other engine and no byte of memory changes; events and counters may. -/
def EngineAfter (s : State) (e : Nat) (r : Res) (g : Engine) : Prop :=
  ∃ t : State, r = .next t ∧ t.eng e = g ∧ (∀ k, k ≠ e → t.eng k = s.eng k) ∧ t.window = s.window ∧ t.vatMem = s.vatMem ∧ t.sched = s.sched
/-- Engine, word and opcode of an engine instruction. -/
def engineOp : Instr → Option (Nat × EngWord × Nat)
  | .nop e w => some (e, w, 0x00) | .halt e w => some (e, w, 0x01) | .br e w => some (e, w, 0x02) | .brdec e w => some (e, w, 0x03)
  | .id e w => some (e, w, 0x04) | .time e w => some (e, w, 0x05) | .li e w => some (e, w, 0x10) | .addi e w => some (e, w, 0x11)
  | .add e w => some (e, w, 0x12) | .sub e w => some (e, w, 0x13) | .slli e w => some (e, w, 0x14) | .srai e w => some (e, w, 0x15)
  | .cmp e w => some (e, w, 0x18) | .cmpi e w => some (e, w, 0x19) | .agset e w => some (e, w, 0x20) | .agget e w => some (e, w, 0x21)
  | .setlen e w => some (e, w, 0x22) | .agexp e w => some (e, w, 0x23) | .agidx e w => some (e, w, 0x24) | .ld e w _ => some (e, w, 0x30)
  | .ldp e w _ => some (e, w, 0x31) | .st e w => some (e, w, 0x32) | .stp e w => some (e, w, 0x33) | .vadd e w => some (e, w, 0x40)
  | .vsub e w => some (e, w, 0x41) | .vsra e w => some (e, w, 0x42) | .vand e w => some (e, w, 0x43) | .vor e w => some (e, w, 0x44)
  | .vxor e w => some (e, w, 0x45) | .vmov e w => some (e, w, 0x46) | .vtag e w => some (e, w, 0x47) | .vget e w => some (e, w, 0x48)
  | .vsplat e w => some (e, w, 0x49) | .mac8 e w => some (e, w, 0x50) | .mac4 e w => some (e, w, 0x51) | .mac16 e w => some (e, w, 0x52)
  | .bclr e w => some (e, w, 0x53) | .movs e w => some (e, w, 0x58) | .emit e w => some (e, w, 0x60) | .trig e w _ => some (e, w, 0x61)
  | _ => none
end Sys2Proof.Claims

-- the engines ----------------------------------------------------------------------------------------------------------------------------------------

/-- Issue, for every engine instruction: a fetch between the store and the ROM faults with 0x03 and a poisoned word with 0x05; with a false
predicate the pc moves on and nothing else changes, or a bad field faults with 0x01; an engine that does not run issues nothing. -/
def Obligations.EveryInstructionIssuesByTheRules : Prop :=
  ∀ (i : Instr) (e op : Nat) (w : EngWord) (s : State), engineOp i = some (e, w, op) →
    (s.canIssue e = false → exec i s = .next s) ∧
    (s.canIssue e = true → 0x800 ≤ (s.eng e).pc.toNat → (s.eng e).pc.toNat < 0x1000 → exec i s = .next (s.engFault e 3)) ∧
    (s.canIssue e = true → ((s.eng e).pc.toNat < 0x800 ∨ 0x1000 ≤ (s.eng e).pc.toNat) → w.poisoned = true → exec i s = .next (s.engFault e 5)) ∧
    (s.canIssue e = true → w.poisoned = false →
      ((s.eng e).pc.toNat < 0x800 ∧ s.slotWord e (s.eng e).pc.toNat = w.bits op ∨ 0x1000 ≤ (s.eng e).pc.toNat) →
      (s.eng e).pred w.pred = false → exec i s = .next (s.setEng e (past s e)) ∨ exec i s = .next (s.engFault e 1))

/-- Control and scalars: NOP, BR, BRDEC, ID and TIME change the engine in the field their rule names; LI, ADDI, ADD, SUB, SLLI and
SRAI write vD.s with the sum, difference or shift modulo 2^32 and the poison of their sources; CMP and CMPI write one predicate flag. -/
def Obligations.EngineControlAndScalarInstructions : Prop :=
  ∀ (e : Nat) (w : EngWord) (a b : Word) (pa pb : Bool) (s : State), (s.eng e).sc w.a.toNat = a → (s.eng e).sc w.b.toNat = b →
    ((s.eng e).reg w.a.toNat).poison = pa → ((s.eng e).reg w.b.toNat).poison = pb →
    (Issues s e 0x00 w → w.only 0 0 0 0 0 = true → OnlyEngine s e (exec (.nop e w) s) (past s e)) ∧
    (Issues s e 0x02 w → w.only 0 0 0 0 0x1FFF = true →
      OnlyEngine s e (exec (.br e w) s) { past s e with pc := BitVec.ofNat 13 w.imm.toNat }) ∧
    (Issues s e 0x03 w → w.only 0 31 0 0 0x1FFF = true → ((s.eng e).reg w.a.toNat).poison = false →
      OnlyEngine s e (exec (.brdec e w) s) { (past s e).setSc w.a.toNat ((s.eng e).sc w.a.toNat - 1) false with
        pc := if (s.eng e).sc w.a.toNat = 1 then (s.eng e).pc + 1 else BitVec.ofNat 13 w.imm.toNat }) ∧
    (Issues s e 0x04 w → w.only 31 0 0 0 0 = true →
      OnlyEngine s e (exec (.id e w) s) ((past s e).setSc w.d.toNat (BitVec.ofNat 32 (e % 256)) false)) ∧
    (∀ r, Issues s e 0x05 w → w.only 31 0 0 0 0 = true → (s.cluster (e / 16)).run = some r →
      OnlyEngine s e (exec (.time e w) s) ((past s e).setReg w.d.toNat { val := r.tickCt ++ (r.fn.setWidth 32 : Word) ++ (r.start.setWidth 32 : Word) })) ∧
    (Issues s e 0x10 w → w.only 31 0 0 0 0xFFFFFFFF = true → OnlyEngine s e (exec (.li e w) s) ((past s e).setSc w.d.toNat w.imm false)) ∧
    (Issues s e 0x11 w → w.only 31 31 0 0 0xFFFFFFFF = true → OnlyEngine s e (exec (.addi e w) s) ((past s e).setSc w.d.toNat (a + w.imm) pa)) ∧
    (Issues s e 0x12 w → w.only 31 31 31 0 0 = true → OnlyEngine s e (exec (.add e w) s) ((past s e).setSc w.d.toNat (a + b) (pa || pb))) ∧
    (Issues s e 0x13 w → w.only 31 31 31 0 0 = true → OnlyEngine s e (exec (.sub e w) s) ((past s e).setSc w.d.toNat (a - b) (pa || pb))) ∧
    (Issues s e 0x14 w → w.only 31 31 0 0 0x1F = true →
      OnlyEngine s e (exec (.slli e w) s) ((past s e).setSc w.d.toNat (a <<< w.imm.toNat) pa)) ∧
    (Issues s e 0x15 w → w.only 31 31 0 0 0x1F = true →
      OnlyEngine s e (exec (.srai e w) s) ((past s e).setSc w.d.toNat (a.sshiftRight w.imm.toNat) pa)) ∧
    (Issues s e 0x18 w → w.only 3 31 31 7 0 = true → w.d ≠ 0 → w.fm 2 0 ≤ 5 → pa = false → pb = false →
      OnlyEngine s e (exec (.cmp e w) s) ((past s e).setPf w.d.toNat (cond (w.fm 2 0) a b))) ∧
    (Issues s e 0x19 w → w.only 3 31 0 7 0xFFFFFFFF = true → w.d ≠ 0 → w.fm 2 0 ≤ 5 → pa = false →
      OnlyEngine s e (exec (.cmpi e w) s) ((past s e).setPf w.d.toNat (cond (w.fm 2 0) a w.imm))) ∧
    (∀ g : Engine, ∀ n v p, (g.setSc n v p).sc n = v ∧ ((g.setSc n v p).reg n).val.extractLsb' 32 96 = (g.reg n).val.extractLsb' 32 96 ∧
      ((g.setSc n v p).reg n).poison = ((g.reg n).poison || p) ∧ ∀ k, k ≠ n → (g.setSc n v p).reg k = g.reg k)

/-- Address generators: AGSET loads one, AGGET reads it back, SETLEN sets LEN at once or defers it, AGEXP and AGIDX set their field, an
INDEX beyond LEN being reduced and flagged. -/
def Obligations.EngineAddressGenerators : Prop :=
  ∀ (e : Nat) (w : EngWord) (n i : Nat) (cut : Bool) (a : AddrGen) (s : State),
    (Issues s e 0x20 w → w.only 3 31 0 0 0 = true → ffld ((s.eng e).reg w.a.toNat).val 91 88 ≤ 13 →
      agOf ((s.eng e).reg w.a.toNat).val = (a, cut) → OnlyEngine s e (exec (.agset e w) s)
        ((((past s e).setAg w.d.toNat { a with pendLen := ((s.eng e).ag w.d.toNat).pendLen }).flag 2 cut).flag 3
          ((s.eng e).reg w.a.toNat).poison)) ∧
    (Issues s e 0x21 w → w.only 31 3 0 0 0 = true →
      OnlyEngine s e (exec (.agget e w) s) ((past s e).setReg w.d.toNat { val := agBits ((s.eng e).ag w.a.toNat) })) ∧
    (Issues s e 0x22 w → w.only 3 (if w.f.getLsbD 1 then 31 else 0) 0 3 0x1FFFF = true →
      (if w.f.getLsbD 1 then ((s.eng e).sc w.a.toNat).toNat % 2 ^ 17 else w.imm.toNat) = n → (s.eng e).ag w.d.toNat = a →
      (w.f.getLsbD 0 = false → a.len ≠ 0 → OnlyEngine s e (exec (.setlen e w) s)
        ((past s e).setAg w.d.toNat { a with pending := true, pendLen := BitVec.ofNat 17 n })) ∧
      ((w.f.getLsbD 0 = true ∨ a.len = 0) → cutIndex n a.index.toNat = (i, cut) → OnlyEngine s e (exec (.setlen e w) s)
        (((past s e).setAg w.d.toNat { a with len := BitVec.ofNat 17 n, index := BitVec.ofNat 17 i, pending := false }).flag 2 cut))) ∧
    (Issues s e 0x23 w → w.only 3 0 0 0 0xF = true → OnlyEngine s e (exec (.agexp e w) s)
      ((past s e).setAg w.d.toNat { (s.eng e).ag w.d.toNat with exp := BitVec.ofNat 4 w.imm.toNat })) ∧
    (Issues s e 0x24 w → w.only 3 (if w.f.getLsbD 1 then 31 else 0) 0 2 0x1FFFF = true →
      cutIndex ((s.eng e).ag w.d.toNat).len.toNat (if w.f.getLsbD 1 then ((s.eng e).sc w.a.toNat).toNat % 2 ^ 17 else w.imm.toNat) = (i, cut) →
      OnlyEngine s e (exec (.agidx e w) s)
        (((past s e).setAg w.d.toNat { (s.eng e).ag w.d.toNat with index := BitVec.ofNat 17 i }).flag 2 cut)) ∧
    (∀ v : Flit, ffld v 48 32 ≤ ffld v 16 0 → ffld v 48 32 ≠ 0 → ffld v 91 88 ≤ 13 → (agOf v).2 = true ∧
      ((agOf v).1.index.toNat = ffld v 16 0 % ffld v 48 32))

/-- Loads and stores go through a generator: the word at its address, the tag AGk_EXP and the poison of the word; whatever the check finds,
a load writes its register and moves its generator and no other; a store writes the sixteen bytes and no other, and leaves its tag in EXP; an
address outside the data space faults with 0x02, before the access. -/
def Obligations.EngineLoadsAndStores : Prop :=
  ∀ (e k m m2 : Nat) (w : EngWord) (found : List Finding) (s : State), w.fm 1 0 = k →
    (Issues s e 0x30 w → w.only 31 0 0 3 0 = true → dataAddr e ((s.eng e).ag k).address = some m →
      EngineAfter s e (exec (.ld e w []) s) (((past s e).setReg w.d.toNat
        { val := rdFlit s.window m, tag := ((s.eng e).ag k).exp, poison := s.wordPoisoned false m || s.staleTag false m, ovf := s.ovfAt false m }).stepAg k)) ∧
    (Issues s e 0x31 w → w.only 30 0 0 3 0 = true → dataAddr e ((s.eng e).ag k).address = some m →
      dataAddr e ((s.eng e).ag k).next.1.address = some m2 → ∀ g : Engine, g = ((past s e).setReg w.d.toNat
        { val := rdFlit s.window m, tag := ((s.eng e).ag k).exp, poison := s.wordPoisoned false m || s.staleTag false m, ovf := s.ovfAt false m }).stepAg k →
      EngineAfter s e (exec (.ldp e w []) s) ((g.setReg (w.d.toNat + 1)
        { val := rdFlit s.window m2, tag := (g.ag k).exp, poison := s.wordPoisoned false m2 || s.staleTag false m2, ovf := s.ovfAt false m2 }).stepAg k)) ∧
    (Issues s e 0x32 w → w.only 0 31 0 3 0 = true → dataAddr e ((s.eng e).ag k).address = some m → ∃ t, exec (.st e w) s = .next t ∧
      rdFlit t.window m = ((s.eng e).reg w.a.toNat).val ∧ (∀ x, (x < m ∨ m + 16 ≤ x) → rdByte t.window x = rdByte s.window x) ∧
      ((t.eng e).ag k).exp = ((s.eng e).reg w.a.toNat).tag ∧ ((t.eng e).ag k).index = ((s.eng e).ag k).next.1.index ∧
      (t.eng e).regs = (s.eng e).regs ∧ t.vatMem = s.vatMem ∧ ∀ j, j ≠ e → t.eng j = s.eng j) ∧
    (Issues s e 0x33 w → w.only 0 30 0 3 0 = true → dataAddr e ((s.eng e).ag k).address = some m →
      dataAddr e ((s.eng e).ag k).next.1.address = some m2 → m ≠ m2 → ∃ t, exec (.stp e w) s = .next t ∧
      rdFlit t.window m = ((s.eng e).reg w.a.toNat).val ∧ rdFlit t.window m2 = ((s.eng e).reg (w.a.toNat + 1)).val ∧
      (∀ x, (x < m ∨ m + 16 ≤ x) → (x < m2 ∨ m2 + 16 ≤ x) → rdByte t.window x = rdByte s.window x) ∧
      ((t.eng e).ag k).exp = ((s.eng e).reg w.a.toNat).tag ∧ t.vatMem = s.vatMem) ∧
    (Issues s e 0x30 w → w.only 31 0 0 3 0 = true → dataAddr e ((s.eng e).ag k).address = none →
      exec (.ld e w found) s = .next ((s.setEng e (past s e)).accessFault e k)) ∧
    (Issues s e 0x30 w → w.only 31 0 0 3 0 = true → dataAddr e ((s.eng e).ag k).address = some m → ∃ t, exec (.ld e w found) s = .next t ∧
      (t.eng e).ag k = ((past s e).stepAg k).ag k ∧ (∀ n, n ≠ w.d.toNat → (t.eng e).reg n = (s.eng e).reg n) ∧
      ((t.eng e).reg w.d.toNat).tag = ((s.eng e).ag k).exp ∧ ((t.eng e).reg w.d.toNat).val = rdFlit t.window m ∧
      (∀ j, j ≠ e → t.eng j = s.eng j) ∧ t.sched = s.sched) ∧
    (Issues s e 0x31 w → w.only 30 0 0 3 0 = true → dataAddr e ((s.eng e).ag k).address = some m →
      dataAddr e ((s.eng e).ag k).next.1.address = some m2 → ∃ t, exec (.ldp e w found) s = .next t ∧
      (∀ n, n ≠ w.d.toNat → n ≠ w.d.toNat + 1 → (t.eng e).reg n = (s.eng e).reg n) ∧ (∀ j, j ≠ e → t.eng j = s.eng j) ∧
      t.sched = s.sched)

/-- Vector instructions: VADD and VSUB align to the larger tag and saturate each component, VSRA shifts, VAND, VOR and VXOR take all 128
bits, VMOV, VTAG, VGET and VSPLAT move. -/
def Obligations.EngineVectorInstructions : Prop :=
  ∀ (e n : Nat) (w : EngWord) (a b : VReg) (xs ys : List Int) (s : State), (s.eng e).reg w.a.toNat = a → (s.eng e).reg w.b.toNat = b →
    fmtWidth (w.fm 2 0) = n → (comps n a.val).map (fun v => shiftBy v (max a.tag.toNat b.tag.toNat - a.tag.toNat : Nat)) = xs →
    (comps n b.val).map (fun v => shiftBy v (max a.tag.toNat b.tag.toNat - b.tag.toNat : Nat)) = ys →
    (Issues s e 0x40 w → w.only 31 31 31 7 0 = true → w.fm 2 0 ≤ 5 → EngineAfter s e (exec (.vadd e w) s) (((past s e).setReg w.d.toNat
      { val := packComps n ((List.zipWith (· + ·) xs ys).map (sat n)), tag := BitVec.ofNat 4 (max a.tag.toNat b.tag.toNat),
        poison := a.poison || b.poison }).flag 0 ((List.zipWith (· + ·) xs ys).any fun r => decide (sat n r ≠ r)))) ∧
    (Issues s e 0x41 w → w.only 31 31 31 7 0 = true → w.fm 2 0 ≤ 5 → EngineAfter s e (exec (.vsub e w) s) (((past s e).setReg w.d.toNat
      { val := packComps n ((List.zipWith (· - ·) xs ys).map (sat n)), tag := BitVec.ofNat 4 (max a.tag.toNat b.tag.toNat),
        poison := a.poison || b.poison }).flag 0 ((List.zipWith (· - ·) xs ys).any fun r => decide (sat n r ≠ r)))) ∧
    (Issues s e 0x42 w → w.only 31 31 0 7 0x1F = true → w.fm 2 0 ≤ 5 → OnlyEngine s e (exec (.vsra e w) s) ((past s e).setReg w.d.toNat
      { a with val := packComps n ((comps n a.val).map fun v => v / 2 ^ w.imm.toNat) })) ∧
    (Issues s e 0x43 w → w.only 31 31 31 0 0 = true → OnlyEngine s e (exec (.vand e w) s)
      ((past s e).setReg w.d.toNat { val := a.val &&& b.val, tag := a.tag, poison := a.poison || b.poison })) ∧
    (Issues s e 0x44 w → w.only 31 31 31 0 0 = true → OnlyEngine s e (exec (.vor e w) s)
      ((past s e).setReg w.d.toNat { val := a.val ||| b.val, tag := a.tag, poison := a.poison || b.poison })) ∧
    (Issues s e 0x45 w → w.only 31 31 31 0 0 = true → OnlyEngine s e (exec (.vxor e w) s)
      ((past s e).setReg w.d.toNat { val := a.val ^^^ b.val, tag := a.tag, poison := a.poison || b.poison })) ∧
    (Issues s e 0x46 w → w.only 31 31 0 0 0 = true → OnlyEngine s e (exec (.vmov e w) s) ((past s e).setReg w.d.toNat a)) ∧
    (Issues s e 0x47 w → w.only 31 31 0 0 0xF = true →
      OnlyEngine s e (exec (.vtag e w) s) ((past s e).setReg w.d.toNat { a with tag := BitVec.ofNat 4 w.imm.toNat })) ∧
    (Issues s e 0x48 w → w.only 31 31 0 7 0xF = true → w.fm 2 0 ≤ 5 → w.imm.toNat < 128 / fmtElem (w.fm 2 0) → OnlyEngine s e
      (exec (.vget e w) s) ((past s e).setSc w.d.toNat (w32 ((comps (fmtElem (w.fm 2 0)) a.val).getD w.imm.toNat 0)) a.poison)) ∧
    (Issues s e 0x49 w → w.only 31 31 0 7 0 = true → w.fm 2 0 ≤ 5 → OnlyEngine s e (exec (.vsplat e w) s) ((past s e).setReg w.d.toNat
      { a with val := packComps (fmtElem (w.fm 2 0)) (List.replicate (128 / fmtElem (w.fm 2 0)) ((a.val.setWidth 32 : Word).toNat : Int)) }))

/-- Multiply-accumulate: the product set of each form goes into bank d, or into four banks for the outer form of MAC4, by the one rule of
R243; BCLR clears the banks of its mask. A cleared bank takes the products as they are. -/
def Obligations.EngineMultiplyAccumulate : Prop :=
  ∀ (e p : Nat) (w : EngWord) (g : Engine) (s : State), s.eng e = g → g.prodExp w = p →
    (Issues s e 0x50 w → w.fm 1 0 = 0 → w.only 7 31 31 7 0 = true → evenA w = true → evenB w = true →
      EngineAfter s e (exec (.mac8 e w) s) ((past s e).setBank w.d.toNat ((g.bank w.d.toNat).mac p false
        (g.pairPoison w.a.toNat || g.pairPoison w.b.toNat) (g.pairProds w (celems 8) (w.f.getLsbD 2))).1)) ∧
    (Issues s e 0x50 w → w.fm 1 0 = 2 → w.only 7 31 31 7 7 = true → evenA w = true →
      EngineAfter s e (exec (.mac8 e w) s) ((past s e).setBank w.d.toNat ((g.bank w.d.toNat).mac p false
        (g.pairPoison w.a.toNat || (g.reg w.b.toNat).poison) (g.pairProds w (celems 8) (w.f.getLsbD 2))).1)) ∧
    (Issues s e 0x50 w → w.fm 1 0 = 1 → w.only 7 31 31 7 0x11 = true →
      EngineAfter s e (exec (.mac8 e w) s) ((past s e).setBank w.d.toNat ((g.bank w.d.toNat).mac p false
        ((g.reg w.a.toNat).poison || (g.reg w.b.toNat).poison) ((List.range 16).map fun l => cmul (w.f.getLsbD 2)
          ((celems 8 (g.reg w.a.toNat).val).getD (4 * w.im 4 4 + l / 4) (0, 0))
          ((celems 8 (g.reg w.b.toNat).val).getD (4 * w.im 2 0 + l % 4) (0, 0)))).1)) ∧
    (Issues s e 0x51 w → w.fm 1 0 = 0 → w.only 7 31 31 7 0 = true →
      EngineAfter s e (exec (.mac4 e w) s) ((past s e).setBank w.d.toNat ((g.bank w.d.toNat).mac p false
        ((g.reg w.a.toNat).poison || (g.reg w.b.toNat).poison)
        (List.zipWith (cmul (w.f.getLsbD 2)) (celems 4 (g.reg w.a.toNat).val) (celems 4 (g.reg w.b.toNat).val))).1)) ∧
    (Issues s e 0x51 w → w.fm 1 0 = 1 → w.only 0 31 31 7 0x13 = true → ∃ t, exec (.mac4 e w) s = .next t ∧ (t.eng e).regs = g.regs ∧
      (∀ j, j < 4 → (t.eng e).bank (4 * w.im 4 4 + j) = ((g.bank (4 * w.im 4 4 + j)).mac p false
        ((g.reg w.a.toNat).poison || (g.reg w.b.toNat).poison) ((celems 4 (g.reg w.a.toNat).val).map fun v =>
          cmul (w.f.getLsbD 2) v ((celems 4 (g.reg w.b.toNat).val).getD (4 * w.im 1 0 + j) (0, 0)))).1) ∧
      ∀ n, (n < 4 * w.im 4 4 ∨ 4 * w.im 4 4 + 4 ≤ n) → (t.eng e).bank n = g.bank n) ∧
    (Issues s e 0x52 w → (w.fm 1 0 = 0 ∧ w.only 7 31 31 3 0 = true ∧ evenB w = true ∨ w.fm 1 0 = 2 ∧ w.only 7 31 31 3 7 = true) → evenA w = true →
      EngineAfter s e (exec (.mac16 e w) s) ((past s e).setBank w.d.toNat ((g.bank w.d.toNat).mac p true
        (g.pairPoison w.a.toNat || (if w.fm 1 0 = 0 then g.pairPoison w.b.toNat else (g.reg w.b.toNat).poison))
        (g.pairProds w relems false)).1)) ∧
    (Issues s e 0x53 w → w.only 0 0 0 0 0xFF = true → ∃ t, exec (.bclr e w) s = .next t ∧
      (∀ n, (t.eng e).bank n = if n < 8 ∧ w.imm.getLsbD n = true then {} else g.bank n) ∧ (t.eng e).regs = g.regs) ∧
    (∀ (b : Bank) (prods : List (Int × Int)) (l : Nat) (x y : Int), b.cleared = true → b.lanes = [] → prods[l]? = some (x, y) →
      sat 32 x = x → sat 32 y = y → laneParts false (SMap.get 0 (b.mac p false false prods).1.lanes l) = (x, y) ∧
        (b.mac p false false prods).1.cleared = false)

/-- HALT halts its engine past its own word; MOVS writes the scaled block into consecutive registers with one tag; EMIT holds its engine until the admission point has judged the
curd, which takes or refuses it by the budget; TRIG puts a candidate into its cluster's FIFO or loses it to a full one, and the FIFOs hand
their candidates to the arbiter in turn. -/
def Obligations.EngineMovesResultsAndTriggers : Prop :=
  ∀ (e c words : Nat) (w : EngWord) (g : Engine) (r : Scaled) (src : List (List Int × Nat)) (bad ovf : Bool) (s : State), s.eng e = g →
    (Issues s e 0x01 w → w.only 0 0 0 0 0 = true → OnlyEngine s e (exec (.halt e w) s) { past s e with state := 0 }) ∧
    (Issues s e 0x58 w → w.only 31 31 0 0x1F 0x3F0000FF = true →
      (if w.f.getLsbD 3 then (convOf (w.fm 2 0)).regs else (convOf (w.fm 2 0)).banks) = true →
      w.a.toNat + (w.im 29 24 + 1) ≤ (if w.f.getLsbD 3 then 32 else 8) →
      (if w.f.getLsbD 3 then w.im 29 24 + 1 else 8 * (w.im 29 24 + 1)) = words → words % (convOf (w.fm 2 0)).per = 0 →
      w.d.toNat + words / (convOf (w.fm 2 0)).per ≤ 32 → g.block w (convOf (w.fm 2 0)).src (w.im 29 24 + 1) = (src, bad, ovf) →
      scaleBlock (convOf (w.fm 2 0)).dst ((src.map (·.2)).foldl max 0) (if w.f.getLsbD 4 then some (sx 8 (w.im 7 0)) else none)
        (src.flatMap fun q => q.1.map fun v => shiftBy v (((src.map (·.2)).foldl max 0 - q.2 : Nat) : Int)) s.free = r →
      ∃ t, exec (.movs e w) s = .next t ∧ (∀ i, i < (packAll (convOf (w.fm 2 0)).dst r.out).length → (t.eng e).reg (w.d.toNat + i) =
          { val := (packAll (convOf (w.fm 2 0)).dst r.out).getD i 0, tag := BitVec.ofNat 4 r.exp, poison := bad, ovf }) ∧
        (∀ n, (n < w.d.toNat ∨ w.d.toNat + (packAll (convOf (w.fm 2 0)).dst r.out).length ≤ n) → (t.eng e).reg n = g.reg n) ∧
        (t.eng e).banks = g.banks ∧ (t.eng e).flags.getLsbD 1 = (g.flags.getLsbD 1 || r.sat) ∧ t.window = s.window) ∧
    (Issues s e 0x60 w → w.only 31 31 0 0 0xFFFF = true → w.im 7 0 ≠ 0 → 0x20000 ≤ (g.sc w.a.toNat).toNat →
      (g.sc w.a.toNat).toNat + w.im 7 0 ≤ 0x40000 → ∃ t, exec (.emit e w) s = .next t ∧ t.eng e = { past s e with held := true } ∧
        t.window = s.window ∧ ∃ q : EmitReq, (t.cluster (e / 16)).emits = (s.cluster (e / 16)).emits ++ [q] ∧ q.engine = e ∧ q.dest = w.d ∧
        q.addr = (g.sc w.a.toNat).toNat ∧ q.type = BitVec.ofNat 8 (w.im 15 8) ∧ q.len = w.im 7 0 ∧
        q.poison = (g.reg w.a.toNat).poison) ∧
    (∀ (x : Run) (q : EmitReq) (qs : List EmitReq) (p : Nat), (s.cluster c).run = some x → (s.cluster c).emits = q :: qs →
      (s.admitsResult c (decide (0x100 ≤ x.handle.toNat)) q.type.toNat q.len = true → s.pathOf q.type.toNat = some p →
        ∃ t, exec (.resultAdmission c) s = .next t ∧ (t.cluster c).emits = qs ∧ (t.cluster c).resUsed = (s.cluster c).resUsed + q.len + 2 ∧
          (t.eng q.engine).sc q.dest.toNat = 1 ∧ (t.eng q.engine).held = false ∧ ∃ h : Held, t.sched.held = s.sched.held ++ [h] ∧
          h.path = p ∧ h.curd.payload = rdFlits s.window (0x40000000 + c * 0x200000 + (q.addr - 0x20000) * 16) q.len ∧
          h.curd.rind.type = q.type ∧ h.ready = false) ∧
      (s.admitsResult c (decide (0x100 ≤ x.handle.toNat)) q.type.toNat q.len = false →
        ∃ t, exec (.resultAdmission c) s = .next t ∧ (t.cluster c).emits = qs ∧ (t.cluster c).resUsed = (s.cluster c).resUsed ∧
          (t.eng q.engine).sc q.dest.toNat = 0 ∧ (t.eng q.engine).held = false ∧ t.sched.held = s.sched.held)) ∧
    (∀ (T : CT) (apart : Bool) (u : State), Issues s e 0x61 w → w.only 0 31 0 0 0 = true → (g.reg w.a.toNat).poison = false →
      BitVec.ofNat 64 ((g.reg w.a.toNat).val.toNat / 2 ^ 64) = T →
      ((s.setEng e (past s e)).queueTrig e T apart = (u, false) → exec (.trig e w apart) s = .next u ∧ ∃ l, u.trigsOf (e / 16) = l ++ [T]) ∧
      ((s.setEng e (past s e)).queueTrig e T apart = (u, true) → ∃ t, exec (.trig e w apart) s = .next t ∧ t.eng e = u.eng e ∧
        t.trigsOf (e / 16) = u.trigsOf (e / 16) ∧ 8 ≤ (u.trigsOf (e / 16)).length ∧ t.rennet = u.rennet ∧
        (t.reg .eaEvents).getLsbD 5 = true) ∧
      ((∀ k, s.trigsOf k = []) → ∃ t, exec (.trig e w apart) s = .next t ∧ t.eng e = past s e ∧ t.rennet = s.rennet ∧
        t.trigsOf (e / 16) = [T] ∧ ∀ k, k ≠ e / 16 → t.trigsOf k = [])) ∧
    (∀ (T at_ : CT) (ts : List CT), c < 16 → s.trigsOf c = T :: ts → (∀ k, k ≠ c → s.trigsOf k = []) → s.rel 5 = true →
      s.b .trSrcEn 7 = true → ctDiff at_ (T.plus s.decide_) < 0 → (s.drainTrig at_).trigsOf c = ts ∧
        (s.drainTrig at_).rennet.cands = insertCand { t := T, sources := 0x80, origin := s.ports.nodeId } s.rennet.cands)

namespace Sys2Proof.Claims
/-- No check of a block finds other data than was written there (R328). -/
abbrev KeepsCells (found : List Finding) : Prop := ∀ f, f ∈ found → f.kind ≠ .miscorrected
end Sys2Proof.Claims

-- memory ----------------------------------------------------------------------------------------------------------------------------------------------

/-- MEM_READ returns every word as stored, with OK or with POISONED and the first 128-bit word that is poisoned or holds another tag; MEM_WRITE and
READ_MODIFY_WRITE change exactly the bytes they write, a partial write leaving a poisoned block poisoned; a waiting write-back is made.
Row moves, the scrubber, training and the temperature of a stack change no byte. A miscorrected block (R328) holds other data. -/
def Obligations.MemoryIsReadWrittenSparedAndScrubbed : Prop :=
  ∀ (r : Req) (vat : Bool) (a n i : Nat) (v : Byte) (val : BitVec 16) (found : List Finding) (s : State),
    (Accepts s 0x200 r true → memAddr r = some (vat, a) → (r.w 2).toNat = n → s.memStop vat a n = none → ∃ (ans : Answer) (u : State),
      exec (.memRead r found) s = .next (ran 0x200 r ans u) ∧ ans.payload = rdWords (u.mem vat) a n ∧
      (KeepsCells found → u.window = s.window ∧ u.vatMem = s.vatMem) ∧ (found = [] → (∀ k, k < n / 4 →
        s.wordPoisoned vat (a + 16 * k) = false ∧ s.staleTag vat (a + 16 * k) = false) → ans.status = .ok) ∧
      (found = [] → i < n / 4 → (s.wordPoisoned vat (a + 16 * i) = true ∨ s.staleTag vat (a + 16 * i) = true) →
        (∀ k, k < i → s.wordPoisoned vat (a + 16 * k) = false ∧ s.staleTag vat (a + 16 * k) = false) →
        ans.status = .poisoned ∧ ans.param = i)) ∧
    (∀ bytes : List Byte, Accepts s 0x201 r true → memAddr r = some (vat, a) → s.memStop vat a (r.len - 2) = none →
      bytes = (r.payload.drop 2).flatMap (fun w => leBytes 4 w.toNat) → ∃ u : State,
      exec (.memWrite r found) s = .next (ran 0x201 r { status := .ok } u) ∧ u.mem (!vat) = s.mem (!vat) ∧
      (∀ x, a ≤ x → x < a + bytes.length → rdByte (u.mem vat) x = bytes.getD (x - a) 0) ∧
      (KeepsCells found → ∀ x, (x < a ∨ a + bytes.length ≤ x) → rdByte (u.mem vat) x = rdByte (s.mem vat) x)) ∧
    (s.classAt vat (a / 64 * 64) = 0 → s.regionAt vat (a / 64 * 64) = some n → (s.region n).state = 2 →
      ∃ t, exec (.readModifyWrite vat a [(i, v)] found) s = .next t ∧ t.mem (!vat) = s.mem (!vat) ∧
        rdByte (t.mem vat) (a / 64 * 64 + i % 64) = v ∧
        (KeepsCells found → ∀ x, x ≠ a / 64 * 64 + i % 64 → rdByte (t.mem vat) x = rdByte (s.mem vat) x) ∧
        (s.isPoisoned vat (a / 64 * 64) = true → t.isPoisoned vat (a / 64 * 64) = true)) ∧
    ((vat, a) ∈ s.vat.writeBacks → ∃ t, exec (.writeBack vat a) s = .next t ∧ (vat, a) ∉ t.vat.writeBacks ∧ t.window = s.window ∧
      t.vatMem = s.vatMem ∧ (s.track vat a = none → t.track vat a = none) ∧
      ∀ q, s.track vat a = some q → t.track vat a = some { q with written := true }) ∧
    (Accepts s 0x212 r true → (r.w 1).toNat * 2 ^ 32 + (r.w 0).toNat = a → a < 2 ^ 37 → a / stackBytes < s.res.vatStacks → s.rel 6 = true →
      s.stackUp (a / stackBytes) = true → freeSpare s.vat (bankKey a) = some n → SMap.find s.vat.moves (a / stackBytes) = none →
      ∃ t, exec (.spareRow r) s = .next t ∧ t.window = s.window ∧ t.vatMem = s.vatMem ∧
        SMap.find t.vat.moves (a / stackBytes) = some { addr := rowBase a, spare := n, region := none, req := some r }) ∧
    (∀ m, SMap.find s.vat.moves i = some m → (∀ w, w ∈ s.vat.waiting → w.addr / stackBytes ≠ i) → ∃ t, exec (.rowMoveDone i []) s = .next t ∧
      SMap.find t.vat.moves i = none ∧ t.window = s.window ∧ t.vatMem = s.vatMem ∧ (t.reg .igEvents).getLsbD 4 = true ∧
      ∃ k, SMap.find t.vat.soft k = some ⟨i, m.addr / 64 % 16, m.addr / 2 ^ 15 % 16, m.addr / 2 ^ 19 % 65536, m.spare⟩) ∧
    (∀ (e : Entry) (ps : List (Nat × Nat)) (cur wraps : Nat), s.atStart i 4 = some e → s.time.infForce = false →
      s.time.fn.toNat % (fld e.w3 31 16 + 1) = 0 →
      scrubWalk (s.scrubRanges e.idx) (2 * fld e.w3 15 0 + 4) (SMap.get 0 s.vat.cursors e.idx)
        (fld e.w3 15 0) = (ps, cur, wraps) → ∃ t, exec (.scrubStep i found) s = .next t ∧ SMap.get 0 t.vat.cursors e.idx = cur ∧
        (KeepsCells found → t.window = s.window ∧ t.vatMem = s.vatMem)) ∧
    (s.rel 6 = true → i < s.res.vatStacks → i < 4 →
      (s.vat.trained.getLsbD i = false → s.vat.failed.getLsbD i = false →
        (∃ t, exec (.stackTrainingDone i true) s = .next t ∧ t = { s with vat := { s.vat with trained := t.vat.trained } } ∧
          t.vat.trained.getLsbD i = true) ∧
        ∃ t, exec (.stackTrainingDone i false) s = .next t ∧ t.vat.failed.getLsbD i = true ∧ t.vat.trained = s.vat.trained ∧
          (t.reg .vtEvents).getLsbD 0 = true) ∧
      (s.vat.failed.getLsbD i = false → ∃ t, exec (.stackTempRead i val) s = .next t ∧ SMap.get 0 t.vat.temps i = val ∧
        t.vat.hot.getLsbD i = (decide (1360 < val.toInt) || (s.vat.hot.getLsbD i && decide (1280 ≤ val.toInt))) ∧
        ∀ k, k ≠ i → t.vat.hot.getLsbD k = s.vat.hot.getLsbD k))

-- engine work ----------------------------------------------------------------------------------------------------------------------------------------

/-- KERNEL_LOAD writes its words into the stores of its clusters and defines a handle, KERNEL_INFO answers every handle and N_safe, a kernel
run starts its engines at the handle's entry and completes when they have halted; a transfer starts its channel, each descriptor moves
its rows and writes no other byte, and the chain ends with its last descriptor. -/
def Obligations.KernelsRunAndTransfersMoveRows : Prop :=
  ∀ (r : Req) (i c h : Nat) (e : Entry) (s : State), s.rel 11 = true →
    (r.p 15 0 ≠ 0 → r.p 15 0 < 2 ^ s.res.clusters → fld (r.w 0) 27 16 ≤ 512 → fld (r.w 0) 10 0 + fld (r.w 0) 27 16 ≤ 2048 →
      fld (r.w 1) 10 0 + fld (r.w 1) 27 16 ≤ 2048 → s.slotsInUse (r.p 15 0) (fld (r.w 0) 10 0) (fld (r.w 0) 27 16) = false →
      Accepts s 0x310 r (decide (r.len = 2 + 2 * fld (r.w 0) 27 16)) →
      ((r.w 1).getLsbD 31 = true → fld (r.w 1) 27 16 ≠ 0 ∧ s.engines.kernels.length < 256 ∧ s.newHandle = h) →
      ∃ (ans : Answer) (u : State), exec (.kernelLoad r) s = .next (ran 0x310 r ans u) ∧ ans.status = .ok ∧
        (∀ k, k ∈ maskList (r.p 15 0) → (u.cluster k).store = storeWords (s.cluster k).store (fld (r.w 0) 10 0) (r.payload.drop 2)) ∧
        (∀ k, k ∉ maskList (r.p 15 0) → u.cluster k = s.cluster k) ∧
        ((r.w 1).getLsbD 31 = false → u.engines.kernels = s.engines.kernels) ∧
        ((r.w 1).getLsbD 31 = true → ans.param = h ∧ SMap.find u.engines.kernels h = some
          { mask := BitVec.ofNat 16 (r.p 15 0), entry := BitVec.ofNat 11 (fld (r.w 1) 10 0), size := BitVec.ofNat 12 (fld (r.w 1) 27 16) })) ∧
    (Accepts s 0x311 r true → ∃ ws : List Word, exec (.kernelInfo r) s = .next (ran 0x311 r { status := .ok, payload := ws }
        (s.startCmd 0x311 r)) ∧ ws.drop (2 * s.engines.kernels.length) = [0xFFFF, 0xFFFFFF, 0xFFFFFFFF] ∧
      ∀ j k, s.engines.kernels[j]? = some k → ws.getD (2 * j) 0 = at32 16 k.1 ||| k.2.mask.setWidth 32 ∧
        ws.getD (2 * j + 1) 0 = at32 16 k.2.entry.toNat ||| k.2.size.setWidth 32) ∧
    (∀ k : Kernel, s.atStart i 1 = some e → s.time.infForce = false → e.idx = c → c < s.res.clusters → s.b (.eaCCtrl c) 31 = false →
      (s.cluster c).run = none → fld e.w3 15 0 = h → 0x100 ≤ h → SMap.find s.engines.kernels h = some k →
      ∃ (t : State) (q : Run), exec (.kernelRun i) s = .next t ∧ (t.cluster c).run = some q ∧ q.entry = i ∧ q.handle = BitVec.ofNat 16 h ∧
        q.fn = s.time.fn ∧ i ∈ t.sched.running ∧ t.window = s.window ∧ t.vatMem = s.vatMem ∧
        (∀ n, n ∈ enginesOf c (BitVec.ofNat 16 (fld e.w3 31 16)) →
          t.eng n = { s.eng n with state := 1, fault := 0, held := false, pc := k.entry.setWidth 13 }) ∧
        ∀ n, n ∉ enginesOf c (BitVec.ofNat 16 (fld e.w3 31 16)) → t.eng n = s.eng n) ∧
    (∀ q : Run, (s.cluster c).run = some q → (0x100 ≤ q.handle.toNat → ∀ n, n ∈ enginesOf c q.mask → (s.eng n).state = 0) →
      ∃ t, exec (.kernelRunComplete c) s = .next t ∧ (t.cluster c).run = none ∧ q.entry ∉ t.sched.running ∧
        (∀ n, n ∈ enginesOf c q.mask → (t.eng n).state = 0) ∧ (∀ n, n ∉ enginesOf c q.mask → t.eng n = s.eng n) ∧
        t.window = s.window ∧ t.vatMem = s.vatMem) ∧
    (s.atStart i 0 = some e → s.time.infForce = false → e.idx / 4 < s.res.clusters → (s.dmaCh e.idx).busy = false →
      ∃ t, exec (.transfer i) s = .next t ∧ t.dmaCh e.idx = { busy := true, next := fld e.w3 8 0, entry := i } ∧ i ∈ t.sched.running ∧
        (∀ k, k ≠ e.idx → t.dmaCh k = s.dmaCh k) ∧ t.window = s.window ∧ t.vatMem = s.vatMem) ∧
    (∀ (q : Dma) (d : Desc) (found : List Finding), s.dmaCh c = q → q.busy = true → q.ended = false → q.count < 512 →
      descOf (rdWords s.window (descAddr (c / 4) q.next) 8) = d → (d.fence = false ∨ q.open_ = []) → s.descOk d = true →
      ∃ t, exec (.dmaDescriptor c found) s = .next t ∧
        t.dmaCh c = { q with ended := d.last, next := d.next, count := q.count + 1, dests := q.dests ++ [d.dst],
                             open_ := q.open_ ++ [{ idx := q.next, evt := d.evt, src := d.src, dst := d.dst }] } ∧
        (KeepsCells found → ∀ (v : Bool) (x : Nat), (v = d.dst.vat → ∀ k, k < d.dst.rows → x < (d.dst.at k).toNat ∨ (d.dst.at k).toNat + 16 * d.dst.words ≤ x) →
          (v = false → d.expOut = true → x < 0x40000000 + c / 4 * 0x200000 + d.expOfs ∨
            0x40000000 + c / 4 * 0x200000 + d.expOfs + d.src.rows ≤ x) → rdByte (t.mem v) x = rdByte (s.mem v) x) ∧
        (KeepsCells found → d.conv = 0 → d.expOut = false → d.src.rows = 1 → q.open_ = [] → d.src.meets d.dst = false →
          ∀ x, x < 16 * d.src.words → rdByte (t.mem d.dst.vat) (d.dst.base + x) = rdByte (s.mem d.src.vat) (d.src.base + x))) ∧
    (∀ o os, (s.dmaCh c).open_ = o :: os → ∃ t, exec (.dmaDescriptorDone c) s = .next t ∧ t.window = s.window ∧ t.vatMem = s.vatMem ∧
      (o.evt = true → (t.reg .eaEvents).getLsbD 7 = true) ∧
      ((s.dmaCh c).ended = false ∨ os ≠ [] → t.dmaCh c = { s.dmaCh c with open_ := os } ∧ t.sched = s.sched) ∧
      ((s.dmaCh c).ended = true → os = [] → t.dmaCh c = {} ∧ (s.dmaCh c).entry ∉ t.sched.running))

-- merging and press ------------------------------------------------------------------------------------------------------------------------------------

/-- MERGE_ENABLE leaves EN pending where the slots hold every merged path, the ring its slots, and the region is ready (R314); a close orders the held curds of its frame for emission, and the slot whose
time is over is emptied. A press job writes the block or its expansion, opens a block or leaves everything for want of gain; a flush closes
the open block; a press entry compresses a waiting curd in place. -/
def Obligations.MergingClosesAndPressCompresses : Prop :=
  ∀ (r : Req) (i port p : Nat) (value : Word) (s : State),
    (canWrite s port 5 = true → s.boot.state = 1 → value.getLsbD 31 = true → s.role = 2 → s.mergeOn = false → 2 ≤ fld value 13 8 →
      (∀ q, q < 64 → s.mergeBitW .scMergePathsLo .scMergePathsHi q = true → 3 ≤ s.closeOffsetW q ∧
        s.closeOffsetW q + 2 ≤ (fld value 13 8 : Int) ∧ s.b (.scPathCfg q) 31 = true ∧
        (s.mergeBitW .scMergeSinkLo .scMergeSinkHi q = true → s.fw (.scPathCfg q) 12 0 = 0)) →
      (s.region (fld value 5 0)).state = 2 → (s.region (fld value 5 0)).sram = false →
      fld value 13 8 * (s.fw .scMergeSlot 19 0 * 1024) ≤ (s.region (fld value 5 0)).size → (s.regW .scMergeInmaskLo).getLsbD 0 = false →
      count (fun k => ((s.regW .scMergeInmaskLo).toNat + (s.regW .scMergeInmaskHi).toNat * 2 ^ 32).testBit k) (List.range 64) ≤ 40 →
      s.protected (s.pendReg .scMergeCfg (value &&& 0x80003F3F)) = true →
      exec (.mergeEnable port value) s = .next (s.pendReg .scMergeCfg (value &&& 0x80003F3F))) ∧
    (p ∈ s.merge.closeDue → ∃ t, exec (.mergeClose p []) s = .next t ∧ p ∉ t.merge.closeDue ∧ t.window = s.window ∧ t.vatMem = s.vatMem ∧
      ∀ m, s.merge.held = [m] → m.path = p → m.closed = false →
        m.curd.rind.fn = s.time.fn.setWidth 32 - BitVec.ofInt 32 (s.closeOffset p) →
        s.anyPoison true m.addr (m.addr + curdBytes m.curd) = false → t.merge.held = [{ m with closed := true }] ∧
        t.sched.held = if s.isSink p then s.sched.held else s.sched.held ++ [{ curd := m.curd, path := p, kind := 2, lane := m.lane }]) ∧
    (s.merge.emptyDue = true → ∃ t, exec .mergeSlotEmpty s = .next t ∧ t = { s with merge := t.merge } ∧ t.merge.emptyDue = false ∧
      SMap.find t.merge.used (s.slotOf (s.time.fn.setWidth 32)) = none ∧
      ∀ x, x ∈ t.merge.held ↔ x ∈ s.merge.held ∧ ¬(s.slotOf x.curd.rind.fn = s.slotOf (s.time.fn.setWidth 32) ∧
        sdiff 32 x.curd.rind.fn.toNat (s.time.fn.setWidth 32 - BitVec.ofNat 32 s.mergeSlots).toNat ≤ 0)) ∧
    (∀ (src dst n max u w : Nat) (sv dv : Bool) (ws : List Flit), Accepts s 0x600 r true → s.rel 5 = true → (r.w 0).getLsbD 16 = sv →
      (r.w 0).getLsbD 17 = dv → jobAddr sv (r.w 1) (r.w 2) = some src → jobAddr dv (r.w 3) (r.w 4) = some dst → fld (r.w 5) 12 0 = n →
      fld (r.w 6) 12 0 = max → 1 ≤ max → max ≤ 4100 → s.jobStop sv src n = none → s.jobStop dv dst max = none → fld (r.w 0) 1 0 = u →
      fld (r.w 0) 9 8 = w → s.unitScheduled u = false → (s.unit u).open_ = false →
      (∀ k, k < n → s.wordPoisoned sv (src + 16 * k) = false ∧ s.staleTag sv (src + 16 * k) = false) → rdFlits (s.mem sv) src n = ws →
      ((r.w 0).getLsbD 4 = false → w ≠ 3 → 1 ≤ n → n ≤ 4096 →
        ((r.w 0).getLsbD 12 = true → ∃ v : State, exec (.pressJob r []) s = .next (ran 0x600 r { status := .ok } v) ∧ v.mem dv = s.mem dv ∧
          v.unit u = { open_ := true, words := ws, width := BitVec.ofNat 2 w, dstVat := dv, dst, dstMax := max }) ∧
        ((r.w 0).getLsbD 12 = false → (pressBlock w ws).length ≤ min max (n - 1) → ∃ v : State,
          exec (.pressJob r []) s = .next (ran 0x600 r { status := .ok, param := (pressBlock w ws).length } v) ∧
          (∀ x, rdByte (v.mem dv) x = if dst ≤ x ∧ x < dst + 16 * (pressBlock w ws).length then
            (flitMem (pressBlock w ws)).getD (x - dst) 0 else rdByte (s.mem dv) x) ∧ v.mem (!dv) = s.mem (!dv)) ∧
        ((r.w 0).getLsbD 12 = false → n - 1 < (pressBlock w ws).length → n - 1 ≤ max → ∃ v : State,
          exec (.pressJob r []) s = .next (ran 0x600 r { status := .noGain } v) ∧ v.window = s.window ∧ v.vatMem = s.vatMem)) ∧
      ((r.w 0).getLsbD 4 = true → (r.w 0).getLsbD 12 = false → 2 ≤ n → n ≤ 4100 → ∀ out, expandBlock ws max = .words out → ∃ v : State,
        exec (.pressJob r []) s = .next (ran 0x600 r { status := .ok, param := out.length } v) ∧
        (∀ x, rdByte (v.mem dv) x = if dst ≤ x ∧ x < dst + 16 * out.length then (flitMem out).getD (x - dst) 0 else rdByte (s.mem dv) x) ∧
        v.mem (!dv) = s.mem (!dv))) ∧
    (∀ (q : PressUnit) (out : List Flit), Accepts s 0x601 r true → s.rel 5 = true → s.unit (r.p 1 0) = q → q.open_ = true → s.jobStop q.dstVat q.dst q.dstMax = none →
      pressBlock q.width.toNat q.words = out → out.length ≤ min q.dstMax (q.words.length - 1) → ∃ v : State,
      exec (.pressFlush r []) s = .next (ran 0x601 r { status := .ok, param := out.length } v) ∧ v.unit (r.p 1 0) = {} ∧
      (∀ x, rdByte (v.mem q.dstVat) x = if q.dst ≤ x ∧ x < q.dst + 16 * out.length then (flitMem out).getD (x - q.dst) 0
        else rdByte (s.mem q.dstVat) x) ∧ v.mem (!q.dstVat) = s.mem (!q.dstVat)) ∧
    (∀ (e : Entry) (h : Held) (out : List Flit) (u : State), s.atStart i 5 = some e → s.time.infForce = false →
      ((s.advanceTo (s.tickCt + BitVec.ofNat 64 (e.start * 512))).setBegun i).closeHits.closeRennet = u → u.sched.held = [h] →
      pressWaits u.time.ct (fld e.w3 5 0) h = true → 1 ≤ fld e.w3 15 8 → h.curd.payload.length ≤ fld e.w3 31 16 →
      pressBlock (fld e.w3 7 6) h.curd.payload = out → ∃ t, exec (.pressEntry i) s = .next t ∧ t.window = u.window ∧
        (h.curd.rind.poisoned = true → t.sched.held = [h]) ∧
        (h.curd.rind.poisoned = false → out.length < h.curd.payload.length → t.sched.held = [{ h with curd :=
          { rind := { h.curd.rind with compressed := true, length := BitVec.ofNat 8 out.length }, payload := out } }]) ∧
        (h.curd.rind.poisoned = false → h.curd.payload.length ≤ out.length → t.sched.held = [{ h with curd :=
          { h.curd with rind := { h.curd.rind with rawNoGain := true } } }]))

-- housekeeping -------------------------------------------------------------------------------------------------------------------------------------------

/-- The sequence is loaded, started, read; an entry begins at its step, connects, settles, converts, once more where it changes the input and
settles too little, and publishes its result with its flags; a fault on a monitored source and the die sensors are recorded. -/
def Obligations.HousekeepingRunsItsSequence : Prop :=
  ∀ (r : Req) (i k : Nat) (v : Int) (values : List (BitVec 16)) (s : State),
    (Accepts s 0x800 r (decide (1 ≤ fld (r.w 0) 13 8 ∧ fld (r.w 0) 13 8 ≤ 32 ∧ r.len = 1 + 2 * fld (r.w 0) 13 8)) →
      fld (r.w 0) 4 0 + fld (r.w 0) 13 8 ≤ 32 → r.w 0 &&& 0xFFFFC0E0 = 0 → s.rel 10 = true → s.house.running = false →
      (∀ j, j < fld (r.w 0) 13 8 → s.hkEntryOk (r.w (1 + 2 * j)) (r.w (2 + 2 * j)) = true) → ∃ u : State,
      exec (.hkSeqLoad r) s = .next (ran 0x800 r { status := .ok } u) ∧
      (∀ j, j < fld (r.w 0) 13 8 → u.hkW0 (fld (r.w 0) 4 0 + j) = r.w (1 + 2 * j) ∧ u.hkW1 (fld (r.w 0) 4 0 + j) = r.w (2 + 2 * j)) ∧
      ∀ j, (j < fld (r.w 0) 4 0 ∨ fld (r.w 0) 4 0 + fld (r.w 0) 13 8 ≤ j) → u.hkW0 j = s.hkW0 j ∧ u.hkW1 j = s.hkW1 j) ∧
    (Accepts s 0x801 r true → s.rel 10 = true →
      (r.p 0 0 = 1 → s.house.running = false → hasHkStep s.sched.active = true →
        (s.sched.commit && s.sched.swapDue && !hasHkStep s.sched.shadow) = false → ∃ u : State,
        exec (.hkSeqStart r) s = .next (ran 0x801 r { status := .ok } u) ∧ u.house.running = true ∧ u.house.phase = .idle ∧ u.house.next = 0) ∧
      (r.p 0 0 = 0 → ∃ u : State, exec (.hkSeqStart r) s = .next (ran 0x801 r { status := .ok } u) ∧
        (s.house.running = true → s.house.phase = .discarding ∨ s.house.phase = .keeping ∨ s.house.phase = .kept →
          u.house = { s.house with stopping := true }) ∧
        (s.house.running = true → s.house.phase = .idle ∨ s.house.phase = .begun ∨ s.house.phase = .connected →
          u.house = { s.house with running := false, stopping := false, phase := .idle, excOn := 0 }) ∧
        (s.house.running = false → u = s.startCmd 0x801 r))) ∧
    (Accepts s 0x802 r true → s.rel 10 = true → ∃ ws : List Word, exec (.hkRead r) s = .next
        (ran 0x802 r { status := .ok, payload := ws } (s.startCmd 0x802 r)) ∧ ws.length = 3 * s.seqLen + 4 ∧ ws.getD 0 0 = hkStatus s ∧
      (k ≤ s.seqLen → ∀ q, SMap.get {} s.house.results k = q → ws.getD (3 * k + 1) 0 = q.value ∧ ws.getD (3 * k + 2) 0 = q.stat ∧
        ws.getD (3 * k + 3) 0 = q.time)) ∧
    (∀ e : Entry, s.atStart i 3 = some e → s.time.infForce = false → s.rel 10 = true → s.house.running = true → s.house.phase = .idle →
      s.house.next = k → (e.w3 = 0 ∨ e.w3.getLsbD k = true) → ∃ t, exec (.housekeepingStep i) s = .next t ∧ t.house.phase = .begun ∧
        t.house.entry = k ∧ t.house.began = t.time.ltUnits ∧ t.house.excOn = s.excMask k &&& ~~~s.house.excOff ∧ t.house.prev = some (s.hkW0 k &&& 0xFFF70000, s.excMask k)) ∧
    (s.house.phase = .begun → exec .hkConnect s = .next ((s.advanceLt s.hkLinkAt).setHouse fun h =>
      { h with phase := .connected, linked := s.hkLinkAt })) ∧
    (s.house.phase = .connected → ∃ t, exec .hkSettleEnd s = .next t ∧ t = { s.advanceLt s.hkFirstAt with house := t.house } ∧
      t.house.convFrom = t.time.ltUnits ∧ t.house.tint = tintClocks (s.f .hkCfg 1 0) ∧ t.house.phase =
      if s.house.changes = true ∧ fld (s.hkW0 s.house.entry) 15 8 < s.f .hkCfg 15 8 then .discarding else .keeping) ∧
    (s.house.phase = .discarding → ∃ t, exec (.hkConversionEnd v) s = .next t ∧ t.house.phase = .keeping ∧ t.house.discarded = true ∧
      t.house.results = s.house.results) ∧
    (s.house.phase = .keeping → ∃ t, exec (.hkConversionEnd v) s = .next t ∧ t.house.phase = .kept ∧ t.house.endHt = (s.advanceLt s.hkEndAt).ht ∧
      t.house.code = sat 24 (v * ((2 ^ fld (s.hkW0 s.house.entry) 18 16 : Nat) : Int) / 2500000)) ∧
    (s.house.phase = .kept → s.house.entry = k → ∃ t, exec .hkResultPublish s = .next t ∧ t.house.phase = .idle ∧
      (SMap.get {} t.house.results k).value = w32 s.house.code ∧ (SMap.get {} t.house.results k).time = s.house.endHt ∧
      (SMap.get {} t.house.results k).stat.getLsbD 31 = (decide (s.house.faults = 0) && !s.house.filterBad) ∧
      (SMap.get {} t.house.results k).stat.getLsbD 29 = s.house.discarded ∧
      (s.house.stopping = true → t.house.running = false) ∧
      (s.house.stopping = false → k < s.seqLen → t.house.running = s.house.running ∧ t.house.next = k + 1) ∧
      (s.house.stopping = false → s.seqLen ≤ k → s.b .hkCfg 24 = true → t.house.running = s.house.running ∧ t.house.next = 0) ∧
      (s.house.stopping = false → s.seqLen ≤ k → s.b .hkCfg 24 = false → t.house.running = false ∧ (t.reg .hkEvents).getLsbD 0 = true)) ∧
    (i < 10 → k < 3 → s.house.phase = .begun ∨ s.house.phase = .connected ∨ s.house.phase = .discarding ∨ s.house.phase = .keeping →
      s.house.excOn.getLsbD i = true → ¬(k = 1 ∧ i < 8 ∧ fld (SMap.get 0 s.house.excCfg i) 2 0 < 3) →
      ∃ t, exec (.sensorFault i k) s = .next t ∧ (t.reg .hkFault).getLsbD (10 * k + i) = true ∧ (t.reg .hkEvents).getLsbD 1 = true ∧
        t.house.faults.getLsbD k = true ∧ t.house.excOn.getLsbD i = !(SMap.get 0 s.house.excCfg i).getLsbD 16 ∧
        t.house.excOff.getLsbD i = (s.house.excOff.getLsbD i || (SMap.get 0 s.house.excCfg i).getLsbD 16)) ∧
    (s.rel 10 = true → ∃ t, exec (.dieSensorRead values) s = .next t ∧ (∀ j, j < 8 → SMap.get 0 t.house.die j = values.getD j 0) ∧
      t.house.results = s.house.results ∧ (sx 16 (s.f .hkDieLimit 15 0) = 0 → t.house.dieHot = s.house.dieHot))

-- the uplink -----------------------------------------------------------------------------------------------------------------------------------------------

/-- The uplink takes its lanes, comes up with a gratuitous ARP, goes down, answers ARP, hands a command datagram to port 4 and discards what
fails its checks; PTP estimates, silence and requests reach the time core as R397 and R398 say. -/
def Obligations.UplinkAndPtpTakeEffect : Prop :=
  ∀ (port : Nat) (value : Word) (f : EthFrame) (off : Int) (n : Nat) (s : State),
    (canWrite s port 8 = true → value.getLsbD 31 = true → fld value 30 29 ≠ 3 → s.upGroup ≤ fld value 21 16 →
      fld value 21 16 < s.upGroup + 4 → (fld value 30 29 = 2 → fld value 21 16 = s.upGroup) → s.b .euCfg 31 = false →
      s.bw .euCfg 31 = false → s.b .lkRefCfg 0 = false → (∀ k, k ∈ euLanes value → s.laneEn k = false ∧ s.bw (.lkLCfg k) 31 = false) →
      s.placesTicks = false → s.protected ((s.applyEu (value &&& 0xFE3F0FFF)).setNow .euCfg (value &&& 0xFE3F0FFF)) = true →
      ∃ t, exec (.uplinkEnable port value) s = .next t ∧ t.reg .euCfg = value &&& 0xFE3F0FFF ∧
        (∀ k, k ∈ euLanes value → t.lane k = { s.lane k with uplink := true }) ∧ ∀ k, k ∉ euLanes value → t.lane k = s.lane k) ∧
    (s.euRuns = true → s.uplink.up = false → ∃ t, exec .euUp s = .next t ∧ t.uplink = { s.uplink with up := true, fecLock := true } ∧
      Out.gratuitousArp ∈ t.out ∧ (t.port 4).notices = [] ∧ (t.reg .euEvents).getLsbD 0 = true) ∧
    (s.uplink.up = true → ∃ t, exec .euDown s = .next t ∧ t.uplink = { s.uplink with up := false, fecLock := false, flight := none } ∧
      (t.reg .euEvents).getLsbD 1 = true) ∧
    (s.uplink.up = true →
      (f.fcsOk = false → ∃ t, exec (.ethFrameReceive f) s = .next t ∧ t.ports.queue = s.ports.queue ∧ t.uplink = s.uplink ∧
        t.time = s.time) ∧
      (f.fcsOk = true → s.b .euCfg 28 = false → f.vlan = none →
        (∀ ip mac, f.body = .arpRequest (s.reg .euIp) ip mac → f.dst = s.euMac ∨ f.dst = 0xFFFFFFFFFFFF →
          ∃ t, exec (.ethFrameReceive f) s = .next t ∧ t.uplink = s.uplink ∧ ∃ d : EthPeer, d.mac = mac ∧ d.ip = ip ∧
            Out.arpReply d ∈ t.out) ∧
        (∀ ip port ws, f.body = .udp ip (s.reg .euIp) port (BitVec.ofNat 16 (s.f .euPorts 31 16)) true true ws → f.dst = s.euMac →
          4 ≤ ws.length → fld (ws.getD 0 0) 31 8 = 0x4B5512 → s.portUp = true →
          ∃ u : State, exec (.ethFrameReceive f) s = .next (u.takePacket 4 0 (ws.drop 4)) ∧
            SMap.find u.ports.peers (fld ((ws.drop 4).getD 0 0) 15 0) = some { mac := f.src, ip, port } ∧ u.time = s.time ∧
            u.link = s.link))) ∧
    (s.rel 7 = true → s.ptpOn = true → s.uplink.up = true → s.mode = 2 → s.time.state ≠ 0 →
      (512000 < off.natAbs → s.time.ticking = true → ∃ t, exec (.ptpOffsetEstimate off n) s = .next t ∧ t.time.state = 1 ∧
        t.time.aligned = false ∧ t.time.ct = s.time.ct) ∧
      (512000 < off.natAbs → s.time.ticking = false → ∃ t, exec (.ptpOffsetEstimate off n) s = .next t ∧
        t.time.ct = BitVec.ofNat 64 (n * 512) ∧ t.time.epoch = BitVec.ofNat 32 (n / 2 ^ 55) ∧ (t.reg .tcEvents).getLsbD 8 = true) ∧
      (off.natAbs ≤ 51200 → s.time.state = 1 → s.time.ptpGood = 15 → ∃ t, exec (.ptpOffsetEstimate off n) s = .next t ∧
        t.time.state = 2 ∧ t.time.ct = s.time.ct ∧ (t.reg .tcEvents).getLsbD 1 = true) ∧
      (51200 < off.natAbs → off.natAbs ≤ 512000 → s.time.state = 1 → ∃ t, exec (.ptpOffsetEstimate off n) s = .next t ∧
        t.time.state = 1 ∧ t.time.ptpGood = 0 ∧ t.time.ct = s.time.ct)) ∧
    (s.ptpOn = true → s.mode = 2 → s.uplink.lost = false → ∃ t, exec .ptpSyncTimeout s = .next t ∧ t.uplink = { s.uplink with lost := true } ∧
      (t.reg .euEvents).getLsbD 3 = true ∧ t.time.state = (if s.time.state = 2 then 3 else s.time.state) ∧ t.time.ct = s.time.ct) ∧
    (s.ptpOn = true → s.uplink.up = true → s.uplink.selected.isSome = true → ∃ t, exec .ptpDelayReq s = .next t ∧
      t.uplink = { s.uplink with delaySeq := s.uplink.delaySeq + 1, delayT3 := some s.time.ct } ∧ Out.delayReq s.uplink.delaySeq ∈ t.out)

-- lanes --------------------------------------------------------------------------------------------------------------------------------------------------------

/-- Lanes come up step by step and fall back to step 1; deep idle is entered and left; node IDs, epochs and rosters are set and read; an unknown KIND is
counted, and a stopped clock drops what waits for it. -/
def Obligations.LanesTrainSleepAndTakeTheirSettings : Prop :=
  ∀ (r : Req) (n port : Nat) (s : State), s.rel 8 = true →
    (Accepts s 0x004 r true → r.p 15 0 ≠ 0 → r.p 15 0 ≠ 0xFFFF → ¬(r.len = 1 ∧ s.ports.nodeId ≠ 0) → ∀ t : State,
      t = { s.startCmd 0x004 r with ports := { (s.startCmd 0x004 r).ports with nodeId := BitVec.ofNat 16 (r.p 15 0) } } →
      (s.startCmd 0x004 r).protected t = true → exec (.enumerate r) s = .next (ran 0x004 r { status := .ok } t.sendCaps) ∧
        (n < 48 → s.carries n = true → Out.cap n (t.ownCap n) ∈ t.sendCaps.out ∧ (t.ownCap n).node = BitVec.ofNat 16 (r.p 15 0))) ∧
    (Accepts s 0x005 r true →
      (r.p 1 0 = 0 → BitVec.ofNat 16 (fld (r.w 0) 15 0) = s.link.inForce + 1 → s.epochCauses (maskFeatures (r.payload.drop 2)) = [] →
        exec (.featureEpoch r) s = .next (ran 0x005 r { status := .ok } ((s.startCmd 0x005 r).setLink fun l =>
          { l with prepared := s.link.inForce + 1, featuresPrep := r.payload.drop 2 }))) ∧
      (r.p 1 0 = 1 → 1024 ≤ sdiff 32 (r.w 1).toNat s.time.fn.toNat → s.link.prepared = BitVec.ofNat 16 (fld (r.w 0) 15 0) →
        exec (.featureEpoch r) s = .next (ran 0x005 r { status := .ok } ((s.startCmd 0x005 r).setLink fun l => { l with commitFn := some (r.w 1) }))) ∧
      (r.p 1 0 = 2 → ∃ u : State, exec (.featureEpoch r) s = .next (ran 0x005 r { status := .ok } u) ∧
        u.link.prepared = s.link.inForce ∧ u.link.commitFn = none ∧ u.link.inForce = s.link.inForce)) ∧
    (s.link.epochNow = true → s.link.commitFn.isSome = true → ∃ t, exec .epochSwitch s = .next t ∧ t.link.inForce = s.link.prepared ∧
      t.link.features = s.link.featuresPrep ∧ t.link.commitFn = none ∧ t.link.epochNow = false ∧ t.link.lane = s.link.lane) ∧
    (Accepts s 0x500 r true → fld (r.w 0) 5 0 = n → s.hasLane n = true → s.laneEn n = true → (s.lane n).uplink = false → s.trainRun n = none →
      ∃ t, exec (.linkTrain r) s = .next t ∧ (t.lane n).step = 1 ∧ (t.lane n).trained = false ∧ (t.lane n).lastStep = 0 ∧
        t.trainRun n = some { op := 0x500, res := n, req := r }) ∧
    (∀ l, s.trainRun n = some l → ∃ u : State, exec (.linkTrainTimeout n) s = .next
      (u.reply 0x500 l.req { status := .ok, param := (s.lane n).lastStep }) ∧ u.ports.long = s.ports.long.erase l ∧ u.link = s.link) ∧
    (Accepts s 0x501 r true → exec (.linkStatus r) s = .next (ran 0x501 r { status := .ok, payload := (List.range 48).map (laneStatus s) }
      (s.startCmd 0x501 r))) ∧
    (∀ ws : List Word, Accepts s 0x504 r true → ws = (List.range 48).map (fun k => if s.hasLane k then (s.lane k).rtt else 0) →
      exec (.linkRtt r) s = .next (ran 0x504 r { status := .ok, payload := ws } (s.startCmd 0x504 r))) ∧
    (Accepts s 0x502 r (r.len == 2 || r.len == 3 + cdiv (fld (r.w 1) 31 24 + 1) 2) → fld (r.w 0) 5 0 = n → s.hasLane n = true →
      s.sched.commit = false → (r.len ≠ 2 → 16 ≤ (rosterOfWords r.payload).slotFlits ∧
        rosterFits (s.genOf n) s.time.period.toNat (rosterOfWords r.payload) = true) →
      ∃ u : State, exec (.rosterLoad r) s = .next (ran 0x502 r { status := .ok } u) ∧
        SMap.find u.sched.rosterDue (2 * n + fld (r.w 0) 8 8) = some (if r.len = 2 then none else some (rosterOfWords r.payload)) ∧
        u.link = s.link) ∧
    (∀ ro : Option Roster, Accepts s 0x503 r true → s.hasLane (r.p 5 0) = true →
      ro = (if r.p 8 8 = 0 then (s.lane (r.p 5 0)).tx else (s.lane (r.p 5 0)).rx) → exec (.rosterRead r) s = .next
        (ran 0x503 r { status := .ok, payload := rosterWords (r.p 5 0) (r.p 8 8) ro } (s.startCmd 0x503 r))) ∧
    (canWrite s port 8 = true → s.hasLane n = true →
      ((s.lane n).trained = true → 2 ≤ (s.lane n).rev.toNat → ¬(n = 0 ∧ s.mode = 3) →
        (∀ k, k < 48 → s.f (.lkLCfg k) 21 16 ≠ n ∧ s.fw (.lkLCfg k) 21 16 ≠ n) → s.emitsOn n = false →
        ∃ t, exec (.deepIdleEnter port n) s = .next t ∧ (t.lane n).deep = true ∧ (t.lane n).step = 6 ∧ (t.lane n).trained = false ∧
          Out.sleep n ∈ t.out ∧ (t.reg (.lkLCfg n)).getLsbD 28 = true) ∧
      ((s.lane n).deep = true → ∃ t, exec (.deepIdleWake port n) s = .next t ∧ (t.lane n).deep = false ∧ (t.lane n).step = 1 ∧
        (t.lane n).wake = true ∧ (t.reg (.lkLCfg n)).getLsbD 28 = false)) ∧
    (s.carries n = true → 2 ≤ (s.lane n).rev.toNat → ∃ t, exec (.sleep n) s = .next t ∧ (t.lane n).deep = true ∧ (t.lane n).step = 6 ∧
      (t.lane n).trained = false) ∧
    (s.link.refclk = true → (s.lane n).deep = true → exec (.signalDetection n) s = .next (s.modLane n fun l =>
      { l with step := 1, cap := none, wake := true, deep := false })) ∧
    (s.link.refclk = true → scanCode s.test.ir = false → s.hasLane n = true → (s.lane n).uplink = false → 1 ≤ (s.lane n).step →
      (s.lane n).step ≤ 4 → ((s.lane n).step ≠ 4 → ((s.lane n).step = 3 → ∃ c, (s.lane n).cap = some c ∧ c.seen = true) → ∃ t, exec (.bringupStepComplete n) s = .next t ∧
        t.link = (s.modLane n fun l => { l with step := l.step + 1, lastStep := l.step }).link ∧
        (n ≠ 0 ∨ (s.lane n).step ≠ 3 → t.time = s.time) ∧
        (n = 0 → (s.lane n).step = 3 → s.follower = true → s.clocks.fallback = false → s.time.state = 0 → t.time.state = 1)) ∧
      ((s.lane n).step = 4 → ∃ t, exec (.bringupStepComplete n) s = .next t ∧ (t.lane n).trained = true ∧ (t.lane n).step = 5 ∧
        (t.reg .lkEvents).getLsbD 0 = true) ∧
      (s.laneEn n = true → ∃ t, exec (.bringupTimeout n) s = .next t ∧ (t.lane n).step = 1 ∧ (t.lane n).trained = false) ∧
      (s.laneEn n = true → 2 ≤ (s.lane n).step → ∃ t, exec (.bringupSignalLoss n) s = .next t ∧ (t.lane n).step = 1 ∧
        (t.lane n).trained = false)) ∧
    ((s.lane n).trained = true → ∃ t, exec (.laneDown n) s = .next t ∧ (t.lane n).trained = false ∧ (t.reg .lkEvents).getLsbD 1 = true ∧
      (s.laneEn n = true → (s.lane n).uplink = false → (t.lane n).step = 1) ∧
      (n = 0 → s.follower = true → s.time.state = 2 → t.time.state = 3)) ∧
    (∃ t, exec .laneRefclkLost s = .next t ∧ t.link.refclk = false ∧ (∀ k, k < 48 → (t.lane k).trained = false) ∧
      (t.reg .lkEvents).getLsbD 6 = true) ∧
    (∃ t, exec .laneRefclkReturn s = .next t ∧ t.link.refclk = true ∧
      (n < s.res.lanes → s.laneEn n = true → (s.lane n).uplink = false → (s.lane n).trained = false → (s.lane n).deep = false →
        (t.lane n).step = 1) ∧ ((s.lane n).trained = true → t.lane n = s.lane n)) ∧
    (∀ b : Byte, s.hasLane n = true → (s.lane n).uplink = false → b.toNat = 0 ∨ 10 < b.toNat →
      exec (.linkUnknown n b) s = .next (s.bump (laneCnt n 14) 1)) ∧
    (∀ q : Cap, (s.lane n).uplink = false → (s.lane n).trained = false → (s.lane n).step = 3 →
      exec (.cap n q) s = .next (s.modLane n fun l => { l with cap := some q, farNode := q.node })) ∧
    (s.laneStopped n = true → (∃ t, exec (.cdcDrop n true) s = .next t ∧ (t.lane n).carriage = dropPacket (s.lane n).carriage) ∧
      ∃ t, exec (.cdcDrop n false) s = .next t ∧ (t.lane n).sending = none ∧ (t.lane n).carriage = (s.lane n).carriage)

-- flits ----------------------------------------------------------------------------------------------------------------------------------------------------------

/-- What arrives on a trained lane: curds are forwarded, held for their path or, of no path, discarded and
counted, a damaged codeword deafens the lane, CAP, SLOT, the time
exchange, FRAME, FRAME_SW and TRIG have their effect; and carriage leaves in order. -/
def Obligations.FlitsHaveTheirEffect : Prop :=
  ∀ (n k : Nat) (b : Byte) (bit : Bool) (node : BitVec 16) (fn : FN) (t0 : CT) (per : BitVec 21) (c : Curd) (s : State), s.carries n = true →
    ((s.lane n).deaf = false → c.rind.length ≠ 0 → c.payload.length = c.rind.length.toNat →
      (exec (.curdReceive n c false) s = .next (s.bump (laneCnt n 3) 1)) ∧
      (isCarriage c = false → s.fwdLane n = some k → s.carries k = true → ∃ t, exec (.curdReceive n c true) s = .next t ∧
        (t.lane k).sending = some c ∧ t.sched = s.sched) ∧
      (isCarriage c = false → s.fwdLane n = none → s.stranger n c = false → s.pathOf c.rind.stream = none →
        ∃ t, exec (.curdReceive n c true) s = .next t ∧ t.sched = s.sched ∧ (t.reg .scEvents).getLsbD 1 = true ∧
          ((s.cnt 0x300020).value < cntMax → (t.cnt 0x300020).value = (s.cnt 0x300020).value + 1)) ∧
      (isCarriage c = false → s.fwdLane n = none → s.stranger n c = false → s.pathOf c.rind.stream = some k → s.isMerged k = false →
        s.isLate k c = false → s.kernelType c.rind.stream = false → s.relayed + curdBytes c ≤ s.f .lkRelay 28 16 * 4096 →
        ∃ t, exec (.curdReceive n c true) s = .next t ∧
          t.sched.held = s.sched.held ++ [{ curd := c, path := k, kind := 1, lane := n, bytes := curdBytes c }])) ∧
    (∃ t, exec (.damagedCodeword n bit) s = .next t ∧ (t.lane n).deaf = true ∧ (bit = true → (t.reg .lkEvents).getLsbD 2 = true) ∧
      t.sched = s.sched) ∧
    (∀ q o : Cap, (s.lane n).cap = some o →
      (q = { o with node := q.node, epoch := q.epoch } → exec (.cap n q) s = .next (s.modLane n fun l => { l with cap := some q, farNode := q.node })) ∧
      (q ≠ { o with node := q.node, epoch := q.epoch } → ∃ t, exec (.cap n q) s = .next t ∧ (t.lane n).step = 3 ∧ (t.lane n).trained = false ∧
        (t.lane n).cap = some q)) ∧
    (s.fwdLane n = none → exec (.slot n b bit node fn) s = .next (s.modLane n fun l => { l with deaf := false, slotSeen := true })) ∧
    (s.fwdLane n = some k → s.carries k = true → (s.lane k).takeover = false → ∃ t f, exec (.slot n b bit node fn) s = .next t ∧
      Out.slot k b f node fn ∈ t.out ∧ (bit = false → f = false)) ∧
    (∀ ro, s.placesTicks = true → (∀ j, j < 48 → s.f (.lkLCfg j) 21 16 ≠ n) ∨ (s.lane n).takeover = true → s.rosterNow n 0 = some ro → k < ro.slots →
      ∃ t f, exec (.slotOpen n k) s = .next t ∧ Out.slot n (BitVec.ofNat 8 k) f s.ports.nodeId s.time.fn ∈ t.out) ∧
    ((s.lane n).takeover = false → (s.rosterNow n 0).isSome = true → k < 48 → s.f (.lkLCfg k) 21 16 = n → 2 ≤ (s.lane k).slotQuiet →
      ∃ t, exec (.takeover n) s = .next t ∧ (t.lane n).takeover = true ∧ (t.reg .lkEvents).getLsbD 5 = true) ∧
    (∃ t, exec (.timeExchangeStart n) s = .next t ∧ (t.lane n).exT1 = some s.time.ct ∧ (t.lane n).exSeq = (s.lane n).exSeq + 1 ∧
      Out.tsSync n (t.lane n).exSeq ∈ t.out ∧ Out.frame n s.time.period s.time.fn s.time.epoch s.time.aligned s.time.switch.isSome ∈ t.out ∧
      ∀ w, s.time.switch = some w → Out.frameSw n w.fn (BitVec.ofNat 21 (s.switchPeriod w)) ∈ t.out) ∧
    (∃ t, exec (.tsSync n b t0) s = .next t ∧ Out.tsReq n b ∈ t.out ∧ (t.lane n).rxSeq = b ∧ (t.lane n).exT2 = some t0 ∧
      (t.lane n).exT3 = some t.time.ct) ∧
    (∀ t1, (s.lane n).exT1 = some t1 → (s.lane n).exSeq = b → ∃ t, exec (.tsReq n b t0) s = .next t ∧
      Out.tsData n b t1 (BitVec.ofInt 32 (ctDiff t0 t1)) ∈ t.out ∧ (t.lane n).exT1 = none) ∧
    (∀ t2 t3 (d41 : Word), (s.lane n).exT2 = some t2 → (s.lane n).exT3 = some t3 → (s.lane n).rxSeq = b →
      ∃ t, exec (.tsData n b t0 d41) s = .next t ∧ (t.lane n).rtt = w32 ((d41.toNat : Int) - ctDiff t3 t2) ∧ (t.lane n).exT2 = none ∧
        (n = 0 → s.follower = true → s.time.state ≠ 0 → s.time.thetas.length < 2 ^ s.f .tcSrcCfg 11 8 → t.time.thetas = s.time.thetas ++
          [ctDiff t2 t0 - ((d41.toNat : Int) - ctDiff t3 t0) - (s.reg (.lkLAsym n)).toInt])) ∧
    (∀ e : Word, (n ≠ 0 ∨ s.follower = false → exec (.frame n per fn e bit false) s = .next (s.modLane n fun l => { l with deaf := false })) ∧
      (n = 0 → s.follower = true → ∃ t, exec (.frame n per fn e bit false) s = .next t ∧ t.time.upPeriod = per ∧ t.time.upFn = fn ∧
        t.time.upEpoch = e ∧ t.time.upAligned = bit ∧ (bit = false → t.time.aligned = false ∧ t.time.switch = none) ∧
        (bit = true → s.time.state ≠ 0 → s.time.taken = false → 0 < per.toNat → t.time.taken = true ∧ t.time.period = per ∧
          t.time.fn = fn + BitVec.ofInt 48 (((s.time.e : Int) - t.time.org.toNat) / per.toNat -
            (((s.time.e - (s.lane 0).rtt.toNat / 1024 : Nat) : Int) - t.time.org.toNat) / per.toNat)))) ∧
    (n = 0 → s.follower = true → s.time.taken = true → 0 < sdiff 48 fn.toNat s.time.fn.toNat → ∃ t, exec (.frameSw n fn per) s = .next t ∧
      t.time.switch = some { fn, period := per } ∧ t.time.aligned = s.time.aligned) ∧
    (∀ src : BitVec 10, (s.link.trigSeen.contains (node, t0) = true → exec (.trigFlit n node src t0) s = .next s) ∧
      (s.link.trigSeen.contains (node, t0) = false → ∃ t, exec (.trigFlit n node src t0) s = .next t ∧ (node, t0) ∈ t.link.trigSeen ∧
        (k ≠ n → k < 48 → s.carries k = true → s.b (.lkLCfg k) 24 = true →
          ((s.lane k).slotTrig = none → Out.trig k node src t0 ∈ t.out) ∧
          ∀ (e : CT) (j : Nat), (s.lane k).slotTrig = some (e, j) →
            ((0 ≤ ctDiff s.time.ct e ∨ 0 < j) → Out.trig k node src t0 ∈ t.out) ∧
            (ctDiff s.time.ct e < 0 → j = 0 → (node, src, t0) ∈ (t.lane k).trigWait)))) ∧
    (∀ cs, (s.lane n).carriage = c :: cs → s.emitting n = [] → ∃ t, exec (.carriageSend n) s = .next t ∧ (t.lane n).carriage = cs ∧
      (t.lane n).sending = some c)
end

