-- ==== Sys2Proof/Laws/State.lean ====
section
/-!
SUPPORT. One lemma for each component of State under each of the small updates: the update changes one component and leaves the
others as they are. No later proof unfolds a record update.
-/
namespace Sys2Proof.Machine

-- setReg
@[simp] theorem State.setReg_fuses (s : State) (r : Reg) (v : Word) : (s.setReg r v).fuses = s.fuses := rfl
@[simp] theorem State.setReg_straps (s : State) (r : Reg) (v : Word) : (s.setReg r v).straps = s.straps := rfl
@[simp] theorem State.setReg_power (s : State) (r : Reg) (v : Word) : (s.setReg r v).power = s.power := rfl
@[simp] theorem State.setReg_clocks (s : State) (r : Reg) (v : Word) : (s.setReg r v).clocks = s.clocks := rfl
@[simp] theorem State.setReg_boot (s : State) (r : Reg) (v : Word) : (s.setReg r v).boot = s.boot := rfl
@[simp] theorem State.setReg_ports (s : State) (r : Reg) (v : Word) : (s.setReg r v).ports = s.ports := rfl
@[simp] theorem State.setReg_pair (s : State) (r : Reg) (v : Word) : (s.setReg r v).pair = s.pair := rfl
@[simp] theorem State.setReg_time (s : State) (r : Reg) (v : Word) : (s.setReg r v).time = s.time := rfl
@[simp] theorem State.setReg_sched (s : State) (r : Reg) (v : Word) : (s.setReg r v).sched = s.sched := rfl
@[simp] theorem State.setReg_merge (s : State) (r : Reg) (v : Word) : (s.setReg r v).merge = s.merge := rfl
@[simp] theorem State.setReg_chans (s : State) (r : Reg) (v : Word) : (s.setReg r v).chans = s.chans := rfl
@[simp] theorem State.setReg_hits (s : State) (r : Reg) (v : Word) : (s.setReg r v).hits = s.hits := rfl
@[simp] theorem State.setReg_rennet (s : State) (r : Reg) (v : Word) : (s.setReg r v).rennet = s.rennet := rfl
@[simp] theorem State.setReg_engines (s : State) (r : Reg) (v : Word) : (s.setReg r v).engines = s.engines := rfl
@[simp] theorem State.setReg_fx (s : State) (r : Reg) (v : Word) : (s.setReg r v).fx = s.fx := rfl
@[simp] theorem State.setReg_vat (s : State) (r : Reg) (v : Word) : (s.setReg r v).vat = s.vat := rfl
@[simp] theorem State.setReg_press (s : State) (r : Reg) (v : Word) : (s.setReg r v).press = s.press := rfl
@[simp] theorem State.setReg_link (s : State) (r : Reg) (v : Word) : (s.setReg r v).link = s.link := rfl
@[simp] theorem State.setReg_uplink (s : State) (r : Reg) (v : Word) : (s.setReg r v).uplink = s.uplink := rfl
@[simp] theorem State.setReg_house (s : State) (r : Reg) (v : Word) : (s.setReg r v).house = s.house := rfl
@[simp] theorem State.setReg_test (s : State) (r : Reg) (v : Word) : (s.setReg r v).test = s.test := rfl
@[simp] theorem State.setReg_window (s : State) (r : Reg) (v : Word) : (s.setReg r v).window = s.window := rfl
@[simp] theorem State.setReg_vatMem (s : State) (r : Reg) (v : Word) : (s.setReg r v).vatMem = s.vatMem := rfl
@[simp] theorem State.setReg_flash (s : State) (r : Reg) (v : Word) : (s.setReg r v).flash = s.flash := rfl
@[simp] theorem State.setReg_ramImage (s : State) (r : Reg) (v : Word) : (s.setReg r v).ramImage = s.ramImage := rfl
@[simp] theorem State.setReg_ctrlA (s : State) (r : Reg) (v : Word) : (s.setReg r v).ctrlA = s.ctrlA := rfl
@[simp] theorem State.setReg_ctrlB (s : State) (r : Reg) (v : Word) : (s.setReg r v).ctrlB = s.ctrlB := rfl
@[simp] theorem State.setReg_out (s : State) (r : Reg) (v : Word) : (s.setReg r v).out = s.out := rfl
@[simp] theorem State.setReg_free (s : State) (r : Reg) (v : Word) : (s.setReg r v).free = s.free := rfl
@[simp] theorem State.setReg_pending (s : State) (r : Reg) (v : Word) : (s.setReg r v).pending = s.pending := rfl
-- pendReg
@[simp] theorem State.pendReg_fuses (s : State) (r : Reg) (v : Word) : (s.pendReg r v).fuses = s.fuses := rfl
@[simp] theorem State.pendReg_straps (s : State) (r : Reg) (v : Word) : (s.pendReg r v).straps = s.straps := rfl
@[simp] theorem State.pendReg_power (s : State) (r : Reg) (v : Word) : (s.pendReg r v).power = s.power := rfl
@[simp] theorem State.pendReg_clocks (s : State) (r : Reg) (v : Word) : (s.pendReg r v).clocks = s.clocks := rfl
@[simp] theorem State.pendReg_boot (s : State) (r : Reg) (v : Word) : (s.pendReg r v).boot = s.boot := rfl
@[simp] theorem State.pendReg_ports (s : State) (r : Reg) (v : Word) : (s.pendReg r v).ports = s.ports := rfl
@[simp] theorem State.pendReg_pair (s : State) (r : Reg) (v : Word) : (s.pendReg r v).pair = s.pair := rfl
@[simp] theorem State.pendReg_time (s : State) (r : Reg) (v : Word) : (s.pendReg r v).time = s.time := rfl
@[simp] theorem State.pendReg_sched (s : State) (r : Reg) (v : Word) : (s.pendReg r v).sched = s.sched := rfl
@[simp] theorem State.pendReg_merge (s : State) (r : Reg) (v : Word) : (s.pendReg r v).merge = s.merge := rfl
@[simp] theorem State.pendReg_chans (s : State) (r : Reg) (v : Word) : (s.pendReg r v).chans = s.chans := rfl
@[simp] theorem State.pendReg_hits (s : State) (r : Reg) (v : Word) : (s.pendReg r v).hits = s.hits := rfl
@[simp] theorem State.pendReg_rennet (s : State) (r : Reg) (v : Word) : (s.pendReg r v).rennet = s.rennet := rfl
@[simp] theorem State.pendReg_engines (s : State) (r : Reg) (v : Word) : (s.pendReg r v).engines = s.engines := rfl
@[simp] theorem State.pendReg_fx (s : State) (r : Reg) (v : Word) : (s.pendReg r v).fx = s.fx := rfl
@[simp] theorem State.pendReg_vat (s : State) (r : Reg) (v : Word) : (s.pendReg r v).vat = s.vat := rfl
@[simp] theorem State.pendReg_press (s : State) (r : Reg) (v : Word) : (s.pendReg r v).press = s.press := rfl
@[simp] theorem State.pendReg_link (s : State) (r : Reg) (v : Word) : (s.pendReg r v).link = s.link := rfl
@[simp] theorem State.pendReg_uplink (s : State) (r : Reg) (v : Word) : (s.pendReg r v).uplink = s.uplink := rfl
@[simp] theorem State.pendReg_house (s : State) (r : Reg) (v : Word) : (s.pendReg r v).house = s.house := rfl
@[simp] theorem State.pendReg_test (s : State) (r : Reg) (v : Word) : (s.pendReg r v).test = s.test := rfl
@[simp] theorem State.pendReg_window (s : State) (r : Reg) (v : Word) : (s.pendReg r v).window = s.window := rfl
@[simp] theorem State.pendReg_vatMem (s : State) (r : Reg) (v : Word) : (s.pendReg r v).vatMem = s.vatMem := rfl
@[simp] theorem State.pendReg_flash (s : State) (r : Reg) (v : Word) : (s.pendReg r v).flash = s.flash := rfl
@[simp] theorem State.pendReg_ramImage (s : State) (r : Reg) (v : Word) : (s.pendReg r v).ramImage = s.ramImage := rfl
@[simp] theorem State.pendReg_ctrlA (s : State) (r : Reg) (v : Word) : (s.pendReg r v).ctrlA = s.ctrlA := rfl
@[simp] theorem State.pendReg_ctrlB (s : State) (r : Reg) (v : Word) : (s.pendReg r v).ctrlB = s.ctrlB := rfl
@[simp] theorem State.pendReg_out (s : State) (r : Reg) (v : Word) : (s.pendReg r v).out = s.out := rfl
@[simp] theorem State.pendReg_free (s : State) (r : Reg) (v : Word) : (s.pendReg r v).free = s.free := rfl
@[simp] theorem State.pendReg_pending (s : State) (r : Reg) (v : Word) : (s.pendReg r v).pending = s.pending := rfl
-- orReg
@[simp] theorem State.orReg_fuses (s : State) (r : Reg) (v : Word) : (s.orReg r v).fuses = s.fuses := rfl
@[simp] theorem State.orReg_straps (s : State) (r : Reg) (v : Word) : (s.orReg r v).straps = s.straps := rfl
@[simp] theorem State.orReg_power (s : State) (r : Reg) (v : Word) : (s.orReg r v).power = s.power := rfl
@[simp] theorem State.orReg_clocks (s : State) (r : Reg) (v : Word) : (s.orReg r v).clocks = s.clocks := rfl
@[simp] theorem State.orReg_boot (s : State) (r : Reg) (v : Word) : (s.orReg r v).boot = s.boot := rfl
@[simp] theorem State.orReg_ports (s : State) (r : Reg) (v : Word) : (s.orReg r v).ports = s.ports := rfl
@[simp] theorem State.orReg_pair (s : State) (r : Reg) (v : Word) : (s.orReg r v).pair = s.pair := rfl
@[simp] theorem State.orReg_time (s : State) (r : Reg) (v : Word) : (s.orReg r v).time = s.time := rfl
@[simp] theorem State.orReg_sched (s : State) (r : Reg) (v : Word) : (s.orReg r v).sched = s.sched := rfl
@[simp] theorem State.orReg_merge (s : State) (r : Reg) (v : Word) : (s.orReg r v).merge = s.merge := rfl
@[simp] theorem State.orReg_chans (s : State) (r : Reg) (v : Word) : (s.orReg r v).chans = s.chans := rfl
@[simp] theorem State.orReg_hits (s : State) (r : Reg) (v : Word) : (s.orReg r v).hits = s.hits := rfl
@[simp] theorem State.orReg_rennet (s : State) (r : Reg) (v : Word) : (s.orReg r v).rennet = s.rennet := rfl
@[simp] theorem State.orReg_engines (s : State) (r : Reg) (v : Word) : (s.orReg r v).engines = s.engines := rfl
@[simp] theorem State.orReg_fx (s : State) (r : Reg) (v : Word) : (s.orReg r v).fx = s.fx := rfl
@[simp] theorem State.orReg_vat (s : State) (r : Reg) (v : Word) : (s.orReg r v).vat = s.vat := rfl
@[simp] theorem State.orReg_press (s : State) (r : Reg) (v : Word) : (s.orReg r v).press = s.press := rfl
@[simp] theorem State.orReg_link (s : State) (r : Reg) (v : Word) : (s.orReg r v).link = s.link := rfl
@[simp] theorem State.orReg_uplink (s : State) (r : Reg) (v : Word) : (s.orReg r v).uplink = s.uplink := rfl
@[simp] theorem State.orReg_house (s : State) (r : Reg) (v : Word) : (s.orReg r v).house = s.house := rfl
@[simp] theorem State.orReg_test (s : State) (r : Reg) (v : Word) : (s.orReg r v).test = s.test := rfl
@[simp] theorem State.orReg_window (s : State) (r : Reg) (v : Word) : (s.orReg r v).window = s.window := rfl
@[simp] theorem State.orReg_vatMem (s : State) (r : Reg) (v : Word) : (s.orReg r v).vatMem = s.vatMem := rfl
@[simp] theorem State.orReg_flash (s : State) (r : Reg) (v : Word) : (s.orReg r v).flash = s.flash := rfl
@[simp] theorem State.orReg_ramImage (s : State) (r : Reg) (v : Word) : (s.orReg r v).ramImage = s.ramImage := rfl
@[simp] theorem State.orReg_ctrlA (s : State) (r : Reg) (v : Word) : (s.orReg r v).ctrlA = s.ctrlA := rfl
@[simp] theorem State.orReg_ctrlB (s : State) (r : Reg) (v : Word) : (s.orReg r v).ctrlB = s.ctrlB := rfl
@[simp] theorem State.orReg_out (s : State) (r : Reg) (v : Word) : (s.orReg r v).out = s.out := rfl
@[simp] theorem State.orReg_free (s : State) (r : Reg) (v : Word) : (s.orReg r v).free = s.free := rfl
@[simp] theorem State.orReg_pending (s : State) (r : Reg) (v : Word) : (s.orReg r v).pending = s.pending := rfl
-- bumpRaw
@[simp] theorem State.bumpRaw_fuses (s : State) (a n : Nat) : (s.bumpRaw a n).fuses = s.fuses := rfl
@[simp] theorem State.bumpRaw_straps (s : State) (a n : Nat) : (s.bumpRaw a n).straps = s.straps := rfl
@[simp] theorem State.bumpRaw_power (s : State) (a n : Nat) : (s.bumpRaw a n).power = s.power := rfl
@[simp] theorem State.bumpRaw_clocks (s : State) (a n : Nat) : (s.bumpRaw a n).clocks = s.clocks := rfl
@[simp] theorem State.bumpRaw_boot (s : State) (a n : Nat) : (s.bumpRaw a n).boot = s.boot := rfl
@[simp] theorem State.bumpRaw_ports (s : State) (a n : Nat) : (s.bumpRaw a n).ports = s.ports := rfl
@[simp] theorem State.bumpRaw_pair (s : State) (a n : Nat) : (s.bumpRaw a n).pair = s.pair := rfl
@[simp] theorem State.bumpRaw_time (s : State) (a n : Nat) : (s.bumpRaw a n).time = s.time := rfl
@[simp] theorem State.bumpRaw_sched (s : State) (a n : Nat) : (s.bumpRaw a n).sched = s.sched := rfl
@[simp] theorem State.bumpRaw_merge (s : State) (a n : Nat) : (s.bumpRaw a n).merge = s.merge := rfl
@[simp] theorem State.bumpRaw_chans (s : State) (a n : Nat) : (s.bumpRaw a n).chans = s.chans := rfl
@[simp] theorem State.bumpRaw_hits (s : State) (a n : Nat) : (s.bumpRaw a n).hits = s.hits := rfl
@[simp] theorem State.bumpRaw_rennet (s : State) (a n : Nat) : (s.bumpRaw a n).rennet = s.rennet := rfl
@[simp] theorem State.bumpRaw_engines (s : State) (a n : Nat) : (s.bumpRaw a n).engines = s.engines := rfl
@[simp] theorem State.bumpRaw_fx (s : State) (a n : Nat) : (s.bumpRaw a n).fx = s.fx := rfl
@[simp] theorem State.bumpRaw_vat (s : State) (a n : Nat) : (s.bumpRaw a n).vat = s.vat := rfl
@[simp] theorem State.bumpRaw_press (s : State) (a n : Nat) : (s.bumpRaw a n).press = s.press := rfl
@[simp] theorem State.bumpRaw_link (s : State) (a n : Nat) : (s.bumpRaw a n).link = s.link := rfl
@[simp] theorem State.bumpRaw_uplink (s : State) (a n : Nat) : (s.bumpRaw a n).uplink = s.uplink := rfl
@[simp] theorem State.bumpRaw_house (s : State) (a n : Nat) : (s.bumpRaw a n).house = s.house := rfl
@[simp] theorem State.bumpRaw_test (s : State) (a n : Nat) : (s.bumpRaw a n).test = s.test := rfl
@[simp] theorem State.bumpRaw_window (s : State) (a n : Nat) : (s.bumpRaw a n).window = s.window := rfl
@[simp] theorem State.bumpRaw_vatMem (s : State) (a n : Nat) : (s.bumpRaw a n).vatMem = s.vatMem := rfl
@[simp] theorem State.bumpRaw_flash (s : State) (a n : Nat) : (s.bumpRaw a n).flash = s.flash := rfl
@[simp] theorem State.bumpRaw_ramImage (s : State) (a n : Nat) : (s.bumpRaw a n).ramImage = s.ramImage := rfl
@[simp] theorem State.bumpRaw_ctrlA (s : State) (a n : Nat) : (s.bumpRaw a n).ctrlA = s.ctrlA := rfl
@[simp] theorem State.bumpRaw_ctrlB (s : State) (a n : Nat) : (s.bumpRaw a n).ctrlB = s.ctrlB := rfl
@[simp] theorem State.bumpRaw_out (s : State) (a n : Nat) : (s.bumpRaw a n).out = s.out := rfl
@[simp] theorem State.bumpRaw_free (s : State) (a n : Nat) : (s.bumpRaw a n).free = s.free := rfl
@[simp] theorem State.bumpRaw_pending (s : State) (a n : Nat) : (s.bumpRaw a n).pending = s.pending := rfl
-- setPort
@[simp] theorem State.setPort_fuses (s : State) (p : Nat) (q : Port) : (s.setPort p q).fuses = s.fuses := rfl
@[simp] theorem State.setPort_straps (s : State) (p : Nat) (q : Port) : (s.setPort p q).straps = s.straps := rfl
@[simp] theorem State.setPort_power (s : State) (p : Nat) (q : Port) : (s.setPort p q).power = s.power := rfl
@[simp] theorem State.setPort_clocks (s : State) (p : Nat) (q : Port) : (s.setPort p q).clocks = s.clocks := rfl
@[simp] theorem State.setPort_boot (s : State) (p : Nat) (q : Port) : (s.setPort p q).boot = s.boot := rfl
@[simp] theorem State.setPort_pair (s : State) (p : Nat) (q : Port) : (s.setPort p q).pair = s.pair := rfl
@[simp] theorem State.setPort_csr (s : State) (p : Nat) (q : Port) : (s.setPort p q).csr = s.csr := rfl
@[simp] theorem State.setPort_time (s : State) (p : Nat) (q : Port) : (s.setPort p q).time = s.time := rfl
@[simp] theorem State.setPort_sched (s : State) (p : Nat) (q : Port) : (s.setPort p q).sched = s.sched := rfl
@[simp] theorem State.setPort_merge (s : State) (p : Nat) (q : Port) : (s.setPort p q).merge = s.merge := rfl
@[simp] theorem State.setPort_chans (s : State) (p : Nat) (q : Port) : (s.setPort p q).chans = s.chans := rfl
@[simp] theorem State.setPort_hits (s : State) (p : Nat) (q : Port) : (s.setPort p q).hits = s.hits := rfl
@[simp] theorem State.setPort_rennet (s : State) (p : Nat) (q : Port) : (s.setPort p q).rennet = s.rennet := rfl
@[simp] theorem State.setPort_engines (s : State) (p : Nat) (q : Port) : (s.setPort p q).engines = s.engines := rfl
@[simp] theorem State.setPort_fx (s : State) (p : Nat) (q : Port) : (s.setPort p q).fx = s.fx := rfl
@[simp] theorem State.setPort_vat (s : State) (p : Nat) (q : Port) : (s.setPort p q).vat = s.vat := rfl
@[simp] theorem State.setPort_press (s : State) (p : Nat) (q : Port) : (s.setPort p q).press = s.press := rfl
@[simp] theorem State.setPort_link (s : State) (p : Nat) (q : Port) : (s.setPort p q).link = s.link := rfl
@[simp] theorem State.setPort_uplink (s : State) (p : Nat) (q : Port) : (s.setPort p q).uplink = s.uplink := rfl
@[simp] theorem State.setPort_house (s : State) (p : Nat) (q : Port) : (s.setPort p q).house = s.house := rfl
@[simp] theorem State.setPort_test (s : State) (p : Nat) (q : Port) : (s.setPort p q).test = s.test := rfl
@[simp] theorem State.setPort_window (s : State) (p : Nat) (q : Port) : (s.setPort p q).window = s.window := rfl
@[simp] theorem State.setPort_vatMem (s : State) (p : Nat) (q : Port) : (s.setPort p q).vatMem = s.vatMem := rfl
@[simp] theorem State.setPort_flash (s : State) (p : Nat) (q : Port) : (s.setPort p q).flash = s.flash := rfl
@[simp] theorem State.setPort_ramImage (s : State) (p : Nat) (q : Port) : (s.setPort p q).ramImage = s.ramImage := rfl
@[simp] theorem State.setPort_ctrlA (s : State) (p : Nat) (q : Port) : (s.setPort p q).ctrlA = s.ctrlA := rfl
@[simp] theorem State.setPort_ctrlB (s : State) (p : Nat) (q : Port) : (s.setPort p q).ctrlB = s.ctrlB := rfl
@[simp] theorem State.setPort_out (s : State) (p : Nat) (q : Port) : (s.setPort p q).out = s.out := rfl
@[simp] theorem State.setPort_free (s : State) (p : Nat) (q : Port) : (s.setPort p q).free = s.free := rfl
@[simp] theorem State.setPort_pending (s : State) (p : Nat) (q : Port) : (s.setPort p q).pending = s.pending := rfl
-- setLane
@[simp] theorem State.setLane_fuses (s : State) (n : Nat) (l : Lane) : (s.setLane n l).fuses = s.fuses := rfl
@[simp] theorem State.setLane_straps (s : State) (n : Nat) (l : Lane) : (s.setLane n l).straps = s.straps := rfl
@[simp] theorem State.setLane_power (s : State) (n : Nat) (l : Lane) : (s.setLane n l).power = s.power := rfl
@[simp] theorem State.setLane_clocks (s : State) (n : Nat) (l : Lane) : (s.setLane n l).clocks = s.clocks := rfl
@[simp] theorem State.setLane_boot (s : State) (n : Nat) (l : Lane) : (s.setLane n l).boot = s.boot := rfl
@[simp] theorem State.setLane_ports (s : State) (n : Nat) (l : Lane) : (s.setLane n l).ports = s.ports := rfl
@[simp] theorem State.setLane_pair (s : State) (n : Nat) (l : Lane) : (s.setLane n l).pair = s.pair := rfl
@[simp] theorem State.setLane_csr (s : State) (n : Nat) (l : Lane) : (s.setLane n l).csr = s.csr := rfl
@[simp] theorem State.setLane_time (s : State) (n : Nat) (l : Lane) : (s.setLane n l).time = s.time := rfl
@[simp] theorem State.setLane_sched (s : State) (n : Nat) (l : Lane) : (s.setLane n l).sched = s.sched := rfl
@[simp] theorem State.setLane_merge (s : State) (n : Nat) (l : Lane) : (s.setLane n l).merge = s.merge := rfl
@[simp] theorem State.setLane_chans (s : State) (n : Nat) (l : Lane) : (s.setLane n l).chans = s.chans := rfl
@[simp] theorem State.setLane_hits (s : State) (n : Nat) (l : Lane) : (s.setLane n l).hits = s.hits := rfl
@[simp] theorem State.setLane_rennet (s : State) (n : Nat) (l : Lane) : (s.setLane n l).rennet = s.rennet := rfl
@[simp] theorem State.setLane_engines (s : State) (n : Nat) (l : Lane) : (s.setLane n l).engines = s.engines := rfl
@[simp] theorem State.setLane_fx (s : State) (n : Nat) (l : Lane) : (s.setLane n l).fx = s.fx := rfl
@[simp] theorem State.setLane_vat (s : State) (n : Nat) (l : Lane) : (s.setLane n l).vat = s.vat := rfl
@[simp] theorem State.setLane_press (s : State) (n : Nat) (l : Lane) : (s.setLane n l).press = s.press := rfl
@[simp] theorem State.setLane_uplink (s : State) (n : Nat) (l : Lane) : (s.setLane n l).uplink = s.uplink := rfl
@[simp] theorem State.setLane_house (s : State) (n : Nat) (l : Lane) : (s.setLane n l).house = s.house := rfl
@[simp] theorem State.setLane_test (s : State) (n : Nat) (l : Lane) : (s.setLane n l).test = s.test := rfl
@[simp] theorem State.setLane_window (s : State) (n : Nat) (l : Lane) : (s.setLane n l).window = s.window := rfl
@[simp] theorem State.setLane_vatMem (s : State) (n : Nat) (l : Lane) : (s.setLane n l).vatMem = s.vatMem := rfl
@[simp] theorem State.setLane_flash (s : State) (n : Nat) (l : Lane) : (s.setLane n l).flash = s.flash := rfl
@[simp] theorem State.setLane_ramImage (s : State) (n : Nat) (l : Lane) : (s.setLane n l).ramImage = s.ramImage := rfl
@[simp] theorem State.setLane_ctrlA (s : State) (n : Nat) (l : Lane) : (s.setLane n l).ctrlA = s.ctrlA := rfl
@[simp] theorem State.setLane_ctrlB (s : State) (n : Nat) (l : Lane) : (s.setLane n l).ctrlB = s.ctrlB := rfl
@[simp] theorem State.setLane_out (s : State) (n : Nat) (l : Lane) : (s.setLane n l).out = s.out := rfl
@[simp] theorem State.setLane_free (s : State) (n : Nat) (l : Lane) : (s.setLane n l).free = s.free := rfl
@[simp] theorem State.setLane_pending (s : State) (n : Nat) (l : Lane) : (s.setLane n l).pending = s.pending := rfl
-- modLane
@[simp] theorem State.modLane_fuses (s : State) (n : Nat) (f : Lane → Lane) : (s.modLane n f).fuses = s.fuses := rfl
@[simp] theorem State.modLane_straps (s : State) (n : Nat) (f : Lane → Lane) : (s.modLane n f).straps = s.straps := rfl
@[simp] theorem State.modLane_power (s : State) (n : Nat) (f : Lane → Lane) : (s.modLane n f).power = s.power := rfl
@[simp] theorem State.modLane_clocks (s : State) (n : Nat) (f : Lane → Lane) : (s.modLane n f).clocks = s.clocks := rfl
@[simp] theorem State.modLane_boot (s : State) (n : Nat) (f : Lane → Lane) : (s.modLane n f).boot = s.boot := rfl
@[simp] theorem State.modLane_ports (s : State) (n : Nat) (f : Lane → Lane) : (s.modLane n f).ports = s.ports := rfl
@[simp] theorem State.modLane_pair (s : State) (n : Nat) (f : Lane → Lane) : (s.modLane n f).pair = s.pair := rfl
@[simp] theorem State.modLane_csr (s : State) (n : Nat) (f : Lane → Lane) : (s.modLane n f).csr = s.csr := rfl
@[simp] theorem State.modLane_time (s : State) (n : Nat) (f : Lane → Lane) : (s.modLane n f).time = s.time := rfl
@[simp] theorem State.modLane_sched (s : State) (n : Nat) (f : Lane → Lane) : (s.modLane n f).sched = s.sched := rfl
@[simp] theorem State.modLane_merge (s : State) (n : Nat) (f : Lane → Lane) : (s.modLane n f).merge = s.merge := rfl
@[simp] theorem State.modLane_chans (s : State) (n : Nat) (f : Lane → Lane) : (s.modLane n f).chans = s.chans := rfl
@[simp] theorem State.modLane_hits (s : State) (n : Nat) (f : Lane → Lane) : (s.modLane n f).hits = s.hits := rfl
@[simp] theorem State.modLane_rennet (s : State) (n : Nat) (f : Lane → Lane) : (s.modLane n f).rennet = s.rennet := rfl
@[simp] theorem State.modLane_engines (s : State) (n : Nat) (f : Lane → Lane) : (s.modLane n f).engines = s.engines := rfl
@[simp] theorem State.modLane_fx (s : State) (n : Nat) (f : Lane → Lane) : (s.modLane n f).fx = s.fx := rfl
@[simp] theorem State.modLane_vat (s : State) (n : Nat) (f : Lane → Lane) : (s.modLane n f).vat = s.vat := rfl
@[simp] theorem State.modLane_press (s : State) (n : Nat) (f : Lane → Lane) : (s.modLane n f).press = s.press := rfl
@[simp] theorem State.modLane_uplink (s : State) (n : Nat) (f : Lane → Lane) : (s.modLane n f).uplink = s.uplink := rfl
@[simp] theorem State.modLane_house (s : State) (n : Nat) (f : Lane → Lane) : (s.modLane n f).house = s.house := rfl
@[simp] theorem State.modLane_test (s : State) (n : Nat) (f : Lane → Lane) : (s.modLane n f).test = s.test := rfl
@[simp] theorem State.modLane_window (s : State) (n : Nat) (f : Lane → Lane) : (s.modLane n f).window = s.window := rfl
@[simp] theorem State.modLane_vatMem (s : State) (n : Nat) (f : Lane → Lane) : (s.modLane n f).vatMem = s.vatMem := rfl
@[simp] theorem State.modLane_flash (s : State) (n : Nat) (f : Lane → Lane) : (s.modLane n f).flash = s.flash := rfl
@[simp] theorem State.modLane_ramImage (s : State) (n : Nat) (f : Lane → Lane) : (s.modLane n f).ramImage = s.ramImage := rfl
@[simp] theorem State.modLane_ctrlA (s : State) (n : Nat) (f : Lane → Lane) : (s.modLane n f).ctrlA = s.ctrlA := rfl
@[simp] theorem State.modLane_ctrlB (s : State) (n : Nat) (f : Lane → Lane) : (s.modLane n f).ctrlB = s.ctrlB := rfl
@[simp] theorem State.modLane_out (s : State) (n : Nat) (f : Lane → Lane) : (s.modLane n f).out = s.out := rfl
@[simp] theorem State.modLane_free (s : State) (n : Nat) (f : Lane → Lane) : (s.modLane n f).free = s.free := rfl
@[simp] theorem State.modLane_pending (s : State) (n : Nat) (f : Lane → Lane) : (s.modLane n f).pending = s.pending := rfl
-- setLink
@[simp] theorem State.setLink_fuses (s : State) (f : Link → Link) : (s.setLink f).fuses = s.fuses := rfl
@[simp] theorem State.setLink_straps (s : State) (f : Link → Link) : (s.setLink f).straps = s.straps := rfl
@[simp] theorem State.setLink_power (s : State) (f : Link → Link) : (s.setLink f).power = s.power := rfl
@[simp] theorem State.setLink_clocks (s : State) (f : Link → Link) : (s.setLink f).clocks = s.clocks := rfl
@[simp] theorem State.setLink_boot (s : State) (f : Link → Link) : (s.setLink f).boot = s.boot := rfl
@[simp] theorem State.setLink_ports (s : State) (f : Link → Link) : (s.setLink f).ports = s.ports := rfl
@[simp] theorem State.setLink_pair (s : State) (f : Link → Link) : (s.setLink f).pair = s.pair := rfl
@[simp] theorem State.setLink_csr (s : State) (f : Link → Link) : (s.setLink f).csr = s.csr := rfl
@[simp] theorem State.setLink_time (s : State) (f : Link → Link) : (s.setLink f).time = s.time := rfl
@[simp] theorem State.setLink_sched (s : State) (f : Link → Link) : (s.setLink f).sched = s.sched := rfl
@[simp] theorem State.setLink_merge (s : State) (f : Link → Link) : (s.setLink f).merge = s.merge := rfl
@[simp] theorem State.setLink_chans (s : State) (f : Link → Link) : (s.setLink f).chans = s.chans := rfl
@[simp] theorem State.setLink_hits (s : State) (f : Link → Link) : (s.setLink f).hits = s.hits := rfl
@[simp] theorem State.setLink_rennet (s : State) (f : Link → Link) : (s.setLink f).rennet = s.rennet := rfl
@[simp] theorem State.setLink_engines (s : State) (f : Link → Link) : (s.setLink f).engines = s.engines := rfl
@[simp] theorem State.setLink_fx (s : State) (f : Link → Link) : (s.setLink f).fx = s.fx := rfl
@[simp] theorem State.setLink_vat (s : State) (f : Link → Link) : (s.setLink f).vat = s.vat := rfl
@[simp] theorem State.setLink_press (s : State) (f : Link → Link) : (s.setLink f).press = s.press := rfl
@[simp] theorem State.setLink_uplink (s : State) (f : Link → Link) : (s.setLink f).uplink = s.uplink := rfl
@[simp] theorem State.setLink_house (s : State) (f : Link → Link) : (s.setLink f).house = s.house := rfl
@[simp] theorem State.setLink_test (s : State) (f : Link → Link) : (s.setLink f).test = s.test := rfl
@[simp] theorem State.setLink_window (s : State) (f : Link → Link) : (s.setLink f).window = s.window := rfl
@[simp] theorem State.setLink_vatMem (s : State) (f : Link → Link) : (s.setLink f).vatMem = s.vatMem := rfl
@[simp] theorem State.setLink_flash (s : State) (f : Link → Link) : (s.setLink f).flash = s.flash := rfl
@[simp] theorem State.setLink_ramImage (s : State) (f : Link → Link) : (s.setLink f).ramImage = s.ramImage := rfl
@[simp] theorem State.setLink_ctrlA (s : State) (f : Link → Link) : (s.setLink f).ctrlA = s.ctrlA := rfl
@[simp] theorem State.setLink_ctrlB (s : State) (f : Link → Link) : (s.setLink f).ctrlB = s.ctrlB := rfl
@[simp] theorem State.setLink_out (s : State) (f : Link → Link) : (s.setLink f).out = s.out := rfl
@[simp] theorem State.setLink_free (s : State) (f : Link → Link) : (s.setLink f).free = s.free := rfl
@[simp] theorem State.setLink_pending (s : State) (f : Link → Link) : (s.setLink f).pending = s.pending := rfl
-- setTime
@[simp] theorem State.setTime_fuses (s : State) (f : Time → Time) : (s.setTime f).fuses = s.fuses := rfl
@[simp] theorem State.setTime_straps (s : State) (f : Time → Time) : (s.setTime f).straps = s.straps := rfl
@[simp] theorem State.setTime_power (s : State) (f : Time → Time) : (s.setTime f).power = s.power := rfl
@[simp] theorem State.setTime_clocks (s : State) (f : Time → Time) : (s.setTime f).clocks = s.clocks := rfl
@[simp] theorem State.setTime_boot (s : State) (f : Time → Time) : (s.setTime f).boot = s.boot := rfl
@[simp] theorem State.setTime_ports (s : State) (f : Time → Time) : (s.setTime f).ports = s.ports := rfl
@[simp] theorem State.setTime_pair (s : State) (f : Time → Time) : (s.setTime f).pair = s.pair := rfl
@[simp] theorem State.setTime_csr (s : State) (f : Time → Time) : (s.setTime f).csr = s.csr := rfl
@[simp] theorem State.setTime_sched (s : State) (f : Time → Time) : (s.setTime f).sched = s.sched := rfl
@[simp] theorem State.setTime_merge (s : State) (f : Time → Time) : (s.setTime f).merge = s.merge := rfl
@[simp] theorem State.setTime_chans (s : State) (f : Time → Time) : (s.setTime f).chans = s.chans := rfl
@[simp] theorem State.setTime_hits (s : State) (f : Time → Time) : (s.setTime f).hits = s.hits := rfl
@[simp] theorem State.setTime_rennet (s : State) (f : Time → Time) : (s.setTime f).rennet = s.rennet := rfl
@[simp] theorem State.setTime_engines (s : State) (f : Time → Time) : (s.setTime f).engines = s.engines := rfl
@[simp] theorem State.setTime_fx (s : State) (f : Time → Time) : (s.setTime f).fx = s.fx := rfl
@[simp] theorem State.setTime_vat (s : State) (f : Time → Time) : (s.setTime f).vat = s.vat := rfl
@[simp] theorem State.setTime_press (s : State) (f : Time → Time) : (s.setTime f).press = s.press := rfl
@[simp] theorem State.setTime_link (s : State) (f : Time → Time) : (s.setTime f).link = s.link := rfl
@[simp] theorem State.setTime_uplink (s : State) (f : Time → Time) : (s.setTime f).uplink = s.uplink := rfl
@[simp] theorem State.setTime_house (s : State) (f : Time → Time) : (s.setTime f).house = s.house := rfl
@[simp] theorem State.setTime_test (s : State) (f : Time → Time) : (s.setTime f).test = s.test := rfl
@[simp] theorem State.setTime_window (s : State) (f : Time → Time) : (s.setTime f).window = s.window := rfl
@[simp] theorem State.setTime_vatMem (s : State) (f : Time → Time) : (s.setTime f).vatMem = s.vatMem := rfl
@[simp] theorem State.setTime_flash (s : State) (f : Time → Time) : (s.setTime f).flash = s.flash := rfl
@[simp] theorem State.setTime_ramImage (s : State) (f : Time → Time) : (s.setTime f).ramImage = s.ramImage := rfl
@[simp] theorem State.setTime_ctrlA (s : State) (f : Time → Time) : (s.setTime f).ctrlA = s.ctrlA := rfl
@[simp] theorem State.setTime_ctrlB (s : State) (f : Time → Time) : (s.setTime f).ctrlB = s.ctrlB := rfl
@[simp] theorem State.setTime_out (s : State) (f : Time → Time) : (s.setTime f).out = s.out := rfl
@[simp] theorem State.setTime_free (s : State) (f : Time → Time) : (s.setTime f).free = s.free := rfl
@[simp] theorem State.setTime_pending (s : State) (f : Time → Time) : (s.setTime f).pending = s.pending := rfl
-- setClk
@[simp] theorem State.setClk_fuses (s : State) (f : Clocks → Clocks) : (s.setClk f).fuses = s.fuses := rfl
@[simp] theorem State.setClk_straps (s : State) (f : Clocks → Clocks) : (s.setClk f).straps = s.straps := rfl
@[simp] theorem State.setClk_power (s : State) (f : Clocks → Clocks) : (s.setClk f).power = s.power := rfl
@[simp] theorem State.setClk_boot (s : State) (f : Clocks → Clocks) : (s.setClk f).boot = s.boot := rfl
@[simp] theorem State.setClk_ports (s : State) (f : Clocks → Clocks) : (s.setClk f).ports = s.ports := rfl
@[simp] theorem State.setClk_pair (s : State) (f : Clocks → Clocks) : (s.setClk f).pair = s.pair := rfl
@[simp] theorem State.setClk_csr (s : State) (f : Clocks → Clocks) : (s.setClk f).csr = s.csr := rfl
@[simp] theorem State.setClk_time (s : State) (f : Clocks → Clocks) : (s.setClk f).time = s.time := rfl
@[simp] theorem State.setClk_sched (s : State) (f : Clocks → Clocks) : (s.setClk f).sched = s.sched := rfl
@[simp] theorem State.setClk_merge (s : State) (f : Clocks → Clocks) : (s.setClk f).merge = s.merge := rfl
@[simp] theorem State.setClk_chans (s : State) (f : Clocks → Clocks) : (s.setClk f).chans = s.chans := rfl
@[simp] theorem State.setClk_hits (s : State) (f : Clocks → Clocks) : (s.setClk f).hits = s.hits := rfl
@[simp] theorem State.setClk_rennet (s : State) (f : Clocks → Clocks) : (s.setClk f).rennet = s.rennet := rfl
@[simp] theorem State.setClk_engines (s : State) (f : Clocks → Clocks) : (s.setClk f).engines = s.engines := rfl
@[simp] theorem State.setClk_fx (s : State) (f : Clocks → Clocks) : (s.setClk f).fx = s.fx := rfl
@[simp] theorem State.setClk_vat (s : State) (f : Clocks → Clocks) : (s.setClk f).vat = s.vat := rfl
@[simp] theorem State.setClk_press (s : State) (f : Clocks → Clocks) : (s.setClk f).press = s.press := rfl
@[simp] theorem State.setClk_link (s : State) (f : Clocks → Clocks) : (s.setClk f).link = s.link := rfl
@[simp] theorem State.setClk_uplink (s : State) (f : Clocks → Clocks) : (s.setClk f).uplink = s.uplink := rfl
@[simp] theorem State.setClk_house (s : State) (f : Clocks → Clocks) : (s.setClk f).house = s.house := rfl
@[simp] theorem State.setClk_test (s : State) (f : Clocks → Clocks) : (s.setClk f).test = s.test := rfl
@[simp] theorem State.setClk_window (s : State) (f : Clocks → Clocks) : (s.setClk f).window = s.window := rfl
@[simp] theorem State.setClk_vatMem (s : State) (f : Clocks → Clocks) : (s.setClk f).vatMem = s.vatMem := rfl
@[simp] theorem State.setClk_flash (s : State) (f : Clocks → Clocks) : (s.setClk f).flash = s.flash := rfl
@[simp] theorem State.setClk_ramImage (s : State) (f : Clocks → Clocks) : (s.setClk f).ramImage = s.ramImage := rfl
@[simp] theorem State.setClk_ctrlA (s : State) (f : Clocks → Clocks) : (s.setClk f).ctrlA = s.ctrlA := rfl
@[simp] theorem State.setClk_ctrlB (s : State) (f : Clocks → Clocks) : (s.setClk f).ctrlB = s.ctrlB := rfl
@[simp] theorem State.setClk_out (s : State) (f : Clocks → Clocks) : (s.setClk f).out = s.out := rfl
@[simp] theorem State.setClk_free (s : State) (f : Clocks → Clocks) : (s.setClk f).free = s.free := rfl
@[simp] theorem State.setClk_pending (s : State) (f : Clocks → Clocks) : (s.setClk f).pending = s.pending := rfl
-- setPow
@[simp] theorem State.setPow_fuses (s : State) (f : Power → Power) : (s.setPow f).fuses = s.fuses := rfl
@[simp] theorem State.setPow_straps (s : State) (f : Power → Power) : (s.setPow f).straps = s.straps := rfl
@[simp] theorem State.setPow_clocks (s : State) (f : Power → Power) : (s.setPow f).clocks = s.clocks := rfl
@[simp] theorem State.setPow_boot (s : State) (f : Power → Power) : (s.setPow f).boot = s.boot := rfl
@[simp] theorem State.setPow_ports (s : State) (f : Power → Power) : (s.setPow f).ports = s.ports := rfl
@[simp] theorem State.setPow_pair (s : State) (f : Power → Power) : (s.setPow f).pair = s.pair := rfl
@[simp] theorem State.setPow_csr (s : State) (f : Power → Power) : (s.setPow f).csr = s.csr := rfl
@[simp] theorem State.setPow_time (s : State) (f : Power → Power) : (s.setPow f).time = s.time := rfl
@[simp] theorem State.setPow_sched (s : State) (f : Power → Power) : (s.setPow f).sched = s.sched := rfl
@[simp] theorem State.setPow_merge (s : State) (f : Power → Power) : (s.setPow f).merge = s.merge := rfl
@[simp] theorem State.setPow_chans (s : State) (f : Power → Power) : (s.setPow f).chans = s.chans := rfl
@[simp] theorem State.setPow_hits (s : State) (f : Power → Power) : (s.setPow f).hits = s.hits := rfl
@[simp] theorem State.setPow_rennet (s : State) (f : Power → Power) : (s.setPow f).rennet = s.rennet := rfl
@[simp] theorem State.setPow_engines (s : State) (f : Power → Power) : (s.setPow f).engines = s.engines := rfl
@[simp] theorem State.setPow_fx (s : State) (f : Power → Power) : (s.setPow f).fx = s.fx := rfl
@[simp] theorem State.setPow_vat (s : State) (f : Power → Power) : (s.setPow f).vat = s.vat := rfl
@[simp] theorem State.setPow_press (s : State) (f : Power → Power) : (s.setPow f).press = s.press := rfl
@[simp] theorem State.setPow_link (s : State) (f : Power → Power) : (s.setPow f).link = s.link := rfl
@[simp] theorem State.setPow_uplink (s : State) (f : Power → Power) : (s.setPow f).uplink = s.uplink := rfl
@[simp] theorem State.setPow_house (s : State) (f : Power → Power) : (s.setPow f).house = s.house := rfl
@[simp] theorem State.setPow_test (s : State) (f : Power → Power) : (s.setPow f).test = s.test := rfl
@[simp] theorem State.setPow_window (s : State) (f : Power → Power) : (s.setPow f).window = s.window := rfl
@[simp] theorem State.setPow_vatMem (s : State) (f : Power → Power) : (s.setPow f).vatMem = s.vatMem := rfl
@[simp] theorem State.setPow_flash (s : State) (f : Power → Power) : (s.setPow f).flash = s.flash := rfl
@[simp] theorem State.setPow_ramImage (s : State) (f : Power → Power) : (s.setPow f).ramImage = s.ramImage := rfl
@[simp] theorem State.setPow_ctrlA (s : State) (f : Power → Power) : (s.setPow f).ctrlA = s.ctrlA := rfl
@[simp] theorem State.setPow_ctrlB (s : State) (f : Power → Power) : (s.setPow f).ctrlB = s.ctrlB := rfl
@[simp] theorem State.setPow_out (s : State) (f : Power → Power) : (s.setPow f).out = s.out := rfl
@[simp] theorem State.setPow_free (s : State) (f : Power → Power) : (s.setPow f).free = s.free := rfl
@[simp] theorem State.setPow_pending (s : State) (f : Power → Power) : (s.setPow f).pending = s.pending := rfl
-- setBoot
@[simp] theorem State.setBoot_fuses (s : State) (f : Boot → Boot) : (s.setBoot f).fuses = s.fuses := rfl
@[simp] theorem State.setBoot_straps (s : State) (f : Boot → Boot) : (s.setBoot f).straps = s.straps := rfl
@[simp] theorem State.setBoot_power (s : State) (f : Boot → Boot) : (s.setBoot f).power = s.power := rfl
@[simp] theorem State.setBoot_clocks (s : State) (f : Boot → Boot) : (s.setBoot f).clocks = s.clocks := rfl
@[simp] theorem State.setBoot_ports (s : State) (f : Boot → Boot) : (s.setBoot f).ports = s.ports := rfl
@[simp] theorem State.setBoot_pair (s : State) (f : Boot → Boot) : (s.setBoot f).pair = s.pair := rfl
@[simp] theorem State.setBoot_csr (s : State) (f : Boot → Boot) : (s.setBoot f).csr = s.csr := rfl
@[simp] theorem State.setBoot_time (s : State) (f : Boot → Boot) : (s.setBoot f).time = s.time := rfl
@[simp] theorem State.setBoot_sched (s : State) (f : Boot → Boot) : (s.setBoot f).sched = s.sched := rfl
@[simp] theorem State.setBoot_merge (s : State) (f : Boot → Boot) : (s.setBoot f).merge = s.merge := rfl
@[simp] theorem State.setBoot_chans (s : State) (f : Boot → Boot) : (s.setBoot f).chans = s.chans := rfl
@[simp] theorem State.setBoot_hits (s : State) (f : Boot → Boot) : (s.setBoot f).hits = s.hits := rfl
@[simp] theorem State.setBoot_rennet (s : State) (f : Boot → Boot) : (s.setBoot f).rennet = s.rennet := rfl
@[simp] theorem State.setBoot_engines (s : State) (f : Boot → Boot) : (s.setBoot f).engines = s.engines := rfl
@[simp] theorem State.setBoot_fx (s : State) (f : Boot → Boot) : (s.setBoot f).fx = s.fx := rfl
@[simp] theorem State.setBoot_vat (s : State) (f : Boot → Boot) : (s.setBoot f).vat = s.vat := rfl
@[simp] theorem State.setBoot_press (s : State) (f : Boot → Boot) : (s.setBoot f).press = s.press := rfl
@[simp] theorem State.setBoot_link (s : State) (f : Boot → Boot) : (s.setBoot f).link = s.link := rfl
@[simp] theorem State.setBoot_uplink (s : State) (f : Boot → Boot) : (s.setBoot f).uplink = s.uplink := rfl
@[simp] theorem State.setBoot_house (s : State) (f : Boot → Boot) : (s.setBoot f).house = s.house := rfl
@[simp] theorem State.setBoot_test (s : State) (f : Boot → Boot) : (s.setBoot f).test = s.test := rfl
@[simp] theorem State.setBoot_window (s : State) (f : Boot → Boot) : (s.setBoot f).window = s.window := rfl
@[simp] theorem State.setBoot_vatMem (s : State) (f : Boot → Boot) : (s.setBoot f).vatMem = s.vatMem := rfl
@[simp] theorem State.setBoot_flash (s : State) (f : Boot → Boot) : (s.setBoot f).flash = s.flash := rfl
@[simp] theorem State.setBoot_ramImage (s : State) (f : Boot → Boot) : (s.setBoot f).ramImage = s.ramImage := rfl
@[simp] theorem State.setBoot_ctrlA (s : State) (f : Boot → Boot) : (s.setBoot f).ctrlA = s.ctrlA := rfl
@[simp] theorem State.setBoot_ctrlB (s : State) (f : Boot → Boot) : (s.setBoot f).ctrlB = s.ctrlB := rfl
@[simp] theorem State.setBoot_out (s : State) (f : Boot → Boot) : (s.setBoot f).out = s.out := rfl
@[simp] theorem State.setBoot_free (s : State) (f : Boot → Boot) : (s.setBoot f).free = s.free := rfl
@[simp] theorem State.setBoot_pending (s : State) (f : Boot → Boot) : (s.setBoot f).pending = s.pending := rfl
-- setPair
@[simp] theorem State.setPair_fuses (s : State) (f : Pair → Pair) : (s.setPair f).fuses = s.fuses := rfl
@[simp] theorem State.setPair_straps (s : State) (f : Pair → Pair) : (s.setPair f).straps = s.straps := rfl
@[simp] theorem State.setPair_power (s : State) (f : Pair → Pair) : (s.setPair f).power = s.power := rfl
@[simp] theorem State.setPair_clocks (s : State) (f : Pair → Pair) : (s.setPair f).clocks = s.clocks := rfl
@[simp] theorem State.setPair_boot (s : State) (f : Pair → Pair) : (s.setPair f).boot = s.boot := rfl
@[simp] theorem State.setPair_ports (s : State) (f : Pair → Pair) : (s.setPair f).ports = s.ports := rfl
@[simp] theorem State.setPair_csr (s : State) (f : Pair → Pair) : (s.setPair f).csr = s.csr := rfl
@[simp] theorem State.setPair_time (s : State) (f : Pair → Pair) : (s.setPair f).time = s.time := rfl
@[simp] theorem State.setPair_sched (s : State) (f : Pair → Pair) : (s.setPair f).sched = s.sched := rfl
@[simp] theorem State.setPair_merge (s : State) (f : Pair → Pair) : (s.setPair f).merge = s.merge := rfl
@[simp] theorem State.setPair_chans (s : State) (f : Pair → Pair) : (s.setPair f).chans = s.chans := rfl
@[simp] theorem State.setPair_hits (s : State) (f : Pair → Pair) : (s.setPair f).hits = s.hits := rfl
@[simp] theorem State.setPair_rennet (s : State) (f : Pair → Pair) : (s.setPair f).rennet = s.rennet := rfl
@[simp] theorem State.setPair_engines (s : State) (f : Pair → Pair) : (s.setPair f).engines = s.engines := rfl
@[simp] theorem State.setPair_fx (s : State) (f : Pair → Pair) : (s.setPair f).fx = s.fx := rfl
@[simp] theorem State.setPair_vat (s : State) (f : Pair → Pair) : (s.setPair f).vat = s.vat := rfl
@[simp] theorem State.setPair_press (s : State) (f : Pair → Pair) : (s.setPair f).press = s.press := rfl
@[simp] theorem State.setPair_link (s : State) (f : Pair → Pair) : (s.setPair f).link = s.link := rfl
@[simp] theorem State.setPair_uplink (s : State) (f : Pair → Pair) : (s.setPair f).uplink = s.uplink := rfl
@[simp] theorem State.setPair_house (s : State) (f : Pair → Pair) : (s.setPair f).house = s.house := rfl
@[simp] theorem State.setPair_test (s : State) (f : Pair → Pair) : (s.setPair f).test = s.test := rfl
@[simp] theorem State.setPair_window (s : State) (f : Pair → Pair) : (s.setPair f).window = s.window := rfl
@[simp] theorem State.setPair_vatMem (s : State) (f : Pair → Pair) : (s.setPair f).vatMem = s.vatMem := rfl
@[simp] theorem State.setPair_flash (s : State) (f : Pair → Pair) : (s.setPair f).flash = s.flash := rfl
@[simp] theorem State.setPair_ramImage (s : State) (f : Pair → Pair) : (s.setPair f).ramImage = s.ramImage := rfl
@[simp] theorem State.setPair_ctrlA (s : State) (f : Pair → Pair) : (s.setPair f).ctrlA = s.ctrlA := rfl
@[simp] theorem State.setPair_ctrlB (s : State) (f : Pair → Pair) : (s.setPair f).ctrlB = s.ctrlB := rfl
@[simp] theorem State.setPair_out (s : State) (f : Pair → Pair) : (s.setPair f).out = s.out := rfl
@[simp] theorem State.setPair_free (s : State) (f : Pair → Pair) : (s.setPair f).free = s.free := rfl
@[simp] theorem State.setPair_pending (s : State) (f : Pair → Pair) : (s.setPair f).pending = s.pending := rfl
-- setTest
@[simp] theorem State.setTest_fuses (s : State) (f : TestAccess → TestAccess) : (s.setTest f).fuses = s.fuses := rfl
@[simp] theorem State.setTest_straps (s : State) (f : TestAccess → TestAccess) : (s.setTest f).straps = s.straps := rfl
@[simp] theorem State.setTest_power (s : State) (f : TestAccess → TestAccess) : (s.setTest f).power = s.power := rfl
@[simp] theorem State.setTest_clocks (s : State) (f : TestAccess → TestAccess) : (s.setTest f).clocks = s.clocks := rfl
@[simp] theorem State.setTest_boot (s : State) (f : TestAccess → TestAccess) : (s.setTest f).boot = s.boot := rfl
@[simp] theorem State.setTest_ports (s : State) (f : TestAccess → TestAccess) : (s.setTest f).ports = s.ports := rfl
@[simp] theorem State.setTest_pair (s : State) (f : TestAccess → TestAccess) : (s.setTest f).pair = s.pair := rfl
@[simp] theorem State.setTest_csr (s : State) (f : TestAccess → TestAccess) : (s.setTest f).csr = s.csr := rfl
@[simp] theorem State.setTest_time (s : State) (f : TestAccess → TestAccess) : (s.setTest f).time = s.time := rfl
@[simp] theorem State.setTest_sched (s : State) (f : TestAccess → TestAccess) : (s.setTest f).sched = s.sched := rfl
@[simp] theorem State.setTest_merge (s : State) (f : TestAccess → TestAccess) : (s.setTest f).merge = s.merge := rfl
@[simp] theorem State.setTest_chans (s : State) (f : TestAccess → TestAccess) : (s.setTest f).chans = s.chans := rfl
@[simp] theorem State.setTest_hits (s : State) (f : TestAccess → TestAccess) : (s.setTest f).hits = s.hits := rfl
@[simp] theorem State.setTest_rennet (s : State) (f : TestAccess → TestAccess) : (s.setTest f).rennet = s.rennet := rfl
@[simp] theorem State.setTest_engines (s : State) (f : TestAccess → TestAccess) : (s.setTest f).engines = s.engines := rfl
@[simp] theorem State.setTest_fx (s : State) (f : TestAccess → TestAccess) : (s.setTest f).fx = s.fx := rfl
@[simp] theorem State.setTest_vat (s : State) (f : TestAccess → TestAccess) : (s.setTest f).vat = s.vat := rfl
@[simp] theorem State.setTest_press (s : State) (f : TestAccess → TestAccess) : (s.setTest f).press = s.press := rfl
@[simp] theorem State.setTest_link (s : State) (f : TestAccess → TestAccess) : (s.setTest f).link = s.link := rfl
@[simp] theorem State.setTest_uplink (s : State) (f : TestAccess → TestAccess) : (s.setTest f).uplink = s.uplink := rfl
@[simp] theorem State.setTest_house (s : State) (f : TestAccess → TestAccess) : (s.setTest f).house = s.house := rfl
@[simp] theorem State.setTest_window (s : State) (f : TestAccess → TestAccess) : (s.setTest f).window = s.window := rfl
@[simp] theorem State.setTest_vatMem (s : State) (f : TestAccess → TestAccess) : (s.setTest f).vatMem = s.vatMem := rfl
@[simp] theorem State.setTest_flash (s : State) (f : TestAccess → TestAccess) : (s.setTest f).flash = s.flash := rfl
@[simp] theorem State.setTest_ramImage (s : State) (f : TestAccess → TestAccess) : (s.setTest f).ramImage = s.ramImage := rfl
@[simp] theorem State.setTest_ctrlA (s : State) (f : TestAccess → TestAccess) : (s.setTest f).ctrlA = s.ctrlA := rfl
@[simp] theorem State.setTest_ctrlB (s : State) (f : TestAccess → TestAccess) : (s.setTest f).ctrlB = s.ctrlB := rfl
@[simp] theorem State.setTest_out (s : State) (f : TestAccess → TestAccess) : (s.setTest f).out = s.out := rfl
@[simp] theorem State.setTest_free (s : State) (f : TestAccess → TestAccess) : (s.setTest f).free = s.free := rfl
@[simp] theorem State.setTest_pending (s : State) (f : TestAccess → TestAccess) : (s.setTest f).pending = s.pending := rfl
-- setSched
@[simp] theorem State.setSched_fuses (s : State) (f : Sched → Sched) : (s.setSched f).fuses = s.fuses := rfl
@[simp] theorem State.setSched_straps (s : State) (f : Sched → Sched) : (s.setSched f).straps = s.straps := rfl
@[simp] theorem State.setSched_power (s : State) (f : Sched → Sched) : (s.setSched f).power = s.power := rfl
@[simp] theorem State.setSched_clocks (s : State) (f : Sched → Sched) : (s.setSched f).clocks = s.clocks := rfl
@[simp] theorem State.setSched_boot (s : State) (f : Sched → Sched) : (s.setSched f).boot = s.boot := rfl
@[simp] theorem State.setSched_ports (s : State) (f : Sched → Sched) : (s.setSched f).ports = s.ports := rfl
@[simp] theorem State.setSched_pair (s : State) (f : Sched → Sched) : (s.setSched f).pair = s.pair := rfl
@[simp] theorem State.setSched_csr (s : State) (f : Sched → Sched) : (s.setSched f).csr = s.csr := rfl
@[simp] theorem State.setSched_time (s : State) (f : Sched → Sched) : (s.setSched f).time = s.time := rfl
@[simp] theorem State.setSched_merge (s : State) (f : Sched → Sched) : (s.setSched f).merge = s.merge := rfl
@[simp] theorem State.setSched_chans (s : State) (f : Sched → Sched) : (s.setSched f).chans = s.chans := rfl
@[simp] theorem State.setSched_hits (s : State) (f : Sched → Sched) : (s.setSched f).hits = s.hits := rfl
@[simp] theorem State.setSched_rennet (s : State) (f : Sched → Sched) : (s.setSched f).rennet = s.rennet := rfl
@[simp] theorem State.setSched_engines (s : State) (f : Sched → Sched) : (s.setSched f).engines = s.engines := rfl
@[simp] theorem State.setSched_fx (s : State) (f : Sched → Sched) : (s.setSched f).fx = s.fx := rfl
@[simp] theorem State.setSched_vat (s : State) (f : Sched → Sched) : (s.setSched f).vat = s.vat := rfl
@[simp] theorem State.setSched_press (s : State) (f : Sched → Sched) : (s.setSched f).press = s.press := rfl
@[simp] theorem State.setSched_link (s : State) (f : Sched → Sched) : (s.setSched f).link = s.link := rfl
@[simp] theorem State.setSched_uplink (s : State) (f : Sched → Sched) : (s.setSched f).uplink = s.uplink := rfl
@[simp] theorem State.setSched_house (s : State) (f : Sched → Sched) : (s.setSched f).house = s.house := rfl
@[simp] theorem State.setSched_test (s : State) (f : Sched → Sched) : (s.setSched f).test = s.test := rfl
@[simp] theorem State.setSched_window (s : State) (f : Sched → Sched) : (s.setSched f).window = s.window := rfl
@[simp] theorem State.setSched_vatMem (s : State) (f : Sched → Sched) : (s.setSched f).vatMem = s.vatMem := rfl
@[simp] theorem State.setSched_flash (s : State) (f : Sched → Sched) : (s.setSched f).flash = s.flash := rfl
@[simp] theorem State.setSched_ramImage (s : State) (f : Sched → Sched) : (s.setSched f).ramImage = s.ramImage := rfl
@[simp] theorem State.setSched_ctrlA (s : State) (f : Sched → Sched) : (s.setSched f).ctrlA = s.ctrlA := rfl
@[simp] theorem State.setSched_ctrlB (s : State) (f : Sched → Sched) : (s.setSched f).ctrlB = s.ctrlB := rfl
@[simp] theorem State.setSched_out (s : State) (f : Sched → Sched) : (s.setSched f).out = s.out := rfl
@[simp] theorem State.setSched_free (s : State) (f : Sched → Sched) : (s.setSched f).free = s.free := rfl
@[simp] theorem State.setSched_pending (s : State) (f : Sched → Sched) : (s.setSched f).pending = s.pending := rfl
-- setUp
@[simp] theorem State.setUp_fuses (s : State) (f : Uplink → Uplink) : (s.setUp f).fuses = s.fuses := rfl
@[simp] theorem State.setUp_straps (s : State) (f : Uplink → Uplink) : (s.setUp f).straps = s.straps := rfl
@[simp] theorem State.setUp_power (s : State) (f : Uplink → Uplink) : (s.setUp f).power = s.power := rfl
@[simp] theorem State.setUp_clocks (s : State) (f : Uplink → Uplink) : (s.setUp f).clocks = s.clocks := rfl
@[simp] theorem State.setUp_boot (s : State) (f : Uplink → Uplink) : (s.setUp f).boot = s.boot := rfl
@[simp] theorem State.setUp_ports (s : State) (f : Uplink → Uplink) : (s.setUp f).ports = s.ports := rfl
@[simp] theorem State.setUp_pair (s : State) (f : Uplink → Uplink) : (s.setUp f).pair = s.pair := rfl
@[simp] theorem State.setUp_csr (s : State) (f : Uplink → Uplink) : (s.setUp f).csr = s.csr := rfl
@[simp] theorem State.setUp_time (s : State) (f : Uplink → Uplink) : (s.setUp f).time = s.time := rfl
@[simp] theorem State.setUp_sched (s : State) (f : Uplink → Uplink) : (s.setUp f).sched = s.sched := rfl
@[simp] theorem State.setUp_merge (s : State) (f : Uplink → Uplink) : (s.setUp f).merge = s.merge := rfl
@[simp] theorem State.setUp_chans (s : State) (f : Uplink → Uplink) : (s.setUp f).chans = s.chans := rfl
@[simp] theorem State.setUp_hits (s : State) (f : Uplink → Uplink) : (s.setUp f).hits = s.hits := rfl
@[simp] theorem State.setUp_rennet (s : State) (f : Uplink → Uplink) : (s.setUp f).rennet = s.rennet := rfl
@[simp] theorem State.setUp_engines (s : State) (f : Uplink → Uplink) : (s.setUp f).engines = s.engines := rfl
@[simp] theorem State.setUp_fx (s : State) (f : Uplink → Uplink) : (s.setUp f).fx = s.fx := rfl
@[simp] theorem State.setUp_vat (s : State) (f : Uplink → Uplink) : (s.setUp f).vat = s.vat := rfl
@[simp] theorem State.setUp_press (s : State) (f : Uplink → Uplink) : (s.setUp f).press = s.press := rfl
@[simp] theorem State.setUp_link (s : State) (f : Uplink → Uplink) : (s.setUp f).link = s.link := rfl
@[simp] theorem State.setUp_house (s : State) (f : Uplink → Uplink) : (s.setUp f).house = s.house := rfl
@[simp] theorem State.setUp_test (s : State) (f : Uplink → Uplink) : (s.setUp f).test = s.test := rfl
@[simp] theorem State.setUp_window (s : State) (f : Uplink → Uplink) : (s.setUp f).window = s.window := rfl
@[simp] theorem State.setUp_vatMem (s : State) (f : Uplink → Uplink) : (s.setUp f).vatMem = s.vatMem := rfl
@[simp] theorem State.setUp_flash (s : State) (f : Uplink → Uplink) : (s.setUp f).flash = s.flash := rfl
@[simp] theorem State.setUp_ramImage (s : State) (f : Uplink → Uplink) : (s.setUp f).ramImage = s.ramImage := rfl
@[simp] theorem State.setUp_ctrlA (s : State) (f : Uplink → Uplink) : (s.setUp f).ctrlA = s.ctrlA := rfl
@[simp] theorem State.setUp_ctrlB (s : State) (f : Uplink → Uplink) : (s.setUp f).ctrlB = s.ctrlB := rfl
@[simp] theorem State.setUp_out (s : State) (f : Uplink → Uplink) : (s.setUp f).out = s.out := rfl
@[simp] theorem State.setUp_free (s : State) (f : Uplink → Uplink) : (s.setUp f).free = s.free := rfl
@[simp] theorem State.setUp_pending (s : State) (f : Uplink → Uplink) : (s.setUp f).pending = s.pending := rfl
-- setHouse
@[simp] theorem State.setHouse_fuses (s : State) (f : House → House) : (s.setHouse f).fuses = s.fuses := rfl
@[simp] theorem State.setHouse_straps (s : State) (f : House → House) : (s.setHouse f).straps = s.straps := rfl
@[simp] theorem State.setHouse_power (s : State) (f : House → House) : (s.setHouse f).power = s.power := rfl
@[simp] theorem State.setHouse_clocks (s : State) (f : House → House) : (s.setHouse f).clocks = s.clocks := rfl
@[simp] theorem State.setHouse_boot (s : State) (f : House → House) : (s.setHouse f).boot = s.boot := rfl
@[simp] theorem State.setHouse_ports (s : State) (f : House → House) : (s.setHouse f).ports = s.ports := rfl
@[simp] theorem State.setHouse_pair (s : State) (f : House → House) : (s.setHouse f).pair = s.pair := rfl
@[simp] theorem State.setHouse_csr (s : State) (f : House → House) : (s.setHouse f).csr = s.csr := rfl
@[simp] theorem State.setHouse_time (s : State) (f : House → House) : (s.setHouse f).time = s.time := rfl
@[simp] theorem State.setHouse_sched (s : State) (f : House → House) : (s.setHouse f).sched = s.sched := rfl
@[simp] theorem State.setHouse_merge (s : State) (f : House → House) : (s.setHouse f).merge = s.merge := rfl
@[simp] theorem State.setHouse_chans (s : State) (f : House → House) : (s.setHouse f).chans = s.chans := rfl
@[simp] theorem State.setHouse_hits (s : State) (f : House → House) : (s.setHouse f).hits = s.hits := rfl
@[simp] theorem State.setHouse_rennet (s : State) (f : House → House) : (s.setHouse f).rennet = s.rennet := rfl
@[simp] theorem State.setHouse_engines (s : State) (f : House → House) : (s.setHouse f).engines = s.engines := rfl
@[simp] theorem State.setHouse_fx (s : State) (f : House → House) : (s.setHouse f).fx = s.fx := rfl
@[simp] theorem State.setHouse_vat (s : State) (f : House → House) : (s.setHouse f).vat = s.vat := rfl
@[simp] theorem State.setHouse_press (s : State) (f : House → House) : (s.setHouse f).press = s.press := rfl
@[simp] theorem State.setHouse_link (s : State) (f : House → House) : (s.setHouse f).link = s.link := rfl
@[simp] theorem State.setHouse_uplink (s : State) (f : House → House) : (s.setHouse f).uplink = s.uplink := rfl
@[simp] theorem State.setHouse_test (s : State) (f : House → House) : (s.setHouse f).test = s.test := rfl
@[simp] theorem State.setHouse_window (s : State) (f : House → House) : (s.setHouse f).window = s.window := rfl
@[simp] theorem State.setHouse_vatMem (s : State) (f : House → House) : (s.setHouse f).vatMem = s.vatMem := rfl
@[simp] theorem State.setHouse_flash (s : State) (f : House → House) : (s.setHouse f).flash = s.flash := rfl
@[simp] theorem State.setHouse_ramImage (s : State) (f : House → House) : (s.setHouse f).ramImage = s.ramImage := rfl
@[simp] theorem State.setHouse_ctrlA (s : State) (f : House → House) : (s.setHouse f).ctrlA = s.ctrlA := rfl
@[simp] theorem State.setHouse_ctrlB (s : State) (f : House → House) : (s.setHouse f).ctrlB = s.ctrlB := rfl
@[simp] theorem State.setHouse_out (s : State) (f : House → House) : (s.setHouse f).out = s.out := rfl
@[simp] theorem State.setHouse_free (s : State) (f : House → House) : (s.setHouse f).free = s.free := rfl
@[simp] theorem State.setHouse_pending (s : State) (f : House → House) : (s.setHouse f).pending = s.pending := rfl
-- setRegion
@[simp] theorem State.setRegion_fuses (s : State) (r : Nat) (g : Region) : (s.setRegion r g).fuses = s.fuses := rfl
@[simp] theorem State.setRegion_straps (s : State) (r : Nat) (g : Region) : (s.setRegion r g).straps = s.straps := rfl
@[simp] theorem State.setRegion_power (s : State) (r : Nat) (g : Region) : (s.setRegion r g).power = s.power := rfl
@[simp] theorem State.setRegion_clocks (s : State) (r : Nat) (g : Region) : (s.setRegion r g).clocks = s.clocks := rfl
@[simp] theorem State.setRegion_boot (s : State) (r : Nat) (g : Region) : (s.setRegion r g).boot = s.boot := rfl
@[simp] theorem State.setRegion_ports (s : State) (r : Nat) (g : Region) : (s.setRegion r g).ports = s.ports := rfl
@[simp] theorem State.setRegion_pair (s : State) (r : Nat) (g : Region) : (s.setRegion r g).pair = s.pair := rfl
@[simp] theorem State.setRegion_csr (s : State) (r : Nat) (g : Region) : (s.setRegion r g).csr = s.csr := rfl
@[simp] theorem State.setRegion_time (s : State) (r : Nat) (g : Region) : (s.setRegion r g).time = s.time := rfl
@[simp] theorem State.setRegion_sched (s : State) (r : Nat) (g : Region) : (s.setRegion r g).sched = s.sched := rfl
@[simp] theorem State.setRegion_merge (s : State) (r : Nat) (g : Region) : (s.setRegion r g).merge = s.merge := rfl
@[simp] theorem State.setRegion_chans (s : State) (r : Nat) (g : Region) : (s.setRegion r g).chans = s.chans := rfl
@[simp] theorem State.setRegion_hits (s : State) (r : Nat) (g : Region) : (s.setRegion r g).hits = s.hits := rfl
@[simp] theorem State.setRegion_rennet (s : State) (r : Nat) (g : Region) : (s.setRegion r g).rennet = s.rennet := rfl
@[simp] theorem State.setRegion_engines (s : State) (r : Nat) (g : Region) : (s.setRegion r g).engines = s.engines := rfl
@[simp] theorem State.setRegion_fx (s : State) (r : Nat) (g : Region) : (s.setRegion r g).fx = s.fx := rfl
@[simp] theorem State.setRegion_press (s : State) (r : Nat) (g : Region) : (s.setRegion r g).press = s.press := rfl
@[simp] theorem State.setRegion_link (s : State) (r : Nat) (g : Region) : (s.setRegion r g).link = s.link := rfl
@[simp] theorem State.setRegion_uplink (s : State) (r : Nat) (g : Region) : (s.setRegion r g).uplink = s.uplink := rfl
@[simp] theorem State.setRegion_house (s : State) (r : Nat) (g : Region) : (s.setRegion r g).house = s.house := rfl
@[simp] theorem State.setRegion_test (s : State) (r : Nat) (g : Region) : (s.setRegion r g).test = s.test := rfl
@[simp] theorem State.setRegion_window (s : State) (r : Nat) (g : Region) : (s.setRegion r g).window = s.window := rfl
@[simp] theorem State.setRegion_vatMem (s : State) (r : Nat) (g : Region) : (s.setRegion r g).vatMem = s.vatMem := rfl
@[simp] theorem State.setRegion_flash (s : State) (r : Nat) (g : Region) : (s.setRegion r g).flash = s.flash := rfl
@[simp] theorem State.setRegion_ramImage (s : State) (r : Nat) (g : Region) : (s.setRegion r g).ramImage = s.ramImage := rfl
@[simp] theorem State.setRegion_ctrlA (s : State) (r : Nat) (g : Region) : (s.setRegion r g).ctrlA = s.ctrlA := rfl
@[simp] theorem State.setRegion_ctrlB (s : State) (r : Nat) (g : Region) : (s.setRegion r g).ctrlB = s.ctrlB := rfl
@[simp] theorem State.setRegion_out (s : State) (r : Nat) (g : Region) : (s.setRegion r g).out = s.out := rfl
@[simp] theorem State.setRegion_free (s : State) (r : Nat) (g : Region) : (s.setRegion r g).free = s.free := rfl
@[simp] theorem State.setRegion_pending (s : State) (r : Nat) (g : Region) : (s.setRegion r g).pending = s.pending := rfl
-- draw
@[simp] theorem State.draw_fuses (s : State) : (s.draw).fuses = s.fuses := rfl
@[simp] theorem State.draw_straps (s : State) : (s.draw).straps = s.straps := rfl
@[simp] theorem State.draw_power (s : State) : (s.draw).power = s.power := rfl
@[simp] theorem State.draw_clocks (s : State) : (s.draw).clocks = s.clocks := rfl
@[simp] theorem State.draw_boot (s : State) : (s.draw).boot = s.boot := rfl
@[simp] theorem State.draw_ports (s : State) : (s.draw).ports = s.ports := rfl
@[simp] theorem State.draw_pair (s : State) : (s.draw).pair = s.pair := rfl
@[simp] theorem State.draw_csr (s : State) : (s.draw).csr = s.csr := rfl
@[simp] theorem State.draw_time (s : State) : (s.draw).time = s.time := rfl
@[simp] theorem State.draw_sched (s : State) : (s.draw).sched = s.sched := rfl
@[simp] theorem State.draw_merge (s : State) : (s.draw).merge = s.merge := rfl
@[simp] theorem State.draw_chans (s : State) : (s.draw).chans = s.chans := rfl
@[simp] theorem State.draw_hits (s : State) : (s.draw).hits = s.hits := rfl
@[simp] theorem State.draw_rennet (s : State) : (s.draw).rennet = s.rennet := rfl
@[simp] theorem State.draw_engines (s : State) : (s.draw).engines = s.engines := rfl
@[simp] theorem State.draw_fx (s : State) : (s.draw).fx = s.fx := rfl
@[simp] theorem State.draw_vat (s : State) : (s.draw).vat = s.vat := rfl
@[simp] theorem State.draw_press (s : State) : (s.draw).press = s.press := rfl
@[simp] theorem State.draw_link (s : State) : (s.draw).link = s.link := rfl
@[simp] theorem State.draw_uplink (s : State) : (s.draw).uplink = s.uplink := rfl
@[simp] theorem State.draw_house (s : State) : (s.draw).house = s.house := rfl
@[simp] theorem State.draw_test (s : State) : (s.draw).test = s.test := rfl
@[simp] theorem State.draw_window (s : State) : (s.draw).window = s.window := rfl
@[simp] theorem State.draw_vatMem (s : State) : (s.draw).vatMem = s.vatMem := rfl
@[simp] theorem State.draw_flash (s : State) : (s.draw).flash = s.flash := rfl
@[simp] theorem State.draw_ramImage (s : State) : (s.draw).ramImage = s.ramImage := rfl
@[simp] theorem State.draw_ctrlA (s : State) : (s.draw).ctrlA = s.ctrlA := rfl
@[simp] theorem State.draw_ctrlB (s : State) : (s.draw).ctrlB = s.ctrlB := rfl
@[simp] theorem State.draw_out (s : State) : (s.draw).out = s.out := rfl
@[simp] theorem State.draw_pending (s : State) : (s.draw).pending = s.pending := rfl
-- nextSeq
@[simp] theorem State.nextSeq_fuses (s : State) (k : Nat) : (s.nextSeq k).fuses = s.fuses := rfl
@[simp] theorem State.nextSeq_straps (s : State) (k : Nat) : (s.nextSeq k).straps = s.straps := rfl
@[simp] theorem State.nextSeq_power (s : State) (k : Nat) : (s.nextSeq k).power = s.power := rfl
@[simp] theorem State.nextSeq_clocks (s : State) (k : Nat) : (s.nextSeq k).clocks = s.clocks := rfl
@[simp] theorem State.nextSeq_boot (s : State) (k : Nat) : (s.nextSeq k).boot = s.boot := rfl
@[simp] theorem State.nextSeq_ports (s : State) (k : Nat) : (s.nextSeq k).ports = s.ports := rfl
@[simp] theorem State.nextSeq_pair (s : State) (k : Nat) : (s.nextSeq k).pair = s.pair := rfl
@[simp] theorem State.nextSeq_csr (s : State) (k : Nat) : (s.nextSeq k).csr = s.csr := rfl
@[simp] theorem State.nextSeq_time (s : State) (k : Nat) : (s.nextSeq k).time = s.time := rfl
@[simp] theorem State.nextSeq_merge (s : State) (k : Nat) : (s.nextSeq k).merge = s.merge := rfl
@[simp] theorem State.nextSeq_chans (s : State) (k : Nat) : (s.nextSeq k).chans = s.chans := rfl
@[simp] theorem State.nextSeq_hits (s : State) (k : Nat) : (s.nextSeq k).hits = s.hits := rfl
@[simp] theorem State.nextSeq_rennet (s : State) (k : Nat) : (s.nextSeq k).rennet = s.rennet := rfl
@[simp] theorem State.nextSeq_engines (s : State) (k : Nat) : (s.nextSeq k).engines = s.engines := rfl
@[simp] theorem State.nextSeq_fx (s : State) (k : Nat) : (s.nextSeq k).fx = s.fx := rfl
@[simp] theorem State.nextSeq_vat (s : State) (k : Nat) : (s.nextSeq k).vat = s.vat := rfl
@[simp] theorem State.nextSeq_press (s : State) (k : Nat) : (s.nextSeq k).press = s.press := rfl
@[simp] theorem State.nextSeq_link (s : State) (k : Nat) : (s.nextSeq k).link = s.link := rfl
@[simp] theorem State.nextSeq_uplink (s : State) (k : Nat) : (s.nextSeq k).uplink = s.uplink := rfl
@[simp] theorem State.nextSeq_house (s : State) (k : Nat) : (s.nextSeq k).house = s.house := rfl
@[simp] theorem State.nextSeq_test (s : State) (k : Nat) : (s.nextSeq k).test = s.test := rfl
@[simp] theorem State.nextSeq_window (s : State) (k : Nat) : (s.nextSeq k).window = s.window := rfl
@[simp] theorem State.nextSeq_vatMem (s : State) (k : Nat) : (s.nextSeq k).vatMem = s.vatMem := rfl
@[simp] theorem State.nextSeq_flash (s : State) (k : Nat) : (s.nextSeq k).flash = s.flash := rfl
@[simp] theorem State.nextSeq_ramImage (s : State) (k : Nat) : (s.nextSeq k).ramImage = s.ramImage := rfl
@[simp] theorem State.nextSeq_ctrlA (s : State) (k : Nat) : (s.nextSeq k).ctrlA = s.ctrlA := rfl
@[simp] theorem State.nextSeq_ctrlB (s : State) (k : Nat) : (s.nextSeq k).ctrlB = s.ctrlB := rfl
@[simp] theorem State.nextSeq_out (s : State) (k : Nat) : (s.nextSeq k).out = s.out := rfl
@[simp] theorem State.nextSeq_free (s : State) (k : Nat) : (s.nextSeq k).free = s.free := rfl
@[simp] theorem State.nextSeq_pending (s : State) (k : Nat) : (s.nextSeq k).pending = s.pending := rfl
-- what each update does to its own component
@[simp] theorem State.setTime_time (s : State) (f : Time → Time) : (s.setTime f).time = f s.time := rfl
@[simp] theorem State.setClk_clocks (s : State) (f : Clocks → Clocks) : (s.setClk f).clocks = f s.clocks := rfl
@[simp] theorem State.setPow_power (s : State) (f : Power → Power) : (s.setPow f).power = f s.power := rfl
@[simp] theorem State.setBoot_boot (s : State) (f : Boot → Boot) : (s.setBoot f).boot = f s.boot := rfl
@[simp] theorem State.setPair_pair (s : State) (f : Pair → Pair) : (s.setPair f).pair = f s.pair := rfl
@[simp] theorem State.setTest_test (s : State) (f : TestAccess → TestAccess) : (s.setTest f).test = f s.test := rfl
@[simp] theorem State.setSched_sched (s : State) (f : Sched → Sched) : (s.setSched f).sched = f s.sched := rfl
@[simp] theorem State.setUp_uplink (s : State) (f : Uplink → Uplink) : (s.setUp f).uplink = f s.uplink := rfl
@[simp] theorem State.setHouse_house (s : State) (f : House → House) : (s.setHouse f).house = f s.house := rfl
@[simp] theorem State.setLink_link (s : State) (f : Link → Link) : (s.setLink f).link = f s.link := rfl
@[simp] theorem State.draw_free (s : State) : (s.draw).free = s.free + 1 := rfl

end Sys2Proof.Machine
end

