-- ==== Sys2Proof/Laws/Ops.lean ====
section
/-!
SUPPORT. What the shared operations leave as it is: events, counters, replies, and the two ends of a command. Each has one lemma that
says which components it may change, and one lemma for each component that it does not.
-/
namespace Sys2Proof.Machine

/-- A command datagram counts one frame and leaves. -/
theorem State.sendDatagram_frame (s : State) (d : EthPeer) (ws : List Word) :
    s.sendDatagram d ws = { s with csr := (s.sendDatagram d ws).csr, out := (s.sendDatagram d ws).out } := by
  rfl
@[simp] theorem State.sendDatagram_fuses (s : State) (d : EthPeer) (ws : List Word) : (s.sendDatagram d ws).fuses = s.fuses := by rw [State.sendDatagram_frame]
@[simp] theorem State.sendDatagram_straps (s : State) (d : EthPeer) (ws : List Word) : (s.sendDatagram d ws).straps = s.straps := by rw [State.sendDatagram_frame]
@[simp] theorem State.sendDatagram_power (s : State) (d : EthPeer) (ws : List Word) : (s.sendDatagram d ws).power = s.power := by rw [State.sendDatagram_frame]
@[simp] theorem State.sendDatagram_clocks (s : State) (d : EthPeer) (ws : List Word) : (s.sendDatagram d ws).clocks = s.clocks := by rw [State.sendDatagram_frame]
@[simp] theorem State.sendDatagram_boot (s : State) (d : EthPeer) (ws : List Word) : (s.sendDatagram d ws).boot = s.boot := by rw [State.sendDatagram_frame]
@[simp] theorem State.sendDatagram_ports (s : State) (d : EthPeer) (ws : List Word) : (s.sendDatagram d ws).ports = s.ports := by rw [State.sendDatagram_frame]
@[simp] theorem State.sendDatagram_pair (s : State) (d : EthPeer) (ws : List Word) : (s.sendDatagram d ws).pair = s.pair := by rw [State.sendDatagram_frame]
@[simp] theorem State.sendDatagram_time (s : State) (d : EthPeer) (ws : List Word) : (s.sendDatagram d ws).time = s.time := by rw [State.sendDatagram_frame]
@[simp] theorem State.sendDatagram_sched (s : State) (d : EthPeer) (ws : List Word) : (s.sendDatagram d ws).sched = s.sched := by rw [State.sendDatagram_frame]
@[simp] theorem State.sendDatagram_merge (s : State) (d : EthPeer) (ws : List Word) : (s.sendDatagram d ws).merge = s.merge := by rw [State.sendDatagram_frame]
@[simp] theorem State.sendDatagram_chans (s : State) (d : EthPeer) (ws : List Word) : (s.sendDatagram d ws).chans = s.chans := by rw [State.sendDatagram_frame]
@[simp] theorem State.sendDatagram_hits (s : State) (d : EthPeer) (ws : List Word) : (s.sendDatagram d ws).hits = s.hits := by rw [State.sendDatagram_frame]
@[simp] theorem State.sendDatagram_rennet (s : State) (d : EthPeer) (ws : List Word) : (s.sendDatagram d ws).rennet = s.rennet := by rw [State.sendDatagram_frame]
@[simp] theorem State.sendDatagram_engines (s : State) (d : EthPeer) (ws : List Word) : (s.sendDatagram d ws).engines = s.engines := by rw [State.sendDatagram_frame]
@[simp] theorem State.sendDatagram_fx (s : State) (d : EthPeer) (ws : List Word) : (s.sendDatagram d ws).fx = s.fx := by rw [State.sendDatagram_frame]
@[simp] theorem State.sendDatagram_vat (s : State) (d : EthPeer) (ws : List Word) : (s.sendDatagram d ws).vat = s.vat := by rw [State.sendDatagram_frame]
@[simp] theorem State.sendDatagram_press (s : State) (d : EthPeer) (ws : List Word) : (s.sendDatagram d ws).press = s.press := by rw [State.sendDatagram_frame]
@[simp] theorem State.sendDatagram_link (s : State) (d : EthPeer) (ws : List Word) : (s.sendDatagram d ws).link = s.link := by rw [State.sendDatagram_frame]
@[simp] theorem State.sendDatagram_uplink (s : State) (d : EthPeer) (ws : List Word) : (s.sendDatagram d ws).uplink = s.uplink := by rw [State.sendDatagram_frame]
@[simp] theorem State.sendDatagram_house (s : State) (d : EthPeer) (ws : List Word) : (s.sendDatagram d ws).house = s.house := by rw [State.sendDatagram_frame]
@[simp] theorem State.sendDatagram_test (s : State) (d : EthPeer) (ws : List Word) : (s.sendDatagram d ws).test = s.test := by rw [State.sendDatagram_frame]
@[simp] theorem State.sendDatagram_window (s : State) (d : EthPeer) (ws : List Word) : (s.sendDatagram d ws).window = s.window := by rw [State.sendDatagram_frame]
@[simp] theorem State.sendDatagram_vatMem (s : State) (d : EthPeer) (ws : List Word) : (s.sendDatagram d ws).vatMem = s.vatMem := by rw [State.sendDatagram_frame]
@[simp] theorem State.sendDatagram_flash (s : State) (d : EthPeer) (ws : List Word) : (s.sendDatagram d ws).flash = s.flash := by rw [State.sendDatagram_frame]
@[simp] theorem State.sendDatagram_ramImage (s : State) (d : EthPeer) (ws : List Word) : (s.sendDatagram d ws).ramImage = s.ramImage := by rw [State.sendDatagram_frame]
@[simp] theorem State.sendDatagram_ctrlA (s : State) (d : EthPeer) (ws : List Word) : (s.sendDatagram d ws).ctrlA = s.ctrlA := by rw [State.sendDatagram_frame]
@[simp] theorem State.sendDatagram_ctrlB (s : State) (d : EthPeer) (ws : List Word) : (s.sendDatagram d ws).ctrlB = s.ctrlB := by rw [State.sendDatagram_frame]
@[simp] theorem State.sendDatagram_free (s : State) (d : EthPeer) (ws : List Word) : (s.sendDatagram d ws).free = s.free := by rw [State.sendDatagram_frame]
@[simp] theorem State.sendDatagram_pending (s : State) (d : EthPeer) (ws : List Word) : (s.sendDatagram d ws).pending = s.pending := by rw [State.sendDatagram_frame]

/-- One port's notices, its lost-notice counter, or a datagram. -/
theorem State.notifyPort_frame (s : State) (p block code : Nat) (w : Word) (ct : CT) :
    s.notifyPort p block code w ct = { s with ports := (s.notifyPort p block code w ct).ports, csr := (s.notifyPort p block code w ct).csr, out := (s.notifyPort p block code w ct).out } := by
  simp only [State.notifyPort]
  repeat' (first | rfl | split)
@[simp] theorem State.notifyPort_fuses (s : State) (p block code : Nat) (w : Word) (ct : CT) : (s.notifyPort p block code w ct).fuses = s.fuses := by rw [State.notifyPort_frame]
@[simp] theorem State.notifyPort_straps (s : State) (p block code : Nat) (w : Word) (ct : CT) : (s.notifyPort p block code w ct).straps = s.straps := by rw [State.notifyPort_frame]
@[simp] theorem State.notifyPort_power (s : State) (p block code : Nat) (w : Word) (ct : CT) : (s.notifyPort p block code w ct).power = s.power := by rw [State.notifyPort_frame]
@[simp] theorem State.notifyPort_clocks (s : State) (p block code : Nat) (w : Word) (ct : CT) : (s.notifyPort p block code w ct).clocks = s.clocks := by rw [State.notifyPort_frame]
@[simp] theorem State.notifyPort_boot (s : State) (p block code : Nat) (w : Word) (ct : CT) : (s.notifyPort p block code w ct).boot = s.boot := by rw [State.notifyPort_frame]
@[simp] theorem State.notifyPort_pair (s : State) (p block code : Nat) (w : Word) (ct : CT) : (s.notifyPort p block code w ct).pair = s.pair := by rw [State.notifyPort_frame]
@[simp] theorem State.notifyPort_time (s : State) (p block code : Nat) (w : Word) (ct : CT) : (s.notifyPort p block code w ct).time = s.time := by rw [State.notifyPort_frame]
@[simp] theorem State.notifyPort_sched (s : State) (p block code : Nat) (w : Word) (ct : CT) : (s.notifyPort p block code w ct).sched = s.sched := by rw [State.notifyPort_frame]
@[simp] theorem State.notifyPort_merge (s : State) (p block code : Nat) (w : Word) (ct : CT) : (s.notifyPort p block code w ct).merge = s.merge := by rw [State.notifyPort_frame]
@[simp] theorem State.notifyPort_chans (s : State) (p block code : Nat) (w : Word) (ct : CT) : (s.notifyPort p block code w ct).chans = s.chans := by rw [State.notifyPort_frame]
@[simp] theorem State.notifyPort_hits (s : State) (p block code : Nat) (w : Word) (ct : CT) : (s.notifyPort p block code w ct).hits = s.hits := by rw [State.notifyPort_frame]
@[simp] theorem State.notifyPort_rennet (s : State) (p block code : Nat) (w : Word) (ct : CT) : (s.notifyPort p block code w ct).rennet = s.rennet := by rw [State.notifyPort_frame]
@[simp] theorem State.notifyPort_engines (s : State) (p block code : Nat) (w : Word) (ct : CT) : (s.notifyPort p block code w ct).engines = s.engines := by rw [State.notifyPort_frame]
@[simp] theorem State.notifyPort_fx (s : State) (p block code : Nat) (w : Word) (ct : CT) : (s.notifyPort p block code w ct).fx = s.fx := by rw [State.notifyPort_frame]
@[simp] theorem State.notifyPort_vat (s : State) (p block code : Nat) (w : Word) (ct : CT) : (s.notifyPort p block code w ct).vat = s.vat := by rw [State.notifyPort_frame]
@[simp] theorem State.notifyPort_press (s : State) (p block code : Nat) (w : Word) (ct : CT) : (s.notifyPort p block code w ct).press = s.press := by rw [State.notifyPort_frame]
@[simp] theorem State.notifyPort_link (s : State) (p block code : Nat) (w : Word) (ct : CT) : (s.notifyPort p block code w ct).link = s.link := by rw [State.notifyPort_frame]
@[simp] theorem State.notifyPort_uplink (s : State) (p block code : Nat) (w : Word) (ct : CT) : (s.notifyPort p block code w ct).uplink = s.uplink := by rw [State.notifyPort_frame]
@[simp] theorem State.notifyPort_house (s : State) (p block code : Nat) (w : Word) (ct : CT) : (s.notifyPort p block code w ct).house = s.house := by rw [State.notifyPort_frame]
@[simp] theorem State.notifyPort_test (s : State) (p block code : Nat) (w : Word) (ct : CT) : (s.notifyPort p block code w ct).test = s.test := by rw [State.notifyPort_frame]
@[simp] theorem State.notifyPort_window (s : State) (p block code : Nat) (w : Word) (ct : CT) : (s.notifyPort p block code w ct).window = s.window := by rw [State.notifyPort_frame]
@[simp] theorem State.notifyPort_vatMem (s : State) (p block code : Nat) (w : Word) (ct : CT) : (s.notifyPort p block code w ct).vatMem = s.vatMem := by rw [State.notifyPort_frame]
@[simp] theorem State.notifyPort_flash (s : State) (p block code : Nat) (w : Word) (ct : CT) : (s.notifyPort p block code w ct).flash = s.flash := by rw [State.notifyPort_frame]
@[simp] theorem State.notifyPort_ramImage (s : State) (p block code : Nat) (w : Word) (ct : CT) : (s.notifyPort p block code w ct).ramImage = s.ramImage := by rw [State.notifyPort_frame]
@[simp] theorem State.notifyPort_ctrlA (s : State) (p block code : Nat) (w : Word) (ct : CT) : (s.notifyPort p block code w ct).ctrlA = s.ctrlA := by rw [State.notifyPort_frame]
@[simp] theorem State.notifyPort_ctrlB (s : State) (p block code : Nat) (w : Word) (ct : CT) : (s.notifyPort p block code w ct).ctrlB = s.ctrlB := by rw [State.notifyPort_frame]
@[simp] theorem State.notifyPort_free (s : State) (p block code : Nat) (w : Word) (ct : CT) : (s.notifyPort p block code w ct).free = s.free := by rw [State.notifyPort_frame]
@[simp] theorem State.notifyPort_pending (s : State) (p block code : Nat) (w : Word) (ct : CT) : (s.notifyPort p block code w ct).pending = s.pending := by rw [State.notifyPort_frame]

/-- The notices of some ports in turn. -/
theorem State.notifyPort_fold (block code : Nat) (w : Word) (ct : CT) (ps : List Nat) : ∀ s : State,
    ps.foldl (fun s p => s.notifyPort p block code w ct) s =
      { s with ports := (ps.foldl (fun s p => s.notifyPort p block code w ct) s).ports,
               csr := (ps.foldl (fun s p => s.notifyPort p block code w ct) s).csr,
               out := (ps.foldl (fun s p => s.notifyPort p block code w ct) s).out } := by
  induction ps with
  | nil => intro s; rfl
  | cons p ps ih =>
    intro s
    simp only [List.foldl_cons]
    generalize hu : ps.foldl (fun s p => s.notifyPort p block code w ct) (s.notifyPort p block code w ct) = u
    have e := ih (s.notifyPort p block code w ct)
    rw [hu] at e
    rw [e, State.notifyPort_frame]

/-- An event occurrence for some ports: it reaches them, or waits for the output gate. -/
theorem State.notifyPorts_frame (s : State) (ps : List Nat) (block code : Nat) (w : Word) :
    s.notifyPorts ps block code w = { s with ports := (s.notifyPorts ps block code w).ports, csr := (s.notifyPorts ps block code w).csr, pair := (s.notifyPorts ps block code w).pair, out := (s.notifyPorts ps block code w).out } := by
  simp only [State.notifyPorts]
  split
  · rw [State.notifyPort_fold]
  · rfl
@[simp] theorem State.notifyPorts_fuses (s : State) (ps : List Nat) (block code : Nat) (w : Word) : (s.notifyPorts ps block code w).fuses = s.fuses := by rw [State.notifyPorts_frame]
@[simp] theorem State.notifyPorts_straps (s : State) (ps : List Nat) (block code : Nat) (w : Word) : (s.notifyPorts ps block code w).straps = s.straps := by rw [State.notifyPorts_frame]
@[simp] theorem State.notifyPorts_power (s : State) (ps : List Nat) (block code : Nat) (w : Word) : (s.notifyPorts ps block code w).power = s.power := by rw [State.notifyPorts_frame]
@[simp] theorem State.notifyPorts_clocks (s : State) (ps : List Nat) (block code : Nat) (w : Word) : (s.notifyPorts ps block code w).clocks = s.clocks := by rw [State.notifyPorts_frame]
@[simp] theorem State.notifyPorts_boot (s : State) (ps : List Nat) (block code : Nat) (w : Word) : (s.notifyPorts ps block code w).boot = s.boot := by rw [State.notifyPorts_frame]
@[simp] theorem State.notifyPorts_time (s : State) (ps : List Nat) (block code : Nat) (w : Word) : (s.notifyPorts ps block code w).time = s.time := by rw [State.notifyPorts_frame]
@[simp] theorem State.notifyPorts_sched (s : State) (ps : List Nat) (block code : Nat) (w : Word) : (s.notifyPorts ps block code w).sched = s.sched := by rw [State.notifyPorts_frame]
@[simp] theorem State.notifyPorts_merge (s : State) (ps : List Nat) (block code : Nat) (w : Word) : (s.notifyPorts ps block code w).merge = s.merge := by rw [State.notifyPorts_frame]
@[simp] theorem State.notifyPorts_chans (s : State) (ps : List Nat) (block code : Nat) (w : Word) : (s.notifyPorts ps block code w).chans = s.chans := by rw [State.notifyPorts_frame]
@[simp] theorem State.notifyPorts_hits (s : State) (ps : List Nat) (block code : Nat) (w : Word) : (s.notifyPorts ps block code w).hits = s.hits := by rw [State.notifyPorts_frame]
@[simp] theorem State.notifyPorts_rennet (s : State) (ps : List Nat) (block code : Nat) (w : Word) : (s.notifyPorts ps block code w).rennet = s.rennet := by rw [State.notifyPorts_frame]
@[simp] theorem State.notifyPorts_engines (s : State) (ps : List Nat) (block code : Nat) (w : Word) : (s.notifyPorts ps block code w).engines = s.engines := by rw [State.notifyPorts_frame]
@[simp] theorem State.notifyPorts_fx (s : State) (ps : List Nat) (block code : Nat) (w : Word) : (s.notifyPorts ps block code w).fx = s.fx := by rw [State.notifyPorts_frame]
@[simp] theorem State.notifyPorts_vat (s : State) (ps : List Nat) (block code : Nat) (w : Word) : (s.notifyPorts ps block code w).vat = s.vat := by rw [State.notifyPorts_frame]
@[simp] theorem State.notifyPorts_press (s : State) (ps : List Nat) (block code : Nat) (w : Word) : (s.notifyPorts ps block code w).press = s.press := by rw [State.notifyPorts_frame]
@[simp] theorem State.notifyPorts_link (s : State) (ps : List Nat) (block code : Nat) (w : Word) : (s.notifyPorts ps block code w).link = s.link := by rw [State.notifyPorts_frame]
@[simp] theorem State.notifyPorts_uplink (s : State) (ps : List Nat) (block code : Nat) (w : Word) : (s.notifyPorts ps block code w).uplink = s.uplink := by rw [State.notifyPorts_frame]
@[simp] theorem State.notifyPorts_house (s : State) (ps : List Nat) (block code : Nat) (w : Word) : (s.notifyPorts ps block code w).house = s.house := by rw [State.notifyPorts_frame]
@[simp] theorem State.notifyPorts_test (s : State) (ps : List Nat) (block code : Nat) (w : Word) : (s.notifyPorts ps block code w).test = s.test := by rw [State.notifyPorts_frame]
@[simp] theorem State.notifyPorts_window (s : State) (ps : List Nat) (block code : Nat) (w : Word) : (s.notifyPorts ps block code w).window = s.window := by rw [State.notifyPorts_frame]
@[simp] theorem State.notifyPorts_vatMem (s : State) (ps : List Nat) (block code : Nat) (w : Word) : (s.notifyPorts ps block code w).vatMem = s.vatMem := by rw [State.notifyPorts_frame]
@[simp] theorem State.notifyPorts_flash (s : State) (ps : List Nat) (block code : Nat) (w : Word) : (s.notifyPorts ps block code w).flash = s.flash := by rw [State.notifyPorts_frame]
@[simp] theorem State.notifyPorts_ramImage (s : State) (ps : List Nat) (block code : Nat) (w : Word) : (s.notifyPorts ps block code w).ramImage = s.ramImage := by rw [State.notifyPorts_frame]
@[simp] theorem State.notifyPorts_ctrlA (s : State) (ps : List Nat) (block code : Nat) (w : Word) : (s.notifyPorts ps block code w).ctrlA = s.ctrlA := by rw [State.notifyPorts_frame]
@[simp] theorem State.notifyPorts_ctrlB (s : State) (ps : List Nat) (block code : Nat) (w : Word) : (s.notifyPorts ps block code w).ctrlB = s.ctrlB := by rw [State.notifyPorts_frame]
@[simp] theorem State.notifyPorts_free (s : State) (ps : List Nat) (block code : Nat) (w : Word) : (s.notifyPorts ps block code w).free = s.free := by rw [State.notifyPorts_frame]
@[simp] theorem State.notifyPorts_pending (s : State) (ps : List Nat) (block code : Nat) (w : Word) : (s.notifyPorts ps block code w).pending = s.pending := by rw [State.notifyPorts_frame]

/-- An event occurrence reaches the ports that subscribe to its block. -/
theorem State.notify_frame (s : State) (block code : Nat) (w : Word) :
    s.notify block code w = { s with ports := (s.notify block code w).ports, csr := (s.notify block code w).csr, pair := (s.notify block code w).pair, out := (s.notify block code w).out } := by
  unfold State.notify
  split
  · rfl
  · rw [State.notifyPorts_frame]
@[simp] theorem State.notify_fuses (s : State) (block code : Nat) (w : Word) : (s.notify block code w).fuses = s.fuses := by rw [State.notify_frame]
@[simp] theorem State.notify_straps (s : State) (block code : Nat) (w : Word) : (s.notify block code w).straps = s.straps := by rw [State.notify_frame]
@[simp] theorem State.notify_power (s : State) (block code : Nat) (w : Word) : (s.notify block code w).power = s.power := by rw [State.notify_frame]
@[simp] theorem State.notify_clocks (s : State) (block code : Nat) (w : Word) : (s.notify block code w).clocks = s.clocks := by rw [State.notify_frame]
@[simp] theorem State.notify_boot (s : State) (block code : Nat) (w : Word) : (s.notify block code w).boot = s.boot := by rw [State.notify_frame]
@[simp] theorem State.notify_time (s : State) (block code : Nat) (w : Word) : (s.notify block code w).time = s.time := by rw [State.notify_frame]
@[simp] theorem State.notify_sched (s : State) (block code : Nat) (w : Word) : (s.notify block code w).sched = s.sched := by rw [State.notify_frame]
@[simp] theorem State.notify_merge (s : State) (block code : Nat) (w : Word) : (s.notify block code w).merge = s.merge := by rw [State.notify_frame]
@[simp] theorem State.notify_chans (s : State) (block code : Nat) (w : Word) : (s.notify block code w).chans = s.chans := by rw [State.notify_frame]
@[simp] theorem State.notify_hits (s : State) (block code : Nat) (w : Word) : (s.notify block code w).hits = s.hits := by rw [State.notify_frame]
@[simp] theorem State.notify_rennet (s : State) (block code : Nat) (w : Word) : (s.notify block code w).rennet = s.rennet := by rw [State.notify_frame]
@[simp] theorem State.notify_engines (s : State) (block code : Nat) (w : Word) : (s.notify block code w).engines = s.engines := by rw [State.notify_frame]
@[simp] theorem State.notify_fx (s : State) (block code : Nat) (w : Word) : (s.notify block code w).fx = s.fx := by rw [State.notify_frame]
@[simp] theorem State.notify_vat (s : State) (block code : Nat) (w : Word) : (s.notify block code w).vat = s.vat := by rw [State.notify_frame]
@[simp] theorem State.notify_press (s : State) (block code : Nat) (w : Word) : (s.notify block code w).press = s.press := by rw [State.notify_frame]
@[simp] theorem State.notify_link (s : State) (block code : Nat) (w : Word) : (s.notify block code w).link = s.link := by rw [State.notify_frame]
@[simp] theorem State.notify_uplink (s : State) (block code : Nat) (w : Word) : (s.notify block code w).uplink = s.uplink := by rw [State.notify_frame]
@[simp] theorem State.notify_house (s : State) (block code : Nat) (w : Word) : (s.notify block code w).house = s.house := by rw [State.notify_frame]
@[simp] theorem State.notify_test (s : State) (block code : Nat) (w : Word) : (s.notify block code w).test = s.test := by rw [State.notify_frame]
@[simp] theorem State.notify_window (s : State) (block code : Nat) (w : Word) : (s.notify block code w).window = s.window := by rw [State.notify_frame]
@[simp] theorem State.notify_vatMem (s : State) (block code : Nat) (w : Word) : (s.notify block code w).vatMem = s.vatMem := by rw [State.notify_frame]
@[simp] theorem State.notify_flash (s : State) (block code : Nat) (w : Word) : (s.notify block code w).flash = s.flash := by rw [State.notify_frame]
@[simp] theorem State.notify_ramImage (s : State) (block code : Nat) (w : Word) : (s.notify block code w).ramImage = s.ramImage := by rw [State.notify_frame]
@[simp] theorem State.notify_ctrlA (s : State) (block code : Nat) (w : Word) : (s.notify block code w).ctrlA = s.ctrlA := by rw [State.notify_frame]
@[simp] theorem State.notify_ctrlB (s : State) (block code : Nat) (w : Word) : (s.notify block code w).ctrlB = s.ctrlB := by rw [State.notify_frame]
@[simp] theorem State.notify_free (s : State) (block code : Nat) (w : Word) : (s.notify block code w).free = s.free := by rw [State.notify_frame]
@[simp] theorem State.notify_pending (s : State) (block code : Nat) (w : Word) : (s.notify block code w).pending = s.pending := by rw [State.notify_frame]

/-- An event sets its bit and reaches the ports. -/
theorem State.raise_frame (s : State) (block code : Nat) (w : Word) :
    s.raise block code w = { s with ports := (s.raise block code w).ports, csr := (s.raise block code w).csr, pair := (s.raise block code w).pair, out := (s.raise block code w).out } := by
  unfold State.raise
  rw [State.notify_frame]
  cases eventReg block code <;> rfl
@[simp] theorem State.raise_fuses (s : State) (block code : Nat) (w : Word) : (s.raise block code w).fuses = s.fuses := by rw [State.raise_frame]
@[simp] theorem State.raise_straps (s : State) (block code : Nat) (w : Word) : (s.raise block code w).straps = s.straps := by rw [State.raise_frame]
@[simp] theorem State.raise_power (s : State) (block code : Nat) (w : Word) : (s.raise block code w).power = s.power := by rw [State.raise_frame]
@[simp] theorem State.raise_clocks (s : State) (block code : Nat) (w : Word) : (s.raise block code w).clocks = s.clocks := by rw [State.raise_frame]
@[simp] theorem State.raise_boot (s : State) (block code : Nat) (w : Word) : (s.raise block code w).boot = s.boot := by rw [State.raise_frame]
@[simp] theorem State.raise_time (s : State) (block code : Nat) (w : Word) : (s.raise block code w).time = s.time := by rw [State.raise_frame]
@[simp] theorem State.raise_sched (s : State) (block code : Nat) (w : Word) : (s.raise block code w).sched = s.sched := by rw [State.raise_frame]
@[simp] theorem State.raise_merge (s : State) (block code : Nat) (w : Word) : (s.raise block code w).merge = s.merge := by rw [State.raise_frame]
@[simp] theorem State.raise_chans (s : State) (block code : Nat) (w : Word) : (s.raise block code w).chans = s.chans := by rw [State.raise_frame]
@[simp] theorem State.raise_hits (s : State) (block code : Nat) (w : Word) : (s.raise block code w).hits = s.hits := by rw [State.raise_frame]
@[simp] theorem State.raise_rennet (s : State) (block code : Nat) (w : Word) : (s.raise block code w).rennet = s.rennet := by rw [State.raise_frame]
@[simp] theorem State.raise_engines (s : State) (block code : Nat) (w : Word) : (s.raise block code w).engines = s.engines := by rw [State.raise_frame]
@[simp] theorem State.raise_fx (s : State) (block code : Nat) (w : Word) : (s.raise block code w).fx = s.fx := by rw [State.raise_frame]
@[simp] theorem State.raise_vat (s : State) (block code : Nat) (w : Word) : (s.raise block code w).vat = s.vat := by rw [State.raise_frame]
@[simp] theorem State.raise_press (s : State) (block code : Nat) (w : Word) : (s.raise block code w).press = s.press := by rw [State.raise_frame]
@[simp] theorem State.raise_link (s : State) (block code : Nat) (w : Word) : (s.raise block code w).link = s.link := by rw [State.raise_frame]
@[simp] theorem State.raise_uplink (s : State) (block code : Nat) (w : Word) : (s.raise block code w).uplink = s.uplink := by rw [State.raise_frame]
@[simp] theorem State.raise_house (s : State) (block code : Nat) (w : Word) : (s.raise block code w).house = s.house := by rw [State.raise_frame]
@[simp] theorem State.raise_test (s : State) (block code : Nat) (w : Word) : (s.raise block code w).test = s.test := by rw [State.raise_frame]
@[simp] theorem State.raise_window (s : State) (block code : Nat) (w : Word) : (s.raise block code w).window = s.window := by rw [State.raise_frame]
@[simp] theorem State.raise_vatMem (s : State) (block code : Nat) (w : Word) : (s.raise block code w).vatMem = s.vatMem := by rw [State.raise_frame]
@[simp] theorem State.raise_flash (s : State) (block code : Nat) (w : Word) : (s.raise block code w).flash = s.flash := by rw [State.raise_frame]
@[simp] theorem State.raise_ramImage (s : State) (block code : Nat) (w : Word) : (s.raise block code w).ramImage = s.ramImage := by rw [State.raise_frame]
@[simp] theorem State.raise_ctrlA (s : State) (block code : Nat) (w : Word) : (s.raise block code w).ctrlA = s.ctrlA := by rw [State.raise_frame]
@[simp] theorem State.raise_ctrlB (s : State) (block code : Nat) (w : Word) : (s.raise block code w).ctrlB = s.ctrlB := by rw [State.raise_frame]
@[simp] theorem State.raise_free (s : State) (block code : Nat) (w : Word) : (s.raise block code w).free = s.free := by rw [State.raise_frame]
@[simp] theorem State.raise_pending (s : State) (block code : Nat) (w : Word) : (s.raise block code w).pending = s.pending := by rw [State.raise_frame]

/-- A counter that saturates may be noticed. -/
theorem State.bump_frame (s : State) (a n : Nat) :
    s.bump a n = { s with ports := (s.bump a n).ports, csr := (s.bump a n).csr, pair := (s.bump a n).pair, out := (s.bump a n).out } := by
  simp only [State.bump]
  split
  · rw [State.notify_frame]; rfl
  · rfl
@[simp] theorem State.bump_fuses (s : State) (a n : Nat) : (s.bump a n).fuses = s.fuses := by rw [State.bump_frame]
@[simp] theorem State.bump_straps (s : State) (a n : Nat) : (s.bump a n).straps = s.straps := by rw [State.bump_frame]
@[simp] theorem State.bump_power (s : State) (a n : Nat) : (s.bump a n).power = s.power := by rw [State.bump_frame]
@[simp] theorem State.bump_clocks (s : State) (a n : Nat) : (s.bump a n).clocks = s.clocks := by rw [State.bump_frame]
@[simp] theorem State.bump_boot (s : State) (a n : Nat) : (s.bump a n).boot = s.boot := by rw [State.bump_frame]
@[simp] theorem State.bump_time (s : State) (a n : Nat) : (s.bump a n).time = s.time := by rw [State.bump_frame]
@[simp] theorem State.bump_sched (s : State) (a n : Nat) : (s.bump a n).sched = s.sched := by rw [State.bump_frame]
@[simp] theorem State.bump_merge (s : State) (a n : Nat) : (s.bump a n).merge = s.merge := by rw [State.bump_frame]
@[simp] theorem State.bump_chans (s : State) (a n : Nat) : (s.bump a n).chans = s.chans := by rw [State.bump_frame]
@[simp] theorem State.bump_hits (s : State) (a n : Nat) : (s.bump a n).hits = s.hits := by rw [State.bump_frame]
@[simp] theorem State.bump_rennet (s : State) (a n : Nat) : (s.bump a n).rennet = s.rennet := by rw [State.bump_frame]
@[simp] theorem State.bump_engines (s : State) (a n : Nat) : (s.bump a n).engines = s.engines := by rw [State.bump_frame]
@[simp] theorem State.bump_fx (s : State) (a n : Nat) : (s.bump a n).fx = s.fx := by rw [State.bump_frame]
@[simp] theorem State.bump_vat (s : State) (a n : Nat) : (s.bump a n).vat = s.vat := by rw [State.bump_frame]
@[simp] theorem State.bump_press (s : State) (a n : Nat) : (s.bump a n).press = s.press := by rw [State.bump_frame]
@[simp] theorem State.bump_link (s : State) (a n : Nat) : (s.bump a n).link = s.link := by rw [State.bump_frame]
@[simp] theorem State.bump_uplink (s : State) (a n : Nat) : (s.bump a n).uplink = s.uplink := by rw [State.bump_frame]
@[simp] theorem State.bump_house (s : State) (a n : Nat) : (s.bump a n).house = s.house := by rw [State.bump_frame]
@[simp] theorem State.bump_test (s : State) (a n : Nat) : (s.bump a n).test = s.test := by rw [State.bump_frame]
@[simp] theorem State.bump_window (s : State) (a n : Nat) : (s.bump a n).window = s.window := by rw [State.bump_frame]
@[simp] theorem State.bump_vatMem (s : State) (a n : Nat) : (s.bump a n).vatMem = s.vatMem := by rw [State.bump_frame]
@[simp] theorem State.bump_flash (s : State) (a n : Nat) : (s.bump a n).flash = s.flash := by rw [State.bump_frame]
@[simp] theorem State.bump_ramImage (s : State) (a n : Nat) : (s.bump a n).ramImage = s.ramImage := by rw [State.bump_frame]
@[simp] theorem State.bump_ctrlA (s : State) (a n : Nat) : (s.bump a n).ctrlA = s.ctrlA := by rw [State.bump_frame]
@[simp] theorem State.bump_ctrlB (s : State) (a n : Nat) : (s.bump a n).ctrlB = s.ctrlB := by rw [State.bump_frame]
@[simp] theorem State.bump_free (s : State) (a n : Nat) : (s.bump a n).free = s.free := by rw [State.bump_frame]
@[simp] theorem State.bump_pending (s : State) (a n : Nat) : (s.bump a n).pending = s.pending := by rw [State.bump_frame]

/-- A carriage curd waits on its lane. -/
theorem State.pushCarriage_frame (s : State) (lane type part parts count : Nat) (ws : List Word) :
    s.pushCarriage lane type part parts count ws = { s with sched := (s.pushCarriage lane type part parts count ws).sched, link := (s.pushCarriage lane type part parts count ws).link } := by
  rfl
@[simp] theorem State.pushCarriage_fuses (s : State) (lane type part parts count : Nat) (ws : List Word) : (s.pushCarriage lane type part parts count ws).fuses = s.fuses := by rw [State.pushCarriage_frame]
@[simp] theorem State.pushCarriage_straps (s : State) (lane type part parts count : Nat) (ws : List Word) : (s.pushCarriage lane type part parts count ws).straps = s.straps := by rw [State.pushCarriage_frame]
@[simp] theorem State.pushCarriage_power (s : State) (lane type part parts count : Nat) (ws : List Word) : (s.pushCarriage lane type part parts count ws).power = s.power := by rw [State.pushCarriage_frame]
@[simp] theorem State.pushCarriage_clocks (s : State) (lane type part parts count : Nat) (ws : List Word) : (s.pushCarriage lane type part parts count ws).clocks = s.clocks := by rw [State.pushCarriage_frame]
@[simp] theorem State.pushCarriage_boot (s : State) (lane type part parts count : Nat) (ws : List Word) : (s.pushCarriage lane type part parts count ws).boot = s.boot := by rw [State.pushCarriage_frame]
@[simp] theorem State.pushCarriage_ports (s : State) (lane type part parts count : Nat) (ws : List Word) : (s.pushCarriage lane type part parts count ws).ports = s.ports := by rw [State.pushCarriage_frame]
@[simp] theorem State.pushCarriage_pair (s : State) (lane type part parts count : Nat) (ws : List Word) : (s.pushCarriage lane type part parts count ws).pair = s.pair := by rw [State.pushCarriage_frame]
@[simp] theorem State.pushCarriage_csr (s : State) (lane type part parts count : Nat) (ws : List Word) : (s.pushCarriage lane type part parts count ws).csr = s.csr := by rw [State.pushCarriage_frame]
@[simp] theorem State.pushCarriage_time (s : State) (lane type part parts count : Nat) (ws : List Word) : (s.pushCarriage lane type part parts count ws).time = s.time := by rw [State.pushCarriage_frame]
@[simp] theorem State.pushCarriage_merge (s : State) (lane type part parts count : Nat) (ws : List Word) : (s.pushCarriage lane type part parts count ws).merge = s.merge := by rw [State.pushCarriage_frame]
@[simp] theorem State.pushCarriage_chans (s : State) (lane type part parts count : Nat) (ws : List Word) : (s.pushCarriage lane type part parts count ws).chans = s.chans := by rw [State.pushCarriage_frame]
@[simp] theorem State.pushCarriage_hits (s : State) (lane type part parts count : Nat) (ws : List Word) : (s.pushCarriage lane type part parts count ws).hits = s.hits := by rw [State.pushCarriage_frame]
@[simp] theorem State.pushCarriage_rennet (s : State) (lane type part parts count : Nat) (ws : List Word) : (s.pushCarriage lane type part parts count ws).rennet = s.rennet := by rw [State.pushCarriage_frame]
@[simp] theorem State.pushCarriage_engines (s : State) (lane type part parts count : Nat) (ws : List Word) : (s.pushCarriage lane type part parts count ws).engines = s.engines := by rw [State.pushCarriage_frame]
@[simp] theorem State.pushCarriage_fx (s : State) (lane type part parts count : Nat) (ws : List Word) : (s.pushCarriage lane type part parts count ws).fx = s.fx := by rw [State.pushCarriage_frame]
@[simp] theorem State.pushCarriage_vat (s : State) (lane type part parts count : Nat) (ws : List Word) : (s.pushCarriage lane type part parts count ws).vat = s.vat := by rw [State.pushCarriage_frame]
@[simp] theorem State.pushCarriage_press (s : State) (lane type part parts count : Nat) (ws : List Word) : (s.pushCarriage lane type part parts count ws).press = s.press := by rw [State.pushCarriage_frame]
@[simp] theorem State.pushCarriage_uplink (s : State) (lane type part parts count : Nat) (ws : List Word) : (s.pushCarriage lane type part parts count ws).uplink = s.uplink := by rw [State.pushCarriage_frame]
@[simp] theorem State.pushCarriage_house (s : State) (lane type part parts count : Nat) (ws : List Word) : (s.pushCarriage lane type part parts count ws).house = s.house := by rw [State.pushCarriage_frame]
@[simp] theorem State.pushCarriage_test (s : State) (lane type part parts count : Nat) (ws : List Word) : (s.pushCarriage lane type part parts count ws).test = s.test := by rw [State.pushCarriage_frame]
@[simp] theorem State.pushCarriage_window (s : State) (lane type part parts count : Nat) (ws : List Word) : (s.pushCarriage lane type part parts count ws).window = s.window := by rw [State.pushCarriage_frame]
@[simp] theorem State.pushCarriage_vatMem (s : State) (lane type part parts count : Nat) (ws : List Word) : (s.pushCarriage lane type part parts count ws).vatMem = s.vatMem := by rw [State.pushCarriage_frame]
@[simp] theorem State.pushCarriage_flash (s : State) (lane type part parts count : Nat) (ws : List Word) : (s.pushCarriage lane type part parts count ws).flash = s.flash := by rw [State.pushCarriage_frame]
@[simp] theorem State.pushCarriage_ramImage (s : State) (lane type part parts count : Nat) (ws : List Word) : (s.pushCarriage lane type part parts count ws).ramImage = s.ramImage := by rw [State.pushCarriage_frame]
@[simp] theorem State.pushCarriage_ctrlA (s : State) (lane type part parts count : Nat) (ws : List Word) : (s.pushCarriage lane type part parts count ws).ctrlA = s.ctrlA := by rw [State.pushCarriage_frame]
@[simp] theorem State.pushCarriage_ctrlB (s : State) (lane type part parts count : Nat) (ws : List Word) : (s.pushCarriage lane type part parts count ws).ctrlB = s.ctrlB := by rw [State.pushCarriage_frame]
@[simp] theorem State.pushCarriage_out (s : State) (lane type part parts count : Nat) (ws : List Word) : (s.pushCarriage lane type part parts count ws).out = s.out := by rw [State.pushCarriage_frame]
@[simp] theorem State.pushCarriage_free (s : State) (lane type part parts count : Nat) (ws : List Word) : (s.pushCarriage lane type part parts count ws).free = s.free := by rw [State.pushCarriage_frame]
@[simp] theorem State.pushCarriage_pending (s : State) (lane type part parts count : Nat) (ws : List Word) : (s.pushCarriage lane type part parts count ws).pending = s.pending := by rw [State.pushCarriage_frame]

/-- A packet in one or two carriage curds. -/
theorem State.sendCarriage_frame (s : State) (lane type : Nat) (ws : List Word) :
    s.sendCarriage lane type ws = { s with sched := (s.sendCarriage lane type ws).sched, link := (s.sendCarriage lane type ws).link } := by
  unfold State.sendCarriage
  split
  · rw [State.pushCarriage_frame]
  · rw [State.pushCarriage_frame, State.pushCarriage_frame]
@[simp] theorem State.sendCarriage_fuses (s : State) (lane type : Nat) (ws : List Word) : (s.sendCarriage lane type ws).fuses = s.fuses := by rw [State.sendCarriage_frame]
@[simp] theorem State.sendCarriage_straps (s : State) (lane type : Nat) (ws : List Word) : (s.sendCarriage lane type ws).straps = s.straps := by rw [State.sendCarriage_frame]
@[simp] theorem State.sendCarriage_power (s : State) (lane type : Nat) (ws : List Word) : (s.sendCarriage lane type ws).power = s.power := by rw [State.sendCarriage_frame]
@[simp] theorem State.sendCarriage_clocks (s : State) (lane type : Nat) (ws : List Word) : (s.sendCarriage lane type ws).clocks = s.clocks := by rw [State.sendCarriage_frame]
@[simp] theorem State.sendCarriage_boot (s : State) (lane type : Nat) (ws : List Word) : (s.sendCarriage lane type ws).boot = s.boot := by rw [State.sendCarriage_frame]
@[simp] theorem State.sendCarriage_ports (s : State) (lane type : Nat) (ws : List Word) : (s.sendCarriage lane type ws).ports = s.ports := by rw [State.sendCarriage_frame]
@[simp] theorem State.sendCarriage_pair (s : State) (lane type : Nat) (ws : List Word) : (s.sendCarriage lane type ws).pair = s.pair := by rw [State.sendCarriage_frame]
@[simp] theorem State.sendCarriage_csr (s : State) (lane type : Nat) (ws : List Word) : (s.sendCarriage lane type ws).csr = s.csr := by rw [State.sendCarriage_frame]
@[simp] theorem State.sendCarriage_time (s : State) (lane type : Nat) (ws : List Word) : (s.sendCarriage lane type ws).time = s.time := by rw [State.sendCarriage_frame]
@[simp] theorem State.sendCarriage_merge (s : State) (lane type : Nat) (ws : List Word) : (s.sendCarriage lane type ws).merge = s.merge := by rw [State.sendCarriage_frame]
@[simp] theorem State.sendCarriage_chans (s : State) (lane type : Nat) (ws : List Word) : (s.sendCarriage lane type ws).chans = s.chans := by rw [State.sendCarriage_frame]
@[simp] theorem State.sendCarriage_hits (s : State) (lane type : Nat) (ws : List Word) : (s.sendCarriage lane type ws).hits = s.hits := by rw [State.sendCarriage_frame]
@[simp] theorem State.sendCarriage_rennet (s : State) (lane type : Nat) (ws : List Word) : (s.sendCarriage lane type ws).rennet = s.rennet := by rw [State.sendCarriage_frame]
@[simp] theorem State.sendCarriage_engines (s : State) (lane type : Nat) (ws : List Word) : (s.sendCarriage lane type ws).engines = s.engines := by rw [State.sendCarriage_frame]
@[simp] theorem State.sendCarriage_fx (s : State) (lane type : Nat) (ws : List Word) : (s.sendCarriage lane type ws).fx = s.fx := by rw [State.sendCarriage_frame]
@[simp] theorem State.sendCarriage_vat (s : State) (lane type : Nat) (ws : List Word) : (s.sendCarriage lane type ws).vat = s.vat := by rw [State.sendCarriage_frame]
@[simp] theorem State.sendCarriage_press (s : State) (lane type : Nat) (ws : List Word) : (s.sendCarriage lane type ws).press = s.press := by rw [State.sendCarriage_frame]
@[simp] theorem State.sendCarriage_uplink (s : State) (lane type : Nat) (ws : List Word) : (s.sendCarriage lane type ws).uplink = s.uplink := by rw [State.sendCarriage_frame]
@[simp] theorem State.sendCarriage_house (s : State) (lane type : Nat) (ws : List Word) : (s.sendCarriage lane type ws).house = s.house := by rw [State.sendCarriage_frame]
@[simp] theorem State.sendCarriage_test (s : State) (lane type : Nat) (ws : List Word) : (s.sendCarriage lane type ws).test = s.test := by rw [State.sendCarriage_frame]
@[simp] theorem State.sendCarriage_window (s : State) (lane type : Nat) (ws : List Word) : (s.sendCarriage lane type ws).window = s.window := by rw [State.sendCarriage_frame]
@[simp] theorem State.sendCarriage_vatMem (s : State) (lane type : Nat) (ws : List Word) : (s.sendCarriage lane type ws).vatMem = s.vatMem := by rw [State.sendCarriage_frame]
@[simp] theorem State.sendCarriage_flash (s : State) (lane type : Nat) (ws : List Word) : (s.sendCarriage lane type ws).flash = s.flash := by rw [State.sendCarriage_frame]
@[simp] theorem State.sendCarriage_ramImage (s : State) (lane type : Nat) (ws : List Word) : (s.sendCarriage lane type ws).ramImage = s.ramImage := by rw [State.sendCarriage_frame]
@[simp] theorem State.sendCarriage_ctrlA (s : State) (lane type : Nat) (ws : List Word) : (s.sendCarriage lane type ws).ctrlA = s.ctrlA := by rw [State.sendCarriage_frame]
@[simp] theorem State.sendCarriage_ctrlB (s : State) (lane type : Nat) (ws : List Word) : (s.sendCarriage lane type ws).ctrlB = s.ctrlB := by rw [State.sendCarriage_frame]
@[simp] theorem State.sendCarriage_out (s : State) (lane type : Nat) (ws : List Word) : (s.sendCarriage lane type ws).out = s.out := by rw [State.sendCarriage_frame]
@[simp] theorem State.sendCarriage_free (s : State) (lane type : Nat) (ws : List Word) : (s.sendCarriage lane type ws).free = s.free := by rw [State.sendCarriage_frame]
@[simp] theorem State.sendCarriage_pending (s : State) (lane type : Nat) (ws : List Word) : (s.sendCarriage lane type ws).pending = s.pending := by rw [State.sendCarriage_frame]

/-- A reply reaches its port. -/
theorem State.deliverNow_frame (s : State) (port lane : Nat) (tag : BitVec 16) (ws : List Word) :
    s.deliverNow port lane tag ws = { s with ports := (s.deliverNow port lane tag ws).ports, csr := (s.deliverNow port lane tag ws).csr, sched := (s.deliverNow port lane tag ws).sched, link := (s.deliverNow port lane tag ws).link, out := (s.deliverNow port lane tag ws).out } := by
  unfold State.deliverNow
  split
  · rw [State.sendCarriage_frame]
  · rw [State.sendCarriage_frame]
  · split
    · rw [State.sendDatagram_frame]
    · rfl
  · rfl
@[simp] theorem State.deliverNow_fuses (s : State) (port lane : Nat) (tag : BitVec 16) (ws : List Word) : (s.deliverNow port lane tag ws).fuses = s.fuses := by rw [State.deliverNow_frame]
@[simp] theorem State.deliverNow_straps (s : State) (port lane : Nat) (tag : BitVec 16) (ws : List Word) : (s.deliverNow port lane tag ws).straps = s.straps := by rw [State.deliverNow_frame]
@[simp] theorem State.deliverNow_power (s : State) (port lane : Nat) (tag : BitVec 16) (ws : List Word) : (s.deliverNow port lane tag ws).power = s.power := by rw [State.deliverNow_frame]
@[simp] theorem State.deliverNow_clocks (s : State) (port lane : Nat) (tag : BitVec 16) (ws : List Word) : (s.deliverNow port lane tag ws).clocks = s.clocks := by rw [State.deliverNow_frame]
@[simp] theorem State.deliverNow_boot (s : State) (port lane : Nat) (tag : BitVec 16) (ws : List Word) : (s.deliverNow port lane tag ws).boot = s.boot := by rw [State.deliverNow_frame]
@[simp] theorem State.deliverNow_pair (s : State) (port lane : Nat) (tag : BitVec 16) (ws : List Word) : (s.deliverNow port lane tag ws).pair = s.pair := by rw [State.deliverNow_frame]
@[simp] theorem State.deliverNow_time (s : State) (port lane : Nat) (tag : BitVec 16) (ws : List Word) : (s.deliverNow port lane tag ws).time = s.time := by rw [State.deliverNow_frame]
@[simp] theorem State.deliverNow_merge (s : State) (port lane : Nat) (tag : BitVec 16) (ws : List Word) : (s.deliverNow port lane tag ws).merge = s.merge := by rw [State.deliverNow_frame]
@[simp] theorem State.deliverNow_chans (s : State) (port lane : Nat) (tag : BitVec 16) (ws : List Word) : (s.deliverNow port lane tag ws).chans = s.chans := by rw [State.deliverNow_frame]
@[simp] theorem State.deliverNow_hits (s : State) (port lane : Nat) (tag : BitVec 16) (ws : List Word) : (s.deliverNow port lane tag ws).hits = s.hits := by rw [State.deliverNow_frame]
@[simp] theorem State.deliverNow_rennet (s : State) (port lane : Nat) (tag : BitVec 16) (ws : List Word) : (s.deliverNow port lane tag ws).rennet = s.rennet := by rw [State.deliverNow_frame]
@[simp] theorem State.deliverNow_engines (s : State) (port lane : Nat) (tag : BitVec 16) (ws : List Word) : (s.deliverNow port lane tag ws).engines = s.engines := by rw [State.deliverNow_frame]
@[simp] theorem State.deliverNow_fx (s : State) (port lane : Nat) (tag : BitVec 16) (ws : List Word) : (s.deliverNow port lane tag ws).fx = s.fx := by rw [State.deliverNow_frame]
@[simp] theorem State.deliverNow_vat (s : State) (port lane : Nat) (tag : BitVec 16) (ws : List Word) : (s.deliverNow port lane tag ws).vat = s.vat := by rw [State.deliverNow_frame]
@[simp] theorem State.deliverNow_press (s : State) (port lane : Nat) (tag : BitVec 16) (ws : List Word) : (s.deliverNow port lane tag ws).press = s.press := by rw [State.deliverNow_frame]
@[simp] theorem State.deliverNow_uplink (s : State) (port lane : Nat) (tag : BitVec 16) (ws : List Word) : (s.deliverNow port lane tag ws).uplink = s.uplink := by rw [State.deliverNow_frame]
@[simp] theorem State.deliverNow_house (s : State) (port lane : Nat) (tag : BitVec 16) (ws : List Word) : (s.deliverNow port lane tag ws).house = s.house := by rw [State.deliverNow_frame]
@[simp] theorem State.deliverNow_test (s : State) (port lane : Nat) (tag : BitVec 16) (ws : List Word) : (s.deliverNow port lane tag ws).test = s.test := by rw [State.deliverNow_frame]
@[simp] theorem State.deliverNow_window (s : State) (port lane : Nat) (tag : BitVec 16) (ws : List Word) : (s.deliverNow port lane tag ws).window = s.window := by rw [State.deliverNow_frame]
@[simp] theorem State.deliverNow_vatMem (s : State) (port lane : Nat) (tag : BitVec 16) (ws : List Word) : (s.deliverNow port lane tag ws).vatMem = s.vatMem := by rw [State.deliverNow_frame]
@[simp] theorem State.deliverNow_flash (s : State) (port lane : Nat) (tag : BitVec 16) (ws : List Word) : (s.deliverNow port lane tag ws).flash = s.flash := by rw [State.deliverNow_frame]
@[simp] theorem State.deliverNow_ramImage (s : State) (port lane : Nat) (tag : BitVec 16) (ws : List Word) : (s.deliverNow port lane tag ws).ramImage = s.ramImage := by rw [State.deliverNow_frame]
@[simp] theorem State.deliverNow_ctrlA (s : State) (port lane : Nat) (tag : BitVec 16) (ws : List Word) : (s.deliverNow port lane tag ws).ctrlA = s.ctrlA := by rw [State.deliverNow_frame]
@[simp] theorem State.deliverNow_ctrlB (s : State) (port lane : Nat) (tag : BitVec 16) (ws : List Word) : (s.deliverNow port lane tag ws).ctrlB = s.ctrlB := by rw [State.deliverNow_frame]
@[simp] theorem State.deliverNow_free (s : State) (port lane : Nat) (tag : BitVec 16) (ws : List Word) : (s.deliverNow port lane tag ws).free = s.free := by rw [State.deliverNow_frame]
@[simp] theorem State.deliverNow_pending (s : State) (port lane : Nat) (tag : BitVec 16) (ws : List Word) : (s.deliverNow port lane tag ws).pending = s.pending := by rw [State.deliverNow_frame]

/-- A reply reaches its port, or waits for the output gate. -/
theorem State.deliver_frame (s : State) (port lane : Nat) (tag : BitVec 16) (ws : List Word) :
    s.deliver port lane tag ws = { s with ports := (s.deliver port lane tag ws).ports, csr := (s.deliver port lane tag ws).csr, pair := (s.deliver port lane tag ws).pair, sched := (s.deliver port lane tag ws).sched, link := (s.deliver port lane tag ws).link, out := (s.deliver port lane tag ws).out } := by
  unfold State.deliver
  split
  · rw [State.deliverNow_frame]
  · rfl
@[simp] theorem State.deliver_fuses (s : State) (port lane : Nat) (tag : BitVec 16) (ws : List Word) : (s.deliver port lane tag ws).fuses = s.fuses := by rw [State.deliver_frame]
@[simp] theorem State.deliver_straps (s : State) (port lane : Nat) (tag : BitVec 16) (ws : List Word) : (s.deliver port lane tag ws).straps = s.straps := by rw [State.deliver_frame]
@[simp] theorem State.deliver_power (s : State) (port lane : Nat) (tag : BitVec 16) (ws : List Word) : (s.deliver port lane tag ws).power = s.power := by rw [State.deliver_frame]
@[simp] theorem State.deliver_clocks (s : State) (port lane : Nat) (tag : BitVec 16) (ws : List Word) : (s.deliver port lane tag ws).clocks = s.clocks := by rw [State.deliver_frame]
@[simp] theorem State.deliver_boot (s : State) (port lane : Nat) (tag : BitVec 16) (ws : List Word) : (s.deliver port lane tag ws).boot = s.boot := by rw [State.deliver_frame]
@[simp] theorem State.deliver_time (s : State) (port lane : Nat) (tag : BitVec 16) (ws : List Word) : (s.deliver port lane tag ws).time = s.time := by rw [State.deliver_frame]
@[simp] theorem State.deliver_merge (s : State) (port lane : Nat) (tag : BitVec 16) (ws : List Word) : (s.deliver port lane tag ws).merge = s.merge := by rw [State.deliver_frame]
@[simp] theorem State.deliver_chans (s : State) (port lane : Nat) (tag : BitVec 16) (ws : List Word) : (s.deliver port lane tag ws).chans = s.chans := by rw [State.deliver_frame]
@[simp] theorem State.deliver_hits (s : State) (port lane : Nat) (tag : BitVec 16) (ws : List Word) : (s.deliver port lane tag ws).hits = s.hits := by rw [State.deliver_frame]
@[simp] theorem State.deliver_rennet (s : State) (port lane : Nat) (tag : BitVec 16) (ws : List Word) : (s.deliver port lane tag ws).rennet = s.rennet := by rw [State.deliver_frame]
@[simp] theorem State.deliver_engines (s : State) (port lane : Nat) (tag : BitVec 16) (ws : List Word) : (s.deliver port lane tag ws).engines = s.engines := by rw [State.deliver_frame]
@[simp] theorem State.deliver_fx (s : State) (port lane : Nat) (tag : BitVec 16) (ws : List Word) : (s.deliver port lane tag ws).fx = s.fx := by rw [State.deliver_frame]
@[simp] theorem State.deliver_vat (s : State) (port lane : Nat) (tag : BitVec 16) (ws : List Word) : (s.deliver port lane tag ws).vat = s.vat := by rw [State.deliver_frame]
@[simp] theorem State.deliver_press (s : State) (port lane : Nat) (tag : BitVec 16) (ws : List Word) : (s.deliver port lane tag ws).press = s.press := by rw [State.deliver_frame]
@[simp] theorem State.deliver_uplink (s : State) (port lane : Nat) (tag : BitVec 16) (ws : List Word) : (s.deliver port lane tag ws).uplink = s.uplink := by rw [State.deliver_frame]
@[simp] theorem State.deliver_house (s : State) (port lane : Nat) (tag : BitVec 16) (ws : List Word) : (s.deliver port lane tag ws).house = s.house := by rw [State.deliver_frame]
@[simp] theorem State.deliver_test (s : State) (port lane : Nat) (tag : BitVec 16) (ws : List Word) : (s.deliver port lane tag ws).test = s.test := by rw [State.deliver_frame]
@[simp] theorem State.deliver_window (s : State) (port lane : Nat) (tag : BitVec 16) (ws : List Word) : (s.deliver port lane tag ws).window = s.window := by rw [State.deliver_frame]
@[simp] theorem State.deliver_vatMem (s : State) (port lane : Nat) (tag : BitVec 16) (ws : List Word) : (s.deliver port lane tag ws).vatMem = s.vatMem := by rw [State.deliver_frame]
@[simp] theorem State.deliver_flash (s : State) (port lane : Nat) (tag : BitVec 16) (ws : List Word) : (s.deliver port lane tag ws).flash = s.flash := by rw [State.deliver_frame]
@[simp] theorem State.deliver_ramImage (s : State) (port lane : Nat) (tag : BitVec 16) (ws : List Word) : (s.deliver port lane tag ws).ramImage = s.ramImage := by rw [State.deliver_frame]
@[simp] theorem State.deliver_ctrlA (s : State) (port lane : Nat) (tag : BitVec 16) (ws : List Word) : (s.deliver port lane tag ws).ctrlA = s.ctrlA := by rw [State.deliver_frame]
@[simp] theorem State.deliver_ctrlB (s : State) (port lane : Nat) (tag : BitVec 16) (ws : List Word) : (s.deliver port lane tag ws).ctrlB = s.ctrlB := by rw [State.deliver_frame]
@[simp] theorem State.deliver_free (s : State) (port lane : Nat) (tag : BitVec 16) (ws : List Word) : (s.deliver port lane tag ws).free = s.free := by rw [State.deliver_frame]
@[simp] theorem State.deliver_pending (s : State) (port lane : Nat) (tag : BitVec 16) (ws : List Word) : (s.deliver port lane tag ws).pending = s.pending := by rw [State.deliver_frame]

/-- What an answer does when it is not CLASS_REFUSED. -/
theorem State.reply_of (s : State) (op : BitVec 12) (r : Req) (a : Answer) (h : a.status ≠ .classRefused) :
    s.reply op r a = if r.broadcast then
        if a.status = .ok then s else s.raise 4 0 (BitVec.ofNat 32 (op.toNat * 2 ^ 16 + a.status.code))
      else if r.noAck && decide (a.status = Status.ok) then s
      else s.deliver r.port r.lane r.tag (replyWords s.ports.nodeId op r.tag a) := by
  unfold State.reply; simp only [h, if_false]

/-- An answer is counted, noticed or delivered. -/
theorem State.reply_frame (s : State) (op : BitVec 12) (r : Req) (a : Answer) :
    s.reply op r a = { s with ports := (s.reply op r a).ports, csr := (s.reply op r a).csr, pair := (s.reply op r a).pair, sched := (s.reply op r a).sched, link := (s.reply op r a).link, out := (s.reply op r a).out } := by
  by_cases h : a.status = .classRefused
  · unfold State.reply
    simp only [h, if_true, reduceCtorEq, if_false, decide_false, Bool.and_false]
    split
    · rw [State.raise_frame]; simp
    · rw [State.deliver_frame]; simp
  · rw [State.reply_of _ _ _ _ h]
    split
    · split
      · rfl
      · rw [State.raise_frame]
    · split
      · rfl
      · rw [State.deliver_frame]
@[simp] theorem State.reply_fuses (s : State) (op : BitVec 12) (r : Req) (a : Answer) : (s.reply op r a).fuses = s.fuses := by rw [State.reply_frame]
@[simp] theorem State.reply_straps (s : State) (op : BitVec 12) (r : Req) (a : Answer) : (s.reply op r a).straps = s.straps := by rw [State.reply_frame]
@[simp] theorem State.reply_power (s : State) (op : BitVec 12) (r : Req) (a : Answer) : (s.reply op r a).power = s.power := by rw [State.reply_frame]
@[simp] theorem State.reply_clocks (s : State) (op : BitVec 12) (r : Req) (a : Answer) : (s.reply op r a).clocks = s.clocks := by rw [State.reply_frame]
@[simp] theorem State.reply_boot (s : State) (op : BitVec 12) (r : Req) (a : Answer) : (s.reply op r a).boot = s.boot := by rw [State.reply_frame]
@[simp] theorem State.reply_time (s : State) (op : BitVec 12) (r : Req) (a : Answer) : (s.reply op r a).time = s.time := by rw [State.reply_frame]
@[simp] theorem State.reply_merge (s : State) (op : BitVec 12) (r : Req) (a : Answer) : (s.reply op r a).merge = s.merge := by rw [State.reply_frame]
@[simp] theorem State.reply_chans (s : State) (op : BitVec 12) (r : Req) (a : Answer) : (s.reply op r a).chans = s.chans := by rw [State.reply_frame]
@[simp] theorem State.reply_hits (s : State) (op : BitVec 12) (r : Req) (a : Answer) : (s.reply op r a).hits = s.hits := by rw [State.reply_frame]
@[simp] theorem State.reply_rennet (s : State) (op : BitVec 12) (r : Req) (a : Answer) : (s.reply op r a).rennet = s.rennet := by rw [State.reply_frame]
@[simp] theorem State.reply_engines (s : State) (op : BitVec 12) (r : Req) (a : Answer) : (s.reply op r a).engines = s.engines := by rw [State.reply_frame]
@[simp] theorem State.reply_fx (s : State) (op : BitVec 12) (r : Req) (a : Answer) : (s.reply op r a).fx = s.fx := by rw [State.reply_frame]
@[simp] theorem State.reply_vat (s : State) (op : BitVec 12) (r : Req) (a : Answer) : (s.reply op r a).vat = s.vat := by rw [State.reply_frame]
@[simp] theorem State.reply_press (s : State) (op : BitVec 12) (r : Req) (a : Answer) : (s.reply op r a).press = s.press := by rw [State.reply_frame]
@[simp] theorem State.reply_uplink (s : State) (op : BitVec 12) (r : Req) (a : Answer) : (s.reply op r a).uplink = s.uplink := by rw [State.reply_frame]
@[simp] theorem State.reply_house (s : State) (op : BitVec 12) (r : Req) (a : Answer) : (s.reply op r a).house = s.house := by rw [State.reply_frame]
@[simp] theorem State.reply_test (s : State) (op : BitVec 12) (r : Req) (a : Answer) : (s.reply op r a).test = s.test := by rw [State.reply_frame]
@[simp] theorem State.reply_window (s : State) (op : BitVec 12) (r : Req) (a : Answer) : (s.reply op r a).window = s.window := by rw [State.reply_frame]
@[simp] theorem State.reply_vatMem (s : State) (op : BitVec 12) (r : Req) (a : Answer) : (s.reply op r a).vatMem = s.vatMem := by rw [State.reply_frame]
@[simp] theorem State.reply_flash (s : State) (op : BitVec 12) (r : Req) (a : Answer) : (s.reply op r a).flash = s.flash := by rw [State.reply_frame]
@[simp] theorem State.reply_ramImage (s : State) (op : BitVec 12) (r : Req) (a : Answer) : (s.reply op r a).ramImage = s.ramImage := by rw [State.reply_frame]
@[simp] theorem State.reply_ctrlA (s : State) (op : BitVec 12) (r : Req) (a : Answer) : (s.reply op r a).ctrlA = s.ctrlA := by rw [State.reply_frame]
@[simp] theorem State.reply_ctrlB (s : State) (op : BitVec 12) (r : Req) (a : Answer) : (s.reply op r a).ctrlB = s.ctrlB := by rw [State.reply_frame]
@[simp] theorem State.reply_free (s : State) (op : BitVec 12) (r : Req) (a : Answer) : (s.reply op r a).free = s.free := by rw [State.reply_frame]
@[simp] theorem State.reply_pending (s : State) (op : BitVec 12) (r : Req) (a : Answer) : (s.reply op r a).pending = s.pending := by rw [State.reply_frame]

/-- The reply of the command just executed; the pair keeps it. -/
theorem State.replyLast_frame (s : State) (op : BitVec 12) (r : Req) (a : Answer) :
    s.replyLast op r a = { s with ports := (s.replyLast op r a).ports, csr := (s.replyLast op r a).csr, pair := (s.replyLast op r a).pair, sched := (s.replyLast op r a).sched, link := (s.replyLast op r a).link, out := (s.replyLast op r a).out } := by
  simp only [State.replyLast]
  generalize h : s.reply op r a = t
  rw [State.reply_frame] at h
  subst h
  split <;> rfl
@[simp] theorem State.replyLast_fuses (s : State) (op : BitVec 12) (r : Req) (a : Answer) : (s.replyLast op r a).fuses = s.fuses := by rw [State.replyLast_frame]
@[simp] theorem State.replyLast_straps (s : State) (op : BitVec 12) (r : Req) (a : Answer) : (s.replyLast op r a).straps = s.straps := by rw [State.replyLast_frame]
@[simp] theorem State.replyLast_power (s : State) (op : BitVec 12) (r : Req) (a : Answer) : (s.replyLast op r a).power = s.power := by rw [State.replyLast_frame]
@[simp] theorem State.replyLast_clocks (s : State) (op : BitVec 12) (r : Req) (a : Answer) : (s.replyLast op r a).clocks = s.clocks := by rw [State.replyLast_frame]
@[simp] theorem State.replyLast_boot (s : State) (op : BitVec 12) (r : Req) (a : Answer) : (s.replyLast op r a).boot = s.boot := by rw [State.replyLast_frame]
@[simp] theorem State.replyLast_time (s : State) (op : BitVec 12) (r : Req) (a : Answer) : (s.replyLast op r a).time = s.time := by rw [State.replyLast_frame]
@[simp] theorem State.replyLast_merge (s : State) (op : BitVec 12) (r : Req) (a : Answer) : (s.replyLast op r a).merge = s.merge := by rw [State.replyLast_frame]
@[simp] theorem State.replyLast_chans (s : State) (op : BitVec 12) (r : Req) (a : Answer) : (s.replyLast op r a).chans = s.chans := by rw [State.replyLast_frame]
@[simp] theorem State.replyLast_hits (s : State) (op : BitVec 12) (r : Req) (a : Answer) : (s.replyLast op r a).hits = s.hits := by rw [State.replyLast_frame]
@[simp] theorem State.replyLast_rennet (s : State) (op : BitVec 12) (r : Req) (a : Answer) : (s.replyLast op r a).rennet = s.rennet := by rw [State.replyLast_frame]
@[simp] theorem State.replyLast_engines (s : State) (op : BitVec 12) (r : Req) (a : Answer) : (s.replyLast op r a).engines = s.engines := by rw [State.replyLast_frame]
@[simp] theorem State.replyLast_fx (s : State) (op : BitVec 12) (r : Req) (a : Answer) : (s.replyLast op r a).fx = s.fx := by rw [State.replyLast_frame]
@[simp] theorem State.replyLast_vat (s : State) (op : BitVec 12) (r : Req) (a : Answer) : (s.replyLast op r a).vat = s.vat := by rw [State.replyLast_frame]
@[simp] theorem State.replyLast_press (s : State) (op : BitVec 12) (r : Req) (a : Answer) : (s.replyLast op r a).press = s.press := by rw [State.replyLast_frame]
@[simp] theorem State.replyLast_uplink (s : State) (op : BitVec 12) (r : Req) (a : Answer) : (s.replyLast op r a).uplink = s.uplink := by rw [State.replyLast_frame]
@[simp] theorem State.replyLast_house (s : State) (op : BitVec 12) (r : Req) (a : Answer) : (s.replyLast op r a).house = s.house := by rw [State.replyLast_frame]
@[simp] theorem State.replyLast_test (s : State) (op : BitVec 12) (r : Req) (a : Answer) : (s.replyLast op r a).test = s.test := by rw [State.replyLast_frame]
@[simp] theorem State.replyLast_window (s : State) (op : BitVec 12) (r : Req) (a : Answer) : (s.replyLast op r a).window = s.window := by rw [State.replyLast_frame]
@[simp] theorem State.replyLast_vatMem (s : State) (op : BitVec 12) (r : Req) (a : Answer) : (s.replyLast op r a).vatMem = s.vatMem := by rw [State.replyLast_frame]
@[simp] theorem State.replyLast_flash (s : State) (op : BitVec 12) (r : Req) (a : Answer) : (s.replyLast op r a).flash = s.flash := by rw [State.replyLast_frame]
@[simp] theorem State.replyLast_ramImage (s : State) (op : BitVec 12) (r : Req) (a : Answer) : (s.replyLast op r a).ramImage = s.ramImage := by rw [State.replyLast_frame]
@[simp] theorem State.replyLast_ctrlA (s : State) (op : BitVec 12) (r : Req) (a : Answer) : (s.replyLast op r a).ctrlA = s.ctrlA := by rw [State.replyLast_frame]
@[simp] theorem State.replyLast_ctrlB (s : State) (op : BitVec 12) (r : Req) (a : Answer) : (s.replyLast op r a).ctrlB = s.ctrlB := by rw [State.replyLast_frame]
@[simp] theorem State.replyLast_free (s : State) (op : BitVec 12) (r : Req) (a : Answer) : (s.replyLast op r a).free = s.free := by rw [State.replyLast_frame]
@[simp] theorem State.replyLast_pending (s : State) (op : BitVec 12) (r : Req) (a : Answer) : (s.replyLast op r a).pending = s.pending := by rw [State.replyLast_frame]

/-- A command leaves the queue and starts. -/
theorem State.startCmd_frame (s : State) (op : BitVec 12) (r : Req) :
    s.startCmd op r = { s with ports := (s.startCmd op r).ports, pair := (s.startCmd op r).pair } := by
  rfl
@[simp] theorem State.startCmd_fuses (s : State) (op : BitVec 12) (r : Req) : (s.startCmd op r).fuses = s.fuses := by rw [State.startCmd_frame]
@[simp] theorem State.startCmd_straps (s : State) (op : BitVec 12) (r : Req) : (s.startCmd op r).straps = s.straps := by rw [State.startCmd_frame]
@[simp] theorem State.startCmd_power (s : State) (op : BitVec 12) (r : Req) : (s.startCmd op r).power = s.power := by rw [State.startCmd_frame]
@[simp] theorem State.startCmd_clocks (s : State) (op : BitVec 12) (r : Req) : (s.startCmd op r).clocks = s.clocks := by rw [State.startCmd_frame]
@[simp] theorem State.startCmd_boot (s : State) (op : BitVec 12) (r : Req) : (s.startCmd op r).boot = s.boot := by rw [State.startCmd_frame]
@[simp] theorem State.startCmd_csr (s : State) (op : BitVec 12) (r : Req) : (s.startCmd op r).csr = s.csr := by rw [State.startCmd_frame]
@[simp] theorem State.startCmd_time (s : State) (op : BitVec 12) (r : Req) : (s.startCmd op r).time = s.time := by rw [State.startCmd_frame]
@[simp] theorem State.startCmd_sched (s : State) (op : BitVec 12) (r : Req) : (s.startCmd op r).sched = s.sched := by rw [State.startCmd_frame]
@[simp] theorem State.startCmd_merge (s : State) (op : BitVec 12) (r : Req) : (s.startCmd op r).merge = s.merge := by rw [State.startCmd_frame]
@[simp] theorem State.startCmd_chans (s : State) (op : BitVec 12) (r : Req) : (s.startCmd op r).chans = s.chans := by rw [State.startCmd_frame]
@[simp] theorem State.startCmd_hits (s : State) (op : BitVec 12) (r : Req) : (s.startCmd op r).hits = s.hits := by rw [State.startCmd_frame]
@[simp] theorem State.startCmd_rennet (s : State) (op : BitVec 12) (r : Req) : (s.startCmd op r).rennet = s.rennet := by rw [State.startCmd_frame]
@[simp] theorem State.startCmd_engines (s : State) (op : BitVec 12) (r : Req) : (s.startCmd op r).engines = s.engines := by rw [State.startCmd_frame]
@[simp] theorem State.startCmd_fx (s : State) (op : BitVec 12) (r : Req) : (s.startCmd op r).fx = s.fx := by rw [State.startCmd_frame]
@[simp] theorem State.startCmd_vat (s : State) (op : BitVec 12) (r : Req) : (s.startCmd op r).vat = s.vat := by rw [State.startCmd_frame]
@[simp] theorem State.startCmd_press (s : State) (op : BitVec 12) (r : Req) : (s.startCmd op r).press = s.press := by rw [State.startCmd_frame]
@[simp] theorem State.startCmd_link (s : State) (op : BitVec 12) (r : Req) : (s.startCmd op r).link = s.link := by rw [State.startCmd_frame]
@[simp] theorem State.startCmd_uplink (s : State) (op : BitVec 12) (r : Req) : (s.startCmd op r).uplink = s.uplink := by rw [State.startCmd_frame]
@[simp] theorem State.startCmd_house (s : State) (op : BitVec 12) (r : Req) : (s.startCmd op r).house = s.house := by rw [State.startCmd_frame]
@[simp] theorem State.startCmd_test (s : State) (op : BitVec 12) (r : Req) : (s.startCmd op r).test = s.test := by rw [State.startCmd_frame]
@[simp] theorem State.startCmd_window (s : State) (op : BitVec 12) (r : Req) : (s.startCmd op r).window = s.window := by rw [State.startCmd_frame]
@[simp] theorem State.startCmd_vatMem (s : State) (op : BitVec 12) (r : Req) : (s.startCmd op r).vatMem = s.vatMem := by rw [State.startCmd_frame]
@[simp] theorem State.startCmd_flash (s : State) (op : BitVec 12) (r : Req) : (s.startCmd op r).flash = s.flash := by rw [State.startCmd_frame]
@[simp] theorem State.startCmd_ramImage (s : State) (op : BitVec 12) (r : Req) : (s.startCmd op r).ramImage = s.ramImage := by rw [State.startCmd_frame]
@[simp] theorem State.startCmd_ctrlA (s : State) (op : BitVec 12) (r : Req) : (s.startCmd op r).ctrlA = s.ctrlA := by rw [State.startCmd_frame]
@[simp] theorem State.startCmd_ctrlB (s : State) (op : BitVec 12) (r : Req) : (s.startCmd op r).ctrlB = s.ctrlB := by rw [State.startCmd_frame]
@[simp] theorem State.startCmd_out (s : State) (op : BitVec 12) (r : Req) : (s.startCmd op r).out = s.out := by rw [State.startCmd_frame]
@[simp] theorem State.startCmd_free (s : State) (op : BitVec 12) (r : Req) : (s.startCmd op r).free = s.free := by rw [State.startCmd_frame]
@[simp] theorem State.startCmd_pending (s : State) (op : BitVec 12) (r : Req) : (s.startCmd op r).pending = s.pending := by rw [State.startCmd_frame]

/-- A command ends. -/
theorem State.endCmd_frame (s : State) (wrote : Bool) :
    s.endCmd wrote = { s with ports := (s.endCmd wrote).ports, csr := (s.endCmd wrote).csr, pair := (s.endCmd wrote).pair, out := (s.endCmd wrote).out } := by
  simp only [State.endCmd]
  split
  · split
    · rw [State.raise_frame]
    · rfl
  · rfl
@[simp] theorem State.endCmd_fuses (s : State) (wrote : Bool) : (s.endCmd wrote).fuses = s.fuses := by rw [State.endCmd_frame]
@[simp] theorem State.endCmd_straps (s : State) (wrote : Bool) : (s.endCmd wrote).straps = s.straps := by rw [State.endCmd_frame]
@[simp] theorem State.endCmd_power (s : State) (wrote : Bool) : (s.endCmd wrote).power = s.power := by rw [State.endCmd_frame]
@[simp] theorem State.endCmd_clocks (s : State) (wrote : Bool) : (s.endCmd wrote).clocks = s.clocks := by rw [State.endCmd_frame]
@[simp] theorem State.endCmd_boot (s : State) (wrote : Bool) : (s.endCmd wrote).boot = s.boot := by rw [State.endCmd_frame]
@[simp] theorem State.endCmd_time (s : State) (wrote : Bool) : (s.endCmd wrote).time = s.time := by rw [State.endCmd_frame]
@[simp] theorem State.endCmd_sched (s : State) (wrote : Bool) : (s.endCmd wrote).sched = s.sched := by rw [State.endCmd_frame]
@[simp] theorem State.endCmd_merge (s : State) (wrote : Bool) : (s.endCmd wrote).merge = s.merge := by rw [State.endCmd_frame]
@[simp] theorem State.endCmd_chans (s : State) (wrote : Bool) : (s.endCmd wrote).chans = s.chans := by rw [State.endCmd_frame]
@[simp] theorem State.endCmd_hits (s : State) (wrote : Bool) : (s.endCmd wrote).hits = s.hits := by rw [State.endCmd_frame]
@[simp] theorem State.endCmd_rennet (s : State) (wrote : Bool) : (s.endCmd wrote).rennet = s.rennet := by rw [State.endCmd_frame]
@[simp] theorem State.endCmd_engines (s : State) (wrote : Bool) : (s.endCmd wrote).engines = s.engines := by rw [State.endCmd_frame]
@[simp] theorem State.endCmd_fx (s : State) (wrote : Bool) : (s.endCmd wrote).fx = s.fx := by rw [State.endCmd_frame]
@[simp] theorem State.endCmd_vat (s : State) (wrote : Bool) : (s.endCmd wrote).vat = s.vat := by rw [State.endCmd_frame]
@[simp] theorem State.endCmd_press (s : State) (wrote : Bool) : (s.endCmd wrote).press = s.press := by rw [State.endCmd_frame]
@[simp] theorem State.endCmd_link (s : State) (wrote : Bool) : (s.endCmd wrote).link = s.link := by rw [State.endCmd_frame]
@[simp] theorem State.endCmd_uplink (s : State) (wrote : Bool) : (s.endCmd wrote).uplink = s.uplink := by rw [State.endCmd_frame]
@[simp] theorem State.endCmd_house (s : State) (wrote : Bool) : (s.endCmd wrote).house = s.house := by rw [State.endCmd_frame]
@[simp] theorem State.endCmd_test (s : State) (wrote : Bool) : (s.endCmd wrote).test = s.test := by rw [State.endCmd_frame]
@[simp] theorem State.endCmd_window (s : State) (wrote : Bool) : (s.endCmd wrote).window = s.window := by rw [State.endCmd_frame]
@[simp] theorem State.endCmd_vatMem (s : State) (wrote : Bool) : (s.endCmd wrote).vatMem = s.vatMem := by rw [State.endCmd_frame]
@[simp] theorem State.endCmd_flash (s : State) (wrote : Bool) : (s.endCmd wrote).flash = s.flash := by rw [State.endCmd_frame]
@[simp] theorem State.endCmd_ramImage (s : State) (wrote : Bool) : (s.endCmd wrote).ramImage = s.ramImage := by rw [State.endCmd_frame]
@[simp] theorem State.endCmd_ctrlA (s : State) (wrote : Bool) : (s.endCmd wrote).ctrlA = s.ctrlA := by rw [State.endCmd_frame]
@[simp] theorem State.endCmd_ctrlB (s : State) (wrote : Bool) : (s.endCmd wrote).ctrlB = s.ctrlB := by rw [State.endCmd_frame]
@[simp] theorem State.endCmd_free (s : State) (wrote : Bool) : (s.endCmd wrote).free = s.free := by rw [State.endCmd_frame]
@[simp] theorem State.endCmd_pending (s : State) (wrote : Bool) : (s.endCmd wrote).pending = s.pending := by rw [State.endCmd_frame]

end Sys2Proof.Machine
end

