-- ==== Sys2Proof/Laws/SMap.lean ====
section
/-!
SUPPORT. Sparse maps and byte memories: a read after a write, and every memory operation keeps the canonical form.
-/
namespace Sys2Proof.Machine

variable {α : Type}

theorem SMap.find_erase (m : SMap α) (k i : Nat) : SMap.find (SMap.erase m k) i = if i = k then none else SMap.find m i := by
  induction m with
  | nil => simp [SMap.erase, SMap.find]
  | cons c m ih =>
    obtain ⟨a, v⟩ := c
    by_cases h : a = k <;> by_cases g : a = i <;> simp_all [SMap.erase, SMap.find]

theorem SMap.find_insert (m : SMap α) (k i : Nat) (v : α) (h : SMap.find m k = none) :
    SMap.find (SMap.insert m k v) i = if i = k then some v else SMap.find m i := by
  induction m with
  | nil => by_cases g : k = i <;> simp_all [SMap.insert, SMap.find, eq_comm]
  | cons c m ih =>
    obtain ⟨a, w⟩ := c
    have ha : a ≠ k := by intro e; simp [SMap.find, e] at h
    have hm : SMap.find m k = none := by simpa [SMap.find, ha] using h
    by_cases g : k < a
    · by_cases e : k = i <;> simp_all [SMap.insert, SMap.find, eq_comm]
    · by_cases e : a = i
      · subst e; simp [SMap.insert, SMap.find, g, ha]
      · simp [SMap.insert, SMap.find, g, e, ih hm]

/-- What is listed after a put. -/
theorem SMap.find_put (m : SMap α) (k i : Nat) (v : α) : SMap.find (SMap.put m k v) i = if i = k then some v else SMap.find m i := by
  unfold SMap.put
  rw [SMap.find_insert _ _ _ _ (by simp [SMap.find_erase]), SMap.find_erase]
  by_cases h : i = k <;> simp [h]

theorem SMap.get_eq_find (d : α) (m : SMap α) (i : Nat) : SMap.get d m i = (SMap.find m i).getD d := by
  induction m with
  | nil => rfl
  | cons c m ih =>
    obtain ⟨a, v⟩ := c
    by_cases h : a = i <;> simp_all [SMap.get, SMap.find]

/-- A read after a set. -/
theorem SMap.get_set [DecidableEq α] (d : α) (m : SMap α) (k i : Nat) (v : α) :
    SMap.get d (SMap.set d m k v) i = if i = k then v else SMap.get d m i := by
  unfold SMap.set
  by_cases h : v = d
  · subst h
    by_cases g : i = k <;> simp [SMap.get_eq_find, SMap.find_erase, g]
  · by_cases g : i = k <;>
      simp [h, SMap.get_eq_find, SMap.find_insert _ _ _ _ (by simp [SMap.find_erase] : SMap.find (SMap.erase m k) k = none),
        SMap.find_erase, g]

variable [DecidableEq α]

theorem SMap.wfFrom_le (d : α) (m : SMap α) (lo lo' : Nat) (h : lo' ≤ lo) (w : SMap.wfFrom d lo m = true) :
    SMap.wfFrom d lo' m = true := by
  cases m with
  | nil => rfl
  | cons c m =>
    obtain ⟨a, v⟩ := c
    simp only [SMap.wfFrom, Bool.and_eq_true, decide_eq_true_eq] at w ⊢
    exact ⟨⟨Nat.le_trans h w.1.1, w.1.2⟩, w.2⟩

theorem SMap.wfFrom_erase (d : α) (m : SMap α) (lo k : Nat) (w : SMap.wfFrom d lo m = true) :
    SMap.wfFrom d lo (SMap.erase m k) = true := by
  induction m generalizing lo with
  | nil => rfl
  | cons c m ih =>
    obtain ⟨a, v⟩ := c
    simp only [SMap.wfFrom, Bool.and_eq_true, decide_eq_true_eq] at w
    by_cases h : a = k
    · simp only [SMap.erase, h, if_true]
      exact ih lo (SMap.wfFrom_le d m _ lo (by omega) w.2)
    · simp only [SMap.erase, h, if_false, SMap.wfFrom, Bool.and_eq_true, decide_eq_true_eq]
      exact ⟨w.1, ih _ w.2⟩

theorem SMap.wfFrom_insert (d : α) (m : SMap α) (lo k : Nat) (v : α) (hv : v ≠ d) (hk : lo ≤ k) (hn : SMap.find m k = none)
    (w : SMap.wfFrom d lo m = true) : SMap.wfFrom d lo (SMap.insert m k v) = true := by
  induction m generalizing lo with
  | nil => simp [SMap.insert, SMap.wfFrom, hk, hv]
  | cons c m ih =>
    obtain ⟨a, b⟩ := c
    simp only [SMap.wfFrom, Bool.and_eq_true, decide_eq_true_eq] at w
    have ha : a ≠ k := by intro e; simp [SMap.find, e] at hn
    have hm : SMap.find m k = none := by simpa [SMap.find, ha] using hn
    by_cases g : k < a
    · simp only [SMap.insert, g, if_true, SMap.wfFrom, Bool.and_eq_true, decide_eq_true_eq]
      exact ⟨⟨hk, hv⟩, ⟨by omega, w.1.2⟩, w.2⟩
    · simp only [SMap.insert, g, if_false, SMap.wfFrom, Bool.and_eq_true, decide_eq_true_eq]
      exact ⟨w.1, ih _ (by omega) hm w.2⟩

/-- A set keeps the canonical form. -/
theorem SMap.wf_set (d : α) (m : SMap α) (k : Nat) (v : α) (w : SMap.wf d m = true) : SMap.wf d (SMap.set d m k v) = true := by
  unfold SMap.set SMap.wf at *
  by_cases h : v = d
  · simpa [h] using SMap.wfFrom_erase d m 0 k w
  · simpa [h] using SMap.wfFrom_insert d _ 0 k v h (by omega) (by simp [SMap.find_erase]) (SMap.wfFrom_erase d m 0 k w)

theorem SMap.wfFrom_filter (d : α) (p : Nat × α → Bool) (m : SMap α) (lo : Nat) (w : SMap.wfFrom d lo m = true) :
    SMap.wfFrom d lo (m.filter p) = true := by
  induction m generalizing lo with
  | nil => rfl
  | cons c m ih =>
    obtain ⟨a, v⟩ := c
    simp only [SMap.wfFrom, Bool.and_eq_true, decide_eq_true_eq] at w
    by_cases h : p (a, v) = true
    · simp only [List.filter_cons, h, if_true, SMap.wfFrom, Bool.and_eq_true, decide_eq_true_eq]
      exact ⟨w.1, ih _ w.2⟩
    · simp only [List.filter_cons, h]
      exact ih lo (SMap.wfFrom_le d m _ lo (by omega) w.2)

-- bytes ----------------------------------------------------------------------------------------------------------------------------------

/-- A byte read after a byte written. -/
theorem rdByte_wrByte (m : List Host.Cell) (a i : Nat) (b : Byte) : rdByte (wrByte m a b) i = if i = a then b else rdByte m i :=
  SMap.get_set memDefault m a i b

theorem wf_wrByte (m : List Host.Cell) (a : Nat) (b : Byte) (w : Memory.wf m = true) : Memory.wf (wrByte m a b) = true :=
  SMap.wf_set memDefault m a b w

theorem wf_wrBytes (bs : List Byte) : ∀ (m : List Host.Cell) (a : Nat), Memory.wf m = true → Memory.wf (wrBytes m a bs) = true := by
  induction bs with
  | nil => intro m a w; exact w
  | cons b bs ih => intro m a w; exact ih _ _ (wf_wrByte m a b w)

theorem wf_zeroRange (m : List Host.Cell) (lo hi : Nat) (w : Memory.wf m = true) : Memory.wf (zeroRange m lo hi) = true :=
  SMap.wfFrom_filter memDefault _ m 0 w

/-- Bytes written leave every byte outside them alone. -/
theorem rdByte_wrBytes (bs : List Byte) : ∀ (m : List Host.Cell) (a i : Nat),
    rdByte (wrBytes m a bs) i = if a ≤ i ∧ i < a + bs.length then bs.getD (i - a) 0 else rdByte m i := by
  induction bs with
  | nil => intro m a i; simp [wrBytes] <;> omega
  | cons b bs ih =>
    intro m a i
    simp only [wrBytes, ih, rdByte_wrByte, List.length_cons]
    by_cases h : i = a
    · subst h; simp <;> omega
    · by_cases g : a + 1 ≤ i ∧ i < a + 1 + bs.length
      · have e : i - a = (i - (a + 1)) + 1 := by omega
        rw [if_pos g, if_pos (by omega), e, List.getD_cons_succ]
      · rw [if_neg g, if_neg h, if_neg (by omega)]

end Sys2Proof.Machine
end

