-- ==== Sys2Proof/Laws/Commands.lean ====
section
/-!
SUPPORT. What one opcode does (runOp), and what an event leaves in the registers.
-/
namespace Sys2Proof.Machine

theorem State.gate_startCmd (s : State) (op : BitVec 12) (r : Req) (n : Nat) (tie : Bool) :
    (s.startCmd op r).gate n r tie = s.gate n r tie := rfl

/-- An opcode in its turn that passes the checks: its body runs on the started command, its answer is replied, and the command ends. -/
theorem State.runOp_passes (s : State) (op : BitVec 12) (r : Req) (tie : Bool) (body : State → State × Option Answer)
    (hears : s.hears op r = true) (turn : s.turn op r = true) (gate : s.gate op.toNat r tie = none) :
    s.runOp op r tie body = match body (s.startCmd op r) with
      | (t, some a) => (t.replyLast op r a).endCmd (!readsOnly op.toNat && (decide (a.status = .ok) || decide (a.param ≠ 0)))
      | (t, none) => t.endCmd true := by
  simp only [State.runOp, hears, turn, State.execute, State.gate_startCmd, gate, Bool.not_true, Bool.false_eq_true, if_false, if_true]
  rcases body (s.startCmd op r) with ⟨t, _ | a⟩ <;> rfl

/-- An opcode in its turn that one of the checks refuses: only the refusal is replied. -/
theorem State.runOp_refused (s : State) (op : BitVec 12) (r : Req) (tie : Bool) (body : State → State × Option Answer) (st : Status)
    (hears : s.hears op r = true) (turn : s.turn op r = true) (gate : s.gate op.toNat r tie = some st) :
    s.runOp op r tie body = ((s.startCmd op r).replyLast op r { status := st }).endCmd false := by
  simp [State.runOp, hears, turn, State.execute, State.gate_startCmd, gate]

/-- An opcode that no interpreter serves, or a broadcast of one without the mark B, changes nothing. -/
theorem State.runOp_unserved (s : State) (op : BitVec 12) (r : Req) (tie : Bool) (body : State → State × Option Answer)
    (h : s.hears op r = false) : s.runOp op r tie body = s := by
  simp [State.runOp, h]

/-- An opcode whose turn has not come waits in the queue, once. -/
theorem State.runOp_waits (s : State) (op : BitVec 12) (r : Req) (tie : Bool) (body : State → State × Option Answer)
    (hears : s.hears op r = true) (turn : s.turn op r = false) :
    s.runOp op r tie body =
      if s.nextCmd = some (op, r) || s.ports.queue.contains (op, r) then s else s.enqueue op r := by
  simp [State.runOp, hears, turn]

-- registers ------------------------------------------------------------------------------------------------------------------------------

@[simp] theorem State.reg_setReg (s : State) (q : Reg) (v : Word) : (s.setReg q v).reg q = v := by
  simp [State.reg, State.setReg, SMap.find_put]

/-- A register set leaves every register with another key, outside those whose reset follows the identity, as it was. -/
theorem State.find_setReg (s : State) (p q : Reg) (v : Word) (h : p.key ≠ q.key) :
    SMap.find (s.setReg q v).csr.inForce p.key = SMap.find s.csr.inForce p.key := by
  simp [State.setReg, SMap.find_put, h]

@[simp] theorem State.notifyPort_inForce (s : State) (p block code : Nat) (w : Word) (ct : CT) :
    (s.notifyPort p block code w ct).csr.inForce = s.csr.inForce := by
  simp only [State.notifyPort]
  repeat' (first | rfl | split)

theorem State.notifyPort_fold_inForce (block code : Nat) (w : Word) (ct : CT) (ps : List Nat) :
    ∀ s : State, (ps.foldl (fun s p => s.notifyPort p block code w ct) s).csr.inForce = s.csr.inForce := by
  induction ps with
  | nil => intro s; rfl
  | cons p ps ih => intro s; rw [List.foldl_cons, ih, State.notifyPort_inForce]

/-- An event occurrence writes no register. -/
@[simp] theorem State.notify_inForce (s : State) (block code : Nat) (w : Word) :
    (s.notify block code w).csr.inForce = s.csr.inForce := by
  simp only [State.notify, State.notifyPorts]
  split
  · rfl
  · split
    · rw [State.notifyPort_fold_inForce]
    · rfl

/-- An event sets its bit in the event register of its block. -/
theorem State.raise_inForce (s : State) (block code : Nat) (w : Word) (q : Reg) (i : Nat) (h : eventReg block code = some (q, i)) :
    (s.raise block code w).csr.inForce = (s.orReg q (bit32 i true)).csr.inForce := by
  simp [State.raise, h]

/-- An event that has no register sets none. -/
theorem State.raise_inForce_none (s : State) (block code : Nat) (w : Word) (h : eventReg block code = none) :
    (s.raise block code w).csr.inForce = s.csr.inForce := by
  simp [State.raise, h]

/-- A register's value rests on what is stored, on the boot and on the fuses. -/
theorem State.resetIn_congr (s t : State) (q : Reg) (hb : t.boot.passed = s.boot.passed) (hf : t.fuses = s.fuses) :
    q.resetIn t = q.resetIn s := by
  cases q <;> simp [Reg.resetIn, State.isF, hb, hf]

theorem State.reg_congr (s t : State) (q : Reg) (hc : t.csr.inForce = s.csr.inForce) (hb : t.boot.passed = s.boot.passed)
    (hf : t.fuses = s.fuses) : t.reg q = s.reg q := by
  simp [State.reg, hc, State.resetIn_congr s t q hb hf]

/-- After an event the bit of its code is set in its block's register, and the other bits stay. -/
theorem State.reg_raise (s : State) (block code : Nat) (w : Word) (q : Reg) (i : Nat) (h : eventReg block code = some (q, i)) :
    (s.raise block code w).reg q = s.reg q ||| bit32 i true := by
  rw [State.reg_congr (s.orReg q (bit32 i true)) _ q (State.raise_inForce s block code w q i h) (by simp) (by simp)]
  simp [State.orReg]

end Sys2Proof.Machine
end

