-- ==== Sys2Proof/Tests/Slice0.lean ====
section
/-!
SUPPORT. The author's own tests of the first slice: ill-formed terms that WellFormed refuses, and for every clause of a statement a small
state and operands that meet its hypotheses together, most with what one step then leaves. The expected values are worked out by
hand from the rules.
-/
namespace Sys2Proof.Tests
set_option Elab.async false
open Sys2Proof.Machine Sys2Proof.Claims

/-- The state a command leaves. -/
def run (c : Instr) (s : State) : State := match exec c s with | .next t => t | _ => s

/-- A request of port 0. -/
def rq (param : BitVec 24) (ws : List Word) : Req := { port := 0, lane := 0, tag := 1, node := 0, flags := 0, param, payload := ws }

/-- Every domain released, firmware running, ports 0 and 1 of the Keeper class. -/
def up : State :=
  { power := { released := 11, clockDone := true, fuseDone := true }
    clocks := { oscReady := true, oscOk := true, primaryOk := true, lockSys := true, lockCtrl := true, lockVat := true, enabled := true,
                onPrimary := true }
    boot := { passed := true, state := 1, romOn := true }
    ports := { port := [(0, { cls := 2 }), (1, { cls := 2 })] } }

/-- The same with registers in force. -/
def upWith (rs : List (Reg × Word)) : State := rs.foldl (fun s p => s.setReg p.1 p.2) up

-- commands, registers ------------------------------------------------------------------------------------------------------------------------

theorem wit_queue : ({ up with pending := [.echo (rq 0 [7])] } : State).pending = .echo (rq 0 [7]) :: [] ∧ up.pending = [] ∧ MemInv up ∧
    up.nextCmd = none ∧ ({ up with ports := { up.ports with queue := [(0x000, rq 0 [7])] } } : State).nextCmd = some (0x000, rq 0 [7]) := by
  decide +kernel

/-- An engine word of zeros. -/
def default_ : EngWord := { pred := 0, d := 0, a := 0, b := 0, f := 0, imm := 0, poisoned := false }

theorem wit_frame : storesBytes (.echo (rq 0 [7])) = false ∧ writesFlash (.st 0 default_) = false ∧
    (run .testLogicReset up).flash = up.flash ∧ storesBytes .testLogicReset = false ∧ writesFlash .testLogicReset = false ∧
    storesBytes .ctCompare = false ∧ settlesFirst .ctCompare = true ∧ up.settled = true := by
  decide +kernel

theorem wit_plainWrites :
    (Reg.info .gsIrqEn).w1c = 0 ∧ (Reg.info .gsIrqEn).rwf = 0 ∧ (up.writePlain .gsIrqEn 0x5).reg .gsIrqEn = 0x5 ∧
    (Reg.info (.scPathMatch 3)).w1c = 0 ∧ (Reg.info (.scPathMatch 3)).rw = 0 ∧ (Reg.info (.scPathMatch 3)).rwf ≠ 0 ∧
    (up.writePlain (.scPathMatch 3) 0x12).regW (.scPathMatch 3) = 0x12 ∧ (up.writePlain (.scPathMatch 3) 0x12).reg (.scPathMatch 3) = 0 ∧
    (Reg.info .lkEvents).rw = 0 ∧ (Reg.info .lkEvents).rwf = 0 ∧ up.pair.replaying = false ∧
    ((upWith [(.lkEvents, 3)]).writePlain .lkEvents 1).reg .lkEvents = 2 ∧ Reg.key .tcAsym ≠ Reg.key .lkEvents := by
  decide +kernel

/-- A register's address as a word. -/
def ad (q : Reg) : Word := BitVec.ofNat 32 q.addr

theorem wit_csrWriteRead : canWriteRom up 0 = true ∧ (run (.registerWrite 0 (ad .gsIrqEn) 3) up).reg .gsIrqEn = 3 ∧
    Accepts up 0x101 (rq 0 [ad .gsIrqEn, 3]) true ∧ (run (.csrWrite (rq 0 [ad .gsIrqEn, 3])) up).reg .gsIrqEn = 3 ∧
    Accepts up 0x100 (rq 0 [ad .gsIrqEn]) true ∧ (up.readAt 0 (ad .gsIrqEn).toNat).2 = (.ok, 0) := by
  decide +kernel

/-- The register that the write witnesses name has no rule of its own, and no schedule is in force. -/
theorem wit_writable : Readable (up.startCmd 0x100 (rq 0 [ad .gsIrqEn])) (ad .gsIrqEn).toNat .gsIrqEn ∧
    Writable up 0 (ad .gsIrqEn).toNat .gsIrqEn 3 ∧ Writable (up.startCmd 0x101 (rq 0 [ad .gsIrqEn, 3])) 0 (ad .gsIrqEn).toNat .gsIrqEn 3 :=
  ⟨by decide +kernel, ⟨by decide +kernel, by decide +kernel, by decide +kernel, fun _ _ => rfl, by decide +kernel⟩,
    ⟨by decide +kernel, by decide +kernel, by decide +kernel, fun _ _ => rfl, by decide +kernel⟩⟩

/-- The states of a block of two reads, and of a block of two writes. -/
def reads2 : Nat → State
  | 0 => up.startCmd 0x102 (rq 514 [ad .gsIrqEn])
  | k + 1 => readState (reads2 k) 0 .gsIrqEn
def writes2 : Nat → State
  | 0 => up.startCmd 0x103 (rq 514 [ad .gsIrqEn, 6, 9])
  | k + 1 => (writes2 k).writePlain .gsIrqEn ((rq 514 [ad .gsIrqEn, 6, 9]).w (k + 1))

theorem wit_blocks : Accepts up 0x102 (rq 514 [ad .gsIrqEn]) true ∧ Req.p (rq 514 [ad .gsIrqEn]) 8 0 = 2 ∧
    Req.p (rq 514 [ad .gsIrqEn]) 9 9 = 1 ∧ (∀ k, k < 2 → Readable (reads2 k) (ad .gsIrqEn).toNat .gsIrqEn) ∧
    Accepts up 0x103 (rq 514 [ad .gsIrqEn, 6, 9]) true ∧ (∀ k, k < 2 → Readable (writes2 k) (ad .gsIrqEn).toNat .gsIrqEn ∧
      (writes2 k).protected ((writes2 k).writePlain .gsIrqEn ((rq 514 [ad .gsIrqEn, 6, 9]).w (k + 1))) = true ∧
      cdcStops (writes2 k) .gsIrqEn = false) ∧ keeperOnly (ad .gsIrqEn).toNat = false ∧
    (run (.csrWriteBlock (rq 514 [ad .gsIrqEn, 6, 9])) up).reg .gsIrqEn = 9 := by
  decide +kernel

theorem wit_modify : Accepts up 0x104 (rq 0 [ad .gsIrqEn, 6, 4]) true ∧
    (((up.startCmd 0x104 (rq 0 [ad .gsIrqEn, 6, 4])).readValue .gsIrqEn &&& ~~~6 &&& ~~~(actionBits .gsIrqEn)) ||| (4 &&& 6)) = 4 ∧
    Writable (((up.startCmd 0x104 (rq 0 [ad .gsIrqEn, 6, 4])).latchOf .gsIrqEn).drawFor .gsIrqEn) 0 (ad .gsIrqEn).toNat .gsIrqEn 4 :=
  ⟨by decide +kernel, by decide +kernel, ⟨by decide +kernel, by decide +kernel, by decide +kernel, fun _ _ => rfl, by decide +kernel⟩⟩

theorem wit_csrBlocks : Accepts up 0x102 (rq 256 [ad .gsIrqEn]) true ∧ Req.p (rq 256 [ad .gsIrqEn]) 8 0 = 256 ∧
    Accepts up 0x103 (rq 1 [ad .gsIrqEn, 9]) (decide (Req.len (rq 1 [ad .gsIrqEn, 9]) = Req.p (rq 1 [ad .gsIrqEn, 9]) 8 0 + 1)) ∧
    (run (.csrWriteBlock (rq 1 [ad .gsIrqEn, 9])) up).reg .gsIrqEn = 9 ∧
    Accepts up 0x104 (rq 0 [ad .gsIrqEn, 6, 4]) true ∧ up.regHere (ad .gsIrqEn).toNat = some .gsIrqEn ∧
    (run (.csrModify (rq 0 [ad .gsIrqEn, 6, 4])) (upWith [(.gsIrqEn, 3)])).reg .gsIrqEn = 5 := by
  decide +kernel

theorem wit_refusedWrites : up.boot.state = 1 ∧ keeperOnly 0x40000 = true ∧ (up.port 2).cls ≠ 2 ∧ keeperOnly 0xFFC = false ∧
    up.regHere 0xFFC = none ∧ keeperOnly (Reg.addr .tcSrcCfg) = false ∧
    ({ up with power := { released := 6 } } : State).rel (accessStep (Reg.addr .tcSrcCfg)) = false ∧
    (up.writeAt 0 (Reg.addr .tcSrcCfg) 7) = (up, .outOfRange) ∧
    up.rel (accessStep (Reg.addr .tcSrcCfg)) = true ∧ cdcStops up .tcSrcCfg = false := by
  decide +kernel

theorem wit_reads : up.regHere (ad .tcCtLo).toNat = some .tcCtLo ∧ up.serving = true ∧ up.rel (accessStep (ad .tcCtLo).toNat) = true ∧
    up.boot.state = 1 ∧ up.portServes 0 = true ∧ up.reads 7 = true ∧ up.reads 5 = true ∧ up.reads 8 = true ∧ (up.port 0).cls ≠ 0 ∧ (up.port 2).cls = 0 := by
  decide +kernel

theorem wit_readClear : up.serving = true ∧ up.boot.state = 1 ∧ up.regHere (ad .crResetCause).toNat = some .crResetCause ∧
    up.rel (accessStep (ad .crResetCause).toNat) = true ∧ (up.port 0).cls ≠ 0 ∧ (up.port 2).cls = 0 ∧
    (run (.rcRead 0 (ad .crResetCause)) up).power.cause = 0 ∧ (run (.rcRead 2 (ad .crResetCause)) up).power.cause = 0x01F00001 ∧
    up.regHere (ad (.tcStampLo 1)).toNat = some (.tcStampLo 1) ∧ up.rel (accessStep (ad (.tcStampLo 1)).toNat) = true := by
  decide +kernel

theorem wit_cntClear : canWriteRom up 0 = true ∧ up.pair.replaying = false ∧ ((up.bump 0x500040 5).cnt 0x500040).value = 5 ∧
    (run (.cntClear 0 0x8000) (up.bump 0x500040 5)).cnt 0x500040 = {} ∧ ((run (.cntClear 0 0x4000) (up.bump 0x500040 5)).cnt 0x500040).value = 5 ∧
    canWrite up 0 5 = true ∧ (run (.logClear 0) { up with vat := { up.vat with logFull := true } }).vat.logFull = false := by
  decide +kernel

theorem wit_activeRole : canKeepRom up 0 = true ∧ up.protected (up.setReg .idRole 2) = true ∧ up.res.role = 5 ∧ up.sched.active = [] ∧ up.sched.commit = false ∧ anyPathEnabled up = false ∧
    up.time.ticking = false ∧ up.follower = false ∧ (run (.activeRoleWrite 0 2) up).role = 2 := by
  decide +kernel

theorem wit_cdcTimeout : Accepts up 0x101 (rq 0 [ad (.lkLAsym 1), 4]) true ∧ up.regHere (ad (.lkLAsym 1)).toNat = some (.lkLAsym 1) ∧
    up.rel (accessStep (ad (.lkLAsym 1)).toNat) = true ∧
    cdcStops { up with link := { up.link with refclk := false } } (.lkLAsym 1) = true ∧ keeperOnly (ad (.lkLAsym 1)).toNat = false := by
  decide +kernel

-- ports ------------------------------------------------------------------------------------------------------------------------------------------

theorem wit_refused : opcodeRow (.csrRead (rq 0 [])) = some (0x100, rq 0 [], true) ∧ up.hears 0x100 (rq 0 []) = true ∧ up.turn 0x100 (rq 0 []) = true ∧
    up.gate 0x100 (rq 0 []) true = some .badLength ∧
    opcodeRow (.hkSeqLoad (rq 0 [])) = some (0x800, rq 0 [], false) ∧ opcodeRow (.kernelLoad (rq 0 [0, 0])) = some (0x310, rq 0 [0, 0], true) := by
  decide +kernel

/-- ECHO waits at the front of the queue. -/
def echoWaits : State := { up with ports := { up.ports with queue := [(0x000, rq 0 [7])] } }

theorem wit_turn : echoWaits.turn 0x001 (rq 0 []) = false ∧ echoWaits.hears 0x001 (rq 0 []) = true ∧ echoWaits.nextCmd ≠ some (0x001, rq 0 []) ∧
    (0x001, rq 0 []) ∉ echoWaits.ports.queue ∧ echoWaits.ports.queue.length < 64 ∧ (run (.identify (rq 0 [])) echoWaits).ports.queue.length = 2 ∧
    echoWaits.turn 0x000 (rq 0 [7]) = true ∧ (run (.echo (rq 0 [7])) echoWaits).ports.queue = [] ∧
    up.roleStops 0x410 (rq 0 [0]) = false ∧ (upWith [(.idRole, 2)]).roleStops 0x410 (rq 0 [0]) = true := by
  decide +kernel

theorem wit_checks : ({ up with boot := { up.boot with state := 2 } } : State).served 0x300 (rq 0 []) = false ∧ up.served 0xFFF (rq 0 []) = true ∧
    opInfo 0xFFF = none ∧ opInfo 0x001 = some ⟨0, false, 0, 0⟩ ∧ Req.len (rq 0 [1]) = 1 ∧
    up.classAdmits 0x300 ⟨1, false, 0, 1024⟩ { rq 0 [] with port := 4 } = false ∧ up.classAdmits 0x300 ⟨1, false, 0, 1024⟩ (rq 0 []) = true := by
  decide +kernel

theorem wit_echo : Accepts up 0x000 (rq 0 [7, 8]) true ∧ Req.broadcast (rq 0 [7, 8]) = false ∧ up.pair.interrupted = none ∧
    Req.noAck (rq 0 [7, 8]) = false ∧ Req.noAck { rq 0 [] with flags := 0x20 } = true ∧
    (((run (.echo (rq 0 [7, 8])) up).port 0).replies.map fun l => (l.drop 4).take 2) = [[7, 8]] := by
  decide +kernel

theorem wit_system : Accepts up 0x001 (rq 0 []) true ∧ Accepts up 0x003 (rq 0 []) true ∧ Accepts up 0x006 (rq 5 []) true ∧
    ((run (.noticeSubscribe (rq 5 [])) up).port 0).mask = 5 ∧ Accepts up 0x002 (rq 0x525354 []) true ∧
    (run (.resetDevice (rq 0x525354 [])) up).ports.resetDue = some false ∧
    (run .resetDeviceReset { up with ports := { up.ports with resetDue := some true } }).power.released = 0 := by
  decide +kernel

/-- ECHO of no words, as it arrives. -/
def echoPacket : List Word := packetWords 0x50000001 0 0 0 []

theorem wit_packets : up.portUp = true ∧ up.portServes 0 = true ∧ up.portServes 4 = true ∧ (up.port 0).replies.length < 16 ∧ fld (echoPacket.getD 0 0) 31 28 = 5 ∧ echoPacket.length = 5 ∧
    crcWords echoPacket.dropLast = echoPacket.getLastD 0 ∧ fld (echoPacket.getD 1 0) 31 16 = 0 ∧
    (reqOf 0 0 echoPacket).2.node = up.ports.nodeId ∧ chainEnumerate (reqOf 0 0 echoPacket).1 (reqOf 0 0 echoPacket).2 = false ∧
    (opInfo (reqOf 0 0 echoPacket).1.toNat).isSome = true ∧ bcastOk (reqOf 0 0 echoPacket).1.toNat (reqOf 0 0 echoPacket).2 = true ∧
    (run (.packetReceive 0 0 echoPacket) up).ports.queue.length = 1 ∧
    (run (.cmdDataUpdate true (echoPacket.getLastD 0))
      { up with test := { up.test with ir := 0x20 }, ports := { up.ports with jtagRx := echoPacket.dropLast } }).ports.queue.length = 1 := by
  decide +kernel

/-- A notice waits on port 0, and no reply. -/
def noted : State := up.setPort 0 { notices := [⟨1, 2, 3, 0, 4, 5, none⟩] }

theorem wit_notices : (noted.port 0).notices = [⟨1, 2, 3, 0, 4, 5, none⟩] ∧ (noted.port 0).replies = [] ∧ noted.portUp = true ∧
    ((run (.mgmtRead false) noted).port 0).begun = true ∧ ((run (.mgmtRead true) noted).port 0).notices = [] ∧
    ((up.setPort 0 { replies := [[1, 2]] }).port 0).begun = false ∧ ((up.setPort 0 { replies := [[1, 2]] }).port 0).late = [] := by
  decide +kernel

theorem wit_portsOut : ((up.setPort 0 { replies := [[1, 2]] }).port 0).replies = [1, 2] :: [] ∧
    (run (.mgmtRead true) (up.setPort 0 { replies := [[1, 2]] })).out = [.spi [1, 2]] ∧ (up.port 0).replies = [] ∧ (up.port 0).notices = [] ∧
    (run .cmdDataCapture { up.setPort 1 { replies := [[1, 2]] } with test := { up.test with ir := 0x20 } }).out = [.jtag true 1] := by
  decide +kernel

-- well-formedness: an ill-formed term for each check, which the check refuses ------------------------------------------------------------------------------

/-- Requests out of range: port 5, lane 48, 1,027 words; and a finding inside a word. -/
def badPort : Req := { rq 0 [] with port := 5 }
def badLane : Req := { rq 0 [] with lane := 48 }
def badWords : Req := rq 0 (List.replicate 1027 0)
/-- An engine word. -/
def wd0 (imm : Word) : EngWord := { pred := 0, d := 0, a := 0, b := 0, f := 0, imm, poisoned := false }
def badFinding : Finding := ⟨false, 8, .corrected⟩

theorem test_wf_request : badPort.wf = false ∧ badLane.wf = false ∧ badWords.wf = false ∧ (rq 0 (List.replicate 1026 0)).wf = true ∧
    badFinding.wf = false ∧ (⟨true, 16, .tag⟩ : Finding).wf = true ∧
    ([.echo badPort, .identify badPort, .resetDevice badPort, .healthReport badPort, .enumerate badPort, .featureEpoch badPort,
      .noticeSubscribe badPort, .csrRead badPort, .csrWrite badPort, .csrReadBlock badPort, .csrWriteBlock badPort, .csrModify badPort,
      .memRead badPort [], .memWrite badPort [], .regionSet badPort, .regionRead badPort, .spareRow badPort, .imageErase badPort,
      .imageWrite badPort, .imageVerify badPort, .imageArm badPort, .imageConfirm badPort, .imageInfo badPort, .bootGo badPort,
      .schedLoad badPort, .schedCommit badPort, .schedRead badPort] : List Instr).any Instr.wf = false := by
  decide +kernel

theorem test_wf_request_more :
    ([.kernelLoad badLane, .kernelInfo badLane, .trigArm badLane, .trigDisarm badLane, .trigForce badLane, .segmentRead badLane [],
      .calRun badLane, .linkTrain badLane, .linkStatus badLane, .rosterLoad badLane, .rosterRead badLane, .linkRtt badLane,
      .pressJob badLane [], .pressFlush badLane [], .timeSet badLane, .timeRead badLane, .freqMeasure badLane, .pulseSet badLane,
      .hkSeqLoad badLane, .hkSeqStart badLane, .hkRead badLane, .bistRun badLane, .testmuxSet badLane, .cdcTimeout badLane] : List Instr).any
      Instr.wf = false := by
  decide +kernel

theorem test_wf_findings :
    ([.memRead (rq 0 []) [badFinding], .memWrite (rq 0 []) [badFinding], .readModifyWrite true 0 [(63, 0)] [badFinding],
      .readModifyWrite true 0 [(64, 0)] [], .rowMoveDone 0 [badFinding], .segmentRead (rq 0 []) [badFinding], .pressJob (rq 0 []) [badFinding],
      .pressFlush (rq 0 []) [badFinding], .dmaDescriptor 0 [badFinding], .scrubStep 0 [badFinding], .transientBufferReadout 0 [badFinding],
      .ld 0 (wd0 0) [badFinding], .ldp 0 (wd0 0) [badFinding], .mergeClose 0 [badFinding]] : List Instr).any Instr.wf = false := by
  decide +kernel

theorem test_wf_ports :
    ([.registerWrite 5 0 0, .rcRead 5 0, .stampRead 5 0, .stampRead 0 2, .missRead 5, .quarantineRead 5, .runStart 5, .runStop 5,
      .frameSwitchArm 5, .returnSwitch 5, .activeRoleWrite 5 0, .readmit 5, .forceSwap 5, .watchdogFeed 5 0, .watchdogEnable 5 0,
      .biasKey 5 0, .biasEnableWrite 5 0, .modeWrite 5 0, .referenceTakeBack 5 0, .cmpArm 5, .cntClear 5 0, .logClear 5,
      .deepIdleEnter 5 0, .deepIdleEnter 0 48, .deepIdleWake 5 0, .deepIdleWake 0 48, .mergeEnable 5 0, .uplinkEnable 5 0,
      .packetReceive 5 0 [], .packetReceive 0 48 [], .packetReceive 0 0 (List.replicate 1032 0), .mgmtWrite (List.replicate 1032 0)] :
      List Instr).any Instr.wf = false := by
  decide +kernel

/-- A curd that says two flits and holds one. -/
def badCurd : Curd := { rind := mkRind 1 0 0 2 2, payload := [5] }

theorem test_wf_lanes : badCurd.wf = false ∧
    ([.linkTrainTimeout 48, .laneCfgHoldExpiry 48, .bringupStepComplete 48, .bringupTimeout 48, .laneDown 48, .curdReceive 48 ({ rind := mkRind 1 0 0 1 1, payload := [5] }) true,
      .curdReceive 0 badCurd true, .damagedCodeword 48 true, .cap 48 ⟨1, 1, 0, 0, 0, 0, true⟩, .slot 48 0 true 0 0, .slotOpen 48 0,
      .slotOpen 0 256, .takeover 48, .tsSync 48 0 0, .tsReq 48 0 0, .tsData 48 0 0 0, .timeExchangeStart 48, .frame 48 0 0 0 true true,
      .frameSw 48 0 0, .trigFlit 48 0 0 0, .sleep 48, .linkUnknown 48 0, .carriageSend 48, .cdcDrop 48 true] : List Instr).any Instr.wf =
      false := by
  decide +kernel

theorem test_wf_numbers :
    ([.regionReady 64, .rowMoveDone 4 [], .calRunDone 48 (.interleave 0 0), .pulseRise 4, .pulseFall 4, .supplyGood 11, .supplyBad 11,
      .supplyWarn 11, .powerOnReset (some 11), .pllUnlock 3, .mismatch 0 64 0 0, .transfer 4096, .dmaDescriptor 64 [],
      .dmaDescriptorDone 64, .kernelRun 4096, .kernelRunComplete 16, .curdEmission 4096, .housekeepingStep 4096, .scrubStep 4096 [],
      .pressEntry 4096, .transientBufferReadout 4096 [], .entryAbort 4096, .curdDeadline 64, .tdcStop 48 false 0 0 0, .autorangeDrop 48,
      .autorangeRise 48, .invIntervalEnd 48, .hitForm 48, .totWaitExpiry 48, .patternFire 4 0, .resultAdmission 16, .mergeClose 64 []] :
      List Instr).any Instr.wf = false := by
  decide +kernel

theorem test_wf_numbers_more :
    ([.fuseLoad (some 32), .refPresent 3, .refLost 2, .stackTrainingDone 4 true, .stackTempRead 4 0, .signalDetection 48] : List Instr).all
      (fun i => !i.wf) = true ∧
    ([.sensorFault 10 0, .sensorFault 0 3, .dieSensorRead [0], .bringupSignalLoss 48, .digitiserSample 48 0] : List Instr).all
      (fun i => !i.wf) = true ∧
    (CalMeasure.density (List.replicate 512 0) (List.replicate 511 0) 0).wf = false ∧ (CalMeasure.density [] (List.replicate 512 0) 0).wf = false ∧
    (CalMeasure.sweep [(0, 0, 0), (0, 0, 0)] [(0, 0, 0), (0, 0, 0), (0, 0, 0)]).wf = false ∧
    (CalMeasure.sweep [(0, 0, 0), (0, 0, 0), (0, 0, 0)] []).wf = false ∧ (Instr.calRunDone 0 (.sweep [] [])).wf = false := by
  decide +kernel

theorem test_wf_engines :
    ([Instr.nop, .halt, .br, .brdec, .id, .time, .li, .addi, .add, .sub, .slli, .srai, .cmp, .cmpi, .agset, .agget, .setlen, .agexp, .agidx,
      .st, .stp, .vadd, .vsub, .vsra, .vand, .vor, .vxor, .vmov, .vtag, .vget, .vsplat, .mac8, .mac4, .mac16, .bclr, .movs, .emit].any
      fun c => (c 256 (wd0 0)).wf) = false ∧ (Instr.ld 256 (wd0 0) []).wf = false ∧ (Instr.ldp 256 (wd0 0) []).wf = false ∧
    (Instr.trig 256 (wd0 0) false).wf = false ∧ (Instr.nop 255 (wd0 0)).wf = true := by
  decide +kernel

-- images and boot ----------------------------------------------------------------------------------------------------------------------------------

/-- A flash operation under way. -/
def flashing (op : FlashOp) (r : Req) : State :=
  { up with boot := { up.boot with flashOps := [(op, 1, r)] }, flash := [(slotBase 1, 5)] }

/-- The ROM waits for a download on port 0. -/
def loading : State :=
  { up with boot := { up.boot with state := 0, downloading := true, verRam := some 0, tried := 1, sampled := { bootSel := 1 } } }

theorem wit_images : up.boot.state ≠ 0 ∧ slotHeld up 1 = false ∧ flashBusy up = false ∧ slotBusy up 1 = false ∧ Req.p (rq 1 []) 1 0 = 1 ∧
    Accepts up 0x280 (rq 1 []) true ∧ Accepts up 0x281 (rq 1 [0x2FFFFC, 7]) true ∧ (Req.w (rq 1 [0x2FFFFC, 7]) 0).toNat % 4 = 0 ∧
    (Req.w (rq 1 [0x2FFFFC, 7]) 0).toNat + 4 * (Req.len (rq 1 [0x2FFFFC, 7]) - 1) = 0x300000 ∧ Accepts up 0x282 (rq 1 []) true ∧
    (run (.imageErase (rq 1 [])) up).boot.flashOps = [(.erase, 1, rq 1 [])] := by
  decide +kernel

theorem wit_imagesRam : loading.boot.state = 0 ∧ loading.boot.downloading = true ∧ Req.p (rq 2 [8, 7]) 1 0 = 2 ∧
    Accepts loading 0x281 (rq 2 [8, 7]) true ∧ (Req.w (rq 2 [8, 7]) 0).toNat % 4 = 0 ∧ Accepts loading 0x282 (rq 2 []) true ∧
    (run (.imageWrite (rq 2 [8, 7])) loading).ramImage = [(8, 7)] ∧ (run (.imageVerify (rq 2 [])) loading).boot.verRam = some 5 := by
  decide +kernel

theorem wit_imagesDone : (flashing .erase (rq 1 [])).flashOp .erase = some (.erase, 1, rq 1 []) ∧
    (flashing .write (rq 1 [4, 0x01020304])).flashOp .write = some (.write, 1, rq 1 [4, 0x01020304]) ∧
    (flashing .verify (rq 1 [])).flashOp .verify = some (.verify, 1, rq 1 []) ∧
    (run .imageEraseDone (flashing .erase (rq 1 []))).flash = [] ∧
    SMap.get flashDefault (run .imageWriteDone (flashing .write (rq 1 [4, 0x01020304]))).flash (slotBase 1 + 4) = 4 ∧
    (run .imageVerifyDone (flashing .verify (rq 1 []))).boot.verB = some 5 := by
  decide +kernel

/-- Slot B verified, of the version that runs; and the boot record naming slot A as armed. -/
def verified : State := { up with boot := { up.boot with verB := some 0, fwVersion := 0xFE000000 } }
def armed : State := up.writeRec 1 0 0

theorem wit_bootRecord : Accepts verified 0x283 (rq 1 []) true ∧ slotHeld verified 1 = false ∧ flashBusy verified = false ∧ slotBusy verified 1 = false ∧ verOf verified.boot 1 = some 0 ∧
    armedSlot verified.bootRec ≠ some verified.boot.slot.toNat ∧
    fld (BitVec.ofNat 32 (hdr (verified.imgBytes 1 0 256) 8 4)) 31 24 = fld verified.boot.fwVersion 31 24 + 1 ∧
    Accepts armed 0x284 (rq 0 []) true ∧ armedSlot armed.bootRec = some armed.boot.slot.toNat ∧ flashBusy armed = false ∧
    (run (.imageConfirm (rq 0 [])) armed).bootRec.armed = 0xFF ∧ Accepts up 0x285 (rq 0 []) true ∧ flashBusy up = false := by
  decide +kernel

theorem wit_bootGo : Accepts loading 0x286 (rq 0 []) true ∧ loading.boot.state = 0 ∧ loading.boot.downloading = true ∧
    loading.boot.verRam = some 0 ∧ (run (.bootGo (rq 0 [])) loading).boot.state = 1 ∧ loading.boot.tried < 6 ∧ loading.downloadReady = true ∧
    (run .downloadTimeout loading).boot.lastFail = 9 := by
  decide +kernel

/-- The control pair released, its ROM not started; and a second attempt from flash. -/
def cold (sel : BitVec 3) : State := { up with boot := { passed := true, sampled := { bootSel := sel } } }
def second : State := { up with boot := { passed := true, romOn := true, tried := 1 } }

/-- The header of R86 for a body of 16 bytes, its digest worked out outside the model, and an image in slot A. -/
def goodHeader : List Byte :=
  [0x49, 0x5F, 0x48, 0x4B, 1, 0, 0, 1, 0, 0, 0, 1, 16, 0, 0, 0, 4, 0, 0, 0] ++ List.replicate 12 0 ++
  [
    0x5E, 0xCA, 0xD4, 0xB9, 0x4B, 0x77, 0xD8, 0x7E, 0xE0, 0x10, 0x19, 0x9B, 0xBD, 0xBE, 0x3E, 0xCA, 0x26, 0xBB, 0x8D, 0x32, 0x23,
    0x36, 0xAD, 0xBC, 0x5E, 0xA9, 0xBB, 0x9D, 0x53, 0xF6, 0x19, 0x64] ++ List.replicate 192 0
def imaged : State := { second with flash := flWrite [] (slotBase 0) (goodHeader ++ (List.range 16).map fun k => BitVec.ofNat 8 (k + 1)) }

/-- What the parameter table gives. -/
def sfdp0 : FlashPar := { dual := true, quad := false, addr4 := false, page := 256, erase4k := 0x20 }

theorem wit_goodImage : imaged.imgCheck 0 = 0 ∧ imaged.rel 5 = true ∧ imaged.boot.romOn = true ∧ imaged.boot.state = 0 ∧
    attemptSlot imaged.boot 2 = some 0 := by
  decide +kernel
theorem wit_goodStart : (run (.bootAttempt (some sfdp0)) imaged).boot.state = 1 ∧ (run (.bootAttempt (some sfdp0)) imaged).boot.entry = 4 ∧
    SMap.get 0 (run (.bootAttempt (some sfdp0)) imaged).ctrlA 5 = 6 := by
  decide +kernel

theorem wit_boot : (cold 0).rel 4 = true ∧ (cold 0).boot.romOn = false ∧ (cold 7).boot.sampled.bootSel = 7 ∧
    (run .bootRomStart (cold 7)).boot.reason = 1 ∧ (cold 3).boot.sampled.bootSel.toNat < 4 ∧
    (run .bootRomStart { cold 0 with boot := {} }).boot.reason = 2 ∧
    second.boot.state = 0 ∧ second.boot.downloading = false ∧ 0 < second.boot.tried ∧ attemptSlot second.boot 2 = some 0 ∧
    second.imgCheck 0 ≠ 0 ∧ (run (.bootAttempt none) second).boot.reason = 4 := by
  decide +kernel

-- supplies, resets, clocks ------------------------------------------------------------------------------------------------------------------------------

/-- Released as far as a step, with no fuse load made. -/
def bare (n : Nat) : State := { up with power := { released := n, clockDone := true }, boot := {}, clocks := {} }

theorem wit_bringUp : (bare 3).rel 3 = true ∧ (bare 3).rel 4 = false ∧ (bare 3).boot.passed = false ∧ (bare 3).power.noFuse = false ∧
    (bare 3).boot.fuseTries < 3 ∧ (run (.fuseLoad none) (bare 3)).boot.passed = true ∧
    ({ bare 3 with boot := { fuseTries := 3 } } : State).boot.fuseTries = 3 ∧
    (run .fuseCrcExhaustion { bare 3 with boot := { fuseTries := 3 } }).power.noFuse = true ∧
    ({ up with clocks := { up.clocks with trim := 0x1F } } : State).clocks.trim ≠ trimTarget { up with clocks := { up.clocks with trim := 0x1F } } ∧
    (run .oscTrimStep { up with clocks := { up.clocks with trim := 0x1F } }).clocks.trim = 0x20 := by
  decide +kernel

theorem wit_release : up.power.off = false ∧ ({ up with power := { up.power with released := 4 } } : State).power.hold = false ∧
    suppliesGood { up with power := { up.power with released := 4 } } 5 = true ∧
    stepReady { up with power := { up.power with released := 4 } } 5 = true ∧
    (run .domainRelease { up with power := { up.power with released := 4 }, window := [(5, 5)] }).power.released = 5 ∧
    (run .domainRelease { up with power := { up.power with released := 4 }, window := [(5, 5)] }).window = [] ∧
    (run .resetHoldEnd { up with power := { hold := true } }).power.hold = false ∧ up.clocks.trim = 0x20 := by
  decide +kernel

theorem wit_resets : up.power.off = false ∧ noComparator up 10 = false ∧ up.power.good.getLsbD 10 = true ∧ supplyInUse up 10 = true ∧
    supplyInUse { up with power := { released := 0 } } 10 = false ∧ up.b .pmWarnEn 3 = true ∧ (upWith [(.pmWarnEn, 0)]).b .pmWarnEn 3 = false ∧
    ({ up with power := { up.power with good := 0x7FE } } : State).power.good.getLsbD 0 = false ∧
    (run (.powerOnReset (some 0)) { up with power := { up.power with good := 0x7FE } }).power.released = 0 ∧
    (run .rstNReset up).power.rstLow = true ∧
    ({ up with pair := { up.pair with wdogOn := true } } : State).pair.wdogPaused = false ∧
    (run .watchdogExpiry { up with pair := { up.pair with wdogOn := true } }).power.released = 0 ∧ (run .powerOff up).power.off = true := by
  decide +kernel

/-- Step 2 released, no clock enabled yet. -/
def dark (n : Nat) : State := { bare 2 with clocks := { checks := n } }

theorem wit_clocks : (dark 0).rel 2 = true ∧ (dark 0).clocks.enabled = false ∧ (dark 0).boot.sampled.clkMode ≠ 3 ∧
    primaryMhz (dark 0).boot.sampled.clkMode.toNat 25000 = some 25 ∧ (run (.xtalWaitExpiry 25000) (dark 0)).clocks.onPrimary = true ∧
    primaryMhz (dark 2).boot.sampled.clkMode.toNat 0 = none ∧ (run (.xtalWaitExpiry 0) (dark 2)).clocks.checks = 3 ∧
    (run (.xtalWaitExpiry 0) (dark 3)).clocks.fallback = true ∧ up.clocks.enabled = true ∧ up.isF = false ∧
    (run .dividerRampDone { up with clocks := { up.clocks with rampCtrl := 2 } }).clocks.rampCtrl = 1 ∧
    (run .dividerRampDone { up with clocks := { up.clocks with rampCtrl := 1, rampCore := 2 } }).clocks.rampCore = 1 ∧
    (run .dividerRampDone { up with clocks := { up.clocks with rampEng := 2 } }).clocks.rampEng = 1 ∧
    (run (.pllUnlock 2) up).clocks.lockVat = false := by
  decide +kernel

theorem wit_clockFailures : up.power.clockDone = true ∧ up.boot.sampled.clkMode ≠ 3 ∧ up.clocks.returning = false ∧ up.clocks.onPrimary = true ∧
    up.clocks.oscOk = true ∧ up.clocks.oscReady = true ∧ (run .fallbackSwitch up).clocks.fallback = true ∧ up.time.pllRef = 0 ∧
    (run .fallbackSwitch { up with clocks := { up.clocks with oscReady := false } }).clocks.latched = true ∧
    (run .fallbackSwitch { up with clocks := { up.clocks with oscOk := false } }).power.released = 0 ∧
    (run .oscReadyTimeout { up with clocks := { up.clocks with oscReady := false, latched := true } }).power.released = 0 ∧
    (run .oscSettled { up with clocks := { up.clocks with latched := true } }).clocks.fallback = true ∧
    (run .ckOscFail { up with clocks := { up.clocks with onPrimary := false } }).power.released = 0 ∧ canWriteRom up 0 = true ∧
    (run (.returnSwitch 0) { up with clocks := { up.clocks with fallback := true } }).clocks.returning = true ∧
    (run .returnSwitchDone { up with clocks := { up.clocks with fallback := true, returning := true } }).clocks.fallback = false := by
  decide +kernel

-- the control pair, test access -------------------------------------------------------------------------------------------------------------------------

/-- The pair in a given standing. -/
def pair (p : Pair) : State := { up with pair := p }

/-- IDENTIFY was the last command and ran on both processors. -/
def ranIdentify : State := pair { lastCmd := some (0x001, rq 0 []) }

theorem wit_lastCmd : ranIdentify.serving = true ∧ ranIdentify.pair.standby = 0 ∧ ranIdentify.nextCmd = none ∧ ranIdentify.pair.compared = true ∧
    ranIdentify.pair.lastReply = none ∧ (run (.mismatch 1 0 0 1) ranIdentify).pair.interrupted = some (0x001, rq 0 []) ∧
    (run (.mismatch 1 0 0 2) ranIdentify).pair.interrupted = none := by
  decide +kernel

theorem wit_mismatch : up.serving = true ∧ up.pair.standby = 0 ∧ up.power.cycle = [] ∧
    ({ up with ports := { up.ports with queue := [(0x001, rq 0 [])] } } : State).nextCmd = some (0x001, rq 0 []) ∧ (rq 0 []).tag = 1 ∧
    (run (.mismatch 1 0 0x40 1) { up with ports := { up.ports with queue := [(0x001, rq 0 [])] } }).pair.interrupted = some (0x001, rq 0 []) ∧
    (run (.arbitration false false) (pair { testing := true })).power.cause = causeAfter up.power.cause false 3 0xF ∧
    (run (.arbitration true true) (pair { testing := true, standby := 3, inB := true })).pair.inB = false ∧
    (run (.arbitration false true) (pair { testing := true, standby := 3 })).pair.inB = true ∧
    (run .failOver (pair { gate := false, swapping := some true })).pair.gate = true ∧
    (run .failOver (pair { force := true })).pair.inB = true ∧ (pair { gate := false, swapping := some true }).pair.testing = false := by
  decide +kernel

theorem wit_standby : up.rel 4 = true ∧ (run (.standbySelftestSlice false) up).pair.standby = 2 ∧
    (run (.demotedSelftest true) (pair { standby := 2, passes := 2 })).pair.repaired = true ∧
    (run (.demotedSelftest true) (pair { standby := 2, passes := 1 })).pair.repaired = false ∧
    (run .resyncDone (pair { standby := 1 })).pair.resynced = true ∧ (pair { inB := true, resynced := true }).b .cpCtrl 0 = false ∧ (pair { inB := true, resynced := true }).pair.gate = true ∧
    (run .takeBack (pair { inB := true, resynced := true })).pair.inB = false := by
  decide +kernel

theorem wit_pairWrites : canKeep up 0 = true ∧ up.pair.replaying = false ∧ up.b .cpCtrl 2 = false ∧ up.b .cpCtrl 1 = false ∧
    (run (.readmit 0) (pair { standby := 2, repaired := true })).pair.standby = 1 ∧ (run (.forceSwap 0) up).pair.force = true ∧
    (run (.watchdogFeed 0 0xA5C3) (pair { wdogOn := true, wdogPeriod := 5 })).pair.wdogPeriod = 1000 ∧
    (run (.watchdogFeed 0 0xA5C4) (pair { wdogOn := true, wdogPeriod := 5 })).pair.wdogPeriod = 5 ∧
    (0x80000001 : Word).getLsbD 31 = true ∧ fld 0x80000001 10 0 ≠ 0 ∧ (run (.watchdogEnable 0 0x80000001) up).pair.wdogPeriod = 1 := by
  decide +kernel

/-- One trained lane. -/
def trained (n : Nat) (l : Lane) : State := { up with link := { lane := [(n, { l with step := 5, trained := true })] } }

theorem wit_test : up.tapOn = true ∧ scanCode (jtagCode 0x00) = true ∧ scanCode up.test.ir = false ∧ up.rel 8 = true ∧ 47 < up.res.lanes ∧
    ((run (.jtagInstruction 0x00) (trained 47 {})).lane 47).trained = false ∧ (run .testLogicReset { up with test := { up.test with ir := 0x20 } }).test.ir = 2 ∧
    Accepts up 0xF00 (rq 0 [0x3F]) true ∧ (∀ i, i < 6 → up.rel (bistStep i) = true) ∧ bistRefused up 0x3F = false ∧ up.test.bist = none ∧
    (run (.bistRun (rq 0 [0x3F])) up).test.bist = some (rq 0 [0x3F], 0x3F) ∧
    (run (.bistDone 5 1 0 0) { up with test := { up.test with bist := some (rq 0 [4], 4) } }).test.result = 4 ∧
    Accepts up 0xF01 (rq 0 [0x012F0030]) true ∧ atestOk up 0x30 = true ∧ atestOk up 0 = true ∧ dtestOk up 0xF 1 = false ∧ dtestOk up 2 47 = true ∧
    Accepts up 0xF01 (rq 0 [0x2F020030]) true ∧ (run (.testmuxSet (rq 0 [0x2F020030])) up).f .tdDtestSel 13 8 = 47 := by
  decide +kernel

-- regions, chain time ---------------------------------------------------------------------------------------------------------------------------------------

/-- Every stack trained; the same with region 63 in a state. -/
def stacked : State := { up with vat := { up.vat with trained := 0xF } }
def region63 (g : Region) : State := { stacked with vat := { stacked.vat with regions := [(63, g)] } }
/-- One mebibyte of class M at the top of stack 3, defined as region 63. -/
def setTop : Req := rq 0 [0x103F, 0xFFF00000, 0x1F, 0x100000, 0, 0x80000, 0, 0]

theorem wit_regionSet : stacked.rel 6 = true ∧ Accepts stacked 0x210 setTop true ∧ fld (setTop.w 0) 5 0 = 63 ∧ setTop.w 6 = 0 ∧ setTop.w 7 = 0 ∧
    (stacked.region 63).state = 0 ∧ fld (setTop.w 0) 13 12 = 1 ∧ fld (setTop.w 0) 18 16 = 0 ∧
    stacked.regionBad 63 { base := 2 ^ 37 - 2 ^ 20, size := 2 ^ 20, cls := 1, ceLimit := 8, state := 1 } 1 0 = false ∧
    ((run (.regionSet setTop) stacked).region 63).base = 2 ^ 37 - 2 ^ 20 := by
  decide +kernel

theorem wit_regionEnds : Accepts stacked 0x210 (rq 0 [63, 0, 0, 0, 0, 0, 0, 0]) true ∧
    (region63 { state := 2, size := 2 ^ 20 }).regionUsed { state := 2, size := 2 ^ 20 } = false ∧
    (run (.regionSet (rq 0 [63, 0, 0, 0, 0, 0, 0, 0])) (region63 { state := 2, size := 2 ^ 20 })).region 63 = {} ∧
    ((region63 { state := 1, size := 16 }).region 63).state = 1 ∧
    (run (.regionReady 63) { region63 { state := 1, size := 16 } with vatMem := [(15, 1), (16, 2)] }).vatMem = [(16, 2)] ∧
    (run (.regionReady 63) { region63 { state := 1, size := 16, sram := true } with window := [(15, 1), (16, 2)] }).window = [(16, 2)] ∧
    Accepts stacked 0x211 (rq 63 []) true := by
  decide +kernel

theorem wit_timeSet : up.rel 7 = true ∧ Accepts up 0x700 (rq 0 [1, 0x200, 9]) true ∧ (((rq 0 [1, 0x200, 9]).w 0) ++ ((rq 0 [1, 0x200, 9]).w 1)).toNat % 512 = 0 ∧
    up.time.ticking = false ∧ up.mode = 0 ∧ (run (.timeSet (rq 0 [1, 0x200, 9])) up).time.ct = 0x100000200 ∧ (upWith [(.tcSrcCfg, 1)]).mode = 1 ∧
    (run (.timeSet (rq 0 [1, 0x200, 9])) (upWith [(.tcSrcCfg, 1)])).time.setCt = some (0x100000200, 9) ∧ Accepts up 0x701 (rq 0 []) true := by
  decide +kernel

/-- A frequency measurement of PPS whose gate is open. -/
def gated : State := run (.freqMeasure (rq 0 [2, 64000])) up

def opened : State := { up with time := { up.time with freq := gated.time.freq.map fun q => { q with opened := true } } }

theorem wit_freq : Accepts up 0x702 (rq 0 [0xFFFF0004, 64000]) true ∧ nominalKhz up 4 ≤ 20000 * 0x10000 ∧ up.time.freq = none ∧
    (run (.freqMeasure (rq 0 [0xFFFF0004, 64000])) up).time.freq.isSome = true ∧
    (run (.freqMeasureDone [0, 25600, 51200] 0) opened).time.freq = none ∧
    (opened.time.freq.map fun q => (q.opened, q.within [0, 25600, 51200], usedStamps q.div 0 none [0, 25600, 51200])) =
      some (true, [0, 25600, 51200], [(0, 0), (1, 25600), (2, 51200)]) := by
  decide +kernel

/-- A pulse output. -/
def pulsing (k : Nat) (q : Pulse) : State := { up with time := { up.time with pulses := [(k, q)] } }

theorem wit_pulses : Accepts up 0x703 (rq 0 [0x203, 0, 512000, 0, 64, 16]) true ∧ (0x203 : Word) &&& 0xFFFFFCFC = 0 ∧
    pulseBad 2 512000 64 16 up.time.ct = false ∧ pulseBad 2 512000 64 15 up.time.ct = true ∧ pulseBad 2 512000 63 16 up.time.ct = true ∧
    (SMap.get {} (run (.pulseSet (rq 0 [0x203, 0, 512000, 0, 64, 16])) up).time.pulses 3).armed = true ∧
    (SMap.get {} (run (.pulseSet (rq 0 [0x203, 0, 512000, 0, 64, 16])) (pulsing 3 { high := true })).time.pulses 3).queued.isSome = true ∧
    (run (.pulseRise 3) (pulsing 3 { armed := true, mode := 2, next := 512, period := 64, width := 16 })).time.ct = 512 ∧
    (SMap.get {} (run (.pulseRise 3) (pulsing 3 { armed := true, mode := 2, next := 512, period := 64, width := 16 })).time.pulses 3).next = 2560 ∧
    (SMap.get {} (run (.pulseFall 3) (pulsing 3 { high := true, fall := 0 })).time.pulses 3).high = false := by
  decide +kernel

/-- The root on reference A. -/
def root (cfg : Word) : State :=
  let s := upWith [(.tcSrcCfg, cfg)]
  { s with time := { s.time with pllRef := 1, refA := true, refB := true, pps := true, state := 2 } }

/-- TIME_SET awaits its edge. -/
def awaiting : State := { root 0x441 with time := { (root 0x441).time with setCt := some (512, 3) } }

theorem wit_references : (root 0x421).mode = 1 ∧ (root 0x421).b .tcSrcCfg 5 = true ∧ (run (.refLost 0) (root 0x421)).time.pllRef = 2 ∧
    (root 0x401).b .tcSrcCfg 5 = false ∧ (run (.refLost 0) (root 0x401)).time.state = 3 ∧ (run .ppsLost (root 0x401)).time.pps = false ∧
    (root 0x441).rel 7 = true ∧ (root 0x441).b .tcSrcCfg 6 = true ∧ (root 0x441).b .tcSrcCfg 7 = false ∧ awaiting.time.aligned = false ∧
    (({ awaiting with time := { awaiting.time with ppsIn := true } }.advanceTo 0).stamp 0 0).ppsPresence.time.pps = true ∧
    (run (.ppsEdge 0) awaiting).time.ct = ctAdd 512 (ppsDelay (root 0x441)) ∧ (run (.ppsEdge 0) { awaiting with time := { awaiting.time with ppsIn := true } }) = awaiting ∧
    (run .epochWrap up).time.epoch = 1 := by
  decide +kernel

/-- A follower with its averages. -/
def followWith (f : Time → Time) : State := let s := upWith [(.tcSrcCfg, 0x403)]; { s with time := f s.time }

theorem wit_follower : (followWith id).follower = true ∧ 2 ^ (followWith id).f .tcSrcCfg 11 8 = 16 ∧
    (run .servoUpdate (followWith fun t => { t with state := 1, firstAvg := false, thetas := List.replicate 16 0, within := 15 })).time.state = 2 ∧
    (run .servoUpdate (followWith fun t => { t with state := 1, thetas := 5 :: 32 * 512001 :: List.replicate 15 0, upEpoch := 4 })).time.ct = ctAdd 0 (-512001) ∧
    (run .servoUpdate (followWith fun t => { t with state := 2, firstAvg := false, thetas := 32 * 513 :: List.replicate 15 0, aligned := true })).time.aligned
      = false ∧
    (run .exchangeTimeout (followWith fun t => { t with state := 2, aligned := true })).time.state = 3 ∧ 2 ≤ (followWith id).mode ∧
    (run .holdLimitExpiry (followWith fun t => { t with state := 3, holding := true, aligned := true })).time.aligned = false := by
  decide +kernel

theorem wit_mode : canWrite up 0 7 = true ∧ fld 0x402 2 0 = 2 ∧ fld 0x402 11 8 = 4 ∧ up.mode = 0 ∧ up.time.ticking = false ∧
    anyPathEnabled up = false ∧ (run (.modeWrite 0 0x402) up).time.state = 1 ∧ (run (.modeWrite 0 0xA01) up).time.state = 0 ∧
    (run (.referenceTakeBack 0 0x401) { root 0x411 with time := { (root 0x411).time with pllRef := 2, state := 3 } }).time.pllRef = 1 := by
  decide +kernel

-- frames ----------------------------------------------------------------------------------------------------------------------------------------------------------

/-- Ticks run, ALIGNED is 1, with a schedule and more changed. -/
def ticking (l : List Entry) (f : State → State) : State :=
  f { up with time := { up.time with run := true, ticking := true, aligned := true }, sched := { up.sched with active := l } }
/-- A schedule entry: KIND, START, DURATION, RES_CLASS, RES_INDEX, PATH and ARG. -/
def en (kind start dur cls idx path : Nat) (arg : Word) : Entry :=
  ⟨at32 28 kind ||| at32 0 start, at32 0 dur, at32 28 cls ||| at32 16 idx ||| at32 0 path, arg⟩

theorem wit_tick : (ticking [] id).settleTick.rel 7 = true ∧ (ticking [] id).settleTick.placesTicks = true ∧ 0 < up.time.period.toNat ∧
    (ticking [] id).settleTick.time.e + 2 ^ 23 < 2 ^ 87 ∧ (run .frameTick (ticking [] id)).time.tickE = 0x800 ∧
    (run .frameTick (ticking [] id)).time.fn = 1 := by
  decide +kernel

/-- A pending RWF value, and an arm and a disarm that wait for the tick. -/
def awaitsTick : State := ticking [] fun s =>
  { s with csr := { pend := [(Reg.key (.scPathMatch 3), 0x12)] }, rennet := { s.rennet with disarmDue := true },
           sched := { s.sched with swapDue := true } }

theorem wit_tickDue : awaitsTick.settleTick.placesTicks = true ∧
    SMap.find awaitsTick.settleTick.csr.pend (Reg.key (.scPathMatch 3)) = some 0x12 ∧
    (∀ n, n < 48 → Reg.key (.scPathMatch 3) ≠ Reg.key (.lkLCfg n)) ∧
    SMap.find (run .frameTick awaitsTick).csr.due (Reg.key (.scPathMatch 3)) = some 0x12 ∧
    (run .frameTick awaitsTick).sched.swapNow = true ∧ (run .frameTick awaitsTick).rennet.disarmNow = true := by
  decide +kernel

theorem wit_run : canWrite up 0 7 = true ∧ up.boot.state = 1 ∧ up.follower = false ∧ (run (.runStart 0) up).time.ticking = true ∧
    (run (.runStop 0) (ticking [] id)).time.stopping = true ∧
    armStop ((ticking [] id).setReg .tcFrameNext 0x1000 |>.setReg .tcFrameSwitchLo 1024) = none ∧
    (run (.frameSwitchArm 0) ((ticking [] id).setReg .tcFrameNext 0x1000 |>.setReg .tcFrameSwitchLo 1024)).time.switch = some ⟨1024, 0x1000⟩ ∧
    (run .periodSwitch { upWith [(.tcFrameNext, 0x1000)] with time := { up.time with switchNow := true, switch := some ⟨8, 0x1000⟩ } }).time.period = 0x1000 ∧
    up.pair.replaying = false ∧ (run .lastTick (ticking [] fun s => { s with time := { s.time with stopNow := true } })).time.aligned = false := by
  decide +kernel

theorem wit_rwf : (regAt (Reg.addr (.scPathMatch 3))) = some (.scPathMatch 3) ∧ Reg.key (.scPathMatch 3) = Reg.addr (.scPathMatch 3) ∧
    (Reg.info (.scPathMatch 3)).w1c = 0 ∧
    (run .rwfTakeEffect { up with csr := { due := [(Reg.key (.scPathMatch 3), 0x12)] } }).reg (.scPathMatch 3) = 0x12 ∧ up.placesTicks = false ∧
    (run (.laneCfgHoldExpiry 47) { up with link := { lane := [(47, { heldCfg := some 0x80000000 })] } }).reg (.lkLCfg 47) = 0x80000000 := by
  decide +kernel

-- the schedule ---------------------------------------------------------------------------------------------------------------------------------------------------------

/-- A scrub step on stack 3. -/
def scrub : Entry := en 4 0 100 4 3 0 1

theorem wit_schedLoad : stacked.rel 5 = true ∧ Accepts stacked 0x300 (rq 0 [scrub.w0, scrub.w1, scrub.w2, scrub.w3]) true ∧
    entriesOf [scrub.w0, scrub.w1, scrub.w2, scrub.w3] = [scrub] ∧ stacked.roleBars scrub = false ∧ stacked.hasResource scrub = true ∧
    stacked.badArg scrub = false ∧ stacked.sched.commit = false ∧
    (run (.schedLoad (rq 0 [scrub.w0, scrub.w1, scrub.w2, scrub.w3])) stacked).sched.shadow = [scrub] := by
  decide +kernel

theorem wit_schedCommit : Accepts up 0x301 (rq 0 []) true ∧ up.sched.commit = false ∧ up.placesTicks = false ∧
    firstFail ((withDurations (up.startCmd 0x301 (rq 0 []))).checks (derivedPlan (up.startCmd 0x301 (rq 0 [])))) = none ∧
    (ticking [] id).placesTicks = true ∧ (run (.schedCommit (rq 0 [])) (ticking [] id)).sched.commit = true ∧
    (firstFail ((withDurations ({ up with sched := { up.sched with shadow := [en 3 0x7FF 100 0 0 0 0] } } : State)).checks
      (derivedPlan { up with sched := { up.sched with shadow := [en 3 0x7FF 100 0 0 0 0] } }))).isSome = true ∧
    (run (.schedCommit (rq 0 [])) { up with sched := { up.sched with shadow := [en 3 0x7FF 100 0 0 0 0] } }).sched.commit = false := by
  decide +kernel

theorem wit_schedRead : Accepts up 0x302 (rq 0x801000 []) true ∧ Req.p (rq 0x801000 []) 23 23 = 1 ∧ Req.p (rq 0x801000 []) 20 12 = 1 ∧
    Req.p (rq 0x801000 []) 11 0 + Req.p (rq 0x801000 []) 20 12 ≤ [scrub].length ∧
    (((run (.schedRead (rq 0x801000 [])) { up with sched := { up.sched with shadow := [scrub] } }).port 0).replies.map fun l => l.getD 4 0) =
      [scrub.w0] := by
  decide +kernel

theorem wit_swap : (run .scheduleSwap { up with sched := { up.sched with swapNow := true, swapDue := true, shadow := [scrub] } }).sched.active = [scrub] ∧
    (run .shadowCopyDone { up with sched := { up.sched with copyDue := true, active := [scrub] } }).sched.shadow = [scrub] := by
  decide +kernel

/-- A curd of a type with one payload flit, and the same held for a path. -/
def curd (type : Byte) : Curd := { rind := mkRind 1 0 0 type.toNat 1, payload := [5] }
def held (type : Byte) (path : Nat) : Held := { curd := curd type, path, kind := 0 }
/-- An emission entry of path 63 on lane 47, which is trained. -/
def emits (l : List Held) : State :=
  ticking [en 2 0 500 1 47 63 0] fun s =>
    { (s.setReg (.scPathCfg 63) 0x80020001) with
      sched := { s.sched with held := l }, link := { lane := [(47, { step := 5, trained := true, rev := 1 })] } }

theorem wit_emission : (emits [held 0x40 63]).atStart 0 2 = some (en 2 0 500 1 47 63 0) ∧ (emits []).time.infForce = false ∧
    (en 2 0 500 1 47 63 0).cls = 1 ∧ (emits []).carries 47 = true ∧
    (run (.curdEmission 0) (emits [held 0x40 63, held 0x41 62])).sched.held = [held 0x41 62] ∧
    (ticking [en 2 0 500 6 0 63 0] fun s => { s with uplink := { s.uplink with up := true } }).uplink.up = true ∧
    (run (.entryAbort 0) (ticking [en 2 0 500 1 47 63 0] fun s => { s with sched := { s.sched with running := [0] } })).sched.running = [] ∧
    (ticking [en 3 0x7F0 100 1 0 0 0] id).atStart 0 3 = some (en 3 0x7F0 100 1 0 0 0) ∧
    ((run (.entryAbort 0) (ticking [en 3 0x7F0 100 1 0 0 0] id)).cnt 0x300010).value = 1 ∧
    (run (.entryAbort 0) (ticking [en 3 0x7F0 100 1 0 0 0] id)).sched.begun = [0] ∧ (emits []).rel 5 = true ∧
    (run (.curdDeadline 63) (emits [held 0x40 63])).sched.held = [held 0x40 63] ∧
    (run (.curdDeadline 63) { emits [held 0x40 63] with time := { (emits []).time with fn := 1 } }).sched.held = [] := by
  decide +kernel

-- channels -------------------------------------------------------------------------------------------------------------------------------------------------------------

/-- Channel 47 enabled with its window open, HIT curds on path 63, and its record. -/
def channel (rs : List (Reg × Word)) (c : Chan) : State :=
  { upWith ([(.caChCfg 47, 0x11), (.caChWin 47, 0x80000000 + 0x01000010), (.scPathCfg 63, 0x80020001), (.scPathMatch 63, 2)] ++ rs)
    with chans := [(47, c)] }

theorem wit_channel : (channel [] {}).settleNow = channel [] {} ∧ (channel [] {}).chanOn 47 = true ∧ ((channel [] { dropDue := true, range := 1 }).chan 47).range ≠ 0 ∧
    ((run (.autorangeDrop 47) (channel [] { dropDue := true, range := 1 })).chan 47).range = 0 ∧
    ((run (.autorangeDrop 47) (channel [] { dropDue := true, range := 1 })).chan 47).inv = some .range := by
  decide +kernel

theorem wit_ranges :
    (channel [(.caChCfg 47, 0x71), (.caChAuto 47, 0x10000)] {}).b (.caChCfg 47) 6 = true ∧
    (channel [(.caChCfg 47, 0x71), (.caChAuto 47, 0x10000)] {}).f (.caChAuto 47) 23 16 = 1 ∧
    (channel [(.caChCfg 47, 0x71), (.caChAuto 47, 0x10000)] {}).f (.caChCfg 47) 5 4 = 3 ∧
    ((run (.autorangeRise 47) (channel [(.caChCfg 47, 0x71), (.caChAuto 47, 0x10000)] { quiet := 1, range := 2 })).chan 47).range = 3 ∧
    (run (.invIntervalEnd 47) (channel [] { inv := some .range })).time.ct = 8192 ∧
    (channel [] {}).paired 47 = false ∧ (run (.digitiserSample 47 0) (channel [] { lastEven := some 256 })).time.ct = 512 ∧
    ((run (.digitiserSample 47 0) (channel [(.caChCfg 47, 0x71)] { range := 1 })).chan 47).dropDue = true := by
  decide +kernel

/-- A timing stop at the first picosecond inside the window, and one before it. -/
def stopIn : Stop := { trailing := false, cycle := 0, coarse := 16, bin := 0, rangeSwitch := false, thrSettle := false, fn := 0, tick := 0 }

theorem wit_stops : (channel [] {}).chanOn 47 = true ∧ 0 ≤ ctDiff stopIn.ct (channel [] {}).time.ct ∧
    (channel [] {}).f (.caChWin 47) 11 0 * 512 = stopIn.raw % (4096 * 512) ∧
    stopIn.raw % (4096 * 512) < (channel [] {}).f (.caChWin 47) 28 16 * 512 ∧ (channel [] {}).b (.caChWin 47) 31 = true ∧
    ((run (.tdcStop 47 false 0 16 0) (channel [] {})).chan 47).fifo.length = 1 ∧
    ({ stopIn with coarse := 15 } : Stop).raw % (4096 * 512) < (channel [] {}).f (.caChWin 47) 11 0 * 512 ∧
    ((run (.tdcStop 47 false 0 15 511) (channel [] {})).chan 47).fifo = [] := by
  decide +kernel

theorem wit_bias : canWrite up 0 9 = true ∧ 0 < up.res.channels ∧ (run (.biasKey 0 0xB1A5) up).b .caBiasCtrl 16 = true ∧
    (run (.biasKey 0 0xB1A4) (upWith [(.caBiasCtrl, 0x10001)])).b .caBiasCtrl 16 = false ∧
    (run (.biasEnableWrite 0 0xF) (upWith [(.caBiasCtrl, 0x10000)])).reg .caBiasCtrl = 0x1000F ∧ up.b .caBiasCtrl 16 = false ∧
    (run (.biasEnableWrite 0 1) up).reg .caBiasCtrl = 0xF00 ∧ (run .biasKeyClose (upWith [(.caBiasCtrl, 0x10003)])).reg .caBiasCtrl = 3 := by
  decide +kernel

theorem wit_calibration : Accepts up 0x410 (rq 0 [0x12F, 7]) true ∧ fld 0x12F 5 0 = 47 ∧ 47 < up.res.channels ∧ fld 0x12F 9 8 = 1 ∧
    Req.w (rq 0 [0x12F, 7]) 2 = 0 ∧ up.rel 9 = true ∧ up.enAny 47 = false ∧ up.calBusy 47 = false ∧
    ((run (.calRun (rq 0 [0x12F, 7])) up).chan 47).cal = some (1, 7, false) ∧
    (run (.calRunDone 46 (.interleave (-3) 9)) { up with
      chans := [(46, { cal := some (2, 0, true) })],
      ports := { up.ports with long := [{ op := 0x410, res := 46, req := rq 0 [] }] } }).regW (.mdChIlv 46) = 0xFD := by
  decide +kernel

-- hits -----------------------------------------------------------------------------------------------------------------------------------------------------------------------

/-- A hit of channel 47 at the tick, closed or waiting for its trailing stop. -/
def openHit (closed : Bool) : OpenHit :=
  { stop := { trailing := false, cycle := 0, coarse := 0, bin := 0, rangeSwitch := false, thrSettle := false, fn := 0, tick := 0,
              period := 0x800, useTot := true, wait := 4 },
    closed }
/-- The channel with such a hit, hit building on, a budget of 16 flits and no zero suppression. -/
def hitting (aligned closed : Bool) : State :=
  let s := channel [(.hbCfg, 0x10001), (.hbChBudget 47, 16), (.hbChZs 47, 1), (.caChTdc 47, 0)] { hits := [openHit closed] }
  { s with time := { s.time with aligned } }

theorem wit_hits : (hitting true true).settleNow = hitting true true ∧ (hitting true true).rel 5 = true ∧ 47 < up.res.channels ∧
    ((hitting true true).chan 47).fifo = [] ∧ ((hitting true true).chan 47).hits = openHit true :: [] ∧
    (openHit true).settled (hitting true true).time.ct = true ∧ (openHit false).settled 0 = false ∧ (openHit false).closed = false ∧
    sdiff 48 ((hitting true true).formItem 47 (openHit true)).1.fn.toNat 0 ≤ 0 ∧
    (hitting true true).budgetOf 47 0 = some { fn := 0, period := 0x800, budget := 16, zs := 1, win := 0x31004, snip := 0x80200, base := 0 } ∧
    (hitting true true).time.infForce = false ∧ (hitting true true).b .hbCfg 0 = true ∧ ((hitting true true).pathOf 2).isSome = true := by
  decide +kernel
theorem wit_hitForm : (hitting true true).hitValues 47 0 = { fn := 0, period := 0x800, budget := 16, zs := 1, win := 0x31004, snip := 0x80200, base := 0 } ∧
    passes ((hitting true true).hitValues 47 0) 0 0 true = true ∧ passes { (hitting true true).hitValues 47 0 with zs := 0 } 0 0 true = false ∧
    ((hitting true true).formItem 47 (openHit true)).1.flits.length ≤
      (((hitting true true).setChan 47 { (hitting true true).chan 47 with hits := [] }).transport.hitChan 47).free ∧
    (run (.hitForm 47) (hitting true true)).hits.items.length = 1 ∧ (run (.hitForm 47) (hitting false true)).hits.wheyNow = true ∧
    ((run (.totWaitExpiry 47) (hitting true false)).chan 47).hits = [openHit true] := by
  decide +kernel

/-- Two items of frame 7, the later one first. -/
def item (fine : Nat) : Item := { ch := 47, fine, fn := 7, flits := [BitVec.ofNat 128 fine], rangeSwitch := false, inv := false }
def ended : State := { channel [(.hbCfg, 0xFE0001)] {} with hits := { items := [item 9, item 4], ended := [(7, 512)] } }

theorem wit_hitClose : ended.rel 5 = true ∧ ended.hits.ended = (7, 512) :: [] ∧
    (((ended.advanceTo 512).formAll (List.range ended.res.channels)).transport).pathOf 2 = some 63 ∧
    closedItems (((ended.advanceTo 512).formAll (List.range ended.res.channels)).transport).hits.items 7 [] ≠ [] ∧
    ((run (.hitFrameClose [] []) ended).sched.held.map fun h => (h.path, h.curd.payload, h.readyAt)) = [(63, [4, 9], some 33280)] ∧
    (run (.hitFrameClose [] []) ended).hits.items = [] := by
  decide +kernel

-- rennet -------------------------------------------------------------------------------------------------------------------------------------------------------------------------

/-- Every source enabled, a decision time of 100 ns, armed for single triggers. -/
def rennet (f : Rennet → Rennet) (rs : List (Reg × Word)) : State :=
  let s := upWith ([(.trCfg, 100), (.trSrcEn, 0x3FF), (.trBudget, 8)] ++ rs)
  { s with rennet := f { s.rennet with armed := true, arm := { mode := 1 } } }

theorem wit_sources : (rennet id []).settleNow = rennet id [] ∧ (rennet id []).settleNow.nextCand = rennet id [] ∧ (rennet id []).rel 5 = true ∧ 512 < (rennet id []).decide_ ∧ Accepts (rennet id []) 0x401 (rq 0 []) true ∧
    (rennet id []).b .trSrcEn 6 = true ∧ (run (.trigForce (rq 0 [])) (rennet id [])).rennet.cands = [{ t := 0, sources := 0x40, origin := 0 }] ∧
    (rennet id []).rennet.lastIn = none ∧ (rennet id []).b .trSrcEn 4 = true ∧
    (run (.trigInEdge 5) (rennet id [])).rennet.cands = [{ t := 5, sources := 0x10, origin := 0, ovf := true }] := by
  decide +kernel

theorem wit_compare : canWrite up 0 7 = true ∧ (usFine : Int) ≤ ctDiff (((rennet id [(.trCmpTargetLo, 512000)]).reg .trCmpTargetHi) ++
      ((rennet id [(.trCmpTargetLo, 512000)]).reg .trCmpTargetLo)) (rennet id []).time.ct ∧
    (run (.cmpArm 0) (rennet id [(.trCmpTargetLo, 512000)])).rennet.cmpAt = 512000 ∧
    (run .ctCompare (rennet (fun r => { r with cmpArmed := true, cmpAt := 1024 }) [(.trCmpPeriod, 2)])).rennet.cmpAt = 2048 ∧
    (run .ctCompare (rennet (fun r => { r with cmpArmed := true, cmpAt := 1024 }) [])).rennet.cands =
      [{ t := 1024, sources := 0x20, origin := 0 }] ∧
    (run .ctCompare (rennet (fun r => { r with cmpArmed := true, cmpAt := 1024 }) [(.trSrcEn, 0)])).rennet.cands = [] := by
  decide +kernel

/-- Pattern unit 3 watches channel 47, whose discriminator rose at time 5. -/
def pattern : State :=
  { rennet id [(.trPatCareHi 3, 0x80008000), (.trPatValueHi 3, 0x8000), (.caChCfg 47, 1)] with
    chans := [(47, { lastRise := some 5, lastStamp := some 5 })] }

theorem wit_pattern : pattern.rel 9 = true ∧ pattern.b (.trPatCareHi 3) 31 = true ∧ pattern.b .trSrcEn 3 = true ∧
    SMap.find pattern.rennet.lastFire 3 = none ∧
    (∀ m, m < 48 → pattern.care 3 m = true → pattern.patValue 3 m = pattern.seen m (pattern.f (.trPatCareHi 3) 21 16 + 1) 0) ∧
    ((List.range 48).filter fun m => pattern.care 3 m && pattern.patValue 3 m && pattern.roseIn 0 m).head? = some 47 ∧
    (pattern.chan 47).lastStamp = some 5 ∧ ctDiff 0 ((5 : CT).plus pattern.decide_) < 0 ∧
    (run (.patternFire 3 0) pattern).rennet.cands = [{ t := 5, sources := 8, origin := 0 }] ∧
    (run .autoTimeout (rennet (fun r => { r with arm := { mode := 1, auto := true, timeout := 1000 } }) [])).rennet.cands =
      [{ t := 512000, sources := 0x200, origin := 0, auto := true }] := by
  decide +kernel

/-- A candidate at an instant. -/
def cand (t : CT) : Cand := { t, sources := 0x10, origin := 0 }

theorem wit_decisions :
    (rennet (fun r => { r with armTick := 600, cands := [cand 512] }) []).rennet.armedAt 512 = false ∧
    (run .triggerDecision (rennet (fun r => { r with armTick := 600, cands := [cand 512] }) [])).rennet.cands = [] ∧
    (rennet (fun r => { r with cands := [cand 512] }) []).rennet.armedAt 512 = true ∧
    ((run .triggerDecision (rennet (fun r => { r with cands := [cand 512], last := some { cand 512 with sources := 1 } }) [])).rennet.last.map
      (·.sources)) = some 0x11 ∧ (rennet id [(.trCfg, 0x00100064)]).f .trCfg 31 20 * ns = 512 ∧
    (run .triggerDecision (rennet (fun r => { r with cands := [cand 1024], last := some (cand 512) }) [(.trCfg, 0x00100064)])).rennet.num = 0 ∧
    (rennet id []).b .trOutCfg 31 = false ∧ fld ((rennet id []).trFrame 512).budget 8 0 = 8 ∧ (rennet id []).rennet.closing = false ∧
    (rennet (fun r => { r with cands := [cand 512] }) []).settleNow.nextCand = rennet (fun r => { r with cands := [cand 512] }) [] := by
  decide +kernel

theorem wit_accepted :
    (run .triggerDecision (let s := rennet (fun r => { r with cands := [cand 512] }) []
      { s with time := { s.time with aligned := true } })).rennet.num = 1 ∧
    (run .trigOutPulse (rennet (fun r => { r with outQueue := [512] }) [])).rennet.outHigh = true ∧
    (run .trigOutFall (rennet (fun r => { r with outHigh := true, outFall := some 512 }) [])).rennet.outHigh = false := by
  decide +kernel

/-- A record with its number. -/
def record (done : Bool) : Record :=
  { num := 3, t := 512, epoch := 0, fn := 0, fineTick := 512, sources := 0x10, coarse := false, shortPre := false, preValid := 0, trigIndex := 0,
    spans := [32768], range0 := 0, rangeSwitch := false, done }

/-- A segment of one channel in the middle of its second record: a candidate within the first one is a miss. -/
def busySeg : State := rennet (fun r =>
  { r with cands := [cand 1024], arm := { mode := 2, records := 4, pre := 1, post := 1 }, segOpen := true,
           seg := some { vat := false, base := 0x41000000, chans := [47], len := 2, maskLo := 0, maskHi := 0x8000 },
           records := [record false] }) []

theorem wit_miss : busySeg.settleNow.nextCand = busySeg ∧ busySeg.rennet.armedAt 1024 = true ∧ busySeg.rennet.last = none ∧
    busySeg.rennet.arm.mode = 2 ∧ busySeg.rennet.busyAt 1024 = true ∧ busySeg.rennet.misses.length < 16 ∧
    (run .triggerDecision busySeg).rennet.misses = [(1024, 0x10)] := by
  decide +kernel

/-- The tick of an arm has come; the tick of a disarm has come. -/
def armsNow : State := { up with rennet := { up.rennet with armNow := true, armDue := some { mode := 2 } } }
def disarmsNow : State := rennet (fun r => { r with disarmNow := true, disarmDue := true }) []

theorem wit_arm : up.rel 7 = true ∧ Accepts (upWith [(.scPathCfg 63, 0x800F0001), (.scPathMatch 63, 4)]) 0x400 (rq 0 [1]) true ∧
    (upWith [(.scPathCfg 63, 0x800F0001), (.scPathMatch 63, 4)]).streamStop { mode := 1, records := 1 } = none ∧
    (run (.trigArm (rq 0 [1])) (upWith [(.scPathCfg 63, 0x800F0001), (.scPathMatch 63, 4)])).rennet.armDue = some { mode := 1, records := 1 } ∧
    up.rennet.armed = false ∧ up.rennet.armDue = none ∧
    (upWith [(.trTbCfg, 0xC0000000), (.trTbSram, 0x01000000)]).segmentStop { mode := 2, records := 1, pre := 1 } = none ∧
    (run .trigArmTakesEffect armsNow).rennet.segOpen = true ∧ run .rwfTakeEffect armsNow = armsNow ∧
    Accepts up 0x402 (rq 0 []) true ∧ (run (.trigDisarm (rq 0 [])) (rennet id [])).rennet.disarmDue = true ∧
    run .rwfTakeEffect disarmsNow = disarmsNow ∧ disarmsNow.rennet.segOpen = false ∧
    (run .trigDisarmTakesEffect disarmsNow).rennet.armed = false := by
  decide +kernel

/-- A segment of two records, or of one, in its first record. -/
def recording (records : Nat) (done rearming : Bool) : State := rennet (fun r =>
  { r with records := [record done], arm := { mode := 2, records, pre := 1 }, segOpen := true, rearming,
           seg := some { vat := false, base := 0, chans := [47], len := 1, maskLo := 0, maskHi := 0x8000 } }) []

theorem wit_records : (recording 2 false false).rel 9 = true ∧ (recording 2 false false).rennet.closing = false ∧
    (recording 2 false false).rennet.records.getLast? = some (record false) ∧ (recording 2 false false).rennet.seg.isSome = true ∧
    (run .recordComplete (recording 2 false false)).rennet.rearming = true ∧ (run .recordComplete (recording 1 false false)).rennet.segClosed = true ∧
    (run .rearmComplete (recording 2 true true)).rennet.rearmAt.isSome = true := by
  decide +kernel

/-- A closed segment of channel 47, one record of one block. -/
def segment : State := rennet (fun r =>
  { r with records := [record true], segClosed := true, armed := false,
           seg := some { vat := false, base := 0, chans := [47], len := 1, maskLo := 0, maskHi := 0x8000 } }) []

theorem wit_segment : Accepts segment 0x403 (rq 0 [0, 0x12F]) true ∧ segment.rel 9 = true ∧ fld 0x12F 5 0 = 47 ∧ 47 < segment.res.channels ∧
    fld 0x12F 15 8 = 1 ∧ (List.range [47].length).find? (fun j => decide ([47][j]? = some 47)) = some 0 ∧ fld 0x12F 29 16 + fld 0x12F 15 8 ≤ 1 ∧
    (((run (.segmentRead (rq 0 [0, 0x12F]) []) segment).port 0).replies.map fun l => l.length) = [45] := by
  decide +kernel

/-- An entry of read-outs on channel 0 of cluster 0. -/
def reads : State := ticking [en 6 0 500 5 0 63 0] id

theorem wit_readout : reads.atStart 0 6 = some (en 6 0 500 5 0 63 0) ∧ reads.rennet.readouts.Nodup ∧ reads.time.infForce = false ∧
    reads.rel 11 = true ∧ (en 6 0 500 5 0 63 0).idx / 4 < reads.res.clusters ∧ (reads.dmaCh (en 6 0 500 5 0 63 0).idx).busy = false ∧
    (run (.transientBufferReadout 0 []) reads).sched.begun = [0] := by
  decide +kernel

-- the engines ------------------------------------------------------------------------------------------------------------------------------------------------------------------------

/-- An instruction word of predicate 0. -/
def wd (d a b : BitVec 5) (f : BitVec 6) (imm : Word) : EngWord := { pred := 0, d, a, b, f, imm, poisoned := false }
/-- Engine 255 runs a user kernel and has fetched a word from the last slot of its store. -/
def at7FF (op : Nat) (w : EngWord) (f : Engine → Engine) : State :=
  { up with engines := { up.engines with
      eng := [(255, f { state := 1, pc := 0x7FF })],
      cl := [(15, { store := [(0x7FF, w.bits op)],
                    run := some { entry := 0, handle := 0x100, mask := 0x8000, tickCt := 0, fn := 0, start := 3 } })] } }
/-- Engine 255 after an instruction. -/
def after (op : Nat) (w : EngWord) (i : Nat → EngWord → Instr) (f : Engine → Engine) : Engine := (run (i 255 w) (at7FF op w f)).eng 255
/-- The scalar of a register of an engine, and a register set to a value. -/
def put (n : Nat) (v : VReg) (g : Engine) : Engine := g.setReg n v

theorem wit_issue : engineOp (.nop 255 (wd 0 0 0 0 0)) = some (255, wd 0 0 0 0 0, 0) ∧ up.canIssue 255 = false ∧
    (at7FF 0 (wd 0 0 0 0 0) id).canIssue 255 = true ∧ ((at7FF 0 (wd 0 0 0 0 0) fun g => { g with pc := 0x800 }).eng 255).pc = 0x800 ∧
    (after 0 (wd 0 0 0 0 0) .nop fun g => { g with pc := 0x800 }).fault = 3 ∧
    (after 0 { wd 0 0 0 0 0 with poisoned := true } .nop id).fault = 5 ∧ ((at7FF 0 { wd 0 0 0 0 0 with pred := 1 } id).eng 255).pred 1 = false ∧
    (at7FF 0 { wd 0 0 0 0 0 with pred := 1 } id).slotWord 255 0x7FF = { wd 0 0 0 0 0 with pred := 1 }.bits 0 ∧
    (after 0 { wd 0 0 0 0 0 with pred := 1 } .nop id).pc = 0x800 := by
  decide +kernel

theorem wit_control : Issues (at7FF 0 (wd 0 0 0 0 0) id) 255 0 (wd 0 0 0 0 0) ∧ (wd 0 0 0 0 0).only 0 0 0 0 0 = true ∧
    Issues (at7FF 1 (wd 0 0 0 0 0) id) 255 1 (wd 0 0 0 0 0) ∧ (after 1 (wd 0 0 0 0 0) .halt id).state = 0 ∧
    Issues (at7FF 2 (wd 0 0 0 0 0x1FFF) id) 255 2 (wd 0 0 0 0 0x1FFF) ∧ (wd 0 0 0 0 0x1FFF).only 0 0 0 0 0x1FFF = true ∧
    (after 2 (wd 0 0 0 0 0x1FFF) .br id).pc = 0x1FFF ∧ (wd 0 31 0 0 5).only 0 31 0 0 0x1FFF = true ∧
    (after 3 (wd 0 31 0 0 5) .brdec (put 31 { val := 2 })).pc = 5 ∧ (after 3 (wd 0 31 0 0 5) .brdec (put 31 { val := 1 })).pc = 0x800 ∧
    (after 4 (wd 31 0 0 0 0) .id id).sc 31 = 255 ∧ Issues (at7FF 5 (wd 31 0 0 0 0) id) 255 5 (wd 31 0 0 0 0) ∧
    ((after 5 (wd 31 0 0 0 0) .time id).reg 31).val = 3 := by
  decide +kernel

theorem wit_scalars : Issues (at7FF 0x10 (wd 31 0 0 0 0xFFFFFFFF) id) 255 0x10 (wd 31 0 0 0 0xFFFFFFFF) ∧
    (wd 31 0 0 0 0xFFFFFFFF).only 31 0 0 0 0xFFFFFFFF = true ∧ (after 0x10 (wd 31 0 0 0 0xFFFFFFFF) .li id).sc 31 = 0xFFFFFFFF ∧
    (after 0x11 (wd 30 31 0 0 0xFFFFFFFF) .addi (put 31 { val := 1, poison := true })).reg 30 = { val := 0, poison := true } ∧
    (after 0x12 (wd 31 31 31 0 0) .add (put 31 { val := 0x80000001 })).sc 31 = 2 ∧
    (after 0x13 (wd 1 2 31 0 0) .sub (put 31 { val := 1 })).sc 1 = 0xFFFFFFFF ∧
    (after 0x14 (wd 1 31 0 0 31) .slli (put 31 { val := 3 })).sc 1 = 0x80000000 ∧
    (after 0x15 (wd 1 31 0 0 31) .srai (put 31 { val := 0x80000000 })).sc 1 = 0xFFFFFFFF ∧
    (wd 3 1 31 5 0).only 3 31 31 7 0 = true ∧ (wd 3 1 31 5 0).fm 2 0 = 5 ∧
    Issues (at7FF 0x18 (wd 3 1 31 2 0) id) 255 0x18 (wd 3 1 31 2 0) ∧ (wd 3 1 0 0 0xFFFFFFFF).only 3 31 0 7 0xFFFFFFFF = true ∧
    (after 0x18 (wd 3 1 31 0 0) .cmp id).pf = 9 ∧ (after 0x19 (wd 3 1 0 0 0) .cmpi id).pf = 9 ∧ (after 0x19 (wd 3 1 0 0 1) .cmpi id).pf = 1 := by
  decide +kernel

/-- A generator at a word of the global SRAM with two words to go. -/
def gen (a : AddrGen) (g : Engine) : Engine := g.setAg 3 a

theorem wit_generators : Issues (at7FF 0x20 (wd 3 31 0 0 0) id) 255 0x20 (wd 3 31 0 0 0) ∧ (wd 3 31 0 0 0).only 3 31 0 0 0 = true ∧
    ffld 0xD0000000000000000000000 91 88 = 13 ∧ ((after 0x20 (wd 3 31 0 0 0) .agset (put 31 { val := 0xD00000000000200000005 })).ag 3).len = 2 ∧
    ((after 0x21 (wd 31 3 0 0 0) .agget (gen { base := 7 })).reg 31).val = agBits { base := 7 } ∧
    (wd 3 0 0 0 0x1FFFF).only 3 0 0 3 0x1FFFF = true ∧ ((after 0x22 (wd 3 0 0 0 0x1FFFF) .setlen (gen { len := 1 })).ag 3).pending = true ∧
    ((after 0x22 (wd 3 0 0 1 4) .setlen (gen { len := 9, index := 5 })).ag 3).index = 1 ∧ cutIndex 4 5 = (1, true) ∧
    ((after 0x23 (wd 3 0 0 0 0xF) .agexp id).ag 3).exp = 0xF ∧ (wd 3 0 0 0 0xF).only 3 0 0 0 0xF = true ∧
    ((after 0x24 (wd 3 31 0 2 0) .agidx fun g => put 31 { val := 5 } (gen { len := 4 } g)).ag 3).index = 1 ∧
    ((after 0x24 (wd 3 31 0 2 0) .agidx fun g => put 31 { val := 5 } (gen { len := 4 } g)).flags) = 4 ∧
    ffld 0x200000003 48 32 = 2 ∧ ffld 0x200000003 16 0 = 3 ∧ (agOf 0x200000003).2 = true := by
  decide +kernel

/-- The window address of the generator's word, and the bytes one to sixteen there. -/
def wordAt : Nat := (dataAddr 255 ({ base := 8 } : AddrGen).address).getD 0
def bytes16 : List Byte := (List.range 16).map fun i => BitVec.ofNat 8 (i + 1)
def loaded (op : Nat) (w : EngWord) : State := { at7FF op w (gen { base := 8, exp := 5, len := 9, stride := 1 }) with window := wrBytes [] wordAt bytes16 }

theorem wit_loads : Issues (loaded 0x30 (wd 31 0 0 3 0)) 255 0x30 (wd 31 0 0 3 0) ∧ (wd 31 0 0 3 0).fm 1 0 = 3 ∧
    (wd 31 0 0 3 0).only 31 0 0 3 0 = true ∧ dataAddr 255 (((loaded 0x30 (wd 31 0 0 3 0)).eng 255).ag 3).address = some wordAt ∧
    ((run (.ld 255 (wd 31 0 0 3 0) []) (loaded 0x30 (wd 31 0 0 3 0))).eng 255).reg 31 = { val := 0x100F0E0D0C0B0A090807060504030201, tag := 5 } ∧
    (wd 30 0 0 3 0).only 30 0 0 3 0 = true ∧
    (dataAddr 255 (((loaded 0x31 (wd 30 0 0 3 0)).eng 255).ag 3).next.1.address).isSome = true ∧
    (((run (.ldp 255 (wd 30 0 0 3 0) []) (loaded 0x31 (wd 30 0 0 3 0))).eng 255).reg 31).tag = 5 ∧
    dataAddr 255 ({ base := 0x1FFFF } : AddrGen).address = none ∧
    (after 0x30 (wd 31 0 0 3 0) (fun e w => .ld e w []) (gen { base := 0x1FFFF })).fault = 2 := by
  decide +kernel

theorem wit_stores : (wd 0 31 0 3 0).only 0 31 0 3 0 = true ∧
    rdByte (run (.st 255 (wd 0 31 0 3 0)) (loaded 0x32 (wd 0 31 0 3 0))).window wordAt = 0 ∧
    rdByte (run (.st 255 (wd 0 31 0 3 0)) (loaded 0x32 (wd 0 31 0 3 0))).window (wordAt + 16) = 0 ∧ (wd 0 30 0 3 0).only 0 30 0 3 0 = true ∧
    dataAddr 255 (((loaded 0x33 (wd 0 30 0 3 0)).eng 255).ag 3).next.1.address ≠ some wordAt ∧
    (((run (.stp 255 (wd 0 30 0 3 0)) (loaded 0x33 (wd 0 30 0 3 0))).eng 255).ag 3).exp = 0 := by
  decide +kernel

/-- A register of eight equal 16-bit components. -/
def vec (v tag : Nat) (p : Bool) : VReg := { val := packComps 16 (List.replicate 8 (v : Int)), tag := BitVec.ofNat 4 tag, poison := p }

theorem wit_vectors : Issues (at7FF 0x40 (wd 1 31 30 4 0) id) 255 0x40 (wd 1 31 30 4 0) ∧ (wd 1 31 30 5 0).only 31 31 31 7 0 = true ∧
    (wd 1 31 30 5 0).fm 2 0 = 5 ∧ fmtWidth 2 = 16 ∧
    (after 0x40 (wd 1 31 30 2 0) .vadd fun g => put 31 (vec 30000 0 false) (put 30 (vec 30000 1 true) g)).reg 1 = vec 32767 1 true ∧
    (after 0x40 (wd 1 31 30 2 0) .vadd fun g => put 31 (vec 30000 0 false) (put 30 (vec 30000 1 true) g)).flags = 1 ∧
    (after 0x41 (wd 1 31 30 2 0) .vsub fun g => put 31 (vec 9 0 false) (put 30 (vec 4 0 false) g)).reg 1 = vec 5 0 false ∧
    (after 0x42 (wd 1 31 0 2 0x1F) .vsra (put 31 (vec 9 3 true))).reg 1 = vec 0 3 true ∧
    (after 0x43 (wd 1 31 30 0 0) .vand fun g => put 31 (vec 12 2 false) (put 30 (vec 10 1 true) g)).reg 1 = vec 8 2 true ∧
    (after 0x44 (wd 1 31 30 0 0) .vor fun g => put 31 (vec 12 2 false) (put 30 (vec 10 1 true) g)).reg 1 = vec 14 2 true ∧
    (after 0x45 (wd 1 31 30 0 0) .vxor fun g => put 31 (vec 12 2 false) (put 30 (vec 10 1 true) g)).reg 1 = vec 6 2 true := by
  decide +kernel

theorem wit_moves : (wd 31 30 0 0 0).only 31 31 0 0 0 = true ∧ (after 0x46 (wd 31 30 0 0 0) .vmov (put 30 (vec 9 3 true))).reg 31 = vec 9 3 true ∧
    (wd 31 30 0 0 0xF).only 31 31 0 0 0xF = true ∧ (after 0x47 (wd 31 30 0 0 0xF) .vtag (put 30 (vec 9 3 true))).reg 31 = vec 9 15 true ∧
    fmtElem 1 = 16 ∧ (7 : Nat) < 128 / fmtElem 1 ∧ (after 0x48 (wd 31 30 0 1 7) .vget (put 30 (vec 9 3 true))).sc 31 = 9 ∧
    (after 0x49 (wd 31 30 0 1 0) .vsplat (put 30 { val := 9 })).reg 31 = vec 9 0 false := by
  decide +kernel

/-- Sixteen values of eight bits, one, and four bits, one plus j. -/
def ones8 : VReg := { val := 0x01010101010101010101010101010101 }
def ones4 : VReg := { val := 0x11111111111111111111111111111111 }

theorem wit_mac8 : Issues (at7FF 0x50 (wd 7 30 28 0 0) id) 255 0x50 (wd 7 30 28 0 0) ∧ (wd 7 30 28 0 0).only 7 31 31 7 0 = true ∧
    evenA (wd 7 30 28 0 0) = true ∧ evenB (wd 7 30 28 0 0) = true ∧ (wd 7 30 28 2 7).fm 1 0 = 2 ∧ (wd 7 30 28 2 7).only 7 31 31 7 7 = true ∧
    (wd 7 31 29 1 0x11).fm 1 0 = 1 ∧ (wd 7 31 29 1 0x11).only 7 31 31 7 0x11 = true ∧
    laneParts false (SMap.get 0 ((after 0x50 (wd 7 30 28 0 0) .mac8 fun g =>
      put 30 ones8 (put 31 ones8 (put 28 ones8 (put 29 ones8 (g.setBank 7 {}))))).bank 7).lanes 15) = (0, 2) := by
  decide +kernel

theorem wit_mac4 : Issues (at7FF 0x51 (wd 7 30 28 0 0) id) 255 0x51 (wd 7 30 28 0 0) ∧ (wd 7 30 28 0 0).fm 1 0 = 0 ∧
    (wd 0 30 28 1 0x13).only 0 31 31 7 0x13 = true ∧ (wd 0 30 28 1 0x13).fm 1 0 = 1 ∧ (wd 0 30 28 1 0x13).im 4 4 = 1 ∧
    laneParts false (SMap.get 0 ((after 0x51 (wd 7 30 28 0 0) .mac4 fun g => put 30 ones4 (put 28 ones4 g)).bank 7).lanes 15) = (0, 2) ∧
    laneParts false (SMap.get 0 ((after 0x51 (wd 0 30 28 5 0x13) .mac4 fun g => put 30 ones4 (put 28 ones4 g)).bank 7).lanes 15) = (2, 0) := by
  decide +kernel

theorem wit_mac16 : Issues (at7FF 0x52 (wd 7 30 28 0 0) id) 255 0x52 (wd 7 30 28 0 0) ∧ (wd 7 30 28 0 0).only 7 31 31 3 0 = true ∧
    (wd 7 30 29 2 7).fm 1 0 = 2 ∧ (wd 7 30 29 2 7).only 7 31 31 3 7 = true ∧ evenA (wd 7 30 29 2 7) = true ∧
    (wd 0 0 0 0 0xFF).only 0 0 0 0 0xFF = true ∧ (after 0x53 (wd 0 0 0 0 0xFF) .bclr fun g => g.setBank 7 { cleared := false }).bank 7 = {} ∧
    ({} : Bank).cleared = true ∧ ({} : Bank).lanes = [] ∧ sat 32 (2 ^ 31 - 1) = 2 ^ 31 - 1 := by
  decide +kernel

theorem wit_movs : Issues (at7FF 0x58 (wd 31 30 0 8 0) id) 255 0x58 (wd 31 30 0 8 0) ∧ (wd 31 30 0 8 0).only 31 31 0 0x1F 0x3F0000FF = true ∧
    (wd 31 30 0 8 0).f.getLsbD 3 = true ∧ (convOf ((wd 31 30 0 8 0).fm 2 0)).regs = true ∧
    ((wd 31 30 0 8 0x01000000).im 29 24 + 1) % (convOf 0).per = 0 ∧ 30 + ((wd 31 30 0 8 0x01000000).im 29 24 + 1) ≤ 32 ∧
    31 + ((wd 31 30 0 8 0x01000000).im 29 24 + 1) / (convOf 0).per ≤ 32 := by
  decide +kernel

theorem wit_emit : Issues (at7FF 0x60 (wd 31 30 0 0 0x4001) (put 30 { val := 0x3FFFF })) 255 0x60 (wd 31 30 0 0 0x4001) ∧
    (wd 31 30 0 0 0x4001).only 31 31 0 0 0xFFFF = true ∧ (wd 31 30 0 0 0x4001).im 7 0 = 1 ∧
    (after 0x60 (wd 31 30 0 0 0x4001) .emit (put 30 { val := 0x3FFFF })).held = true ∧
    ((run (.emit 255 (wd 31 30 0 0 0x4001)) (at7FF 0x60 (wd 31 30 0 0 0x4001) (put 30 { val := 0x3FFFF }))).cluster 15).emits.length = 1 := by
  decide +kernel

/-- The curd that the EMIT asked for waits at the admission point of cluster 15, with a budget. -/
def admitting (budget : Word) : State :=
  let s := run (.emit 255 (wd 31 30 0 0 0x4001)) (at7FF 0x60 (wd 31 30 0 0 0x4001) (put 30 { val := 0x3FFFF }))
  let s := ((s.setReg (.eaCResBudget 15) budget).setReg (.scPathCfg 63) 0x80020001).setReg (.scPathMatch 63) 0x40
  { s with time := { s.time with aligned := true } }

theorem wit_admission : (admitting 3).pathOf 0x40 = some 63 ∧ (admitting 3).admitsResult 15 true 0x40 1 = true ∧
    ((run (.resultAdmission 15) (admitting 3)).eng 255).sc 31 = 1 ∧ (run (.resultAdmission 15) (admitting 3)).sched.held.length = 1 ∧
    (admitting 2).admitsResult 15 true 0x40 1 = false ∧ ((run (.resultAdmission 15) (admitting 2)).eng 255).held = false := by
  decide +kernel

/-- TRIG with T 512 in v31. -/
def trigs : State := at7FF 0x61 (wd 0 31 0 0 0) (put 31 { val := BitVec.ofNat 128 (512 * 2 ^ 64) })

theorem wit_trig : Issues trigs 255 0x61 (wd 0 31 0 0 0) ∧ (wd 0 31 0 0 0).only 0 31 0 0 0 = true ∧ ((trigs.eng 255).reg 31).poison = false ∧
    ((trigs.setEng 255 (past trigs 255)).queueTrig 255 512 false).2 = false ∧ (run (.trig 255 (wd 0 31 0 0 0) false) trigs).trigsOf 15 = [512] ∧
    (∀ k, k < 16 → trigs.trigsOf k = []) := by
  decide +kernel

/-- The trigger FIFO of cluster 15 with candidates in it. -/
def queued (n : Nat) : State := (trigs.setTrigs 15 (List.replicate n 512)).setReg .trCfg 100 |>.setReg .trSrcEn 0x80

theorem wit_trigFifo : (((queued 8).setEng 255 (past (queued 8) 255)).queueTrig 255 512 false).2 = true ∧
    ((run (.trig 255 (wd 0 31 0 0 0) false) (queued 8)).reg .eaEvents).getLsbD 5 = true ∧
    (run (.trig 255 (wd 0 31 0 0 0) true) (queued 8)).trigsOf 15 = [512] ∧
    (queued 1).trigsOf 15 = 512 :: [] ∧ (queued 1).rel 5 = true ∧ (queued 1).b .trSrcEn 7 = true ∧
    ctDiff 256 ((512 : CT).plus (queued 1).decide_) < 0 ∧ ((queued 1).drainTrig 256).rennet.cands = [{ t := 512, sources := 0x80, origin := 0 }] := by
  decide +kernel

-- memory -------------------------------------------------------------------------------------------------------------------------------------------------------------------------

/-- Bytes in the global SRAM and in stack 3, which is ready in region 63. -/
def filled : State :=
  { region63 { state := 2, base := 3 * 2 ^ 35, size := 2 ^ 35, cls := 0 } with
    window := wrBytes [] 0x42FFFFF0 bytes16, vatMem := wrBytes [] (2 ^ 37 - 16) bytes16 }
/-- MEM_READ and MEM_WRITE of the last four words of the vat space. -/
def readTop : Req := rq 1 [0xFFFFFFF0, 0x1F, 4]
def writeTop : Req := rq 1 [0xFFFFFFF0, 0x1F, 9, 8, 7, 6]

theorem wit_memRead : KeepsCells [⟨false, 0, .corrected⟩] ∧ Accepts filled 0x200 readTop true ∧ memAddr readTop = some (true, 2 ^ 37 - 16) ∧ (readTop.w 2).toNat = 4 ∧
    filled.memStop true (2 ^ 37 - 16) 4 = none ∧ filled.wordPoisoned true (2 ^ 37 - 16) = false ∧
    (((run (.memRead readTop []) filled).port 0).replies.map fun l => l.getD 4 0) = [0x04030201] ∧
    (((run (.memRead readTop []) (filled.markPoison true (2 ^ 37 - 16))).port 0).replies.map fun l => (l.getD 2 0) &&& 0x00FF0000) =
      (((run (.memRead readTop []) (filled.markPoison true (2 ^ 37 - 1))).port 0).replies.map fun l => (l.getD 2 0) &&& 0x00FF0000) ∧
    (filled.markPoison true (2 ^ 37 - 16)).wordPoisoned true (2 ^ 37 - 16) = true ∧
    Accepts filled 0x200 (rq 0 [0x42FFFFF0, 0, 4]) true ∧ filled.memStop false 0x42FFFFF0 4 = none ∧
    filled.staleTag true (2 ^ 37 - 16) = false := by
  decide +kernel

/-- A class-M region of SRAM has been deleted: its words hold another tag than their place, until they are written (R328, R335, R336). -/
def deleted : State := { filled with vat := { filled.vat with stale := [(0x42FFF000, 0x43000000)] } }

theorem wit_staleTag : deleted.staleTag false 0x42FFFFF0 = true ∧ deleted.wordPoisoned false 0x42FFFFF0 = false ∧
    deleted.memStop false 0x42FFFFF0 4 = none ∧ Accepts deleted 0x200 (rq 0 [0x42FFFFF0, 0, 4]) true ∧
    (((run (.memRead (rq 0 [0x42FFFFF0, 0, 4]) []) deleted).port 0).replies.map fun l => l.getD 3 0) = [0x0C000000] ∧
    (run (.memRead (rq 0 [0x42FFFFF0, 0, 4]) []) deleted).wordPoisoned false 0x42FFFFF0 = true ∧
    (run (.memWrite (rq 0 [0x42FFFFF0, 0, 4, 4, 4, 4]) []) deleted).staleTag false 0x42FFFFF0 = false := by
  decide +kernel

theorem wit_memWrite : Accepts filled 0x201 writeTop true ∧ memAddr writeTop = some (true, 2 ^ 37 - 16) ∧
    filled.memStop true (2 ^ 37 - 16) (writeTop.len - 2) = none ∧
    rdByte (run (.memWrite writeTop []) filled).vatMem (2 ^ 37 - 12) = 8 ∧ rdByte (run (.memWrite writeTop []) filled).vatMem (2 ^ 37 - 17) = 0 ∧
    (run (.memWrite writeTop []) filled).window = filled.window ∧ filled.classAt true (2 ^ 37 - 64) = 0 ∧
    filled.regionAt true (2 ^ 37 - 64) = some 63 ∧ rdByte (run (.readModifyWrite true (2 ^ 37 - 1) [(63, 5)] []) filled).vatMem (2 ^ 37 - 1) = 5 ∧
    rdByte (run (.readModifyWrite true (2 ^ 37 - 1) [(63, 5)] []) filled).vatMem (2 ^ 37 - 2) = 15 := by
  decide +kernel

/-- A write-back that waits, with its tracker entry. -/
def tracked : State :=
  let t : Track := { vat := true, addr := 64, count := 2, written := false }
  { filled.setTracks 0 [t] with vat := { (filled.setTracks 0 [t]).vat with writeBacks := [(true, 64)] } }

theorem wit_writeBack : (true, 64) ∈ tracked.vat.writeBacks ∧ (run (.writeBack true 64) tracked).vat.writeBacks = [] ∧
    ((run (.writeBack true 64) tracked).track true 64).map (·.written) = some true ∧
    Accepts filled 0x212 (rq 0 [0xFFFFFFFF, 0x1F]) true ∧ (2 ^ 37 - 1) / stackBytes < filled.res.vatStacks ∧ filled.stackUp 3 = true ∧
    freeSpare filled.vat (bankKey (2 ^ 37 - 1)) = some 0 ∧ SMap.find filled.vat.moves 3 = none ∧
    ((SMap.find (run (.spareRow (rq 0 [0xFFFFFFFF, 0x1F])) filled).vat.moves 3).map (·.spare)) = some 0 := by
  decide +kernel

theorem wit_rowMove : (SMap.find (run (.spareRow (rq 0 [0xFFFFFFFF, 0x1F])) filled).vat.moves 3).isSome = true ∧
    (run (.spareRow (rq 0 [0xFFFFFFFF, 0x1F])) filled).vat.waiting = [] ∧
    SMap.find (run (.rowMoveDone 3 []) (run (.spareRow (rq 0 [0xFFFFFFFF, 0x1F])) filled)).vat.moves 3 = none ∧
    ((run (.rowMoveDone 3 []) (run (.spareRow (rq 0 [0xFFFFFFFF, 0x1F])) filled)).vat.soft.map fun c => (c.2.stack, c.2.row, c.2.spare)) =
      [(3, 65535, 0)] := by
  decide +kernel

/-- A scrub entry of stack 3, three accesses, with the region of that stack open to scrubbing. -/
def scrubbing : State := ticking [en 4 0 100 4 3 0 3] fun s => { s with vat := { filled.vat with
  regions := [(63, { state := 2, base := 3 * 2 ^ 35, size := 2 ^ 35, cls := 0, scrub := true })] } }

theorem wit_scrub : scrubbing.atStart 0 4 = some (en 4 0 100 4 3 0 3) ∧ scrubbing.time.infForce = false ∧
    scrubbing.time.fn.toNat % (fld (en 4 0 100 4 3 0 3).w3 31 16 + 1) = 0 ∧
    SMap.get 0 (run (.scrubStep 0 []) scrubbing).vat.cursors 3 = 3 * 2 ^ 35 + 192 := by
  decide +kernel

theorem wit_stacks : up.rel 6 = true ∧ 3 < up.res.vatStacks ∧ up.vat.trained.getLsbD 3 = false ∧ up.vat.failed.getLsbD 3 = false ∧
    (run (.stackTrainingDone 3 true) up).vat.trained = 8 ∧ (run (.stackTrainingDone 3 false) up).vat.failed = 8 ∧
    (run (.stackTempRead 3 1361) up).vat.hot = 8 ∧ (run (.stackTempRead 3 1360) up).vat.hot = 0 ∧
    (run (.stackTempRead 3 1279) (run (.stackTempRead 3 1361) up)).vat.hot = 0 ∧ (run (.stackTempRead 3 1280) (run (.stackTempRead 3 1361) up)).vat.hot = 8 := by
  decide +kernel

-- engine work ------------------------------------------------------------------------------------------------------------------------------------------------------------------------

/-- KERNEL_LOAD of one word at slot 0x7FF of cluster 15, with its handle. -/
def loads : Req := rq 0x8000 [0x000107FF, 0x800107FF, 0x11, 0x22]

theorem wit_kernelLoad : loads.p 15 0 = 0x8000 ∧ 0x8000 < 2 ^ up.res.clusters ∧ fld (loads.w 0) 27 16 = 1 ∧
    fld (loads.w 0) 10 0 + fld (loads.w 0) 27 16 = 2048 ∧ fld (loads.w 1) 10 0 + fld (loads.w 1) 27 16 = 2048 ∧
    up.slotsInUse 0x8000 0x7FF 1 = false ∧ Accepts up 0x310 loads (decide (loads.len = 2 + 2 * fld (loads.w 0) 27 16)) ∧
    (loads.w 1).getLsbD 31 = true ∧ up.newHandle = 0x100 ∧ SMap.get 0 ((run (.kernelLoad loads) up).cluster 15).store 0x7FF = 0x0000001100000022 ∧
    (SMap.find (run (.kernelLoad loads) up).engines.kernels 0x100).isSome = true ∧ Accepts up 0x311 (rq 0 []) true ∧
    (((run (.kernelInfo (rq 0 [])) (run (.kernelLoad loads) up)).port 0).replies.getLast?.map fun l => l.drop 4 |>.take 5) =
      some [0x01008000, 0x07FF0001, 0xFFFF, 0xFFFFFF, 0xFFFFFFFF] := by
  decide +kernel

/-- The kernel loaded, its run the only entry. -/
def kernelRuns : State := ticking [en 1 0 500 2 15 0 0x80000100] fun s => { s with engines := (run (.kernelLoad loads) up).engines }

theorem wit_kernelRun : kernelRuns.atStart 0 1 = some (en 1 0 500 2 15 0 0x80000100) ∧ (en 1 0 500 2 15 0 0x80000100).idx = 15 ∧
    kernelRuns.b (.eaCCtrl 15) 31 = false ∧ (kernelRuns.cluster 15).run = none ∧ (SMap.find kernelRuns.engines.kernels 0x100).isSome = true ∧
    ((run (.kernelRun 0) kernelRuns).eng 255).pc = 0x7FF ∧ ((run (.kernelRun 0) kernelRuns).eng 254).state = 0 ∧
    enginesOf 15 0x8000 = [255] ∧ ((run (.kernelRunComplete 15) (let s := run (.kernelRun 0) kernelRuns
      s.modEng 255 fun g => { g with state := 0 })).cluster 15).run = none := by
  decide +kernel

/-- One row of one word copied from 0x42000000 to 0x42FFFFF0, by descriptor 511 of cluster 15, the last of its chain. -/
def chained : State :=
  let ws : List Word := [0xE0000000, 0x42000000, 0, 0x42FFFFF0, 1, 1, 0, 0]
  { ticking [en 0 0 500 0 63 0 511] id with
    window := wrBytes (wrBytes [] 0x42000000 bytes16) (descAddr 15 511) (ws.flatMap fun w => leBytes 4 w.toNat) }

theorem wit_transfer : chained.atStart 0 0 = some (en 0 0 500 0 63 0 511) ∧ (en 0 0 500 0 63 0 511).idx = 63 ∧ 63 / 4 < chained.res.clusters ∧
    (chained.dmaCh 63).busy = false ∧ (run (.transfer 0) chained).dmaCh 63 = { busy := true, next := 511, entry := 0 } := by
  decide +kernel

theorem wit_descriptor : chained.descOk (descOf (rdWords chained.window (descAddr 15 511) 8)) = true ∧
    (descOf (rdWords chained.window (descAddr 15 511) 8)).fence = false ∧
    (descOf (rdWords chained.window (descAddr 15 511) 8)).conv = 0 ∧ (descOf (rdWords chained.window (descAddr 15 511) 8)).src.rows = 1 ∧
    (descOf (rdWords chained.window (descAddr 15 511) 8)).src.meets (descOf (rdWords chained.window (descAddr 15 511) 8)).dst = false ∧
    rdByte (run (.dmaDescriptor 63 []) (run (.transfer 0) chained)).window 0x42FFFFFF = 16 ∧
    ((run (.dmaDescriptor 63 []) (run (.transfer 0) chained)).dmaCh 63).ended = true ∧
    (run (.dmaDescriptorDone 63) (run (.dmaDescriptor 63 []) (run (.transfer 0) chained))).dmaCh 63 = {} := by
  decide +kernel

-- merging and press --------------------------------------------------------------------------------------------------------------------------------------------------------------------

/-- A concentrator with path 63 to merge, L 8 frames, in a ring of eight slots of one kibibyte in region 63. -/
def merging (rs : List (Reg × Word)) (f : Merge → Merge) : State :=
  let base : List (Reg × Word) := [(.idRole, 2), (.scPathCfg 63, 0x80080000), (.scPathMatch 63, 2), (.scMergeSlot, 1),
    (.scMergePathsHi, 0x80000000), (.scMergeInmaskLo, 2)]
  let s : State := (base ++ rs).foldl (fun s p => s.setReg p.1 p.2)
    (region63 { state := 2, base := 3 * 2 ^ 35, size := 2 ^ 35, cls := 0 })
  { s with merge := f s.merge }
/-- A curd of frame −6 (with SLOTS 8 and H 6) in the ring. -/
def merged : Merged := { curd := { rind := mkRind 5 0 (0 - 6) 2 1, payload := [5] }, path := 63, lane := 1, addr := 3 * 2 ^ 35 }

theorem wit_mergeOn : (0x8000083F : Word).getLsbD 31 = true ∧ (merging [] id).mergeOn = false ∧ fld 0x8000083F 13 8 = 8 ∧
    (∀ q, q < 64 → (merging [] id).mergeBitW .scMergePathsLo .scMergePathsHi q = true → 3 ≤ (merging [] id).closeOffsetW q ∧
      (merging [] id).closeOffsetW q + 2 ≤ 8 ∧ (merging [] id).b (.scPathCfg q) 31 = true) ∧
    (merging [] id).mergeBitW .scMergePathsLo .scMergePathsHi 63 = true ∧ ((merging [] id).region 63).state = 2 ∧
    8 * ((merging [] id).fw .scMergeSlot 19 0 * 1024) ≤ ((merging [] id).region 63).size ∧ ((merging [] id).regW .scMergeInmaskLo).getLsbD 0 = false ∧
    (merging [] id).protected ((merging [] id).pendReg .scMergeCfg (0x8000083F &&& 0x80003F3F)) = true := by
  decide +kernel

theorem wit_merge : canWrite (merging [] id) 0 5 = true ∧ (merging [] id).boot.state = 1 ∧ (merging [] id).role = 2 ∧
    (run (.mergeEnable 0 0x8000083F) (merging [] id)).regW .scMergeCfg = 0x8000083F ∧ (merging [] id).closeOffset 63 = 6 ∧
    merged.curd.rind.fn = up.time.fn.setWidth 32 - BitVec.ofInt 32 6 ∧
    (run (.mergeClose 63 []) (merging [] fun m => { m with closeDue := [63], held := [merged] })).sched.held.length = 1 ∧
    (run (.mergeClose 63 []) (merging [] fun m => { m with closeDue := [63], held := [merged] })).merge.held = [{ merged with closed := true }] ∧
    (run (.mergeClose 63 []) (merging [(.scMergeSinkHi, 0x80000000)] fun m => { m with closeDue := [63], held := [merged] })).sched.held = [] := by
  decide +kernel

/-- The same curd two frames older. -/
def older : Merged := { merged with curd := { rind := mkRind 5 0 (0 - 8) 2 1, payload := [5] } }

theorem wit_mergeSlot :
    (run .mergeSlotEmpty (merging [(.scMergeCfg, 0x8000083F)] fun m => { m with emptyDue := true, used := [(0, 48), (2, 48)], held := [merged, older] })).merge.held = [merged] ∧
    (run .mergeSlotEmpty (merging [(.scMergeCfg, 0x8000083F)] fun m => { m with emptyDue := true, used := [(0, 48), (2, 48)] })).merge.used =
      [(2, 48)] := by
  decide +kernel

/-- A press job of unit 3 on three equal words of global SRAM, to the end of it. -/
def press (w0 : Word) : Req := rq 0 [w0, 0x42000000, 0, 0x42FFFFC0, 0, 3, 4, 0]

theorem wit_press : Accepts up 0x600 (press 0x203) true ∧ jobAddr false 0x42000000 0 = some 0x42000000 ∧
    up.jobStop false 0x42000000 3 = none ∧ up.jobStop false 0x42FFFFC0 4 = none ∧ fld 0x203 1 0 = 3 ∧ fld 0x203 9 8 = 2 ∧
    up.unitScheduled 3 = false ∧ (up.unit 3).open_ = false ∧ up.wordPoisoned false 0x42000020 = false ∧ up.staleTag false 0x42000020 = false ∧
    (pressBlock 2 (List.replicate 3 0)).length ≤ min 4 (3 - 1) := by
  decide +kernel

theorem wit_pressRuns :
    ((run (.pressJob (press 0x203) []) up).port 0).replies.length = 1 ∧
    rdByte (run (.pressJob (press 0x203) []) up).window 0x42FFFFCF = 0xC5 ∧
    ((run (.pressJob (press 0x1203) []) up).unit 3).open_ = true ∧
    rdByte (run (.pressFlush (rq 3 []) []) (run (.pressJob (press 0x1203) []) up)).window 0x42FFFFCF = 0xC5 ∧
    Accepts (run (.pressJob (press 0x1203) []) up) 0x601 (rq 3 []) true ∧
    (run (.pressJob (press 0x1203) []) up).jobStop false 0x42FFFFC0 4 = none := by
  decide +kernel

/-- One word that does not shrink; and the block of eight zeros to expand. -/
def single : Req := rq 0 [0x203, 0x42000000, 0, 0x42FFFFC0, 0, 1, 4, 0]
def expands : Req := rq 0 [0x213, 0x42000000, 0, 0x42FFFF80, 0, 2, 8, 0]

theorem wit_pressEnds : Accepts up 0x600 single true ∧ 1 - 1 < (pressBlock 2 [0]).length ∧ (run (.pressJob single []) up).window = [] ∧
    Accepts up 0x600 expands true ∧ (0x213 : Word).getLsbD 4 = true ∧
    expandBlock (pressBlock 2 [0, 1]) 8 = .words [0, 1] ∧
    rdByte (run (.pressJob expands []) { up with window := wrBytes [] 0x42000000 (flitMem (pressBlock 2 [0, 1])) }).window 0x42FFFF90 = 1 ∧
    (pressBlock 2 [0, 1]).length = 2 := by
  decide +kernel

/-- A press entry of unit 3 over the curds of path 63. -/
def pressing (c : Curd) : State := ticking [en 5 0 500 3 3 0 0x000801BF] fun s =>
  { s with sched := { s.sched with held := [{ curd := c, path := 63, kind := 0 }] } }

theorem wit_pressEntry : ((pressing (curd 2)).atStart 0 5).isSome = true ∧ pressWaits 0 63 { curd := curd 2, path := 63, kind := 0 } = true ∧
    fld 0x000801BF 5 0 = 63 ∧ 1 ≤ fld 0x000801BF 15 8 ∧ fld 0x000801BF 31 16 = 8 ∧
    ((run (.pressEntry 0) (pressing (curd 2))).sched.held.map fun h => h.curd.rind.rawNoGain) = [true] ∧
    ((run (.pressEntry 0) (pressing { rind := mkRind 1 0 0 2 8, payload := List.replicate 8 0 })).sched.held.map fun h =>
      h.curd.rind.compressed) = [true] ∧
    ((run (.pressEntry 0) (pressing { curd 2 with rind := { (curd 2).rind with poisoned := true } })).sched.held.map fun h =>
      (h.curd.rind.compressed, h.curd.rind.rawNoGain)) = [(false, false)] := by
  decide +kernel

-- housekeeping ----------------------------------------------------------------------------------------------------------------------------------------------------------------------

/-- HK_SEQ_LOAD of entry 31: input 31 against ground, gain 128, settling 255, all ten sources, cut of every enable, a limit check. -/
def seqLoad : Req := rq 0 [0x0000011F, 0x7FF7FF00, 0x03FF010F]
/-- Entry 31 is the last one of the sequence, which has begun with it. -/
def housing (f : House → House) : State :=
  let s := run (.hkSeqLoad seqLoad) (upWith [(.hkCfg, 0x001F0000)])
  { s with house := f { s.house with running := true, next := 31, entry := 31 } }

theorem wit_hkLoad : Accepts up 0x800 seqLoad (decide (1 ≤ fld (seqLoad.w 0) 13 8 ∧ fld (seqLoad.w 0) 13 8 ≤ 32 ∧
      seqLoad.len = 1 + 2 * fld (seqLoad.w 0) 13 8)) ∧ fld (seqLoad.w 0) 4 0 + fld (seqLoad.w 0) 13 8 = 32 ∧
    seqLoad.w 0 &&& 0xFFFFC0E0 = 0 ∧ up.rel 10 = true ∧ up.house.running = false ∧
    up.hkEntryOk (seqLoad.w 1) (seqLoad.w 2) = true ∧ (housing id).hkW0 31 = 0x7FF7FF00 ∧ (housing id).hkW1 31 = 0x03FF010F ∧
    (housing id).hkW0 30 = 0 := by
  decide +kernel

theorem wit_hkStart : Accepts (ticking [en 3 0 100 0 0 0 0] id) 0x801 (rq 1 []) true ∧ hasHkStep [en 3 0 100 0 0 0 0] = true ∧
    (ticking [en 3 0 100 0 0 0 0] id).sched.commit = false ∧
    (run (.hkSeqStart (rq 1 [])) (ticking [en 3 0 100 0 0 0 0] id)).house.running = true ∧
    (run (.hkSeqStart (rq 0 [])) (housing fun h => { h with phase := .kept })).house.stopping = true ∧
    (run (.hkSeqStart (rq 0 [])) (housing fun h => { h with phase := .connected })).house.running = false ∧
    Accepts (housing id) 0x802 (rq 0 []) true ∧ (housing id).seqLen = 31 ∧
    (((run (.hkRead (rq 0 [])) (housing id)).port 0).replies.getLast?.map fun l => (l.length, l.drop 4 |>.take 1)) = some (102, [0x801F0000]) := by
  decide +kernel

theorem wit_hkEntry : ((ticking [en 3 0 100 0 0 0 0x80000000] fun s => { s with house := (housing id).house }).atStart 0 3).isSome = true ∧
    ((run (.housekeepingStep 0) (ticking [en 3 0 100 0 0 0 0x80000000] fun s => { s with house := (housing id).house })).house.phase = .begun) ∧
    ((run (.housekeepingStep 0) (ticking [en 3 0 100 0 0 0 0x80000000] fun s => { s with house := (housing id).house })).house.excOn = 0x3FF) ∧
    (run .hkConnect (housing fun h => { h with phase := .begun })).house.phase = .connected ∧
    (run .hkSettleEnd (housing fun h => { h with phase := .connected, changes := true })).house.phase = .keeping ∧
    (run (.hkConversionEnd 0) (housing fun h => { h with phase := .discarding })).house.phase = .keeping ∧
    (run (.hkConversionEnd 2500000) (housing fun h => { h with phase := .keeping })).house.code = 128 := by
  decide +kernel

theorem wit_hkPublish : (SMap.get {} (run .hkResultPublish (housing fun h => { h with phase := .kept, code := -1 })).house.results 31).value = 0xFFFFFFFF ∧
    (run .hkResultPublish (housing fun h => { h with phase := .kept })).house.running = false ∧
    (run .hkResultPublish ((housing fun h => { h with phase := .kept }).setReg .hkCfg 0x011F0000)).house.next = 0 ∧
    (run .hkResultPublish (housing fun h => { h with phase := .kept, entry := 30 })).house.next = 31 ∧
    (run .hkResultPublish (housing fun h => { h with phase := .kept, stopping := true, entry := 30 })).house.running = false := by
  decide +kernel

/-- Source 9 is on and is switched off by a fault. -/
def sourceOn : State := housing fun h => { h with phase := .keeping, excOn := 0x200, excCfg := [(9, 0x10000)] }

theorem wit_hkFaults : sourceOn.house.excOn.getLsbD 9 = true ∧ (SMap.get 0 sourceOn.house.excCfg 9).getLsbD 16 = true ∧
    (run (.sensorFault 9 2) sourceOn).reg .hkFault = 0x20000000 ∧ (run (.sensorFault 9 2) sourceOn).house.excOff = 0x200 ∧
    (run (.sensorFault 9 2) sourceOn).house.excOn = 0 ∧ sx 16 ((upWith [(.hkDieLimit, 0)]).f .hkDieLimit 15 0) = 0 ∧
    SMap.get 0 (run (.dieSensorRead [0, 0, 0, 0, 0, 0, 0, 0x7FFF]) up).house.die 7 = 0x7FFF ∧
    (run (.dieSensorRead [0, 0, 0, 0, 0, 0, 0, 0x11]) (upWith [(.hkDieLimit, 0x10)])).house.dieHot = true := by
  decide +kernel

-- the uplink -----------------------------------------------------------------------------------------------------------------------------------------------------------------------

/-- The uplink runs on lane 47, with MAC 0x0200_0000_0001, IP 10.0.0.1 and port 0x1234 for commands; registers and parts changed. -/
def uplinked (rs : List (Reg × Word)) (f : State → State) : State :=
  let base : List (Reg × Word) := [(.euCfg, 0x802F0000), (.euMacHi, 0x0200), (.euMacLo, 1), (.euIp, 0x0A000001), (.euPorts, 0x12340000)]
  f ((base ++ rs).foldl (fun s p => s.setReg p.1 p.2) up)
/-- Its link is up. -/
def linked : State := uplinked [] fun s => { s with uplink := { s.uplink with up := true } }

theorem wit_uplink : canWrite up 0 8 = true ∧ up.upGroup = 44 ∧ fld 0xC02C0000 21 16 = 44 ∧ fld 0x802F0000 21 16 = 47 ∧ fld 0xC02C0000 30 29 = 2 ∧
    euLanes 0xC02C0000 = [44, 45, 46, 47] ∧ up.b .euCfg 31 = false ∧ up.bw .euCfg 31 = false ∧ up.b .lkRefCfg 0 = false ∧ up.laneEn 47 = false ∧
    up.bw (.lkLCfg 47) 31 = false ∧ up.placesTicks = false ∧ up.protected ((up.applyEu (0xC02C0000 &&& 0xFE3F0FFF)).setNow .euCfg (0xC02C0000 &&& 0xFE3F0FFF)) = true ∧
    ((run (.uplinkEnable 0 0xC02C0000) up).lane 47).uplink = true ∧ ((run (.uplinkEnable 0 0xC02C0000) up).lane 43).uplink = false := by
  decide +kernel

/-- A frame for the uplink, and a command datagram that holds ECHO of no words. -/
def frameFor (ok : Bool) (body : EthBody) : EthFrame := { dst := 0x020000000001, src := 9, vlan := none, fcsOk := ok, body }
def command : EthBody := .udp 7 0x0A000001 8 0x1234 true true ([0x4B551200, 0, 0, 0] ++ echoPacket)

theorem wit_ethernet : (uplinked [] id).euRuns = true ∧ (uplinked [] id).uplink.up = false ∧
    Out.gratuitousArp ∈ (run .euUp (uplinked [] id)).out ∧ linked.uplink.up = true ∧ (run .euDown linked).uplink.up = false ∧
    linked.b .euCfg 28 = false ∧ linked.euMac = 0x020000000001 ∧ linked.f .euPorts 31 16 = 0x1234 ∧ linked.portUp = true ∧
    (run (.ethFrameReceive (frameFor true command)) linked).ports.queue.length = 1 ∧
    (run (.ethFrameReceive (frameFor false command)) linked).ports.queue = [] ∧
    Out.arpReply { mac := 5, ip := 7 } ∈ (run (.ethFrameReceive (frameFor true (.arpRequest 0x0A000001 7 5))) linked).out := by
  decide +kernel

/-- PTP runs for the time core in ROOT_PTP. -/
def ptp (f : Time → Time) : State :=
  uplinked [(.euPtpCfg, 0x80000000), (.tcSrcCfg, 2)] fun s => { s with uplink := { s.uplink with up := true }, time := f s.time }

theorem wit_ptp : (ptp id).rel 7 = true ∧ (ptp id).ptpOn = true ∧ (ptp id).mode = 2 ∧
    (run (.ptpOffsetEstimate (-512001) 5) (ptp fun t => { t with state := 2, ticking := true })).time.state = 1 ∧
    (run (.ptpOffsetEstimate 512001 (2 ^ 55)) (ptp fun t => { t with state := 1 })).time.epoch = 1 ∧
    (run (.ptpOffsetEstimate (-51200) 5) (ptp fun t => { t with state := 1, ptpGood := 15 })).time.state = 2 ∧
    (run (.ptpOffsetEstimate (-51201) 5) (ptp fun t => { t with state := 1, ptpGood := 15 })).time.ptpGood = 0 ∧
    (run (.ptpOffsetEstimate 512000 5) (ptp fun t => { t with state := 1, ptpGood := 15 })).time.state = 1 := by
  decide +kernel

theorem wit_ptpSilence : (ptp fun t => { t with state := 2 }).uplink.lost = false ∧
    (run .ptpSyncTimeout (ptp fun t => { t with state := 2 })).time.state = 3 ∧
    ({ ptp id with uplink := { up := true, selected := some ⟨1, 1, 1, 1, 1, 1, 0, 37⟩ } } : State).uplink.selected.isSome = true ∧
    (run .ptpDelayReq { ptp id with uplink := { up := true, selected := some ⟨1, 1, 1, 1, 1, 1, 0, 37⟩ } }).out = [.delayReq 0] := by
  decide +kernel

-- lanes ----------------------------------------------------------------------------------------------------------------------------------------------------------------------------

/-- Registers in force, and lane 47 as given. -/
def laned (rs : List (Reg × Word)) (l : Lane) : State := { upWith rs with link := { (upWith rs).link with lane := [(47, l)] } }
/-- A trained lane of revision 2. -/
def trainedLane : Lane := { step := 5, trained := true, rev := 2 }

theorem wit_enumerate : up.rel 8 = true ∧ Accepts up 0x004 (rq 0xFFFE []) true ∧ Req.p (rq 0xFFFE []) 15 0 = 0xFFFE ∧
    (up.startCmd 0x004 (rq 0xFFFE [])).protected { up.startCmd 0x004 (rq 0xFFFE []) with ports :=
      { (up.startCmd 0x004 (rq 0xFFFE [])).ports with nodeId := 0xFFFE } } = true ∧
    (laned [] trainedLane).carries 47 = true ∧ (run (.enumerate (rq 0xFFFE [])) up).ports.nodeId = 0xFFFE := by
  decide +kernel

/-- Epoch 1 prepared. -/
def prepared : State := { up with link := { up.link with prepared := 1 } }

theorem wit_epoch : Accepts up 0x005 (rq 0 [1, 0, 1]) true ∧ fld (Req.w (rq 0 [1, 0, 1]) 0) 15 0 = 1 ∧ up.link.inForce = 0 ∧
    up.epochCauses (maskFeatures [1]) = [] ∧ (run (.featureEpoch (rq 0 [1, 0, 1])) up).link.prepared = 1 ∧
    Accepts prepared 0x005 (rq 1 [1, 1024]) true ∧ sdiff 32 1024 prepared.time.fn.toNat = 1024 ∧
    (run (.featureEpoch (rq 1 [1, 1024])) prepared).link.commitFn = some 1024 ∧
    Accepts prepared 0x005 (rq 2 [1, 0]) true ∧ (run (.featureEpoch (rq 2 [1, 0])) prepared).link.prepared = 0 ∧
    (run .epochSwitch { prepared with link := { prepared.link with commitFn := some 0, epochNow := true } }).link.inForce = 1 := by
  decide +kernel

/-- A LINK_TRAIN of lane 47 that runs. -/
def train : Long := { op := 0x500, res := 47, req := rq 0 [47] }

theorem wit_train : Accepts (laned [(.lkLCfg 47, 0x803F0000)] trainedLane) 0x500 (rq 0 [47]) true ∧ (laned [] {}).hasLane 47 = true ∧
    (laned [(.lkLCfg 47, 0x803F0000)] {}).laneEn 47 = true ∧ (laned [] {}).trainRun 47 = none ∧
    ((run (.linkTrain (rq 0 [47])) (laned [(.lkLCfg 47, 0x803F0000)] trainedLane)).lane 47).step = 1 ∧
    ({ up with ports := { up.ports with long := [train] } } : State).trainRun 47 = some train ∧
    (run (.linkTrainTimeout 47) { up with ports := { up.ports with long := [train] } }).ports.long = [] ∧
    Accepts up 0x501 (rq 0 []) true ∧ Accepts up 0x504 (rq 0 []) true ∧ laneStatus (laned [] trainedLane) 47 = 0xD2080000 := by
  decide +kernel

/-- A roster of two slots of 16 flits, both of node 1. -/
def roster2 : List Word := [47, 0x01000F00, 0, 0x00010001]

theorem wit_rosters : Accepts up 0x502 (rq 0 roster2) true ∧ (rosterOfWords roster2).slotFlits = 16 ∧
    rosterFits (up.genOf 47) up.time.period.toNat (rosterOfWords roster2) = true ∧ up.sched.commit = false ∧
    (Req.len (rq 0 roster2) == 3 + cdiv (fld (Req.w (rq 0 roster2) 1) 31 24 + 1) 2) = true ∧
    (SMap.find (run (.rosterLoad (rq 0 roster2)) up).sched.rosterDue 94).map (·.map (·.owners)) = some (some [1, 1]) ∧
    Accepts up 0x502 (rq 0 [47 + 256, 0]) (Req.len (rq 0 [47 + 256, 0]) == 2) ∧
    SMap.find (run (.rosterLoad (rq 0 [47 + 256, 0])) up).sched.rosterDue 95 = some none ∧ Accepts up 0x503 (rq 47 []) true := by
  decide +kernel

theorem wit_deepIdle : canWrite up 0 8 = true ∧ up.mode ≠ 3 ∧ (List.range 48).all (fun k => up.f (.lkLCfg k) 21 16 != 47) = true ∧
    (List.range 48).all (fun k => up.fw (.lkLCfg k) 21 16 != 47) = true ∧ up.emitsOn 47 = false ∧
    ((run (.deepIdleEnter 0 47) (laned [] trainedLane)).lane 47).deep = true ∧
    ((run (.deepIdleWake 0 47) (laned [] { deep := true, step := 6 })).lane 47).step = 1 ∧
    ((run (.sleep 47) (laned [] trainedLane)).lane 47).deep = true ∧ up.link.refclk = true ∧
    ((run (.signalDetection 47) (laned [] { deep := true, step := 6 })).lane 47).wake = true := by
  decide +kernel

/-- Lane 47 enabled, at step n, with the far end's CAP. -/
def bringing (n : Nat) : State := laned [(.lkLCfg 47, 0x803F0000)] { step := n, cap := some ⟨2, 1, 0, 9, 0, 0, true⟩ }

theorem wit_bringup : ((run (.bringupStepComplete 47) (bringing 3)).lane 47).step = 4 ∧
    ((run (.bringupStepComplete 47) (bringing 4)).lane 47).trained = true ∧ (bringing 4).laneEn 47 = true ∧
    ((run (.bringupTimeout 47) (bringing 4)).lane 47).step = 1 ∧ ((run (.bringupSignalLoss 47) (bringing 2)).lane 47).step = 1 ∧
    ((run (.bringupSignalLoss 47) (bringing 1)).lane 47).cap.isSome = true ∧
    (run (.laneDown 47) (laned [(.lkLCfg 47, 0x803F0000)] trainedLane)).link.lane = [(47, { trainedLane with step := 1, trained := false })] ∧
    ((run .laneRefclkLost (laned [] trainedLane)).lane 47).trained = false ∧
    ((run .laneRefclkReturn { laned [(.lkLCfg 47, 0x803F0000)] {} with link := { lane := [(47, {})], refclk := false } }).lane 47).step = 1 := by
  decide +kernel

/-- A follower, LOCKED, whose lane 0 is trained. -/
def following (f : Lane → Lane) (g : Time → Time) : State :=
  let s := upWith [(.tcSrcCfg, 3)]
  { s with link := { s.link with lane := [(0, f trainedLane)] }, time := g { s.time with state := 2 } }

/-- Lane 0 of a follower at step 3, with the far end's CAP. -/
def bringing0 : State := following (fun _ => { step := 3, cap := some ⟨2, 1, 0, 9, 0, 0, true⟩ }) fun t => { t with state := 0 }

theorem wit_bringup0 : bringing0.rel 8 = true ∧ bringing0.link.refclk = true ∧ bringing0.hasLane 0 = true ∧ bringing0.follower = true ∧
    bringing0.clocks.fallback = false ∧ bringing0.time.state = 0 ∧ (run (.bringupStepComplete 0) bringing0).time.state = 1 := by
  decide +kernel

theorem wit_laneExtra : (following id id).follower = true ∧ (run (.laneDown 0) (following id id)).time.state = 3 ∧
    (10 : Nat) < (0x0B : Byte).toNat ∧ ((run (.linkUnknown 47 0x0B) (laned [] trainedLane)).cnt (laneCnt 47 14)).value = 1 ∧
    ((run (.cap 47 ⟨1, 1, 0, 9, 0, 0, true⟩) (laned [] { step := 3 })).lane 47).farNode = 9 ∧
    (laned [] {}).laneStopped 47 = true ∧
    ((run (.cdcDrop 47 false) (laned [] { sending := some (curd 2) })).lane 47).sending = none ∧
    ((run (.cdcDrop 47 true) (laned [] { carriage := [curd 0x21, curd 2] })).lane 47).carriage = [curd 2] := by
  decide +kernel

-- flits ------------------------------------------------------------------------------------------------------------------------------------------------------------------------------

/-- Lane 47 trained, lane 46 too, registers in force. -/
def flitted (rs : List (Reg × Word)) (l : Lane) : State :=
  { upWith rs with link := { (upWith rs).link with lane := [(46, trainedLane), (47, l)] } }

theorem wit_curds : (flitted [] trainedLane).carries 47 = true ∧ (curd 2).payload.length = (curd 2).rind.length.toNat ∧ (curd 2).rind.length ≠ 0 ∧
    isCarriage (curd 2) = false ∧ (flitted [(.lkLCfg 47, 0x802E0000)] trainedLane).fwdLane 47 = some 46 ∧
    ((run (.curdReceive 47 (curd 2) true) (flitted [(.lkLCfg 47, 0x802E0000)] trainedLane)).lane 46).sending = some (curd 2) ∧
    (flitted [] trainedLane).fwdLane 47 = none ∧ (flitted [] trainedLane).stranger 47 (curd 2) = false ∧
    (flitted [] trainedLane).pathOf (curd 2).rind.stream = none ∧ ((flitted [] trainedLane).cnt 0x300020).value < cntMax ∧
    ((run (.curdReceive 47 (curd 2) true) (flitted [] trainedLane)).cnt 0x300020).value = 1 := by
  decide +kernel

/-- Path 63 relays curds of type 2 in four kibibytes. -/
def relaying : State := flitted [(.scPathCfg 63, 0x80020001), (.scPathMatch 63, 2), (.lkRelay, 0x00010000)] trainedLane

theorem wit_relay : relaying.pathOf (curd 2).rind.stream = some 63 ∧ relaying.isMerged 63 = false ∧ relaying.isLate 63 (curd 2) = false ∧
    relaying.kernelType (curd 2).rind.stream = false ∧ relaying.relayed + curdBytes (curd 2) ≤ relaying.f .lkRelay 28 16 * 4096 ∧
    ((run (.curdReceive 47 (curd 2) true) relaying).sched.held.map (·.path)) = [63] ∧
    ((run (.damagedCodeword 47 true) relaying).lane 47).deaf = true := by
  decide +kernel

theorem wit_capAgain : (run (.cap 47 ⟨1, 1, 0, 9, 7, 0, true⟩) (flitted [] { trainedLane with cap := some ⟨1, 1, 0, 8, 6, 0, true⟩ })).carries 47 = true ∧
    ((run (.cap 47 ⟨1, 2, 0, 9, 7, 0, true⟩) (flitted [] { trainedLane with cap := some ⟨1, 1, 0, 8, 6, 0, true⟩ })).lane 47).step = 3 := by
  decide +kernel

/-- Two slots of this node 0 on lane 46, which is the forward-out lane of lane 47. -/
def slotted (l : Lane) : State :=
  { flitted [(.lkLCfg 47, 0x802E0000)] trainedLane with link := { (flitted [] trainedLane).link with lane :=
      [(46, { l with tx := some { slots := 2, slotFlits := 16, reserve := 0, start := 0, owners := [0, 0] } }), (47, { trainedLane with slotQuiet := 2 })] } }

theorem wit_slots : ((run (.slot 47 1 false 5 9) (flitted [] { trainedLane with deaf := true })).lane 47).deaf = false ∧
    (slotted trainedLane).fwdLane 47 = some 46 ∧ ((slotted trainedLane).lane 46).takeover = false ∧
    (run (.slot 47 1 false 5 9) (slotted trainedLane)).out = [.slot 46 1 false 5 9] ∧
    ((slotted trainedLane).rosterNow 46 0).isSome = true ∧ ((run (.takeover 46) (slotted trainedLane)).lane 46).takeover = true ∧
    (run (.slotOpen 46 1) { slotted { trainedLane with takeover := true } with time := { up.time with run := true, ticking := true } }).out =
      [.slot 46 1 true 0 0] := by
  decide +kernel

theorem wit_exchange : (run (.timeExchangeStart 47) (flitted [] trainedLane)).out.take 1 = [.tsSync 47 1] ∧
    (run (.tsSync 47 0xFF 77) (flitted [] trainedLane)).out = [.tsReq 47 0xFF] ∧
    (run (.tsReq 47 7 300) (flitted [] { trainedLane with exT1 := some 100, exSeq := 7 })).out = [.tsData 47 7 100 200] ∧
    ((run (.tsData 47 7 100 250) (flitted [] { trainedLane with exT2 := some 150, exT3 := some 180, rxSeq := 7 })).lane 47).rtt = 220 ∧
    (run (.tsData 0 7 100 250) (following (fun l => { l with exT2 := some 150, exT3 := some 180, rxSeq := 7 }) id)).time.thetas = [-120] := by
  decide +kernel

theorem wit_frameSw : (following id fun t => { t with taken := true }).time.taken = true ∧ 0 < sdiff 48 (9 : FN).toNat 0 ∧
    (following id id).fwdLane 47 = none ∧ (following id id).time.thetas.length < 2 ^ (following id id).f .tcSrcCfg 11 8 := by
  decide +kernel

theorem wit_frames : ((run (.frame 47 0x1000 5 1 true false) (flitted [] { trainedLane with deaf := true })).lane 47).deaf = false ∧
    (following id id).carries 0 = true ∧ (following id id).time.taken = false ∧
    (run (.frame 0 0x1000 5 1 true false) (following id id)).time.taken = true ∧
    (run (.frame 0 0x1000 5 1 true false) (following id id)).time.period = 0x1000 ∧
    (run (.frame 0 0x1000 5 1 false false) (following id fun t => { t with aligned := true, taken := true })).time.aligned = false ∧
    (run (.frameSw 0 9 0x1000) (following id fun t => { t with taken := true, aligned := true })).time.switch = some { fn := 9, period := 0x1000 } := by
  decide +kernel

/-- The slot under way on lane 46 takes so many more TRIG flits, until a chain time ahead. -/
def slottedTrig (n : Nat) : State :=
  (flitted [(.lkLCfg 46, 0x813F0000)] trainedLane).setLane 46 { trainedLane with slotTrig := some (0x7FFFFFFF, n) }

theorem wit_trigWaits : ((slottedTrig 0).lane 46).slotTrig = some (0x7FFFFFFF, 0) ∧ ctDiff (slottedTrig 0).time.ct 0x7FFFFFFF < 0 ∧
    (slottedTrig 0).carries 46 = true ∧ (run (.trigFlit 47 5 0x3FF 88) (slottedTrig 0)).out = [] ∧
    ((run (.trigFlit 47 5 0x3FF 88) (slottedTrig 0)).lane 46).trigWait = [(5, 0x3FF, 88)] ∧
    (run (.trigFlit 47 5 0x3FF 88) (slottedTrig 1)).out = [.trig 46 5 0x3FF 88] := by
  decide +kernel

theorem wit_trigFlit : (flitted [(.lkLCfg 46, 0x813F0000)] trainedLane).b (.lkLCfg 46) 24 = true ∧
    (run (.trigFlit 47 5 0x3FF 88) (flitted [(.lkLCfg 46, 0x813F0000)] trainedLane)).out = [.trig 46 5 0x3FF 88] ∧
    (run (.trigFlit 47 5 0x3FF 88) (run (.trigFlit 47 5 0x3FF 88) (flitted [(.lkLCfg 46, 0x813F0000)] trainedLane))).out = [.trig 46 5 0x3FF 88] ∧
    (flitted [(.lkLCfg 46, 0x813F0000)] trainedLane).carries 46 = true ∧ ((flitted [(.lkLCfg 46, 0x813F0000)] trainedLane).lane 46).slotTrig = none ∧
    (flitted [] { trainedLane with carriage := [curd 0x21] }).emitting 47 = [] ∧
    ((run (.carriageSend 47) (flitted [] { trainedLane with carriage := [curd 0x21] })).lane 47).sending = some (curd 0x21) := by
  decide +kernel
end Sys2Proof.Tests
end

section
/-!
SUPPORT. A read access (R110, R418): what its latches, its draw of an open count and its clears each leave of the state, and the
statement on read-clear fields assembled from that.
-/
namespace Sys2Proof.Machine

theorem State.latchAll_frame (now : State) (qs : List Reg) :
    ∀ s : State, s.latchAll now qs = { s with csr := (s.latchAll now qs).csr } := by
  induction qs with
  | nil => intro s; rfl
  | cons q qs ih => intro s; rw [State.latchAll, ih]; rfl

theorem State.latchOf_frame (s : State) (q : Reg) : s.latchOf q = { s with csr := (s.latchOf q).csr } :=
  State.latchAll_frame s (latchedWith q) s

theorem State.drawFor_frame (s : State) (q : Reg) : s.drawFor q = { s with free := (s.drawFor q).free } := by
  unfold State.drawFor
  split <;> rfl

/-- Before it clears anything, a read changes the latches and the count of draws only. -/
theorem State.latchOf_drawFor_frame (s : State) (q : Reg) :
    (s.latchOf q).drawFor q = { s with csr := (s.latchOf q).csr, free := ((s.latchOf q).drawFor q).free } := by
  rw [State.drawFor_frame, State.latchOf_frame]

theorem State.readClear_frame (s : State) (q : Reg) :
    s.readClear q = { s with power := (s.readClear q).power, time := (s.readClear q).time, rennet := (s.readClear q).rennet,
                             link := (s.readClear q).link } := by
  unfold State.readClear
  split <;> rfl

/-- Each read-clear field is cleared by the read of its own register and kept by the read of every other. -/
theorem State.readClear_rcFields (s : State) (q : Reg) (hstamp : ∀ n, q = .tcStampLo n → n < 2) :
    (s.readClear q).power.cause = (if q = .crResetCause then 0 else s.power.cause) ∧
    (s.readClear q).time.stamps0 = (if q = .tcStampLo 0 then s.time.stamps0.drop 1 else s.time.stamps0) ∧
    (s.readClear q).time.stamps1 = (if q = .tcStampLo 1 then s.time.stamps1.drop 1 else s.time.stamps1) ∧
    (s.readClear q).rennet.misses = (if q = .trMissLo then s.rennet.misses.drop 1 else s.rennet.misses) ∧
    (s.readClear q).link.quarantine = (if q = .lkQuar0 then s.link.quarantine.drop 1 else s.link.quarantine) := by
  unfold State.readClear
  split
  · simp [State.setPow]
  · next n =>
    obtain rfl | rfl : n = 0 ∨ n = 1 := by have := hstamp n rfl; omega
    · simp [State.dropStamp, State.setTime]
    · simp [State.dropStamp, State.setTime]
  · simp [State.dropMiss, State.setRennet]
  · simp [State.dropQuarantine, State.setLink]
  · next notCause notStamp notMiss notQuar =>
    exact ⟨(if_neg notCause).symm, (if_neg (notStamp 0)).symm, (if_neg (notStamp 1)).symm, (if_neg notMiss).symm, (if_neg notQuar).symm⟩

/-- Under a running firmware image the interpreter serves every port (R94, R451). -/
theorem State.portServes_of_firmware (s : State) (port : Nat) (firmware : s.boot.state = 1) : s.portServes port = true := by
  simp [State.portServes, firmware]

/-- RC_READ through a port that the interpreter serves is one read access. -/
theorem exec_rcRead_of_serves (port : Nat) (addr : Word) (s : State) (serving : s.serving = true) (serves : s.portServes port = true) :
    exec (.rcRead port addr) s = .next (s.readAt port addr.toNat).1 := by
  have arm : exec (.rcRead port addr) s = execRcRead port addr s := rfl
  simp [arm, execRcRead, serving, serves]

end Sys2Proof.Machine

namespace Sys2Proof.Claims
open Sys2Proof.Machine

/-- A read access to a readable register answers its value and leaves `readState`. -/
theorem readAt_of_readable (s : State) (port a : Nat) (q : Reg) (h : Readable s a q) :
    s.readAt port a = (readState s port q, .ok, s.readValue q) := by
  obtain ⟨mode, here, released⟩ := h
  have notMinimal : ¬ (s.boot.state ≠ 1 ∧ rindAddr a = false) := by
    rintro ⟨noFirmware, noRind⟩
    exact mode.elim noFirmware (by simp [noRind])
  simp only [State.readAt, if_neg notMinimal, here, released, readState, Bool.not_true, Bool.false_eq_true, if_false]

/-- On an Observer port a read changes the latches and the count of draws only. -/
theorem readState_observer_frame (s : State) (port : Nat) (q : Reg) (observer : (s.port port).cls = 0) :
    readState s port q = { s with csr := (readState s port q).csr, free := (readState s port q).free } := by
  rw [readState, if_pos observer, State.latchOf_drawFor_frame]

/-- On no port does a read change more than the latches, the count of draws and the parts that hold read-clear fields. -/
theorem readState_frame (s : State) (port : Nat) (q : Reg) :
    readState s port q = { s with
      power := (readState s port q).power, csr := (readState s port q).csr, time := (readState s port q).time,
      rennet := (readState s port q).rennet, link := (readState s port q).link, free := (readState s port q).free } := by
  unfold readState
  split
  · rw [State.latchOf_drawFor_frame]
  · rw [State.readClear_frame, State.latchOf_drawFor_frame]

/-- On an Operator or Keeper port a read clears the field of its register and keeps the other read-clear fields. -/
theorem readState_rcFields (s : State) (port : Nat) (q : Reg) (notObserver : (s.port port).cls ≠ 0)
    (hstamp : ∀ n, q = .tcStampLo n → n < 2) :
    (readState s port q).power.cause = (if q = .crResetCause then 0 else s.power.cause) ∧
    (readState s port q).time.stamps0 = (if q = .tcStampLo 0 then s.time.stamps0.drop 1 else s.time.stamps0) ∧
    (readState s port q).time.stamps1 = (if q = .tcStampLo 1 then s.time.stamps1.drop 1 else s.time.stamps1) ∧
    (readState s port q).rennet.misses = (if q = .trMissLo then s.rennet.misses.drop 1 else s.rennet.misses) ∧
    (readState s port q).link.quarantine = (if q = .lkQuar0 then s.link.quarantine.drop 1 else s.link.quarantine) := by
  rw [readState, if_neg notObserver, State.latchOf_drawFor_frame]
  exact State.readClear_rcFields _ q hstamp

/-- Settles O11: the read leaves `readState`, whose Observer branch clears nothing and whose other branch is `State.readClear`. -/
theorem readsClearRcFieldsExceptOnObserverPorts : Obligations.ReadsClearRcFieldsExceptOnObserverPorts := by
  intro port addr q s serving firmware here released hstamp
  have access : s.readAt port addr.toNat = (readState s port q, .ok, s.readValue q) :=
    readAt_of_readable s port addr.toNat q ⟨.inl firmware, here, released⟩
  have result : exec (.rcRead port addr) s = .next (readState s port q) := by
    rw [exec_rcRead_of_serves port addr s serving (s.portServes_of_firmware port firmware), access]
  refine ⟨⟨_, result, access, ?_⟩, fun observer => ⟨_, result, ?_⟩, fun notObserver => ⟨_, result, ?_⟩⟩
  · rw [readState_frame]
    exact ⟨rfl, rfl, rfl⟩
  · rw [readState_observer_frame s port q observer]
    exact ⟨rfl, rfl, rfl, rfl, rfl⟩
  · exact readState_rcFields s port q notObserver hstamp

end Sys2Proof.Claims
end

section
/-!
SUPPORT. The control pair under an event, a change of controller and the start of an arbitration (R131, R132), the latch of a reset that
is alone in its oscillator cycle (R79), and the statement on mismatches assembled from them.
-/
namespace Sys2Proof.Machine

-- events and the pair --------------------------------------------------------------------------------------------------------------------

/-- Of the pair, an event occurrence can change only the events that wait for the output gate. -/
theorem State.notify_pair (s : State) (block code : Nat) (w : Word) :
    (s.notify block code w).pair = { s.pair with heldEvents := (s.notify block code w).pair.heldEvents } := by
  simp only [State.notify, State.notifyPorts]
  split
  · rfl
  · split
    · rw [State.notifyPort_fold]
    · rfl

theorem State.raise_pair (s : State) (block code : Nat) (w : Word) :
    (s.raise block code w).pair = { s.pair with heldEvents := (s.raise block code w).pair.heldEvents } := by
  unfold State.raise
  rw [State.notify_pair]
  cases eventReg block code <;> rfl

theorem State.bump_pair (s : State) (a n : Nat) :
    (s.bump a n).pair = { s.pair with heldEvents := (s.bump a n).pair.heldEvents } := by
  simp only [State.bump]
  split
  · rw [State.notify_pair]; rfl
  · rfl

@[simp] theorem State.reg_setPair (s : State) (f : Pair → Pair) (q : Reg) : (s.setPair f).reg q = s.reg q :=
  State.reg_congr s _ q rfl rfl rfl

/-- An event sets the bit of its code in its block's register. -/
theorem State.reg_raise_own_bit (s : State) (block code i : Nat) (w : Word) (q : Reg) (h : eventReg block code = some (q, i))
    (hi : i < 32) : ((s.raise block code w).reg q).getLsbD i = true := by
  have own : (bit32 i true).getLsbD i = true := by
    rw [bit32, if_pos rfl, BitVec.getLsbD_ofNat, Nat.testBit_two_pow_self, decide_eq_true hi, Bool.true_and]
  rw [State.reg_raise s block code w q i h, BitVec.getLsbD_or, own, Bool.or_true]

/-- An event keeps the bits of its block's register that are set. -/
theorem State.reg_raise_of_set (s : State) (block code i j : Nat) (w : Word) (q : Reg) (h : eventReg block code = some (q, i))
    (set : (s.reg q).getLsbD j = true) : ((s.raise block code w).reg q).getLsbD j = true := by
  rw [State.reg_raise s block code w q i h, BitVec.getLsbD_or, set, Bool.true_or]

-- a change of controller (R132) ----------------------------------------------------------------------------------------------------------

/-- Control goes to the processor named; only a real change is counted. -/
theorem State.changeControl_pair (s : State) (toB boundary : Bool) :
    (s.changeControl toB boundary).pair =
      { s.pair with inB := toB,
                    failovers := if s.pair.inB = toB then s.pair.failovers else stick16 s.pair.failovers,
                    resynced := if s.pair.inB = toB then s.pair.resynced else false,
                    heldEvents := (s.changeControl toB boundary).pair.heldEvents } := by
  by_cases same : s.pair.inB = toB
  · subst same
    simp [State.changeControl]
  · simp only [State.changeControl, beq_iff_eq, same, if_false]
    rw [State.raise_pair]
    rfl

theorem State.cpEvents_changeControl_of_set (s : State) (toB boundary : Bool) (j : Nat) (set : (s.reg .cpEvents).getLsbD j = true) :
    ((s.changeControl toB boundary).reg .cpEvents).getLsbD j = true := by
  unfold State.changeControl
  split
  · exact set
  · exact State.reg_raise_of_set _ 3 1 1 j _ .cpEvents rfl (by simpa using set)

-- the start of an arbitration (R131) -----------------------------------------------------------------------------------------------------

/-- The record of a mismatch, with both self-tests running and the gate closed. -/
theorem State.beginArbitration_pair (s : State) (kind : BitVec 2) (u : Nat) (addr : Word) (tag : BitVec 16)
    (hit : Option (BitVec 12 × Req)) (late : Bool) :
    (s.beginArbitration kind u addr tag hit late).pair =
      { s.pair with gate := false, testing := true, standby := 3, wdogPaused := true, force := false, swapping := none,
                    interrupted := hit, kind, unmatched := BitVec.ofNat 6 u, misTag := tag, misAddr := if u = 0 then 0 else addr,
                    lastReply := none, startTag := if late then s.pair.startTag else s.pair.pushTag,
                    heldEvents := (s.beginArbitration kind u addr tag hit late).pair.heldEvents } := by
  unfold State.beginArbitration
  rw [State.setPair_pair, State.raise_pair, State.bump_pair]
  rfl

theorem State.cpEvents_beginArbitration (s : State) (kind : BitVec 2) (u : Nat) (addr : Word) (tag : BitVec 16)
    (hit : Option (BitVec 12 × Req)) (late : Bool) :
    ((s.beginArbitration kind u addr tag hit late).reg .cpEvents).getLsbD 0 = true := by
  rw [State.beginArbitration, State.reg_setPair]
  exact State.reg_raise_own_bit _ 3 0 0 _ .cpEvents rfl (by decide)

/-- Without a command kept from ending, a mismatch begins an arbitration of the command just executed or of none. -/
theorem State.mismatchLast_begins (s : State) (kind : BitVec 2) (u : Nat) (addr : Word) (tag : BitVec 16) :
    ∃ (t : State) (hit : Option (BitVec 12 × Req)) (late : Bool),
      s.mismatchLast kind u addr tag = t.beginArbitration kind u addr tag hit late := by
  simp only [State.mismatchLast]
  split
  · split
    · exact ⟨_, _, _, rfl⟩
    · exact ⟨_, _, _, rfl⟩
  · exact ⟨_, _, _, rfl⟩

theorem exec_mismatch (kind : BitVec 2) (u : Nat) (addr : Word) (tag : BitVec 16) (s : State) :
    exec (.mismatch kind u addr tag) s = execMismatch kind u addr tag s := rfl

/-- A mismatch of a healthy standby with the controller begins an arbitration, whichever command it interrupts. -/
theorem exec_mismatch_begins (kind : BitVec 2) (u : Nat) (addr : Word) (tag : BitVec 16) (s : State) (serving : s.serving = true)
    (healthy : s.pair.standby = 0) : ∃ (t : State) (hit : Option (BitVec 12 × Req)) (late : Bool),
      exec (.mismatch kind u addr tag) s = .next (t.beginArbitration kind (min u 32) addr tag hit late) := by
  obtain ⟨t, hit, late, last⟩ := s.mismatchLast_begins kind (min u 32) addr tag
  rw [exec_mismatch, execMismatch, if_neg (by simp [serving, healthy])]
  cases s.nextCmd with
  | none => exact ⟨t, hit, late, congrArg _ last⟩
  | some c =>
    by_cases own : c.2.tag = tag
    · exact ⟨_, _, _, congrArg _ (if_pos own)⟩
    · exact ⟨t, hit, late, congrArg _ ((if_neg own).trans last)⟩

-- the outcome of an arbitration (the table of R131) --------------------------------------------------------------------------------------

theorem exec_arbitration (a b : Bool) (s : State) : exec (.arbitration a b) s = execArbitration a b s := rfl

/-- Both processors pass: B becomes the healthy standby of A. -/
theorem exec_arbitration_both_pass (s : State) (testing : s.pair.testing = true) :
    exec (.arbitration true true) s = .next
      (((s.setPair fun p => { p with testing := false, swapping := some false, standby := 0, unresolved := stick16 p.unresolved }).raise
        3 2 0).changeControl false false) := by
  simp [exec_arbitration, execArbitration, testing]

/-- One processor passes: it has control and the other one is demoted. -/
theorem exec_arbitration_one_passes (s : State) (a : Bool) (testing : s.pair.testing = true) :
    exec (.arbitration a (!a)) s = .next
      ((s.setPair fun p => { p with testing := false, swapping := some false, standby := 2, repaired := false, passes := 0 }).changeControl
        (!a) false) := by
  cases a <;> simp [exec_arbitration, execArbitration, testing]

/-- Both processors fail: a watchdog reset. -/
theorem exec_arbitration_both_fail (s : State) (testing : s.pair.testing = true) :
    exec (.arbitration false false) s = .next (s.reset_ 3 0xF true s.power.rstLow false) := by
  simp [exec_arbitration, execArbitration, testing]

-- the latch after a reset (R79) ----------------------------------------------------------------------------------------------------------

theorem fld_or (v w : Word) (hi lo : Nat) : fld (v ||| w) hi lo = fld v hi lo ||| fld w hi lo := by
  simp only [fld, BitVec.toNat_or, Nat.or_mod_two_pow, ← Nat.shiftRight_eq_div_pow, Nat.shiftRight_or_distrib]

theorem fld_of_lt (v : Word) (hi lo : Nat) (h : v.toNat < 2 ^ lo) : fld v hi lo = 0 := by
  rw [fld, Nat.div_eq_of_lt h, Nat.zero_mod]

/-- A reset that is alone in its oscillator cycle sets LAST to its own code. -/
theorem fld_last_causeAfter_alone (old : Word) (code supply : Nat) (hcode : code < 256) (hsupply : supply < 16) :
    fld (causeAfter old false code supply) 31 24 = code := by
  have kept : fld (old &&& 0x3F) 31 24 = 0 :=
    fld_of_lt _ _ _ (Nat.lt_of_le_of_lt (BitVec.toNat_and old 0x3F ▸ Nat.and_le_right) (by decide))
  have codeBit : fld (causeBit code) 31 24 = 0 := by
    unfold causeBit
    split <;> rfl
  have supplyBits : fld (at32 20 supply) 31 24 = 0 := fld_of_lt _ _ _ (by simp only [at32, BitVec.toNat_ofNat]; omega)
  have last : fld (at32 24 code) 31 24 = code := by simp only [fld, at32, BitVec.toNat_ofNat]; omega
  simp only [causeAfter, Bool.false_and, Bool.false_eq_true, if_false, fld_or, kept, codeBit, supplyBits, last, Nat.zero_or]

theorem causeAfter_watchdog_bit (old : Word) (same : Bool) (supply : Nat) :
    (causeAfter old same 3 supply).getLsbD 2 = true := by
  simp [causeAfter, causeBit]

theorem State.reset_cause_alone (s : State) (code supply : Nat) (hold low noFuse : Bool) (alone : s.power.cycle = []) :
    (s.reset_ code supply hold low noFuse).power.cause = causeAfter s.power.cause false code supply := by
  simp [State.reset_, alone]

end Sys2Proof.Machine

namespace Sys2Proof.Claims
open Sys2Proof.Machine

/-- Settles O25: every path of a mismatch ends in `beginArbitration`, and each row of R131's table is a change of control or a reset. -/
theorem mismatchIsSettledBySelfTests : Obligations.MismatchIsSettledBySelfTests := by
  intro kind u addr tag s
  refine ⟨fun serving healthy => ?_, fun testing => ⟨exec_arbitration_both_fail s testing, fun alone => ?_, ?_, fun a => ?_⟩⟩
  · obtain ⟨t, hit, late, begins⟩ := exec_mismatch_begins kind u addr tag s serving healthy
    refine ⟨_, begins, ?_⟩
    rw [State.beginArbitration_pair]
    have noneUnmatched : min u 32 = 0 ↔ u = 0 := by omega
    simp [noneUnmatched, State.cpEvents_beginArbitration]
  · rw [State.reset_cause_alone s _ _ _ _ _ alone]
    exact ⟨fld_last_causeAfter_alone _ 3 0xF (by decide) (by decide), causeAfter_watchdog_bit _ _ _, rfl⟩
  · refine ⟨_, exec_arbitration_both_pass s testing, ?_⟩
    rw [State.changeControl_pair, State.raise_pair]
    exact ⟨rfl, rfl, rfl, rfl, State.cpEvents_changeControl_of_set _ _ _ _
      (State.reg_raise_own_bit _ 3 2 2 0 .cpEvents rfl (by decide))⟩
  · refine ⟨_, exec_arbitration_one_passes s a testing, ?_⟩
    rw [State.changeControl_pair]
    exact ⟨rfl, rfl, rfl, rfl⟩

end Sys2Proof.Claims
end

section
/-!
SUPPORT. An engine's record and a register of it after a write (R238, R271), one issue of a clean word that runs (R269, R270), and the
statement on the control and scalar instructions (R274 to R277) assembled from them.
-/
namespace Sys2Proof.Machine

-- the record and its registers -----------------------------------------------------------------------------------------------------------

@[simp] theorem State.eng_setEng_self (s : State) (e : Nat) (g : Engine) : (s.setEng e g).eng e = g :=
  (SMap.get_set _ _ _ _ _).trans (if_pos rfl)

theorem State.eng_setEng_of_ne (s : State) (g : Engine) {e k : Nat} (h : k ≠ e) : (s.setEng e g).eng k = s.eng k :=
  (SMap.get_set _ _ _ _ _).trans (if_neg h)

@[simp] theorem State.cluster_setEng (s : State) (e c : Nat) (g : Engine) : (s.setEng e g).cluster c = s.cluster c := rfl

@[simp] theorem Engine.reg_setReg_self (g : Engine) (n : Nat) (v : VReg) : (g.setReg n v).reg n = v :=
  (SMap.get_set _ _ _ _ _).trans (if_pos rfl)

theorem Engine.reg_setReg_of_ne (g : Engine) (v : VReg) {n k : Nat} (h : k ≠ n) : (g.setReg n v).reg k = g.reg k :=
  (SMap.get_set _ _ _ _ _).trans (if_neg h)

/-- What a scalar write leaves in its register. -/
@[simp] theorem Engine.reg_setSc_self (g : Engine) (n : Nat) (v : Word) (p : Bool) :
    (g.setSc n v p).reg n = { g.reg n with val := (g.reg n).val.extractLsb' 32 96 ++ v, poison := (g.reg n).poison || p } :=
  Engine.reg_setReg_self g n _

theorem Engine.reg_setSc_of_ne (g : Engine) (v : Word) (p : Bool) {n k : Nat} (h : k ≠ n) : (g.setSc n v p).reg k = g.reg k :=
  Engine.reg_setReg_of_ne g _ h

@[simp] theorem Engine.sc_setSc_self (g : Engine) (n : Nat) (v : Word) (p : Bool) : (g.setSc n v p).sc n = v := by
  rw [Engine.sc, Engine.reg_setSc_self]
  exact BitVec.setWidth_append_eq_right

/-- A scalar write keeps bits [127:32] of its register (R271). -/
theorem Engine.upper_setSc_self (g : Engine) (n : Nat) (v : Word) (p : Bool) :
    ((g.setSc n v p).reg n).val.extractLsb' 32 96 = (g.reg n).val.extractLsb' 32 96 := by
  rw [Engine.reg_setSc_self]
  exact BitVec.extractLsb'_append_eq_left

-- opcodes and compares (R274, R277) ------------------------------------------------------------------------------------------------------

theorem opListed_lt (op : Nat) (listed : opListed op = true) : op < 256 := by
  simp only [opListed, Bool.or_eq_true, decide_eq_true_eq, beq_iff_eq] at listed
  omega

@[simp] theorem Engine.flag_false (g : Engine) (i : Nat) : g.flag i false = g := rfl

/-- A compare of clean operands writes its flag and nothing else. -/
theorem State.compare_of_clean (s : State) (e n c : Nat) (x y : Word) :
    s.compare e n c x y false = s.modEng e fun g => g.setPf n (cond c x y) := rfl

end Sys2Proof.Machine

namespace Sys2Proof

-- the fields of a word (R268) ------------------------------------------------------------------------------------------------------------

theorem toNat_append_div_two_pow {m n : Nat} (x : BitVec m) (y : BitVec n) : (x ++ y).toNat / 2 ^ n = x.toNat := by
  rw [BitVec.toNat_append, ← Nat.shiftRight_eq_div_pow, Nat.shiftRight_or_distrib, Nat.shiftLeft_shiftRight,
    Nat.shiftRight_eq_zero _ _ y.isLt, Nat.or_zero]

/-- The opcode stands in the top byte of the word. -/
theorem EngWord.bits_opcode (w : EngWord) (op : Nat) (h : op < 256) : (w.bits op).toNat / 2 ^ 56 = op := by
  have below : 2 ^ 56 = 2 ^ 32 * 2 ^ 6 * 2 ^ 5 * 2 ^ 5 * 2 ^ 5 * 2 ^ 3 := by decide
  rw [EngWord.bits, below]
  simp only [← Nat.div_div_eq_div_mul, toNat_append_div_two_pow, BitVec.toNat_ofNat]
  exact Nat.mod_eq_of_lt h

/-- A word of no bits of IMM outside the low five has IMM[4:0] for its IMM. -/
theorem EngWord.im_low_five (w : EngWord) {d a b f : Nat} (only : w.only d a b f 0x1F = true) : w.im 4 0 = w.imm.toNat := by
  simp only [EngWord.only, Bool.and_eq_true, beq_iff_eq] at only
  obtain ⟨-, kept⟩ := only
  have low : w.imm.toNat &&& 0x1F = w.imm.toNat % 2 ^ 5 := Nat.and_two_pow_sub_one_eq_mod _ 5
  simp only [EngWord.im]
  omega

/-- A branch target takes IMM[12:0]. -/
theorem EngWord.target_eq (w : EngWord) : BitVec.ofNat 13 (w.im 12 0) = BitVec.ofNat 13 w.imm.toNat := by
  apply BitVec.eq_of_toNat_eq
  simp only [EngWord.im, BitVec.toNat_ofNat]
  omega

end Sys2Proof

namespace Sys2Proof.Claims
open Sys2Proof.Machine

@[simp] theorem reg_past (s : State) (e n : Nat) : (past s e).reg n = (s.eng e).reg n := rfl
@[simp] theorem sc_past (s : State) (e n : Nat) : (past s e).sc n = (s.eng e).sc n := rfl

-- issue (R269, R270) ---------------------------------------------------------------------------------------------------------------------

/-- A clean word that was fetched and whose predicate holds runs its body, with the pc past the word. -/
theorem issue_of_issues {s : State} {e op : Nat} {w : EngWord} {ok : Bool} (issues : Issues s e op w) (listed : opListed op = true)
    (fields : ok = true) (body : State → State) : s.issue e op w ok body = body (s.setEng e (past s e)) := by
  obtain ⟨can, clean, fetched, holds⟩ := issues
  have inRange : ¬ (0x800 ≤ (s.eng e).pc.toNat ∧ (s.eng e).pc.toNat < 0x1000) := by omega
  have known : ¬ ((s.eng e).pc.toNat < 0x800 ∧ !opListed ((s.slotWord e (s.eng e).pc.toNat).toNat / 2 ^ 56)) := by
    rintro ⟨stored, unlisted⟩
    obtain ⟨-, word⟩ | rom := fetched
    · rw [word, EngWord.bits_opcode w op (opListed_lt op listed), listed] at unlisted
      exact absurd unlisted (by decide)
    · omega
  have own : ¬ ((s.eng e).pc.toNat < 0x800 ∧ s.slotWord e (s.eng e).pc.toNat ≠ w.bits op) := by
    rintro ⟨stored, other⟩
    obtain ⟨-, word⟩ | rom := fetched
    · exact other word
    · omega
  simp only [State.issue, can, clean, fields, holds, if_neg inRange, if_neg known, if_neg own, Bool.not_true, Bool.false_eq_true, if_false,
    if_true]
  rfl

/-- A write of the engine's record, after the pc has moved, changes that engine only. -/
theorem onlyEngine_modEng (s : State) (e : Nat) (f : Engine → Engine) :
    OnlyEngine s e (.next ((s.setEng e (past s e)).modEng e f)) (f (past s e)) := by
  refine ⟨_, rfl, rfl, ?_, fun k other => ?_⟩
  · rw [State.modEng, State.eng_setEng_self, State.eng_setEng_self]
  · rw [State.modEng, State.eng_setEng_of_ne _ _ other, State.eng_setEng_of_ne _ _ other]

/-- A body that comes to a change of the engine's record leaves the engine so changed. -/
theorem issue_onlyEngine {s : State} {e op : Nat} {w : EngWord} {ok : Bool} {body : State → State} {f : Engine → Engine}
    (issues : Issues s e op w) (listed : opListed op = true) (fields : ok = true)
    (change : body (s.setEng e (past s e)) = (s.setEng e (past s e)).modEng e f) :
    OnlyEngine s e (.next (s.issue e op w ok body)) (f (past s e)) := by
  rw [issue_of_issues issues listed fields, change]
  exact onlyEngine_modEng s e f

theorem issueEng_onlyEngine {s : State} {e op : Nat} {w : EngWord} {ok : Bool} (f : Engine → Engine) (issues : Issues s e op w)
    (listed : opListed op = true) (fields : ok = true) : OnlyEngine s e (.next (s.issueEng e op w ok f)) (f (past s e)) :=
  issue_onlyEngine issues listed fields rfl

-- the instructions (R275 to R277) ---------------------------------------------------------------------------------------------------------

/-- BR goes to its target. -/
theorem exec_br_onlyEngine {s : State} {e : Nat} {w : EngWord} (issues : Issues s e 0x02 w) (fields : w.only 0 0 0 0 0x1FFF = true) :
    OnlyEngine s e (exec (.br e w) s) { past s e with pc := BitVec.ofNat 13 w.imm.toNat } := by
  rw [← EngWord.target_eq]
  exact issueEng_onlyEngine (fun g => { g with pc := BitVec.ofNat 13 (w.im 12 0) }) issues rfl fields

/-- BRDEC on a clean counter: it takes the branch unless the counter was one. -/
theorem exec_brdec_onlyEngine {s : State} {e : Nat} {w : EngWord} (issues : Issues s e 0x03 w) (fields : w.only 0 31 0 0 0x1FFF = true)
    (clean : ((s.eng e).reg w.a.toNat).poison = false) :
    OnlyEngine s e (exec (.brdec e w) s) { (past s e).setSc w.a.toNat ((s.eng e).sc w.a.toNat - 1) false with
      pc := if (s.eng e).sc w.a.toNat = 1 then (s.eng e).pc + 1 else BitVec.ofNat 13 w.imm.toNat } := by
  refine issue_onlyEngine (f := fun g => { g.setSc w.a.toNat ((s.eng e).sc w.a.toNat - 1) false with
    pc := if (s.eng e).sc w.a.toNat = 1 then g.pc else BitVec.ofNat 13 w.imm.toNat }) issues rfl fields ?_
  simp only [State.eng_setEng_self, reg_past, sc_past, clean, Engine.flag_false, EngWord.target_eq]
  by_cases last : (s.eng e).sc w.a.toNat = 1
  · simp only [last]
    rfl
  · have left : (s.eng e).sc w.a.toNat - 1 ≠ 0 := fun zero => last (by bv_omega)
    simp only [if_neg last, if_pos left]
    rfl

/-- TIME reads the run of the engine's cluster. -/
theorem exec_time_onlyEngine {s : State} {e : Nat} {w : EngWord} {r : Run} (issues : Issues s e 0x05 w)
    (fields : w.only 31 0 0 0 0 = true) (run : (s.cluster (e / 16)).run = some r) :
    OnlyEngine s e (exec (.time e w) s)
      ((past s e).setReg w.d.toNat { val := r.tickCt ++ (r.fn.setWidth 32 : Word) ++ (r.start.setWidth 32 : Word) }) := by
  refine issue_onlyEngine (f := fun g =>
    g.setReg w.d.toNat { val := r.tickCt ++ (r.fn.setWidth 32 : Word) ++ (r.start.setWidth 32 : Word) }) issues rfl fields ?_
  simp only [State.cluster_setEng, run]

/-- A compare's word is good when it names one of the flags 1 to 3 and one of the six conditions. -/
theorem compareFields_ok {w : EngWord} {only : Bool} (fields : only = true) (flag : w.d ≠ 0) (listed : w.fm 2 0 ≤ 5) :
    (only && w.d != 0 && decide (w.fm 2 0 ≤ 5)) = true := by
  rw [fields, bne_iff_ne.mpr flag, decide_eq_true listed]
  rfl

/-- CMP of clean operands. -/
theorem exec_cmp_onlyEngine {s : State} {e : Nat} {w : EngWord} (issues : Issues s e 0x18 w) (fields : w.only 3 31 31 7 0 = true)
    (flag : w.d ≠ 0) (listed : w.fm 2 0 ≤ 5) (cleanA : ((s.eng e).reg w.a.toNat).poison = false)
    (cleanB : ((s.eng e).reg w.b.toNat).poison = false) :
    OnlyEngine s e (exec (.cmp e w) s)
      ((past s e).setPf w.d.toNat (cond (w.fm 2 0) ((s.eng e).sc w.a.toNat) ((s.eng e).sc w.b.toNat))) := by
  refine issue_onlyEngine (f := fun g => g.setPf w.d.toNat (cond (w.fm 2 0) ((s.eng e).sc w.a.toNat) ((s.eng e).sc w.b.toNat)))
    issues rfl (compareFields_ok fields flag listed) ?_
  simp only [State.eng_setEng_self, reg_past, sc_past, cleanA, cleanB, Bool.or_self, State.compare_of_clean]

/-- CMPI of a clean operand. -/
theorem exec_cmpi_onlyEngine {s : State} {e : Nat} {w : EngWord} (issues : Issues s e 0x19 w)
    (fields : w.only 3 31 0 7 0xFFFFFFFF = true) (flag : w.d ≠ 0) (listed : w.fm 2 0 ≤ 5)
    (clean : ((s.eng e).reg w.a.toNat).poison = false) :
    OnlyEngine s e (exec (.cmpi e w) s) ((past s e).setPf w.d.toNat (cond (w.fm 2 0) ((s.eng e).sc w.a.toNat) w.imm)) := by
  refine issue_onlyEngine (f := fun g => g.setPf w.d.toNat (cond (w.fm 2 0) ((s.eng e).sc w.a.toNat) w.imm))
    issues rfl (compareFields_ok fields flag listed) ?_
  simp only [State.eng_setEng_self, reg_past, sc_past, clean, State.compare_of_clean]

/-- Settles O48: each instruction's body is one change of its engine's record, which `issue_onlyEngine` carries to the step. -/
theorem engineControlAndScalarInstructions : Obligations.EngineControlAndScalarInstructions := by
  intro e w a b pa pb s rfl rfl rfl rfl
  refine ⟨?nop, exec_br_onlyEngine, exec_brdec_onlyEngine, ?id, fun r => exec_time_onlyEngine, ?li, ?addi, ?add, ?sub, ?slli, ?srai,
    exec_cmp_onlyEngine, exec_cmpi_onlyEngine, ?scalarWrite⟩
  case nop => exact fun issues => issueEng_onlyEngine id issues rfl
  case id => exact fun issues => issueEng_onlyEngine (fun g => g.setSc w.d.toNat (BitVec.ofNat 32 (e % 256)) false) issues rfl
  case li => exact fun issues => issueEng_onlyEngine (fun g => g.setSc w.d.toNat w.imm false) issues rfl
  case addi =>
    exact fun issues => issueEng_onlyEngine (fun g => g.setSc w.d.toNat (g.sc w.a.toNat + w.imm) (g.reg w.a.toNat).poison) issues rfl
  case add => exact fun issues => issueEng_onlyEngine (fun g => g.sc2 w (· + ·)) issues rfl
  case sub => exact fun issues => issueEng_onlyEngine (fun g => g.sc2 w (· - ·)) issues rfl
  case slli =>
    intro issues fields
    rw [← w.im_low_five fields]
    exact issueEng_onlyEngine (fun g => g.setSc w.d.toNat (g.sc w.a.toNat <<< w.im 4 0) (g.reg w.a.toNat).poison) issues rfl fields
  case srai =>
    intro issues fields
    rw [← w.im_low_five fields]
    exact issueEng_onlyEngine (fun g => g.setSc w.d.toNat ((g.sc w.a.toNat).sshiftRight (w.im 4 0)) (g.reg w.a.toNat).poison) issues rfl
      fields
  case scalarWrite =>
    exact fun g n v p => ⟨g.sc_setSc_self n v p, g.upper_setSc_self n v p, congrArg VReg.poison (g.reg_setSc_self n v p),
      fun k other => g.reg_setSc_of_ne v p other⟩

end Sys2Proof.Claims
end

section
/-!
SUPPORT. The step, the reset state and the issue of an engine instruction, with the statements on them.
-/
namespace Sys2Proof.Machine

-- the step -------------------------------------------------------------------------------------------------------------------------------

theorem step_of_front {s : State} {c : Instr} {rest : List Instr} (front : s.pending = c :: rest) :
    step s = exec c { s with pending := rest } := by
  simp only [step, front]

theorem step_of_empty {s : State} (empty : s.pending = []) : step s = s.interpret := by
  simp only [step, empty, idle]

theorem State.interpret_of_none {s : State} (none_ : s.nextCmd = none) : s.interpret = .next s := by
  simp only [State.interpret, none_]

theorem State.interpret_of_some {s : State} {op : BitVec 12} {r : Req} (next : s.nextCmd = some (op, r)) :
    s.interpret = execOpcode op r s := by
  simp only [State.interpret, next]

theorem reset_rel (n : Nat) (step : 1 ≤ n) : State.reset.rel n = false :=
  decide_eq_false (Nat.not_le.mpr step)

end Sys2Proof.Machine

namespace Sys2Proof.Claims
open Sys2Proof.Machine

/-- Settles O1: the two branches of the step, and of the interpreter on an empty queue. -/
theorem stepRunsTheFrontCommand : Obligations.StepRunsTheFrontCommand :=
  ⟨fun _ _ _ front => step_of_front front, fun _ empty =>
    ⟨fun none_ => (step_of_empty empty).trans (State.interpret_of_none none_),
     fun _ _ next => (step_of_empty empty).trans (State.interpret_of_some next)⟩⟩

/-- Settles O2: each arm of the dispatch is a meaning that answers a next state. -/
theorem everyCommandAnswersANextState : Obligations.EveryCommandAnswersANextState := by
  intro c s
  cases c <;> exact ⟨_, rfl⟩

/-- Settles O5: a memory with nothing listed is canonical. -/
theorem resetMemoryIsCanonical : Obligations.ResetMemoryIsCanonical := ⟨rfl, rfl⟩

/-- Settles O6: the reset state lists no register, so each reads its Reset value. -/
theorem resetLeavesEverythingUnreleased : Obligations.ResetLeavesEverythingUnreleased :=
  ⟨rfl, rfl, reset_rel, fun _ => ⟨rfl, rfl⟩, rfl, rfl, rfl, rfl, rfl, rfl, rfl, rfl⟩

-- issue (R269, R270) ---------------------------------------------------------------------------------------------------------------------

/-- Every engine instruction is one issue of a listed opcode. -/
theorem exec_engineOp {i : Instr} {e op : Nat} {w : EngWord} (s : State) (engine : engineOp i = some (e, w, op)) :
    opListed op = true ∧ ∃ (ok : Bool) (body : State → State), exec i s = .next (s.issue e op w ok body) := by
  cases i <;> cases engine <;> exact ⟨rfl, _, _, rfl⟩

theorem issue_of_idle {s : State} {e op : Nat} {w : EngWord} {ok : Bool} {body : State → State} (idle : s.canIssue e = false) :
    s.issue e op w ok body = s := by
  simp only [State.issue, idle, Bool.not_false, if_true]

/-- A fetch between the store and the ROM faults before the word is looked at. -/
theorem issue_of_gap {s : State} {e op : Nat} {w : EngWord} {ok : Bool} {body : State → State} (can : s.canIssue e = true)
    (gap : 0x800 ≤ (s.eng e).pc.toNat ∧ (s.eng e).pc.toNat < 0x1000) : s.issue e op w ok body = s.engFault e 3 := by
  simp only [State.issue, can, gap, Bool.not_true, Bool.false_eq_true, if_false, and_self, if_true]

theorem issue_of_poisoned {s : State} {e op : Nat} {w : EngWord} {ok : Bool} {body : State → State} (can : s.canIssue e = true)
    (inRange : (s.eng e).pc.toNat < 0x800 ∨ 0x1000 ≤ (s.eng e).pc.toNat) (poisoned : w.poisoned = true) :
    s.issue e op w ok body = s.engFault e 5 := by
  have noGap : ¬ (0x800 ≤ (s.eng e).pc.toNat ∧ (s.eng e).pc.toNat < 0x1000) := by omega
  simp only [State.issue, can, if_neg noGap, poisoned, Bool.not_true, Bool.false_eq_true, if_false, if_true]

/-- A fetched clean word whose predicate does not hold moves the pc on, unless a bad field faults first. -/
theorem issue_of_predicate_false {s : State} {e op : Nat} {w : EngWord} {ok : Bool} {body : State → State} (can : s.canIssue e = true)
    (listed : opListed op = true) (clean : w.poisoned = false)
    (fetched : (s.eng e).pc.toNat < 0x800 ∧ s.slotWord e (s.eng e).pc.toNat = w.bits op ∨ 0x1000 ≤ (s.eng e).pc.toNat)
    (fails : (s.eng e).pred w.pred = false) : s.issue e op w ok body = if ok then s.setEng e (past s e) else s.engFault e 1 := by
  have noGap : ¬ (0x800 ≤ (s.eng e).pc.toNat ∧ (s.eng e).pc.toNat < 0x1000) := by omega
  have known : ¬ ((s.eng e).pc.toNat < 0x800 ∧ !opListed ((s.slotWord e (s.eng e).pc.toNat).toNat / 2 ^ 56)) := by
    rintro ⟨stored, unlisted⟩
    obtain ⟨-, word⟩ | rom := fetched
    · rw [word, EngWord.bits_opcode w op (opListed_lt op listed), listed] at unlisted
      exact absurd unlisted (by decide)
    · omega
  have own : ¬ ((s.eng e).pc.toNat < 0x800 ∧ s.slotWord e (s.eng e).pc.toNat ≠ w.bits op) := by
    rintro ⟨stored, other⟩
    obtain ⟨-, word⟩ | rom := fetched
    · exact other word
    · omega
  cases ok <;> simp only [State.issue, can, clean, fails, past, if_neg noGap, if_neg known, if_neg own, Bool.not_true, Bool.not_false,
    Bool.false_eq_true, if_false, if_true]

/-- Settles O47: every engine instruction is one `State.issue`, whose checks come in the order of the rules. -/
theorem everyInstructionIssuesByTheRules : Obligations.EveryInstructionIssuesByTheRules := by
  intro i e op w s engine
  obtain ⟨listed, ok, body, issued⟩ := exec_engineOp s engine
  rw [issued]
  refine ⟨fun idle => congrArg _ (issue_of_idle idle), fun can above below => congrArg _ (issue_of_gap can ⟨above, below⟩),
    fun can inRange poisoned => congrArg _ (issue_of_poisoned can inRange poisoned), fun can clean fetched fails => ?_⟩
  rw [issue_of_predicate_false can listed clean fetched fails]
  cases ok
  · exact .inr rfl
  · exact .inl rfl

end Sys2Proof.Claims
end

section
/-!
SUPPORT. The frame of the whole model: what no operation but a few writes (fuses, balls, bytes of memory and flash, the queue of
commands), as one projection of the state and one equation for each operation, `Stores` for the operations that write memory.
-/
open Sys2Proof
namespace Sys2Proof.Machine

/-- What most operations leave as it is: the fuses, the balls, memory, the flash and the queue of waiting commands. -/
structure Kept where
  fuses   : Fuses
  straps  : Straps
  window  : List Host.Cell
  vatMem  : List Host.Cell
  flash   : List Host.Cell
  pending : List Instr

def State.kept (s : State) : Kept := ⟨s.fuses, s.straps, s.window, s.vatMem, s.flash, s.pending⟩

/-- Both memories are canonical. -/
def Kept.canon (k : Kept) : Prop := Memory.wf k.window = true ∧ Memory.wf k.vatMem = true

/-- Nothing changes but bytes of memory, which stays canonical. -/
structure Stores (k k' : Kept) : Prop where
  fuses   : k'.fuses = k.fuses
  straps  : k'.straps = k.straps
  flash   : k'.flash = k.flash
  pending : k'.pending = k.pending
  canon   : k.canon → k'.canon

/-- All of it but the flash. -/
def Kept.noFlash (k : Kept) : Kept := { k with flash := [] }

/-- A write that succeeds keeps what `Kept` holds. -/
def WriteKeeps (s : State) (e : Except Status State) : Prop := ∀ t, e = .ok t → t.kept = s.kept

@[simp] theorem State.kept_mk (a b c d e f g h i j k l m n o p q r s t u v w x y z a' b' c' d' e') :
    (State.mk a b c d e f g h i j k l m n o p q r s t u v w x y z a' b' c' d' e').kept = ⟨a, b, w, x, y, e'⟩ := (rfl)

@[simp] theorem State.kept_eta (s : State) : Kept.mk s.fuses s.straps s.window s.vatMem s.flash s.pending = s.kept := (rfl)

@[simp] theorem kept_foldl {α : Type} {f : State → α → State} (step : ∀ s x, (f s x).kept = s.kept) (l : List α) :
    ∀ s : State, (l.foldl f s).kept = s.kept := by
  induction l with
  | nil => exact fun _ => rfl
  | cons x xs ih => exact fun s => (ih _).trans (step s x)

@[simp] theorem Stores.refl (k : Kept) : Stores k k := ⟨rfl, rfl, rfl, rfl, id⟩

theorem Stores.trans {k k' k'' : Kept} (h : Stores k k') (h' : Stores k' k'') : Stores k k'' :=
  ⟨h'.fuses.trans h.fuses, h'.straps.trans h.straps, h'.flash.trans h.flash, h'.pending.trans h.pending, fun c => h'.canon (h.canon c)⟩

@[simp] theorem Stores.foldl {α : Type} {f : State → α → State} {k : Kept} (s : State) (l : List α) (h : Stores k s.kept)
    (step : ∀ s x, Stores s.kept (f s x).kept) : Stores k (l.foldl f s).kept := by
  induction l generalizing s with
  | nil => exact h
  | cons x xs ih => exact ih _ (h.trans (step s x))

@[simp] theorem writeKeeps_ok (s t : State) : WriteKeeps s (.ok t) ↔ t.kept = s.kept :=
  ⟨fun h => h t rfl, fun h _ e => (Except.ok.inj e) ▸ h⟩

@[simp] theorem writeKeeps_error (s : State) (st : Status) : WriteKeeps s (.error st) := fun _ e => nomatch e

@[simp] theorem writeKeeps_guarded (s u : State) {e : Except Status State} (h : WriteKeeps s e) : WriteKeeps s (guarded u e) := by
  unfold guarded
  split
  · split
    · exact h
    · exact writeKeeps_error s _
  · exact writeKeeps_error s _

@[simp] theorem writeKeeps_rangeThen (s : State) (bad : Bool) {e : Except Status State} (h : WriteKeeps s e) :
    WriteKeeps s (rangeThen bad e) := by
  cases bad
  · exact h
  · exact writeKeeps_error s _

@[simp] theorem writeKeeps_stateThen (s : State) (bad : Bool) {e : Except Status State} (h : WriteKeeps s e) :
    WriteKeeps s (stateThen bad e) := by
  cases bad
  · exact h
  · exact writeKeeps_error s _

@[simp] theorem writeKeeps_busyThen (s : State) (bad : Bool) {e : Except Status State} (h : WriteKeeps s e) :
    WriteKeeps s (busyThen bad e) := by
  cases bad
  · exact h
  · exact writeKeeps_error s _

@[simp] theorem writeKeeps_hitGuard (s : State) {e : Except Status State} (h : WriteKeeps s e) : WriteKeeps s (hitGuard e) := by
  unfold hitGuard
  split
  · split
    · exact writeKeeps_error s _
    · exact h
  · exact writeKeeps_error s _

@[simp] theorem writeKeeps_inMergeRole (s u : State) {e : Except Status State} (h : WriteKeeps s e) : WriteKeeps s (inMergeRole u e) :=
  writeKeeps_stateThen s _ h

@[simp] theorem writeKeeps_wrMd (s u : State) (n : Nat) {e : Except Status State} (h : WriteKeeps s e) : WriteKeeps s (wrMd u n e) :=
  writeKeeps_busyThen s _ h

@[simp] theorem State.kept_ite (c : Prop) [Decidable c] (s t : State) : (if c then s else t).kept = if c then s.kept else t.kept :=
  apply_ite State.kept c s t

@[simp] theorem fst_ite {α : Type} (c : Prop) [Decidable c] (p q : State × α) : (if c then p else q).1 = if c then p.1 else q.1 :=
  apply_ite Prod.fst c p q

@[simp] theorem stores_ite (k a b : Kept)
    (c : Prop) [Decidable c] : Stores k (if c then a else b) ↔ if c then Stores k a else Stores k b := by
  split <;> rfl

@[simp] theorem writeKeeps_ite (s : State) (c : Prop) [Decidable c] (x y : Except Status State) :
    WriteKeeps s (if c then x else y) ↔ if c then WriteKeeps s x else WriteKeeps s y := by
  split <;> rfl

@[simp] theorem Kept.noFlash_ite (c : Prop) [Decidable c] (a b : Kept) :
    (if c then a else b).noFlash = if c then a.noFlash else b.noFlash :=
  apply_ite Kept.noFlash c a b

@[simp] theorem after_next (t s : State) : after (.next t) s = t := (rfl)

@[simp] theorem writeOr_kept (s : State) {e : Except Status State} (h : WriteKeeps s e) : (writeOr s e).kept = s.kept := by
  unfold writeOr
  split
  · exact h _ rfl
  · rfl

theorem answer_ite_stores {c : Prop} [Decidable c] {p q : State × Option Answer} {κ : Kept} (hp : Stores κ p.1.kept)
    (hq : Stores κ q.1.kept) :
    Stores κ (if c then p else q).1.kept := by
  split <;> assumption

theorem Stores.of_kept {κ : Kept} {s t : State} (h : Stores κ s.kept) (same : t.kept = s.kept) : Stores κ t.kept := same ▸ h

theorem wf_foldl_wrByte {α : Type} (at_ : α → Nat) (b : α → Byte) (l : List α) {m : List Host.Cell} (h : Memory.wf m = true) :
    Memory.wf (l.foldl (fun m c => wrByte m (at_ c) (b c)) m) = true := by
  induction l generalizing m with
  | nil => exact h
  | cons c cs ih => exact ih (wf_wrByte _ _ _ h)

@[simp] theorem State.setReg_kept (s : State) (r : Reg) (v : Word) : (s.setReg r v).kept = s.kept := by
  simp [State.setReg]

@[simp] theorem State.pendReg_kept (s : State) (r : Reg) (v : Word) : (s.pendReg r v).kept = s.kept := by
  simp [State.pendReg]

@[simp] theorem State.setNow_kept (s : State) (r : Reg) (v : Word) : (s.setNow r v).kept = s.kept := by
  simp [State.setNow]

@[simp] theorem State.bumpRaw_kept (s : State) (a : Nat) (n : Nat) : (s.bumpRaw a n).kept = s.kept := by
  simp [State.bumpRaw]

@[simp] theorem State.setPort_kept (s : State) (p : Nat) (q : Port) : (s.setPort p q).kept = s.kept := by
  simp [State.setPort]

@[simp] theorem State.sendDatagram_kept (s : State) (dst : EthPeer) (ws : List Word) : (s.sendDatagram dst ws).kept = s.kept := by
  simp [State.sendDatagram]

@[simp] theorem State.notifyPort_kept (s : State) (p : Nat) (block : Nat) (code : Nat) (detail : Word) (ct : CT) :
    (s.notifyPort p block code detail ct).kept = s.kept := by
  simp [State.notifyPort]

@[simp] theorem State.notifyPorts_kept (s : State) (ps : List Nat) (block code : Nat) (detail : Word) :
    (s.notifyPorts ps block code detail).kept = s.kept := by
  simp only [State.notifyPorts]
  split
  · exact kept_foldl (by simp) ps s
  · simp

@[simp] theorem State.notify_kept (s : State) (block : Nat) (code : Nat) (detail : Word) :
    (s.notify block code detail).kept = s.kept := by
  simp [State.notify]

@[simp] theorem State.orReg_kept (s : State) (r : Reg) (m : Word) : (s.orReg r m).kept = s.kept := by
  simp [State.orReg]

@[simp] theorem State.raise_kept (s : State) (block : Nat) (code : Nat) (detail : Word) : (s.raise block code detail).kept = s.kept := by
  simp only [State.raise]
  split <;> simp

@[simp] theorem State.bump_kept (s : State) (a : Nat) (n : Nat) : (s.bump a n).kept = s.kept := by
  simp [State.bump]

@[simp] theorem State.draw_kept (s : State) : (s.draw).kept = s.kept := by
  simp [State.draw]

@[simp] theorem State.nextSeq_kept (s : State) (type : Nat) : (s.nextSeq type).kept = s.kept := by
  simp [State.nextSeq]

@[simp] theorem State.setLane_kept (s : State) (n : Nat) (l : Lane) : (s.setLane n l).kept = s.kept := by
  simp [State.setLane]

@[simp] theorem State.pushCarriage_kept (s : State) (lane : Nat) (type : Nat) (part : Nat) (parts : Nat) (count : Nat) (ws : List Word) :
    (s.pushCarriage lane type part parts count ws).kept = s.kept := by
  simp [State.pushCarriage]

@[simp] theorem State.sendCarriage_kept (s : State) (lane : Nat) (type : Nat) (ws : List Word) :
    (s.sendCarriage lane type ws).kept = s.kept := by
  simp [State.sendCarriage]

@[simp] theorem State.deliverNow_kept (s : State) (port : Nat) (lane : Nat) (tag : BitVec 16) (ws : List Word) :
    (s.deliverNow port lane tag ws).kept = s.kept := by
  simp only [State.deliverNow]
  split <;> simp

@[simp] theorem State.deliver_kept (s : State) (port : Nat) (lane : Nat) (tag : BitVec 16) (ws : List Word) :
    (s.deliver port lane tag ws).kept = s.kept := by
  simp [State.deliver]

@[simp] theorem State.deliverAll_kept (s : State) (l1 : List (Nat × Nat × BitVec 16 × List Word)) : (s.deliverAll l1).kept = s.kept := by
  induction l1 generalizing s with
  | nil => simp [State.deliverAll]
  | cons x xs ih => simp [State.deliverAll, ih]

@[simp] theorem State.notifyHeld_kept (l : List (List Nat × Nat × Nat × Word × CT)) (s : State) : (s.notifyHeld l).kept = s.kept := by
  induction l generalizing s with
  | nil => rfl
  | cons x xs ih => exact (ih _).trans (kept_foldl (by simp) _ s)

@[simp] theorem State.openGate_kept (s : State) : (s.openGate).kept = s.kept := by
  simp [State.openGate]

@[simp] theorem State.reply_kept (s : State) (op : BitVec 12) (r : Req) (a : Answer) : (s.reply op r a).kept = s.kept := by
  simp [State.reply]

@[simp] theorem State.enqueue_kept (s : State) (op : BitVec 12) (r : Req) : (s.enqueue op r).kept = s.kept := by
  simp [State.enqueue]

@[simp] theorem State.startCmd_kept (s : State) (op : BitVec 12) (r : Req) : (s.startCmd op r).kept = s.kept := by
  simp [State.startCmd]

@[simp] theorem State.endCmd_kept (s : State) (wrote : Bool) : (s.endCmd wrote).kept = s.kept := by
  simp [State.endCmd]

@[simp] theorem State.replyLast_kept (s : State) (op : BitVec 12) (r : Req) (a : Answer) : (s.replyLast op r a).kept = s.kept := by
  simp [State.replyLast]

theorem State.execute_kept (s : State) (op : BitVec 12) (r : Req) (tie : Bool) {body : State → State × Option Answer}
    (h : ∀ t, (body t).1.kept = t.kept) : (s.execute op r tie body).kept = s.kept := by
  simp only [State.execute]
  repeat' split
  all_goals simp [h]

theorem State.runOp_kept (s : State) (op : BitVec 12) (r : Req) (tie : Bool) {body : State → State × Option Answer}
    (h : ∀ t, (body t).1.kept = t.kept) : (s.runOp op r tie body).kept = s.kept := by
  simp only [State.runOp]
  repeat' split
  all_goals simp [State.execute_kept, h]

theorem State.execute_stores {k : Kept} (s : State) (op : BitVec 12) (r : Req) (tie : Bool) {body : State → State × Option Answer}
    (hs : Stores k s.kept) (h : ∀ t, Stores k t.kept → Stores k (body t).1.kept) : Stores k (s.execute op r tie body).kept := by
  have ran : Stores k (body (s.startCmd op r)).1.kept := h _ (by simpa using hs)
  simp only [State.execute]
  repeat' split
  all_goals simp [hs, ran]

theorem State.runOp_stores {k : Kept} (s : State) (op : BitVec 12) (r : Req) (tie : Bool) {body : State → State × Option Answer}
    (hs : Stores k s.kept) (h : ∀ t, Stores k t.kept → Stores k (body t).1.kept) : Stores k (s.runOp op r tie body).kept := by
  simp only [State.runOp]
  repeat' split
  case isFalse.isTrue => exact s.execute_stores op r tie hs h
  all_goals simp [hs]
theorem State.runOp_noFlash (s : State) (op : BitVec 12) (r : Req) (tie : Bool) {body : State → State × Option Answer}
    (h : ∀ t, (body t).1.kept.noFlash = t.kept.noFlash) : (s.runOp op r tie body).kept.noFlash = s.kept.noFlash := by
  simp only [State.runOp, State.execute]
  repeat' split
  all_goals simp [h]

@[simp] theorem no_kept (s : State) (st : Status) : (no s st).1.kept = s.kept := (rfl)

@[simp] theorem yes_kept (s : State) : (yes s).1.kept = s.kept := (rfl)

@[simp] theorem tell_kept (s : State) (ws : List Word) : (tell s ws).1.kept = s.kept := (rfl)

@[simp] theorem State.action_kept (s : State) (block : Nat) {f : State → State} (h : ∀ t, (f t).kept = t.kept) :
    (s.action block f).kept = s.kept := by
  simp only [State.action]
  split <;> simp [h]

@[simp] theorem State.reset_stores {k : Kept} (s : State) (code supply : Nat) (hold low noFuse : Bool) (h : Stores k s.kept) :
    Stores k (s.reset_ code supply hold low noFuse).kept :=
  ⟨h.fuses, h.straps, h.flash, h.pending, fun _ => ⟨rfl, rfl⟩⟩

@[simp] theorem State.setTime_kept (s : State) (f : Time → Time) : (s.setTime f).kept = s.kept := by
  simp [State.setTime]

@[simp] theorem State.advance_kept (s : State) (d : Nat) : (s.advance d).kept = s.kept := by
  simp [State.advance]

@[simp] theorem State.advanceTo_kept (s : State) (c : CT) : (s.advanceTo c).kept = s.kept := by
  simp [State.advanceTo]

@[simp] theorem State.advanceLt_kept (s : State) (at_ : Nat) : (s.advanceLt at_).kept = s.kept := by
  simp [State.advanceLt]

@[simp] theorem State.clearAligned_kept (s : State) : (s.clearAligned).kept = s.kept := by
  simp only [State.clearAligned]
  split <;> simp

@[simp] theorem State.stepPulses_kept (s : State) (old : CT) (new : CT) (l3 : List Nat) : (s.stepPulses old new l3).kept = s.kept := by
  induction l3 generalizing s with
  | nil => simp [State.stepPulses]
  | cons x xs ih => simp [State.stepPulses, ih]

@[simp] theorem State.stepCompare_kept (s : State) (new : CT) : (s.stepCompare new).kept = s.kept := by
  simp [State.stepCompare]

@[simp] theorem State.shiftChans_kept (s : State) (d : CT) : (s.shiftChans d).kept = s.kept := by
  simp [State.shiftChans]

@[simp] theorem State.stepCt_kept (s : State) (c : CT) (epoch : Word) : (s.stepCt c epoch).kept = s.kept := by
  simp [State.stepCt]

@[simp] theorem State.lock_kept (s : State) : (s.lock).kept = s.kept := by
  simp [State.lock]

@[simp] theorem State.enterHoldover_kept (s : State) : (s.enterHoldover).kept = s.kept := by
  simp [State.enterHoldover]

@[simp] theorem State.dropCommit_kept (s : State) : (s.dropCommit).kept = s.kept := by
  simp [State.dropCommit]

@[simp] theorem State.takeFrame_kept (s : State) : (s.takeFrame).kept = s.kept := by
  simp [State.takeFrame]

@[simp] theorem needStep_kept (s : State) (n : Nat) {k : State × Option Answer} (h : k.1.kept = s.kept) :
    (needStep s n k).1.kept = s.kept := by
  unfold needStep
  split
  · exact h
  · rfl

@[simp] theorem needStep_stores {κ : Kept} (s : State) (n : Nat) {k : State × Option Answer} (h : Stores κ s.kept)
    (ran : Stores κ k.1.kept) :
    Stores κ (needStep s n k).1.kept := by
  unfold needStep
  split
  · exact ran
  · exact h

@[simp] theorem execTimeSet_kept (r : Req) (s : State) (u : State) : (after (execTimeSet r s) u).kept = s.kept := by
  simp only [execTimeSet, after_next]
  refine State.runOp_kept _ _ _ _ fun t => ?_
  simp

@[simp] theorem execTimeRead_kept (r : Req) (s : State) (u : State) : (after (execTimeRead r s) u).kept = s.kept := by
  simp only [execTimeRead, after_next]
  refine State.runOp_kept _ _ _ _ fun t => ?_
  simp

@[simp] theorem execFreqMeasure_kept (r : Req) (s : State) (u : State) : (after (execFreqMeasure r s) u).kept = s.kept := by
  simp only [execFreqMeasure, after_next]
  refine State.runOp_kept _ _ _ _ fun t => ?_
  simp

@[simp] theorem execFreqMeasureDone_kept (stamps : List CT) (_lost : Nat) (s : State) (u : State) :
    (after (execFreqMeasureDone stamps _lost s) u).kept = s.kept := by
  simp only [execFreqMeasureDone, after_next]
  split <;> simp

@[simp] theorem execPulseSet_kept (r : Req) (s : State) (u : State) : (after (execPulseSet r s) u).kept = s.kept := by
  simp only [execPulseSet, after_next]
  refine State.runOp_kept _ _ _ _ fun t => ?_
  simp

@[simp] theorem State.setPulse_kept (s : State) (k : Nat) (q : Pulse) : (s.setPulse k q).kept = s.kept := by
  simp [State.setPulse]

@[simp] theorem execPulseRise_kept (k : Nat) (s : State) (u : State) : (after (execPulseRise k s) u).kept = s.kept := by
  simp [execPulseRise]

@[simp] theorem execPulseFall_kept (k : Nat) (s : State) (u : State) : (after (execPulseFall k s) u).kept = s.kept := by
  simp [execPulseFall]

@[simp] theorem State.stamp_kept (s : State) (n : Nat) (c : CT) : (s.stamp n c).kept = s.kept := by
  simp [State.stamp]

@[simp] theorem State.ppsPresence_kept (s : State) : (s.ppsPresence).kept = s.kept := by
  simp [State.ppsPresence]

@[simp] theorem State.ppsOffset_kept (s : State) (off : Int) : (s.ppsOffset off).kept = s.kept := by
  simp [State.ppsOffset]

@[simp] theorem execPpsEdge_kept (t : CT) (s : State) (u : State) : (after (execPpsEdge t s) u).kept = s.kept := by
  simp only [execPpsEdge, after_next]
  repeat' split
  all_goals simp

@[simp] theorem execRefPresent_kept (which : Nat) (s : State) (u : State) : (after (execRefPresent which s) u).kept = s.kept := by
  simp [execRefPresent]

@[simp] theorem execRefLost_kept (which : Nat) (s : State) (u : State) : (after (execRefLost which s) u).kept = s.kept := by
  simp [execRefLost]

@[simp] theorem execPpsLost_kept (s : State) (u : State) : (after (execPpsLost s) u).kept = s.kept := by
  simp [execPpsLost]

@[simp] theorem execEpochWrap_kept (s : State) (u : State) : (after (execEpochWrap s) u).kept = s.kept := by
  simp [execEpochWrap]

@[simp] theorem State.servo_kept (s : State) : (s.servo).kept = s.kept := by
  simp only [State.servo]
  repeat' split
  all_goals simp

@[simp] theorem execServoUpdate_kept (s : State) (u : State) : (after (execServoUpdate s) u).kept = s.kept := by
  simp [execServoUpdate]

@[simp] theorem execExchangeTimeout_kept (s : State) (u : State) : (after (execExchangeTimeout s) u).kept = s.kept := by
  simp [execExchangeTimeout]

@[simp] theorem execHoldLimitExpiry_kept (s : State) (u : State) : (after (execHoldLimitExpiry s) u).kept = s.kept := by
  simp [execHoldLimitExpiry]

@[simp] theorem State.acquire_kept (s : State) : (s.acquire).kept = s.kept := by
  simp [State.acquire]

@[simp] theorem State.startMode_kept (s : State) (v : Word) : (s.startMode v).kept = s.kept := by
  simp [State.startMode]

@[simp] theorem wrSrcCfg_keeps (s : State) (v : Word) : WriteKeeps s (wrSrcCfg s v) := by
  simp [wrSrcCfg]

@[simp] theorem execModeWrite_kept (port : Nat) (value : Word) (s : State) (u : State) :
    (after (execModeWrite port value s) u).kept = s.kept := by
  simp [execModeWrite]

@[simp] theorem execReferenceTakeBack_kept (port : Nat) (value : Word) (s : State) (u : State) :
    (after (execReferenceTakeBack port value s) u).kept = s.kept := by
  simp [execReferenceTakeBack]

@[simp] theorem State.setClk_kept (s : State) (f : Clocks → Clocks) : (s.setClk f).kept = s.kept := by
  simp [State.setClk]

@[simp] theorem State.setPow_kept (s : State) (f : Power → Power) : (s.setPow f).kept = s.kept := by
  simp [State.setPow]

@[simp] theorem State.setPowLater_kept (s : State) (f : Power → Power) : (s.setPowLater f).kept = s.kept := by
  simp [State.setPowLater]

@[simp] theorem execSupplyGood_kept (n : Nat) (s : State) (u : State) : (after (execSupplyGood n s) u).kept = s.kept := by
  simp [execSupplyGood]

@[simp] theorem execSupplyBad_stores {κ : Kept} (n : Nat) (s : State) (u : State) (h : Stores κ s.kept) :
    Stores κ (after (execSupplyBad n s) u).kept := by
  simp [execSupplyBad, h]

@[simp] theorem execSupplyWarn_kept (n : Nat) (s : State) (u : State) : (after (execSupplyWarn n s) u).kept = s.kept := by
  simp [execSupplyWarn]

@[simp] theorem execPowerOnReset_stores {κ : Kept} (supply : Option Nat) (s : State) (u : State) (h : Stores κ s.kept) :
    Stores κ (after (execPowerOnReset supply s) u).kept := by
  simp only [execPowerOnReset, after_next]
  split <;> simp [h]

@[simp] theorem execPowerOff_stores {k : Kept} (s u : State) (h : Stores k s.kept) : Stores k (after (execPowerOff s) u).kept :=
  ⟨h.fuses, h.straps, h.flash, h.pending, fun _ => ⟨rfl, rfl⟩⟩

@[simp] theorem execRstNReset_stores {κ : Kept} (s : State) (u : State) (h : Stores κ s.kept) :
    Stores κ (after (execRstNReset s) u).kept := by
  simp [execRstNReset, h]

@[simp] theorem execRstNRelease_kept (s : State) (u : State) : (after (execRstNRelease s) u).kept = s.kept := by
  simp [execRstNRelease]

@[simp] theorem execWatchdogExpiry_stores {κ : Kept} (s : State) (u : State) (h : Stores κ s.kept) :
    Stores κ (after (execWatchdogExpiry s) u).kept := by
  simp [execWatchdogExpiry, h]

@[simp] theorem State.clockLoss_stores {κ : Kept} (s : State) (h : Stores κ s.kept) : Stores κ (s.clockLoss).kept := by
  simp [State.clockLoss, h]

@[simp] theorem execClockLossReset_stores {κ : Kept} (s : State) (u : State) (h : Stores κ s.kept) :
    Stores κ (after (execClockLossReset s) u).kept := by
  simp [execClockLossReset, h]

@[simp] theorem execFuseCrcExhaustion_stores {κ : Kept} (s : State) (u : State) (h : Stores κ s.kept) :
    Stores κ (after (execFuseCrcExhaustion s) u).kept := by
  simp [execFuseCrcExhaustion, h]

@[simp] theorem execResetHoldEnd_kept (s : State) (u : State) : (after (execResetHoldEnd s) u).kept = s.kept := by
  simp [execResetHoldEnd]

@[simp] theorem execOscTrimStep_kept (s : State) (u : State) : (after (execOscTrimStep s) u).kept = s.kept := by
  simp [execOscTrimStep]

@[simp] theorem execFuseLoad_kept (failRow : Option Nat) (s : State) (u : State) : (after (execFuseLoad failRow s) u).kept = s.kept := by
  simp only [execFuseLoad, after_next]
  repeat' split
  all_goals simp

@[simp] theorem State.setClasses_kept (s : State) (l1 : List Nat) : (s.setClasses l1).kept = s.kept := by
  induction l1 generalizing s with
  | nil => simp [State.setClasses]
  | cons x xs ih => simp [State.setClasses, ih]

@[simp] theorem State.giveBootLane_kept (s : State) (on : Bool) : (s.giveBootLane on).kept = s.kept := by
  simp [State.giveBootLane]

@[simp] theorem State.enableLane0_kept (s : State) : (s.enableLane0).kept = s.kept := by
  simp [State.enableLane0]

@[simp] theorem State.onRelease_stores {k : Kept} (s : State) (n : Nat) (h : Stores k s.kept) : Stores k (s.onRelease n).kept := by
  unfold State.onRelease
  split
  case h_4 => exact ⟨h.fuses, h.straps, h.flash, h.pending, fun c => ⟨rfl, (h.canon c).2⟩⟩
  all_goals repeat' split
  all_goals simp [h]

@[simp] theorem execDomainRelease_stores {κ : Kept} (s : State) (u : State) (h : Stores κ s.kept) :
    Stores κ (after (execDomainRelease s) u).kept := by
  simp [execDomainRelease, h]

@[simp] theorem execXtalWaitExpiry_kept (khz : Nat) (s : State) (u : State) : (after (execXtalWaitExpiry khz s) u).kept = s.kept := by
  simp only [execXtalWaitExpiry, after_next]
  repeat' split
  all_goals simp

@[simp] theorem execPllLock_kept (s : State) (u : State) : (after (execPllLock s) u).kept = s.kept := by
  simp [execPllLock]

@[simp] theorem execDividerRampDone_kept (s : State) (u : State) : (after (execDividerRampDone s) u).kept = s.kept := by
  simp [execDividerRampDone]

@[simp] theorem execPllUnlock_kept (pll : Nat) (s : State) (u : State) : (after (execPllUnlock pll s) u).kept = s.kept := by
  simp [execPllUnlock]

@[simp] theorem State.timeFallback_kept (s : State) : (s.timeFallback).kept = s.kept := by
  simp [State.timeFallback]

@[simp] theorem State.fallback_kept (s : State) : (s.fallback).kept = s.kept := by
  simp [State.fallback]

@[simp] theorem execFallbackSwitch_stores {κ : Kept} (s : State) (u : State) (h : Stores κ s.kept) :
    Stores κ (after (execFallbackSwitch s) u).kept := by
  simp [execFallbackSwitch, h]

@[simp] theorem execForcedSwitch_kept (s : State) (u : State) : (after (execForcedSwitch s) u).kept = s.kept := by
  simp [execForcedSwitch]

@[simp] theorem execOscReadyTimeout_stores {κ : Kept} (s : State) (u : State) (h : Stores κ s.kept) :
    Stores κ (after (execOscReadyTimeout s) u).kept := by
  simp [execOscReadyTimeout, h]

@[simp] theorem execOscSettled_kept (s : State) (u : State) : (after (execOscSettled s) u).kept = s.kept := by
  simp only [execOscSettled, after_next]
  repeat' split
  all_goals simp

@[simp] theorem execCkOscFail_stores {κ : Kept} (s : State) (u : State) (h : Stores κ s.kept) :
    Stores κ (after (execCkOscFail s) u).kept := by
  simp [execCkOscFail, h]

@[simp] theorem execPrimaryOk_kept (s : State) (u : State) : (after (execPrimaryOk s) u).kept = s.kept := by
  simp [execPrimaryOk]

@[simp] theorem wrReturn_keeps (s : State) : WriteKeeps s (wrReturn s) := by
  simp [wrReturn]

@[simp] theorem execReturnSwitch_kept (port : Nat) (s : State) (u : State) : (after (execReturnSwitch port s) u).kept = s.kept := by
  simp [execReturnSwitch]

@[simp] theorem execReturnSwitchDone_kept (s : State) (u : State) : (after (execReturnSwitchDone s) u).kept = s.kept := by
  simp [execReturnSwitchDone]

@[simp] theorem State.setBoot_kept (s : State) (f : Boot → Boot) : (s.setBoot f).kept = s.kept := by
  simp [State.setBoot]

@[simp] theorem State.writeRec_noFlash (s : State) (active armed tries : Byte) :
    (s.writeRec active armed tries).kept.noFlash = s.kept.noFlash := (rfl)

@[simp] theorem State.copyBody_kept (s : State) (target : Nat) (n : Nat) : (s.copyBody target n).kept = s.kept := by
  simp [State.copyBody]

@[simp] theorem State.endDownload_kept (s : State) : (s.endDownload).kept = s.kept := by
  simp [State.endDownload]

@[simp] theorem State.newRev_kept (s : State) : (s.newRev).kept = s.kept := by
  simp [State.newRev]

@[simp] theorem State.startImage_kept (s : State) (target : Nat) (source : Nat) (attempt : Nat) :
    (s.startImage target source attempt).kept = s.kept := by
  simp [State.startImage]

@[simp] theorem State.rind_kept (s : State) (reason : Nat) (attempt : Nat) : (s.rind reason attempt).kept = s.kept := by
  simp [State.rind]

@[simp] theorem execBootRomStart_kept (s : State) (u : State) : (after (execBootRomStart s) u).kept = s.kept := by
  simp only [execBootRomStart, after_next]
  repeat' split
  all_goals simp

@[simp] theorem State.prepareBoot_noFlash (s : State) : s.prepareBoot.kept.noFlash = s.kept.noFlash := by
  simp only [State.prepareBoot]
  repeat' split
  all_goals simp

@[simp] theorem State.bootFail_noFlash (s : State) (code : Nat) (slot : Option Nat) :
    (s.bootFail code slot).kept.noFlash = s.kept.noFlash := by
  simp [State.bootFail]

@[simp] theorem State.readSfdp_kept (s : State) (sfdp : Option FlashPar) : (s.readSfdp sfdp).kept = s.kept := by
  simp [State.readSfdp]

@[simp] theorem execBootAttempt_noFlash (sfdp : Option FlashPar) (s u : State) :
    (after (execBootAttempt sfdp s) u).kept.noFlash = s.kept.noFlash := by
  simp only [execBootAttempt, after_next]
  split
  · rfl
  · split <;> (repeat' split) <;> simp

@[simp] theorem execDownloadTimeout_noFlash (s u : State) : (after (execDownloadTimeout s) u).kept.noFlash = s.kept.noFlash := by
  simp [execDownloadTimeout]

@[simp] theorem State.startFlash_kept (s : State) (k : FlashOp) (slot : Nat) (r : Req) : (s.startFlash k slot r).kept = s.kept := by
  simp [State.startFlash]

@[simp] theorem State.endFlash_kept (s : State) (q : FlashOp × Nat × Req) : (s.endFlash q).kept = s.kept := by
  simp [State.endFlash]

@[simp] theorem State.unverify_kept (s : State) (t : Nat) : (s.unverify t).kept = s.kept := by
  simp [State.unverify]

@[simp] theorem execImageErase_kept (r : Req) (s u : State) : (after (execImageErase r s) u).kept = s.kept := by
  refine State.runOp_kept _ _ _ _ fun t => ?_
  dsimp only
  split <;> simp

@[simp] theorem execImageEraseDone_noFlash (s u : State) : (after (execImageEraseDone s) u).kept.noFlash = s.kept.noFlash := by
  simp only [execImageEraseDone, after_next]
  split
  · simp only [State.reply_kept, State.endFlash_kept]
    rfl
  · rfl

@[simp] theorem execImageWrite_kept (r : Req) (s u : State) : (after (execImageWrite r s) u).kept = s.kept := by
  refine State.runOp_kept _ _ _ _ fun t => ?_
  dsimp only
  split <;> simp

@[simp] theorem execImageWriteDone_noFlash (s u : State) : (after (execImageWriteDone s) u).kept.noFlash = s.kept.noFlash := by
  simp only [execImageWriteDone, after_next]
  split
  · simp only [State.reply_kept, State.endFlash_kept]
    rfl
  · rfl

@[simp] theorem State.setVer_kept (s : State) (t : Nat) (code : Nat) : (s.setVer t code).kept = s.kept := by
  simp [State.setVer]

@[simp] theorem execImageVerify_kept (r : Req) (s : State) (u : State) : (after (execImageVerify r s) u).kept = s.kept := by
  simp only [execImageVerify, after_next]
  refine State.runOp_kept _ _ _ _ fun t => ?_
  simp

@[simp] theorem execImageVerifyDone_kept (s : State) (u : State) : (after (execImageVerifyDone s) u).kept = s.kept := by
  simp only [execImageVerifyDone, after_next]
  split <;> simp

@[simp] theorem execImageArm_noFlash (r : Req) (s u : State) : (after (execImageArm r s) u).kept.noFlash = s.kept.noFlash := by
  refine State.runOp_noFlash _ _ _ _ fun t => ?_
  dsimp only
  split <;> simp

@[simp] theorem execImageConfirm_noFlash (r : Req) (s u : State) : (after (execImageConfirm r s) u).kept.noFlash = s.kept.noFlash :=
  State.runOp_noFlash _ _ _ _ fun t => by simp

@[simp] theorem execImageInfo_kept (r : Req) (s : State) (u : State) : (after (execImageInfo r s) u).kept = s.kept := by
  simp only [execImageInfo, after_next]
  refine State.runOp_kept _ _ _ _ fun t => ?_
  simp

@[simp] theorem execBootGo_noFlash (r : Req) (s u : State) : (after (execBootGo r s) u).kept.noFlash = s.kept.noFlash := by
  refine State.runOp_noFlash _ _ _ _ fun t => ?_
  split
  · simp
  · split <;> simp

@[simp] theorem State.lose_kept (s : State) (p : Nat) (c : Curd) : (s.lose p c).kept = s.kept := by
  simp [State.lose]

@[simp] theorem State.loseAll_kept (s : State) (l1 : List Held) : (s.loseAll l1).kept = s.kept := by
  induction l1 generalizing s with
  | nil => simp [State.loseAll]
  | cons x xs ih => simp [State.loseAll, ih]

@[simp] theorem State.takeLost_kept (s : State) (c : Curd) : (s.takeLost c).1.kept = s.kept := by
  simp [State.takeLost]

@[simp] theorem State.unpathed_kept (s : State) (c : Curd) (lane : Nat) : (s.unpathed c lane).kept = s.kept := by
  simp [State.unpathed]

@[simp] theorem State.hold_kept (s : State) (h : Held) : (s.hold h).kept = s.kept := by
  simp [State.hold]

@[simp] theorem State.setHeld_kept (s : State) (l : List Held) : (s.setHeld l).kept = s.kept := by
  simp [State.setHeld]

@[simp] theorem State.setFormed_kept (s : State) (type : Nat) (fn : Word) : (s.setFormed type fn).kept = s.kept := by
  simp [State.setFormed]

@[simp] theorem State.formCurd_kept (s : State) (type : Nat) (fn : Word) (payload : List Flit) (mark : Rind → Rind) (ready : Bool)
    (dep : Option Nat) : (s.formCurd type fn payload mark ready dep).kept = s.kept := by
  simp only [State.formCurd]
  split <;> simp

@[simp] theorem State.closeStream_kept (s : State) (type : Nat) (n : Word) : (s.closeStream type n).kept = s.kept := by
  simp only [State.closeStream]
  split <;> simp

@[simp] theorem State.flushLane_kept (s : State) (n : Nat) : (s.flushLane n).kept = s.kept := by
  simp only [State.flushLane]
  split <;> simp

@[simp] theorem State.transmit_kept (s : State) (n : Nat) (c : Curd) : (s.transmit n c).kept = s.kept := by
  simp [State.transmit]

@[simp] theorem State.readyFrom_kept (s : State) (n : Nat) (t : CT) : (s.readyFrom n t).kept = s.kept := by
  simp [State.readyFrom]

@[simp] theorem State.readStage_kept (s : State) (h : Held) : (s.readStage h).kept = s.kept := by
  simp [State.readStage]

@[simp] theorem State.transmitAll_kept (s : State) (n : Nat) (l2 : List Held) : (s.transmitAll n l2).kept = s.kept := by
  induction l2 generalizing s with
  | nil => simp [State.transmitAll]
  | cons x xs ih => simp [State.transmitAll, ih]

@[simp] theorem State.sendPath_kept (s : State) (n : Nat) (p : Nat) (room : Nat) : (s.sendPath n p room).1.kept = s.kept := by
  simp [State.sendPath]

@[simp] theorem State.skip_kept (s : State) : (s.skip).kept = s.kept := by
  simp [State.skip]

@[simp] theorem State.setBegun_kept (s : State) (i : Nat) : (s.setBegun i).kept = s.kept := by
  simp [State.setBegun]

@[simp] theorem State.runEntry_kept (s : State) (i kind : Nat) {body : Entry → State → State} (h : ∀ e t, (body e t).kept = t.kept) :
    (s.runEntry i kind body).kept = s.kept := by
  simp only [State.runEntry]
  repeat' split
  all_goals simp [h]

@[simp] theorem State.runEntry_stores {κ : Kept} (s : State) (i kind : Nat) {body : Entry → State → State} (h : Stores κ s.kept)
    (step : ∀ e t, Stores κ t.kept → Stores κ (body e t).kept) : Stores κ (s.runEntry i kind body).kept := by
  simp only [State.runEntry]
  repeat' split
  all_goals simp [h, step]

@[simp] theorem State.setRunning_kept (s : State) (i : Nat) : (s.setRunning i).kept = s.kept := by
  simp [State.setRunning]

@[simp] theorem State.endRunning_kept (s : State) (i : Nat) : (s.endRunning i).kept = s.kept := by
  simp [State.endRunning]

@[simp] theorem State.setRegion_kept (s : State) (r : Nat) (g : Region) : (s.setRegion r g).kept = s.kept := by
  simp [State.setRegion]

/-- Which memory a write replaces; what it puts there is canonical when that memory was. -/
theorem State.setMem_stores {k : Kept} (s : State) (vat : Bool) (m : List Host.Cell) (h : Stores k s.kept)
    (canon : Memory.wf (s.mem vat) = true → Memory.wf m = true) : Stores k (s.setMem vat m).kept := by
  cases vat
  · exact ⟨h.fuses, h.straps, h.flash, h.pending, fun c => ⟨canon (h.canon c).1, (h.canon c).2⟩⟩
  · exact ⟨h.fuses, h.straps, h.flash, h.pending, fun c => ⟨(h.canon c).1, canon (h.canon c).2⟩⟩

theorem State.setMem_wrBytes_stores {k : Kept} (s : State) (vat : Bool) (a : Nat) (bs : List Byte) (h : Stores k s.kept) :
    Stores k (s.setMem vat (wrBytes (s.mem vat) a bs)).kept :=
  s.setMem_stores vat _ h (wf_wrBytes bs _ a)

@[simp] theorem State.setPoison_kept (s : State) (vat : Bool) (p : SMap Bool) : (s.setPoison vat p).kept = s.kept := by
  simp [State.setPoison]

@[simp] theorem State.logErr_kept (s : State) (kind : Nat) (vat : Bool) (a : Nat) (src : Nat) (denied : Bool) (spare : Option Nat) :
    (s.logErr kind vat a src denied spare).1.kept = s.kept := by
  simp [State.logErr]

@[simp] theorem State.setTracks_kept (s : State) (t : Nat) (l : List Track) : (s.setTracks t l).kept = s.kept := by
  simp [State.setTracks]

@[simp] theorem State.freeTrack_kept (s : State) (vat : Bool) (a : Nat) : (s.freeTrack vat a).kept = s.kept := by
  simp [State.freeTrack]

@[simp] theorem State.touchTrack_kept (s : State) (t : Track) : (s.touchTrack t).kept = s.kept := by
  simp [State.touchTrack]

@[simp] theorem State.queueMove_kept (s : State) (m : RowMove) : (s.queueMove m).kept = s.kept := by
  simp [State.queueMove]

@[simp] theorem State.hardSuspect_kept (s : State) (vat : Bool) (a : Nat) (src : Nat) : (s.hardSuspect vat a src).kept = s.kept := by
  simp only [State.hardSuspect]
  split <;> simp

@[simp] theorem State.corrected_kept (s : State) (vat : Bool) (a : Nat) (src : Nat) : (s.corrected vat a src).kept = s.kept := by
  simp only [State.corrected]
  split <;> simp

@[simp] theorem State.uncorrectable_kept (s : State) (vat : Bool) (a : Nat) (src : Nat) (kind : Nat) :
    (s.uncorrectable vat a src kind).kept = s.kept := by
  simp [State.uncorrectable]

@[simp] theorem State.retag_kept (s : State) (vat : Bool) (lo : Nat) (hi : Nat) : (s.retag vat lo hi).kept = s.kept := by
  simp [State.retag]

@[simp] theorem State.meetCells_stores {k : Kept} (s : State) (vat : Bool) (a : Nat) (found : List Finding) (h : Stores k s.kept) :
    Stores k (s.meetCells vat a found).kept := by
  simp only [State.meetCells]
  split
  · split
    · split
      · exact h
      · exact s.setMem_wrBytes_stores vat a _ h
    all_goals simp [h]
  · exact h

@[simp] theorem State.readUnit_stores {κ : Kept} (s : State) (vat : Bool) (a : Nat) (src : Nat) (found : List Finding)
    (h : Stores κ s.kept) : Stores κ (s.readUnit vat a src found).kept := by
  simp only [State.readUnit]
  repeat' split
  all_goals simp [h]

@[simp] theorem State.readUnits_stores {κ : Kept} (s : State) (vat : Bool) (src : Nat) (found : List Finding) (l4 : List Nat)
    (h : Stores κ s.kept) : Stores κ (s.readUnits vat src found l4).kept := by
  induction l4 generalizing s with
  | nil => simp [State.readUnits, h]
  | cons x xs ih => simp [State.readUnits, ih, h]

@[simp] theorem State.readRange_stores {κ : Kept} (s : State) (vat : Bool) (lo : Nat) (hi : Nat) (src : Nat) (found : List Finding)
    (h : Stores κ s.kept) : Stores κ (s.readRange vat lo hi src found).kept := by
  simp [State.readRange, h]

@[simp] theorem State.writtenUnit_kept (s : State) (vat : Bool) (a : Nat) : (s.writtenUnit vat a).kept = s.kept := by
  simp [State.writtenUnit]

@[simp] theorem State.rmwRead_stores {κ : Kept} (s : State) (vat : Bool) (a : Nat) (found : List Finding) (h : Stores κ s.kept) :
    Stores κ (s.rmwRead vat a found).kept := by
  simp only [State.rmwRead]
  repeat' split
  all_goals simp [h]

@[simp] theorem State.markOvf_kept (s : State) (vat : Bool) (a : Nat) : (s.markOvf vat a).kept = s.kept := by
  simp [State.markOvf]

@[simp] theorem State.clearOvf_kept (s : State) (vat : Bool) (lo : Nat) (hi : Nat) : (s.clearOvf vat lo hi).kept = s.kept := by
  simp [State.clearOvf]

@[simp] theorem State.clearPoison_kept (s : State) (vat : Bool) (lo : Nat) (hi : Nat) : (s.clearPoison vat lo hi).kept = s.kept := by
  simp [State.clearPoison]

@[simp] theorem State.rmwReads_stores {κ : Kept} (s : State) (vat : Bool) (found : List Finding) (l3 : List Nat) (h : Stores κ s.kept) :
    Stores κ (s.rmwReads vat found l3).kept := by
  induction l3 generalizing s with
  | nil => simp [State.rmwReads, h]
  | cons x xs ih => simp [State.rmwReads, ih, h]

@[simp] theorem State.freeRange_kept (s : State) (vat : Bool) (lo : Nat) (hi : Nat) : (s.freeRange vat lo hi).kept = s.kept := by
  simp [State.freeRange]

@[simp] theorem State.writeRange_stores {k : Kept} (s : State) (vat : Bool) (a : Nat) (bs : List Byte) (found : List Finding)
    (h : Stores k s.kept) : Stores k (s.writeRange vat a bs found).kept := by
  simp only [State.writeRange]
  split
  · exact h
  · exact State.setMem_wrBytes_stores _ vat a bs (by simp [h])

@[simp] theorem State.markPoison_kept (s : State) (vat : Bool) (a : Nat) : (s.markPoison vat a).kept = s.kept := by
  simp [State.markPoison]

@[simp] theorem execMemRead_stores {κ : Kept} (r : Req) (found : List Finding) (s u : State) (h : Stores κ s.kept) :
    Stores κ (after (execMemRead r found s) u).kept := by
  simp only [execMemRead, after_next]
  refine State.runOp_stores _ _ _ _ h fun t h => ?_
  split
  · exact h
  · split
    · exact h
    · split <;> exact State.readRange_stores _ _ _ _ _ _ h

@[simp] theorem execMemWrite_stores {κ : Kept} (r : Req) (found : List Finding) (s u : State) (h : Stores κ s.kept) :
    Stores κ (after (execMemWrite r found s) u).kept := by
  simp only [execMemWrite, after_next]
  refine State.runOp_stores _ _ _ _ h fun t h => ?_
  split
  · exact h
  · split
    · exact h
    · exact State.writeRange_stores _ _ _ _ _ h

@[simp] theorem execReadModifyWrite_stores {κ : Kept} (vat : Bool) (addr : Nat) (bytes : List (Nat × Byte)) (found : List Finding)
    (s u : State)
    (h : Stores κ s.kept) : Stores κ (after (execReadModifyWrite vat addr bytes found s) u).kept := by
  simp only [execReadModifyWrite, after_next]
  split
  · exact h
  · exact State.setMem_stores _ _ _ (by simp [h]) (wf_foldl_wrByte _ _ _)

@[simp] theorem execWriteBack_kept (vat : Bool) (addr : Nat) (s : State) (u : State) :
    (after (execWriteBack vat addr s) u).kept = s.kept := by
  simp only [execWriteBack, after_next]
  repeat' split
  all_goals simp

/-- `p` keeps κ: `p.1.kept = κ`, folded so that the kernel does not evaluate the conditions in `p` when it compares two such facts. -/
def AnswerKeeps (κ : Kept) (p : State × Option Answer) : Prop := p.1.kept = κ

theorem answerKeeps_ite {c : Prop} [Decidable c] {p q : State × Option Answer} {κ : Kept} (hp : AnswerKeeps κ p)
    (hq : AnswerKeeps κ q) : AnswerKeeps κ (if c then p else q) := by
  split <;> assumption

theorem State.runOp_of_answerKeeps (s : State) (op : BitVec 12) (r : Req) (tie : Bool) {body : State → State × Option Answer}
    (h : ∀ t, AnswerKeeps t.kept (body t)) : (s.runOp op r tie body).kept = s.kept :=
  s.runOp_kept op r tie h

@[simp] theorem execSpareRow_kept (r : Req) (s u : State) : (after (execSpareRow r s) u).kept = s.kept := by
  refine State.runOp_of_answerKeeps _ _ _ _ fun t => ?_
  refine answerKeeps_ite (no_kept t _) (answerKeeps_ite (no_kept t _) (answerKeeps_ite (no_kept t _) ?_))
  split
  · exact no_kept t _
  · exact answerKeeps_ite (no_kept t _) (State.queueMove_kept _ _)

@[simp] theorem State.copyUnits_stores {κ : Kept} (s : State) (found : List Finding) (l : List Nat) (h : Stores κ s.kept) :
    Stores κ (s.copyUnits found l).kept := by
  induction l generalizing s with
  | nil => exact h
  | cons b bs ih =>
    rw [State.copyUnits]
    refine ih _ (Stores.foldl _ _ h fun s x => ?_)
    dsimp only
    repeat' split
    all_goals simp

@[simp] theorem execRowMoveDone_stores {κ : Kept} (stack : Nat) (found : List Finding) (s : State) (u : State) (h : Stores κ s.kept) :
    Stores κ (after (execRowMoveDone stack found s) u).kept := by
  simp only [execRowMoveDone, after_next]
  repeat' split
  all_goals simp [h]

@[simp] theorem State.scrubUnit_stores {κ : Kept} (s : State) (vat : Bool) (found : List Finding) (a : Nat) (h : Stores κ s.kept) :
    Stores κ (s.scrubUnit vat found a).kept := by
  simp only [State.scrubUnit]
  repeat' split
  all_goals simp [h]

@[simp] theorem State.scrubPieces_stores {κ : Kept} (s : State) (found : List Finding) (l : List (Nat × Nat)) (h : Stores κ s.kept) :
    Stores κ (s.scrubPieces found l).kept := by
  induction l generalizing s with
  | nil => exact h
  | cons p ps ih => exact ih _ (Stores.foldl _ _ h fun s x => State.scrubUnit_stores _ _ _ _ (.refl _))

@[simp] theorem execScrubStep_stores {κ : Kept} (entry : Nat) (found : List Finding) (s u : State) (h : Stores κ s.kept) :
    Stores κ (after (execScrubStep entry found s) u).kept := by
  simp only [execScrubStep, after_next]
  refine State.runEntry_stores _ _ _ h fun e t h => ?_
  split
  · exact h
  · simp [h]

@[simp] theorem execStackTrainingDone_kept (stack : Nat) (ok : Bool) (s : State) (u : State) :
    (after (execStackTrainingDone stack ok s) u).kept = s.kept := by
  simp [execStackTrainingDone]

@[simp] theorem execStackTempRead_kept (stack : Nat) (value : BitVec 16) (s : State) (u : State) :
    (after (execStackTempRead stack value s) u).kept = s.kept := by
  simp [execStackTempRead]

@[simp] theorem State.setChan_kept (s : State) (n : Nat) (c : Chan) : (s.setChan n c).kept = s.kept := by
  simp [State.setChan]

@[simp] theorem State.takeSample_kept (s : State) (dig : Nat) (code : BitVec 12) : (s.takeSample dig code).1.kept = s.kept := by
  simp [State.takeSample]

@[simp] theorem State.logMark_kept (s : State) (ch : Nat) (kind : Nat) (t : CT) (range : BitVec 2) (samples : Nat) :
    (s.logMark ch kind t range samples).kept = s.kept := by
  simp [State.logMark]

@[simp] theorem autorangeDrop_kept (ch : Nat) (s : State) (u : State) : (after (autorangeDrop ch s) u).kept = s.kept := by
  simp [autorangeDrop]

@[simp] theorem autorangeRise_kept (ch : Nat) (s : State) (u : State) : (after (autorangeRise ch s) u).kept = s.kept := by
  simp [autorangeRise]

@[simp] theorem execInvIntervalEnd_kept (ch : Nat) (s : State) (u : State) : (after (execInvIntervalEnd ch s) u).kept = s.kept := by
  simp only [execInvIntervalEnd, after_next]
  split <;> simp

@[simp] theorem State.passStop_kept (s : State) (ch : Nat) (p : Stop) : (s.passStop ch p).kept = s.kept := by
  simp [State.passStop]

@[simp] theorem State.drainStops_kept (s : State) (ch : Nat) (now : Option CT) (l3 : Nat) : (s.drainStops ch now l3).kept = s.kept := by
  induction l3 generalizing s with
  | zero => simp [State.drainStops]
  | succ n ih =>
    simp only [State.drainStops]
    repeat' split
    all_goals simp [ih]

@[simp] theorem State.loseStop_kept (s : State) (ch : Nat) (trailing : Bool) (counter : Nat) :
    (s.loseStop ch trailing counter).kept = s.kept := by
  simp [State.loseStop]

@[simp] theorem State.takeStop_kept (s : State) (ch : Nat) (p : Stop) : (s.takeStop ch p).kept = s.kept := by
  simp [State.takeStop]

@[simp] theorem wrBiasKey_kept (s : State) (v : Word) : (wrBiasKey s v).kept = s.kept := by
  simp [wrBiasKey]

@[simp] theorem wrBiasCtrl_keeps (s : State) (v : Word) : WriteKeeps s (wrBiasCtrl s v) := by
  simp [wrBiasCtrl]

@[simp] theorem execBiasKey_kept (port : Nat) (value : Word) (s : State) (u : State) :
    (after (execBiasKey port value s) u).kept = s.kept := by
  simp [execBiasKey]

@[simp] theorem execBiasKeyClose_kept (s : State) (u : State) : (after (execBiasKeyClose s) u).kept = s.kept := by
  simp [execBiasKeyClose]

@[simp] theorem execBiasEnableWrite_kept (port : Nat) (value : Word) (s : State) (u : State) :
    (after (execBiasEnableWrite port value s) u).kept = s.kept := by
  simp [execBiasEnableWrite]

@[simp] theorem execCalRun_kept (r : Req) (s : State) (u : State) : (after (execCalRun r s) u).kept = s.kept := by
  simp only [execCalRun, after_next]
  refine State.runOp_kept _ _ _ _ fun t => ?_
  simp

@[simp] theorem State.writeBins_kept (s : State) (ch : Nat) (p : Nat) (t : List Nat) (l4 : Nat) :
    (s.writeBins ch p t l4).kept = s.kept := by
  induction l4 generalizing s with
  | zero => simp [State.writeBins]
  | succ n ih => simp [State.writeBins, ih]

@[simp] theorem State.applySweep_kept (s : State) (dig : Nat) (r : Nat) (v : Nat × Nat) : (s.applySweep dig r v).kept = s.kept := by
  simp [State.applySweep]

@[simp] theorem State.calResults_kept (s : State) (ch : Nat) (par : Word) (apply : Bool) (m : CalMeasure) :
    (s.calResults ch par apply m).1.kept = s.kept := by
  simp only [State.calResults]
  split
  · simp
  · rw [State.draw_kept]
    refine (kept_foldl (fun s x => ?_) _ _).trans (kept_foldl (fun s x => ?_) _ _)
    all_goals split <;> simp
  · simp

@[simp] theorem execCalRunDone_kept (ch : Nat) (m : CalMeasure) (s : State) (u : State) :
    (after (execCalRunDone ch m s) u).kept = s.kept := by
  simp only [execCalRunDone, after_next]
  split <;> simp

@[simp] theorem State.setPair_kept (s : State) (f : Pair → Pair) : (s.setPair f).kept = s.kept := by
  simp [State.setPair]

@[simp] theorem State.changeControl_kept (s : State) (toB : Bool) (boundary : Bool) : (s.changeControl toB boundary).kept = s.kept := by
  simp [State.changeControl]

@[simp] theorem execArbitration_stores {κ : Kept} (aPasses : Bool) (bPasses : Bool) (s : State) (u : State) (h : Stores κ s.kept) :
    Stores κ (after (execArbitration aPasses bPasses s) u).kept := by
  simp only [execArbitration, after_next]
  repeat' split
  all_goals simp [h]

@[simp] theorem execFailOver_kept (s : State) (u : State) : (after (execFailOver s) u).kept = s.kept := by
  simp [execFailOver]

@[simp] theorem execStandbySelftestSlice_kept (passes : Bool) (s : State) (u : State) :
    (after (execStandbySelftestSlice passes s) u).kept = s.kept := by
  simp [execStandbySelftestSlice]

@[simp] theorem execDemotedSelftest_kept (passes : Bool) (s : State) (u : State) :
    (after (execDemotedSelftest passes s) u).kept = s.kept := by
  simp [execDemotedSelftest]

@[simp] theorem execResyncDone_kept (s : State) (u : State) : (after (execResyncDone s) u).kept = s.kept := by
  simp [execResyncDone]

@[simp] theorem execTakeBack_kept (s : State) (u : State) : (after (execTakeBack s) u).kept = s.kept := by
  simp [execTakeBack]

@[simp] theorem wrCpCtrl_keeps (s : State) (v : Word) : WriteKeeps s (wrCpCtrl s v) := by
  simp [wrCpCtrl]

@[simp] theorem execReadmit_kept (port : Nat) (s : State) (u : State) : (after (execReadmit port s) u).kept = s.kept := by
  simp [execReadmit]

@[simp] theorem execForceSwap_kept (port : Nat) (s : State) (u : State) : (after (execForceSwap port s) u).kept = s.kept := by
  simp [execForceSwap]

@[simp] theorem wrFeed_keeps (s : State) (v : Word) : WriteKeeps s (wrFeed s v) := by
  simp [wrFeed]

@[simp] theorem execWatchdogFeed_kept (port : Nat) (value : Word) (s : State) (u : State) :
    (after (execWatchdogFeed port value s) u).kept = s.kept := by
  simp [execWatchdogFeed]

@[simp] theorem wrWdogCfg_keeps (s : State) (v : Word) : WriteKeeps s (wrWdogCfg s v) := by
  simp [wrWdogCfg]

@[simp] theorem execWatchdogEnable_kept (port : Nat) (value : Word) (s : State) (u : State) :
    (after (execWatchdogEnable port value s) u).kept = s.kept := by
  simp [execWatchdogEnable]

@[simp] theorem State.setHouse_kept (s : State) (f : House → House) : (s.setHouse f).kept = s.kept := by
  simp [State.setHouse]

@[simp] theorem execHkSeqLoad_kept (r : Req) (s u : State) : (after (execHkSeqLoad r s) u).kept = s.kept := by
  exact State.runOp_kept _ _ _ _ fun t => by simp

@[simp] theorem State.hkStop_kept (s : State) : (s.hkStop).kept = s.kept := by
  simp [State.hkStop]

@[simp] theorem execHkSeqStart_kept (r : Req) (s : State) (u : State) : (after (execHkSeqStart r s) u).kept = s.kept := by
  simp only [execHkSeqStart, after_next]
  refine State.runOp_kept _ _ _ _ fun t => ?_
  simp

@[simp] theorem execHkRead_kept (r : Req) (s : State) (u : State) : (after (execHkRead r s) u).kept = s.kept := by
  simp only [execHkRead, after_next]
  refine State.runOp_kept _ _ _ _ fun t => ?_
  simp

@[simp] theorem State.hkBegin_kept (s : State) (k : Nat) : (s.hkBegin k).kept = s.kept := by
  simp [State.hkBegin]

@[simp] theorem execHousekeepingStep_kept (entry : Nat) (s : State) (u : State) :
    (after (execHousekeepingStep entry s) u).kept = s.kept := by
  simp [execHousekeepingStep]

@[simp] theorem execHkConnect_kept (s : State) (u : State) : (after (execHkConnect s) u).kept = s.kept := by
  simp [execHkConnect]

@[simp] theorem State.startConversion_kept (s : State) (p : HkPhase) : (s.startConversion p).kept = s.kept := by
  simp [State.startConversion]

@[simp] theorem execHkSettleEnd_kept (s : State) (u : State) : (after (execHkSettleEnd s) u).kept = s.kept := by
  simp [execHkSettleEnd]

@[simp] theorem execHkConversionEnd_kept (microvolt2p23 : Int) (s : State) (u : State) :
    (after (execHkConversionEnd microvolt2p23 s) u).kept = s.kept := by
  simp only [execHkConversionEnd, after_next]
  split <;> simp

@[simp] theorem State.biasCut_kept (s : State) (cut : Nat) : (s.biasCut cut).kept = s.kept := by
  simp [State.biasCut]

@[simp] theorem execHkResultPublish_kept (s : State) (u : State) : (after (execHkResultPublish s) u).kept = s.kept := by
  simp [execHkResultPublish]

@[simp] theorem execSensorFault_kept (source : Nat) (kind : Nat) (s : State) (u : State) :
    (after (execSensorFault source kind s) u).kept = s.kept := by
  simp [execSensorFault]

@[simp] theorem execDieSensorRead_kept (values : List (BitVec 16)) (s : State) (u : State) :
    (after (execDieSensorRead values s) u).kept = s.kept := by
  simp [execDieSensorRead]

@[simp] theorem wrHkCfg_keeps (s : State) (v : Word) : WriteKeeps s (wrHkCfg s v) := by
  simp [wrHkCfg]

@[simp] theorem wrHkExcCfg_keeps (s : State) (k : Nat) (v : Word) : WriteKeeps s (wrHkExcCfg s k v) := by
  simp [wrHkExcCfg]

@[simp] theorem State.setEng_kept (s : State) (e : Nat) (g : Engine) : (s.setEng e g).kept = s.kept := by
  simp [State.setEng]

@[simp] theorem State.modEng_kept (s : State) (e : Nat) (f : Engine → Engine) : (s.modEng e f).kept = s.kept := by
  simp [State.modEng]

@[simp] theorem State.setCluster_kept (s : State) (c : Nat) (k : Cluster) : (s.setCluster c k).kept = s.kept := by
  simp [State.setCluster]

@[simp] theorem State.eaOvf_kept (s : State) (e : Nat) : (s.eaOvf e).kept = s.kept := by
  simp only [State.eaOvf]
  split <;> simp

@[simp] theorem State.eaPoison_kept (s : State) (e : Nat) : (s.eaPoison e).kept = s.kept := by
  simp only [State.eaPoison]
  split <;> simp

@[simp] theorem State.setHitChan_kept (s : State) (n : Nat) (h : HitChan) : (s.setHitChan n h).kept = s.kept := by
  simp [State.setHitChan]

@[simp] theorem State.useBudget_kept (s : State) (ch : Nat) (f : HitFrame) : (s.useBudget ch f).kept = s.kept := by
  simp [State.useBudget]

@[simp] theorem State.coreCycle_kept (s : State) : s.coreCycle.kept = s.kept := by
  have sync (n : Nat) := kept_foldl (f := fun (s : State) k => let h := s.hitChan k;
      if h.quiet then s else s.setHitChan k { h with wrSync := (h.wr, h.wrSync.1) })
    (fun s k => by simp) (List.range n) s
  simp only [State.coreCycle]
  repeat' split
  all_goals simp [sync]

@[simp] theorem State.transportCycles_kept (s : State) (n : Nat) : (s.transportCycles n).kept = s.kept := by
  induction n generalizing s with
  | zero => rfl
  | succ n ih =>
    have written (l : List Nat) := kept_foldl (f := fun (s : State) k => let h := s.hitChan k;
        if h.quiet then s else s.setHitChan k h.writeCycle)
      (fun s k => by simp) l s
    simp [State.transportCycles, ih, written]

@[simp] theorem State.transport_kept (s : State) : (s.transport).kept = s.kept := by
  simp [State.transport]

@[simp] theorem State.hitWhey_kept (s : State) (ch : Nat) (flits : Nat) (fifo : Bool) : (s.hitWhey ch flits fifo).kept = s.kept := by
  simp [State.hitWhey]

@[simp] theorem State.offerItem_kept (s : State) (it : Item) (amp : Nat) (tot : Nat) (open_ : Bool) :
    (s.offerItem it amp tot open_).kept = s.kept := by
  simp only [State.offerItem]
  repeat' split
  all_goals simp

@[simp] theorem State.formHit_kept (s : State) (ch : Nat) : (s.formHit ch).kept = s.kept := by
  simp only [State.formHit]
  split <;> simp

@[simp] theorem State.formHitsOf_kept (s : State) (ch : Nat) (l2 : Nat) : (s.formHitsOf ch l2).kept = s.kept := by
  induction l2 generalizing s with
  | zero => simp [State.formHitsOf]
  | succ n ih => simp [State.formHitsOf, ih]

@[simp] theorem State.formAll_kept (s : State) (l1 : List Nat) : (s.formAll l1).kept = s.kept := by
  induction l1 generalizing s with
  | nil => simp [State.formAll]
  | cons x xs ih => simp [State.formAll, ih]

@[simp] theorem State.formHits_kept (s : State) (fn : Word) (bad : List Nat) (gs : List (List Item)) (i : Nat) :
    (s.formHits fn bad gs i).kept = s.kept := by
  induction gs generalizing s i with
  | nil => rfl
  | cons g gs ih => simp [State.formHits, ih]

@[simp] theorem State.closeHit_kept (s : State) (parity stage : List Nat) : (s.closeHit parity stage).kept = s.kept := by
  simp only [State.closeHit]
  repeat' split
  all_goals simp

@[simp] theorem execHitFrameClose_kept (parityErrors : List Nat) (stagePoison : List Nat) (s : State) (u : State) :
    (after (execHitFrameClose parityErrors stagePoison s) u).kept = s.kept := by
  simp [execHitFrameClose]

@[simp] theorem State.closeHits_kept (s : State) : s.closeHits.kept = s.kept :=
  kept_foldl (fun s f => by simp) _ s

@[simp] theorem State.setRennet_kept (s : State) (f : Rennet → Rennet) : (s.setRennet f).kept = s.kept := by
  simp [State.setRennet]

@[simp] theorem State.flushTrigs_kept (s : State) (n : Nat) : (s.flushTrigs n).kept = s.kept := by
  simp [State.flushTrigs]

@[simp] theorem State.putTrig_kept (s : State) (n : Nat) (x : BitVec 16 × BitVec 10 × CT) : (s.putTrig n x).kept = s.kept := by
  simp only [State.putTrig]
  split <;> simp

@[simp] theorem State.openTrigs_kept (s : State) (n : Nat) (reserve : Nat) (e : CT) : (s.openTrigs n reserve e).kept = s.kept := by
  simp [State.openTrigs]

@[simp] theorem State.sendTrig_kept (s : State) (origin : BitVec 16) (sources : BitVec 10) (t : CT) (except : Nat) (l5 : List Nat) :
    (s.sendTrig origin sources t except l5).kept = s.kept := by
  induction l5 generalizing s with
  | nil => simp [State.sendTrig]
  | cons x xs ih => simp [State.sendTrig, ih]

@[simp] theorem State.rememberTrig_kept (s : State) (origin : BitVec 16) (t : CT) : (s.rememberTrig origin t).kept = s.kept := by
  simp [State.rememberTrig]

@[simp] theorem State.arbiterAt_kept (s : State) (at_ : CT) (c : Cand) : (s.arbiterAt at_ c).kept = s.kept := by
  simp [State.arbiterAt]

@[simp] theorem State.arbiter_kept (s : State) (c : Cand) : (s.arbiter c).kept = s.kept := by
  simp [State.arbiter]

@[simp] theorem State.offerAt_kept (s : State) (at_ : CT) (bit : Nat) (t : CT) (coarse : Bool) (ovf : Bool) :
    (s.offerAt at_ bit t coarse ovf).kept = s.kept := by
  simp [State.offerAt]

@[simp] theorem State.offer_kept (s : State) (bit : Nat) (t : CT) (coarse : Bool) (ovf : Bool) :
    (s.offer bit t coarse ovf).kept = s.kept := by
  simp [State.offer]

@[simp] theorem State.setTrigs_kept (s : State) (c : Nat) (l : List CT) : (s.setTrigs c l).kept = s.kept := by
  simp [State.setTrigs]

@[simp] theorem State.drainTrig_kept (s : State) (at_ : CT) : (s.drainTrig at_).kept = s.kept := by
  simp only [State.drainTrig]
  split <;> simp

@[simp] theorem State.drainFrom_kept (s : State) (t : CT) (n : Nat) : (s.drainFrom t n).kept = s.kept := by
  induction n generalizing s t with
  | zero => rfl
  | succ n ih => simp [State.drainFrom, ih]

@[simp] theorem State.drainTrigs_kept (s : State) (until_ : CT) : (s.drainTrigs until_).kept = s.kept := by
  simp [State.drainTrigs]

@[simp] theorem State.queueTrig_kept (s : State) (e : Nat) (t : CT) (apart : Bool) : (s.queueTrig e t apart).1.kept = s.kept := by
  simp [State.queueTrig]

@[simp] theorem State.nextCand_kept (s : State) : (s.nextCand).kept = s.kept := by
  simp only [State.nextCand]
  repeat' split
  all_goals simp

@[simp] theorem execTrigForce_kept (r : Req) (s : State) (u : State) : (after (execTrigForce r s) u).kept = s.kept := by
  simp only [execTrigForce, after_next]
  refine State.runOp_kept _ _ _ _ fun t => ?_
  simp

@[simp] theorem trigInEdge_kept (t : CT) (s : State) (u : State) : (after (trigInEdge t s) u).kept = s.kept := by
  simp [trigInEdge]

@[simp] theorem wrCmpArm_keeps (s : State) : WriteKeeps s (wrCmpArm s) := by
  simp [wrCmpArm]

@[simp] theorem execCmpArm_kept (port : Nat) (s : State) (u : State) : (after (execCmpArm port s) u).kept = s.kept := by
  simp [execCmpArm]

@[simp] theorem ctCompare_kept (s : State) (u : State) : (after (ctCompare s) u).kept = s.kept := by
  simp [ctCompare]

@[simp] theorem patternFire_kept (k : Nat) (cycle : CT) (s : State) (u : State) : (after (patternFire k cycle s) u).kept = s.kept := by
  simp only [patternFire]
  repeat' split
  all_goals simp

@[simp] theorem State.writeBlock_stores {κ : Kept} (s : State) (k : Nat) (b : Nat) (codes : List (BitVec 12)) (h : Stores κ s.kept) :
    Stores κ (s.writeBlock k b codes).kept := by
  simp only [State.writeBlock]
  split <;> simp [h]

@[simp] theorem State.writeZeros_stores {κ : Kept} (s : State) (k ch b n : Nat) (h : Stores κ s.kept) :
    Stores κ (s.writeZeros k ch b n).kept := by
  induction n generalizing s b with
  | zero => exact h
  | succ n ih => exact ih _ _ (State.writeBlock_stores _ _ _ _ h)

@[simp] theorem State.zeroBlocks_stores {κ : Kept} (s : State) (l1 : List (Nat × Nat)) (h : Stores κ s.kept) :
    Stores κ (s.zeroBlocks l1).kept := by
  induction l1 generalizing s with
  | nil => simp [State.zeroBlocks, h]
  | cons x xs ih => simp [State.zeroBlocks, ih, h]

@[simp] theorem State.zeroNow_stores {κ : Kept} (s : State) (h : Stores κ s.kept) : Stores κ (s.zeroNow).kept := by
  simp [State.zeroNow, h]

@[simp] theorem State.bufferSample_stores {κ : Kept} (s : State) (ch : Nat) (t : CT) (code : BitVec 12) (h : Stores κ s.kept) :
    Stores κ (s.bufferSample ch t code).kept := by
  simp only [State.bufferSample]
  split
  · exact h
  · split
    · simpa using h
    · refine State.zeroNow_stores _ ?_
      cases ((State.tbPlaces _).find? _) <;> simp [h]

@[simp] theorem State.formReadoutCurd_stores {κ : Kept} (s : State) (ro : Readout) (k ch span lo total b0 n : Nat) (dep : Option Nat)
    (found : List Finding) (h : Stores κ s.kept) : Stores κ (s.formReadoutCurd ro k ch span lo total b0 n dep found).kept := by
  simp only [State.formReadoutCurd, State.formCurd_kept, State.kept_ite, State.raise_kept, State.draw_kept, ite_self]
  refine Stores.foldl _ _ h fun s x => ?_
  split <;> simp

@[simp] theorem State.formReadoutChan_stores {κ : Kept} (s : State) (ro : Readout) (k ch span lo total : Nat) (dep : Option Nat)
    (found : List Finding) (fuel b0 : Nat) (h : Stores κ s.kept) :
    Stores κ (s.formReadoutChan ro k ch span lo total dep found fuel b0).kept := by
  induction fuel generalizing s b0 with
  | zero => exact h
  | succ fuel ih =>
    unfold State.formReadoutChan
    split
    · exact h
    · exact ih _ _ (State.formReadoutCurd_stores _ _ _ _ _ _ _ _ _ _ _ h)

@[simp] theorem State.formReadout_stores {κ : Kept} (s : State) (ro : Readout) (dep : Option Nat) (found : List Finding)
    (h : Stores κ s.kept) : Stores κ (s.formReadout ro dep found).kept := by
  simp [State.formReadout, h]

@[simp] theorem State.formReadouts_stores {κ : Kept} (s : State) (dep : Option Nat) (found : List Finding) (l3 : List Readout)
    (h : Stores κ s.kept) : Stores κ (s.formReadouts dep found l3).kept := by
  induction l3 generalizing s with
  | nil => simp [State.formReadouts, h]
  | cons x xs ih => simp [State.formReadouts, ih, h]

@[simp] theorem State.loseReadouts_stores {κ : Kept} (s : State) (rs : List Readout) (h : Stores κ s.kept) :
    Stores κ (s.loseReadouts rs).kept := by
  simp [State.loseReadouts, h]

@[simp] theorem State.formMarks_kept (s : State) (fn : Word) (n : Nat) (ms : List TrigMark) : (s.formMarks fn n ms).kept = s.kept := by
  induction n generalizing s ms with
  | zero => simp [State.formMarks]
  | succ n ih =>
    cases ms with
    | nil => rfl
    | cons m ms => simp [State.formMarks, ih]

@[simp] theorem State.endRennet_kept (s : State) (fn : FN) (stop : CT) : (s.endRennet fn stop).kept = s.kept := by
  simp [State.endRennet]

@[simp] theorem State.closeMarks_kept (s : State) (now : CT) (l2 : Nat) : (s.closeMarks now l2).kept = s.kept := by
  induction l2 generalizing s with
  | zero => simp [State.closeMarks]
  | succ n ih =>
    simp only [State.closeMarks]
    repeat' split
    all_goals simp [ih]

@[simp] theorem State.closeReadouts_kept (s : State) (now : CT) (l2 : Nat) : (s.closeReadouts now l2).kept = s.kept := by
  induction l2 generalizing s with
  | zero => simp [State.closeReadouts]
  | succ n ih =>
    simp only [State.closeReadouts]
    repeat' split
    all_goals simp [ih]

@[simp] theorem State.closeRennet_kept (s : State) : (s.closeRennet).kept = s.kept := by
  simp [State.closeRennet]

@[simp] theorem State.miss_kept (s : State) (c : Cand) : (s.miss c).kept = s.kept := by
  simp [State.miss]

@[simp] theorem State.scheduleOut_kept (s : State) (t : CT) : (s.scheduleOut t).kept = s.kept := by
  simp [State.scheduleOut]

@[simp] theorem State.admitReadout_kept (s : State) (num : BitVec 16) (t : CT) (f : TrFrame) :
    (s.admitReadout num t f).1.kept = s.kept := by
  simp [State.admitReadout]

@[simp] theorem State.openRecord_kept (s : State) (num : BitVec 16) (c : Cand) (f : TrFrame) : (s.openRecord num c f).kept = s.kept := by
  simp [State.openRecord]

@[simp] theorem State.accept_kept (s : State) (c : Cand) : (s.accept c).kept = s.kept := by
  simp [State.accept]

@[simp] theorem State.decideCand_kept (s : State) (c : Cand) : (s.decideCand c).kept = s.kept := by
  simp [State.decideCand]

@[simp] theorem State.closeSegment_kept (s : State) : (s.closeSegment).kept = s.kept := by
  simp [State.closeSegment]

@[simp] theorem State.tryClose_kept (s : State) : (s.tryClose).kept = s.kept := by
  simp [State.tryClose]

@[simp] theorem triggerDecision_kept (s : State) (u : State) : (after (triggerDecision s) u).kept = s.kept := by
  simp only [triggerDecision]
  split <;> simp

@[simp] theorem autoTimeout_kept (s : State) (u : State) : (after (autoTimeout s) u).kept = s.kept := by
  simp [autoTimeout]

@[simp] theorem execTrigOutPulse_kept (s : State) (u : State) : (after (execTrigOutPulse s) u).kept = s.kept := by
  simp only [execTrigOutPulse, after_next]
  split <;> simp

@[simp] theorem execTrigOutFall_kept (s : State) (u : State) : (after (execTrigOutFall s) u).kept = s.kept := by
  simp only [execTrigOutFall, after_next]
  split <;> simp

@[simp] theorem execTrigArm_kept (r : Req) (s u : State) : (after (execTrigArm r s) u).kept = s.kept := by
  refine State.runOp_kept _ _ _ _ fun t => ?_
  dsimp only
  split
  · simp
  · refine needStep_kept t 7 ?_
    repeat' split
    all_goals rfl

@[simp] theorem State.takeArm_kept (s : State) : (s.takeArm).kept = s.kept := by
  simp only [State.takeArm]
  split <;> simp

@[simp] theorem execTrigDisarm_kept (r : Req) (s : State) (u : State) : (after (execTrigDisarm r s) u).kept = s.kept := by
  simp only [execTrigDisarm, after_next]
  refine State.runOp_kept _ _ _ _ fun t => ?_
  simp

@[simp] theorem State.takeDisarm_kept (s : State) : (s.takeDisarm).kept = s.kept := by
  simp [State.takeDisarm]

@[simp] theorem execRecordComplete_stores {κ : Kept} (s : State) (u : State) (h : Stores κ s.kept) :
    Stores κ (after (execRecordComplete s) u).kept := by
  simp only [execRecordComplete, after_next]
  split <;> simp [h]

@[simp] theorem execRearmComplete_kept (s : State) (u : State) : (after (execRearmComplete s) u).kept = s.kept := by
  simp only [execRearmComplete, after_next]
  repeat' split
  all_goals simp

@[simp] theorem execSegmentRead_stores {κ : Kept} (r : Req) (found : List Finding) (s u : State) (h : Stores κ s.kept) :
    Stores κ (after (execSegmentRead r found s) u).kept := by
  simp only [execSegmentRead, after_next]
  refine State.runOp_stores _ _ _ _ h fun t h => ?_
  refine answer_ite_stores h (needStep_stores _ _ h ?_)
  split
  · exact h
  · split
    · refine answer_ite_stores h (answer_ite_stores h ?_)
      exact Stores.foldl _ _ (State.readRange_stores _ _ _ _ _ _ h) fun s x => State.readRange_stores _ _ _ _ _ _ (.refl _)
    · exact h

@[simp] theorem execKernelLoad_kept (r : Req) (s u : State) : (after (execKernelLoad r s) u).kept = s.kept := by
  exact State.runOp_kept _ _ _ _ fun t => by simp

@[simp] theorem execKernelInfo_kept (r : Req) (s : State) (u : State) : (after (execKernelInfo r s) u).kept = s.kept := by
  simp only [execKernelInfo, after_next]
  refine State.runOp_kept _ _ _ _ fun t => ?_
  simp

@[simp] theorem State.loseDep_kept (s : State) (i : Nat) : (s.loseDep i).kept = s.kept := by
  simp [State.loseDep]

@[simp] theorem State.scrambleEngines_kept (s : State) (f : Nat → BitVec 2 × BitVec 4) (l2 : List Nat) :
    (s.scrambleEngines f l2).kept = s.kept := by
  induction l2 generalizing s with
  | nil => simp [State.scrambleEngines]
  | cons x xs ih => simp [State.scrambleEngines, ih]

@[simp] theorem State.abortRun_kept (s : State) (c : Nat) (f : Nat → BitVec 2 × BitVec 4) : (s.abortRun c f).kept = s.kept := by
  simp only [State.abortRun]
  split <;> simp

@[simp] theorem State.engFault_kept (s : State) (e : Nat) (code : Nat) : (s.engFault e code).kept = s.kept := by
  simp [State.engFault]

@[simp] theorem State.accessFault_kept (s : State) (e : Nat) (k : Nat) : (s.accessFault e k).kept = s.kept := by
  simp [State.accessFault]

@[simp] theorem State.timeoutRun_kept (s : State) (c : Nat) : (s.timeoutRun c).kept = s.kept := by
  simp [State.timeoutRun]

@[simp] theorem State.startRun_kept (s : State) (entry : Nat) (e : Entry) (c : Nat) : (s.startRun entry e c).kept = s.kept :=
  (kept_foldl (fun s i => by simp) _ _).trans (by simp)

@[simp] theorem State.setDma_kept (s : State) (ch : Nat) (d : Dma) : (s.setDma ch d).kept = s.kept := by
  simp [State.setDma]

@[simp] theorem State.scrambleRows_stores {κ : Kept} (s : State) (r : Rows) (h : Stores κ s.kept) : Stores κ (s.scrambleRows r).kept :=
  Stores.foldl _ _ h fun s i => s.setMem_wrBytes_stores r.vat (r.at i).toNat (freeBytes s.free (16 * r.words)) (.refl _)

@[simp] theorem State.moveRow_stores {κ : Kept} (s : State) (c : Nat) (d : Desc) (found : List Finding) (i : Nat) (h : Stores κ s.kept) :
    Stores κ (s.moveRow c d found i).kept := by
  simp [State.moveRow, h]

@[simp] theorem State.moveRows_stores {κ : Kept} (s : State) (c : Nat) (d : Desc) (found : List Finding) (h : Stores κ s.kept) :
    Stores κ (s.moveRows c d found).kept := by
  simp [State.moveRows, h]

@[simp] theorem State.endChain_kept (s : State) (ch : Nat) : (s.endChain ch).kept = s.kept := by
  simp [State.endChain]

@[simp] theorem State.stopChain_stores {κ : Kept} (s : State) (ch : Nat) (k : Nat) (h : Stores κ s.kept) :
    Stores κ (s.stopChain ch k).kept := by
  simp [State.stopChain, h]

@[simp] theorem execTransfer_kept (entry : Nat) (s : State) (u : State) : (after (execTransfer entry s) u).kept = s.kept := by
  simp [execTransfer]

@[simp] theorem execTransientBufferReadout_stores {κ : Kept} (entry : Nat) (found : List Finding) (s : State) (u : State)
    (h : Stores κ s.kept) : Stores κ (after (execTransientBufferReadout entry found s) u).kept := by
  simp only [execTransientBufferReadout, after_next]
  split <;> simp [h]

@[simp] theorem execDmaDescriptor_stores {κ : Kept} (ch : Nat) (found : List Finding) (s u : State) (h : Stores κ s.kept) :
    Stores κ (after (execDmaDescriptor ch found s) u).kept := by
  simp only [execDmaDescriptor, after_next]
  have moved (d : Desc) (lo hi c : Nat) : Stores κ ((s.readRange false lo hi 0 found).moveRows c d found).kept :=
    State.moveRows_stores _ _ _ _ (State.readRange_stores _ _ _ _ _ _ h)
  repeat' split
  all_goals simp [h, moved]

@[simp] theorem execDmaDescriptorDone_kept (ch : Nat) (s : State) (u : State) : (after (execDmaDescriptorDone ch s) u).kept = s.kept := by
  simp only [execDmaDescriptorDone, after_next]
  split <;> simp

@[simp] theorem State.resultWhey_kept (s : State) (c : Nat) (e : Nat) (len : Nat) : (s.resultWhey c e len).kept = s.kept := by
  simp [State.resultWhey]

@[simp] theorem State.takeResult_kept (s : State) (c : Nat) (type : Nat) (len : Nat) (fn : FN) (payload : List Flit)
    (mark : Rind → Rind) (dep : Option Nat) : (s.takeResult c type len fn payload mark dep).kept = s.kept := by
  simp [State.takeResult]

@[simp] theorem execResultAdmission_stores {κ : Kept} (cluster : Nat) (s : State) (u : State) (h : Stores κ s.kept) :
    Stores κ (after (execResultAdmission cluster s) u).kept := by
  simp only [execResultAdmission, after_next]
  split <;> simp [h]

@[simp] theorem State.wrEng_keeps (s : State) (e : Nat) (f : Engine → Engine) : WriteKeeps s (s.wrEng e f) := by
  simp [State.wrEng]

@[simp] theorem wrEaFlags_keeps (s : State) (e : Nat) (v : Word) : WriteKeeps s (wrEaFlags s e v) := by
  simp [wrEaFlags]

@[simp] theorem wrEaOvfBanks_keeps (s : State) (e : Nat) (v : Word) : WriteKeeps s (wrEaOvfBanks s e v) := by
  simp [wrEaOvfBanks]

@[simp] theorem wrEaPc_keeps (s : State) (e : Nat) (v : Word) : WriteKeeps s (wrEaPc s e v) := by
  simp [wrEaPc]

@[simp] theorem wrEaAgBase_keeps (s : State) (e : Nat) (k : Nat) (v : Word) : WriteKeeps s (wrEaAgBase s e k v) := by
  simp [wrEaAgBase]

@[simp] theorem wrEaAgStep_keeps (s : State) (e : Nat) (k : Nat) (v : Word) : WriteKeeps s (wrEaAgStep s e k v) := by
  simp [wrEaAgStep]

@[simp] theorem wrEaAgLen_keeps (s : State) (e : Nat) (k : Nat) (v : Word) : WriteKeeps s (wrEaAgLen s e k v) := by
  simp [wrEaAgLen]

@[simp] theorem wrEaAgPend_keeps (s : State) (e : Nat) (k : Nat) (v : Word) : WriteKeeps s (wrEaAgPend s e k v) := by
  simp [wrEaAgPend]

@[simp] theorem wrEaAgIndex_keeps (s : State) (e : Nat) (k : Nat) (v : Word) : WriteKeeps s (wrEaAgIndex s e k v) := by
  simp [wrEaAgIndex]

@[simp] theorem State.issue_kept (s : State) (e op : Nat) (w : EngWord) (ok : Bool) {body : State → State}
    (h : ∀ t, (body t).kept = t.kept) :
    (s.issue e op w ok body).kept = s.kept := by
  simp only [State.issue]
  repeat' split
  all_goals simp [h]

@[simp] theorem State.issue_stores {κ : Kept} (s : State) (e op : Nat) (w : EngWord) (ok : Bool) {body : State → State}
    (h : Stores κ s.kept) (step : ∀ t, Stores κ t.kept → Stores κ (body t).kept) : Stores κ (s.issue e op w ok body).kept := by
  have ran (g : Engine) : Stores κ (body (s.setEng e g)).kept := step _ (by simpa using h)
  simp only [State.issue]
  repeat' split
  all_goals simp [h, ran]

@[simp] theorem State.issueEng_kept (s : State) (e op : Nat) (w : EngWord) (ok : Bool) (f : Engine → Engine) :
    (s.issueEng e op w ok f).kept = s.kept :=
  s.issue_kept e op w ok fun _ => by simp

@[simp] theorem execNop_kept (e : Nat) (w : EngWord) (s : State) (u : State) : (after (execNop e w s) u).kept = s.kept := by
  simp [execNop]

@[simp] theorem execHalt_kept (e : Nat) (w : EngWord) (s : State) (u : State) : (after (execHalt e w s) u).kept = s.kept := by
  simp [execHalt]

@[simp] theorem execBr_kept (e : Nat) (w : EngWord) (s : State) (u : State) : (after (execBr e w s) u).kept = s.kept := by
  simp [execBr]

@[simp] theorem execBrdec_kept (e : Nat) (w : EngWord) (s : State) (u : State) : (after (execBrdec e w s) u).kept = s.kept := by
  simp [execBrdec]

@[simp] theorem execId_kept (e : Nat) (w : EngWord) (s : State) (u : State) : (after (execId e w s) u).kept = s.kept := by
  simp [execId]

@[simp] theorem execTime_kept (e : Nat) (w : EngWord) (s u : State) : (after (execTime e w s) u).kept = s.kept := by
  simp only [execTime, after_next]
  refine State.issue_kept _ _ _ _ _ fun t => ?_
  split <;> simp

@[simp] theorem execLi_kept (e : Nat) (w : EngWord) (s : State) (u : State) : (after (execLi e w s) u).kept = s.kept := by
  simp [execLi]

@[simp] theorem execAddi_kept (e : Nat) (w : EngWord) (s : State) (u : State) : (after (execAddi e w s) u).kept = s.kept := by
  simp [execAddi]

@[simp] theorem execAdd_kept (e : Nat) (w : EngWord) (s : State) (u : State) : (after (execAdd e w s) u).kept = s.kept := by
  simp [execAdd]

@[simp] theorem execSub_kept (e : Nat) (w : EngWord) (s : State) (u : State) : (after (execSub e w s) u).kept = s.kept := by
  simp [execSub]

@[simp] theorem execSlli_kept (e : Nat) (w : EngWord) (s : State) (u : State) : (after (execSlli e w s) u).kept = s.kept := by
  simp [execSlli]

@[simp] theorem execSrai_kept (e : Nat) (w : EngWord) (s : State) (u : State) : (after (execSrai e w s) u).kept = s.kept := by
  simp [execSrai]

@[simp] theorem State.compare_kept (s : State) (e : Nat) (n : Nat) (c : Nat) (x : Word) (y : Word) (bad : Bool) :
    (s.compare e n c x y bad).kept = s.kept := by
  simp [State.compare]

@[simp] theorem execCmp_kept (e : Nat) (w : EngWord) (s : State) (u : State) : (after (execCmp e w s) u).kept = s.kept := by
  simp [execCmp]

@[simp] theorem execCmpi_kept (e : Nat) (w : EngWord) (s : State) (u : State) : (after (execCmpi e w s) u).kept = s.kept := by
  simp [execCmpi]

@[simp] theorem execAgset_kept (e : Nat) (w : EngWord) (s : State) (u : State) : (after (execAgset e w s) u).kept = s.kept := by
  simp [execAgset]

@[simp] theorem execAgget_kept (e : Nat) (w : EngWord) (s : State) (u : State) : (after (execAgget e w s) u).kept = s.kept := by
  simp [execAgget]

@[simp] theorem execSetlen_kept (e : Nat) (w : EngWord) (s : State) (u : State) : (after (execSetlen e w s) u).kept = s.kept := by
  simp [execSetlen]

@[simp] theorem execAgexp_kept (e : Nat) (w : EngWord) (s : State) (u : State) : (after (execAgexp e w s) u).kept = s.kept := by
  simp [execAgexp]

@[simp] theorem execAgidx_kept (e : Nat) (w : EngWord) (s : State) (u : State) : (after (execAgidx e w s) u).kept = s.kept := by
  simp [execAgidx]

@[simp] theorem State.loadVia_stores {κ : Kept} (s : State) (e : Nat) (d : Nat) (k : Nat) (found : List Finding) (h : Stores κ s.kept) :
    Stores κ (s.loadVia e d k found).kept := by
  simp only [State.loadVia]
  split <;> simp [h]

@[simp] theorem State.storeVia_stores {κ : Kept} (s : State) (e : Nat) (r : Nat) (k : Nat) (h : Stores κ s.kept) :
    Stores κ (s.storeVia e r k).kept := by
  simp only [State.storeVia]
  split <;> simp [h]

@[simp] theorem State.thenDo_kept (s : State) (e : Nat) {f : State → State} (h : ∀ t, (f t).kept = t.kept) :
    (s.then_ e f).kept = s.kept := by
  unfold State.then_
  split <;> simp [h]

@[simp] theorem State.thenDo_stores {κ : Kept} (s : State) (e : Nat) {f : State → State} (h : Stores κ s.kept)
    (step : ∀ t, Stores κ t.kept → Stores κ (f t).kept) : Stores κ (s.then_ e f).kept := by
  unfold State.then_
  split
  · exact step s h
  · exact h

@[simp] theorem execLd_stores {κ : Kept} (e : Nat) (w : EngWord) (found : List Finding) (s u : State) (h : Stores κ s.kept) :
    Stores κ (after (execLd e w found s) u).kept := by
  simp only [execLd, after_next]
  exact State.issue_stores _ _ _ _ _ h fun t h => State.loadVia_stores _ _ _ _ _ h

@[simp] theorem execLdp_stores {κ : Kept} (e : Nat) (w : EngWord) (found : List Finding) (s u : State) (h : Stores κ s.kept) :
    Stores κ (after (execLdp e w found s) u).kept := by
  simp only [execLdp, after_next]
  exact State.issue_stores _ _ _ _ _ h fun t h =>
    State.thenDo_stores _ _ (State.loadVia_stores _ _ _ _ _ h) fun t h => State.loadVia_stores _ _ _ _ _ h

@[simp] theorem execSt_stores {κ : Kept} (e : Nat) (w : EngWord) (s u : State) (h : Stores κ s.kept) :
    Stores κ (after (execSt e w s) u).kept := by
  simp only [execSt, after_next]
  exact State.issue_stores _ _ _ _ _ h fun t h => State.storeVia_stores _ _ _ _ h

@[simp] theorem execStp_stores {κ : Kept} (e : Nat) (w : EngWord) (s u : State) (h : Stores κ s.kept) :
    Stores κ (after (execStp e w s) u).kept := by
  simp only [execStp, after_next]
  exact State.issue_stores _ _ _ _ _ h fun t h =>
    State.thenDo_stores _ _ (State.thenDo_stores _ _ (State.storeVia_stores _ _ _ _ h) fun t h => State.storeVia_stores _ _ _ _ h)
      fun t h => by simpa using h

@[simp] theorem State.vaddsub_kept (s : State) (e : Nat) (w : EngWord) (sub : Bool) : (s.vaddsub e w sub).kept = s.kept := by
  simp [State.vaddsub]

@[simp] theorem execVadd_kept (e : Nat) (w : EngWord) (s : State) (u : State) : (after (execVadd e w s) u).kept = s.kept := by
  simp [execVadd]

@[simp] theorem execVsub_kept (e : Nat) (w : EngWord) (s : State) (u : State) : (after (execVsub e w s) u).kept = s.kept := by
  simp [execVsub]

@[simp] theorem execVsra_kept (e : Nat) (w : EngWord) (s : State) (u : State) : (after (execVsra e w s) u).kept = s.kept := by
  simp [execVsra]

@[simp] theorem execVand_kept (e : Nat) (w : EngWord) (s : State) (u : State) : (after (execVand e w s) u).kept = s.kept := by
  simp [execVand]

@[simp] theorem execVor_kept (e : Nat) (w : EngWord) (s : State) (u : State) : (after (execVor e w s) u).kept = s.kept := by
  simp [execVor]

@[simp] theorem execVxor_kept (e : Nat) (w : EngWord) (s : State) (u : State) : (after (execVxor e w s) u).kept = s.kept := by
  simp [execVxor]

@[simp] theorem execVmov_kept (e : Nat) (w : EngWord) (s : State) (u : State) : (after (execVmov e w s) u).kept = s.kept := by
  simp [execVmov]

@[simp] theorem execVtag_kept (e : Nat) (w : EngWord) (s : State) (u : State) : (after (execVtag e w s) u).kept = s.kept := by
  simp [execVtag]

@[simp] theorem execVget_kept (e : Nat) (w : EngWord) (s : State) (u : State) : (after (execVget e w s) u).kept = s.kept := by
  simp [execVget]

@[simp] theorem execVsplat_kept (e : Nat) (w : EngWord) (s : State) (u : State) : (after (execVsplat e w s) u).kept = s.kept := by
  simp [execVsplat]

@[simp] theorem State.mac_kept (s : State) (e : Nat) (n : Nat) (p : Nat) (real : Bool) (poison : Bool) (prods : List (Int × Int)) :
    (s.mac e n p real poison prods).kept = s.kept := by
  simp [State.mac]

@[simp] theorem execMac8_kept (e : Nat) (w : EngWord) (s : State) (u : State) : (after (execMac8 e w s) u).kept = s.kept := by
  simp [execMac8]

@[simp] theorem execMac4_kept (e : Nat) (w : EngWord) (s u : State) : (after (execMac4 e w s) u).kept = s.kept := by
  simp only [execMac4, after_next]
  exact State.issue_kept _ _ _ _ _ fun t => by simp

@[simp] theorem execMac16_kept (e : Nat) (w : EngWord) (s : State) (u : State) : (after (execMac16 e w s) u).kept = s.kept := by
  simp [execMac16]

@[simp] theorem execBclr_kept (e : Nat) (w : EngWord) (s : State) (u : State) : (after (execBclr e w s) u).kept = s.kept := by
  simp [execBclr]

@[simp] theorem execMovs_kept (e : Nat) (w : EngWord) (s : State) (u : State) : (after (execMovs e w s) u).kept = s.kept := by
  simp [execMovs]

@[simp] theorem execEmit_kept (e : Nat) (w : EngWord) (s : State) (u : State) : (after (execEmit e w s) u).kept = s.kept := by
  simp [execEmit]

@[simp] theorem execTrig_kept (e : Nat) (w : EngWord) (apart : Bool) (s : State) (u : State) :
    (after (execTrig e w apart s) u).kept = s.kept := by
  simp [execTrig]

@[simp] theorem State.setFx_kept (s : State) (f : Fx → Fx) : (s.setFx f).kept = s.kept := by
  simp [State.setFx]

@[simp] theorem State.ringSample_stores {κ : Kept} (s : State) (q : Nat) (x : Sample) (h : Stores κ s.kept) :
    Stores κ (s.ringSample q x).kept := by
  simp only [State.ringSample]
  split <;> simp [h]

@[simp] theorem State.ringSamples_stores {κ : Kept} (s : State) (q : Nat) (l2 : List Sample) (h : Stores κ s.kept) :
    Stores κ (s.ringSamples q l2).kept := by
  induction l2 generalizing s with
  | nil => simp [State.ringSamples, h]
  | cons x xs ih => simp [State.ringSamples, ih, h]

@[simp] theorem State.fxEnable_kept (s : State) (q : Nat) (on : Bool) : (s.fxEnable q on).kept = s.kept := by
  simp [State.fxEnable]

@[simp] theorem State.putExchange_stores {κ : Kept} (s : State) (t : Ctn) (fn : Word) (payload : List Flit) (bad : List Nat)
    (h : Stores κ s.kept) : Stores κ (s.putExchange t fn payload bad).kept := by
  simp [State.putExchange, h]

@[simp] theorem State.deliverExchange_stores {κ : Kept} (s : State) (c : Curd) (h : Stores κ s.kept) :
    Stores κ (s.deliverExchange c).kept := by
  simp only [State.deliverExchange]
  split <;> simp [h]

@[simp] theorem State.bindLast_kept (s : State) (old : Nat) (lane : Nat) : (s.bindLast old lane).kept = s.kept := by
  simp [State.bindLast]

@[simp] theorem State.romResult_kept (s : State) (c : Nat) (type : Nat) (fn : FN) (payload : List Flit) (mark : Rind → Rind) (dep : Nat) :
    (s.romResult c type fn payload mark dep).1.kept = s.kept := by
  simp [State.romResult]

@[simp] theorem State.emitExchange_stores {κ : Kept} (s : State) (c : Nat) (entry : Nat) (p : Pfb) (t : Ctn) (j0 : Nat) (mask : Nat)
    (x : Nat) (v : Channel) (h : Stores κ s.kept) : Stores κ (s.emitExchange c entry p t j0 mask x v).kept := by
  simp [State.emitExchange, h]

@[simp] theorem State.fxSat_kept (s : State) (c : Nat) : (s.fxSat c).kept = s.kept := by
  simp [State.fxSat]

@[simp] theorem State.stageChannel_stores {κ : Kept} (s : State) (p : Pfb) (sf : Nat) (j0 : Nat) (mask : Nat) (x : Nat) (v : Channel)
    (h : Stores κ s.kept) : Stores κ (s.stageChannel p sf j0 mask x v).kept := by
  simp [State.stageChannel, h]

@[simp] theorem State.fxPfb_stores {κ : Kept} (s : State) (c entry : Nat) (h : Stores κ s.kept) : Stores κ (s.fxPfb c entry).kept := by
  refine Stores.foldl _ _ (by simpa using h) fun s x => ?_
  dsimp only
  repeat' split
  all_goals simp

@[simp] theorem State.noteSlot_kept (s : State) (t : Ctn) (sf : Nat) (fn : Word) (a : Nat) (x : Nat) (rec? : Option Spectra) :
    (s.noteSlot t sf fn a x rec?).kept = s.kept := by
  simp [State.noteSlot]

@[simp] theorem State.fxCturn_stores {κ : Kept} (s : State) (c : Nat) (h : Stores κ s.kept) : Stores κ (s.fxCturn c).kept := by
  simp [State.fxCturn, h]

@[simp] theorem State.emitUnit_kept (s : State) (c : Nat) (entry : Nat) (t : Ctn) (sf : Nat) (j0 : Nat) (fn0 : Word) (e : Nat)
    (unit : Nat × Nat × Nat) : (s.emitUnit c entry t sf j0 fn0 e unit).kept = s.kept := by
  simp [State.emitUnit]

@[simp] theorem State.fxXtile_kept (s : State) (c : Nat) (entry : Nat) : (s.fxXtile c entry).kept = s.kept := by
  simp [State.fxXtile]

@[simp] theorem State.emitBeam_kept (s : State) (c : Nat) (entry : Nat) (q : Beam) (sf : Nat) (bank : Nat) (bm : Nat) (b : BeamIn)
    (chans : List (Nat × List (Option Spectra))) : (s.emitBeam c entry q sf bank bm b chans).kept = s.kept := by
  simp [State.emitBeam]

@[simp] theorem State.fxBeam_kept (s : State) (c : Nat) (entry : Nat) : (s.fxBeam c entry).kept = s.kept := by
  simp [State.fxBeam]

@[simp] theorem State.fxRun_stores {κ : Kept} (s : State) (handle : Nat) (c : Nat) (entry : Nat) (h : Stores κ s.kept) :
    Stores κ (s.fxRun handle c entry).kept := by
  simp only [State.fxRun]
  split <;> simp [h]

@[simp] theorem State.setMerge_kept (s : State) (f : Merge → Merge) : (s.setMerge f).kept = s.kept := by
  simp [State.setMerge]

@[simp] theorem State.mergeEvent_kept (s : State) (bit : Nat) (lane : Nat) : (s.mergeEvent bit lane).kept = s.kept := by
  simp [State.mergeEvent]

@[simp] theorem State.mergeLose_kept (s : State) (p : Nat) (c : Curd) (gap : Bool) : (s.mergeLose p c gap).kept = s.kept := by
  simp [State.mergeLose]

@[simp] theorem State.mergeTake_stores {κ : Kept} (s : State) (lane : Nat) (p : Nat) (c : Curd) (gap : Bool) (h : Stores κ s.kept) :
    Stores κ (s.mergeTake lane p c gap).kept := by
  simp [State.mergeTake, h]

@[simp] theorem State.readBack_stores {κ : Kept} (s : State) (p : Nat) (found : List Finding) (l3 : List Merged) (h : Stores κ s.kept) :
    Stores κ (s.readBack p found l3).kept := by
  induction l3 generalizing s with
  | nil => simp [State.readBack, h]
  | cons x xs ih => simp [State.readBack, ih, h]

@[simp] theorem execMergeClose_stores {κ : Kept} (path : Nat) (found : List Finding) (s : State) (u : State) (h : Stores κ s.kept) :
    Stores κ (after (execMergeClose path found s) u).kept := by
  simp [execMergeClose, h]

@[simp] theorem execMergeSlotEmpty_kept (s : State) (u : State) : (after (execMergeSlotEmpty s) u).kept = s.kept := by
  simp [execMergeSlotEmpty]

@[simp] theorem State.mergeOff_kept (s : State) : s.mergeOff.kept = s.kept := by
  simp only [State.mergeOff, State.setMerge_kept]
  exact (kept_foldl (fun s h => by simp) _ _).trans ((kept_foldl (fun s m => by simp) _ _).trans (by simp))

@[simp] theorem wrMergeCfg_keeps (s : State) (v : Word) : WriteKeeps s (wrMergeCfg s v) := by
  simp [wrMergeCfg]

@[simp] theorem wrMergeOther_keeps (s : State) (r : Reg) (v : Word) (mask : Word) : WriteKeeps s (wrMergeOther s r v mask) := by
  simp [wrMergeOther]

@[simp] theorem State.buildEvent_kept (s : State) (entry : Nat) (q : EvBlock) (t : CT) (num : BitVec 16) :
    (s.buildEvent entry q t num).kept = s.kept := by
  simp only [State.buildEvent]
  split
  · simp
  · exact (kept_foldl (fun s x => by simp) _ _).trans (by simp)

@[simp] theorem State.cnEvent_kept (s : State) (c entry : Nat) : (s.cnEvent c entry).kept = s.kept :=
  (kept_foldl (fun s x => by simp) _ _).trans (by simp)

@[simp] theorem execKernelRun_stores {κ : Kept} (entry : Nat) (s u : State) (h : Stores κ s.kept) :
    Stores κ (after (execKernelRun entry s) u).kept := by
  simp only [execKernelRun, after_next]
  refine State.runEntry_stores _ _ _ h fun e t h => ?_
  split
  · simpa using h
  · split <;> simp [h]

@[simp] theorem State.settleDep_kept (s : State) (i : Nat) : (s.settleDep i).kept = s.kept := by
  simp [State.settleDep]

@[simp] theorem execKernelRunComplete_kept (cluster : Nat) (s : State) (u : State) :
    (after (execKernelRunComplete cluster s) u).kept = s.kept := by
  simp only [execKernelRunComplete, after_next]
  split <;> simp

@[simp] theorem State.setUnit_kept (s : State) (u : Nat) (q : PressUnit) : (s.setUnit u q).kept = s.kept := by
  simp [State.setUnit]

@[simp] theorem State.closeBlock_stores {κ : Kept} (s : State) (u : Nat) (width : Nat) (ws : List Flit) (vat : Bool) (dst : Nat)
    (dstMax : Nat) (found : List Finding) (h : Stores κ s.kept) : Stores κ (s.closeBlock u width ws vat dst dstMax found).1.kept := by
  simp [State.closeBlock, h]

@[simp] theorem execPressJob_stores {κ : Kept} (r : Req) (found : List Finding) (s u : State) (h : Stores κ s.kept) :
    Stores κ (after (execPressJob r found s) u).kept := by
  simp only [execPressJob, after_next]
  refine State.runOp_stores _ _ _ _ h fun t h => ?_
  split
  · refine answer_ite_stores h (answer_ite_stores h ?_)
    split
    · exact h
    · refine answer_ite_stores h (answer_ite_stores h ?_)
      repeat' split
      all_goals simp [h]
  · exact h

@[simp] theorem execPressFlush_stores {κ : Kept} (r : Req) (found : List Finding) (s u : State) (h : Stores κ s.kept) :
    Stores κ (after (execPressFlush r found s) u).kept := by
  simp only [execPressFlush, after_next]
  refine State.runOp_stores _ _ _ _ h fun t h => ?_
  refine answer_ite_stores h (answer_ite_stores h ?_)
  split
  · exact h
  · exact State.closeBlock_stores _ _ _ _ _ _ _ _ (by simpa using h)

@[simp] theorem State.pressCurd_kept (s : State) (u : Nat) (width : Nat) (path : Nat) (h : Held) :
    (s.pressCurd u width path h).1.kept = s.kept := by
  simp [State.pressCurd]

@[simp] theorem State.pressAll_kept (s : State) (u width path curds flits : Nat) (hs : List Held) :
    (s.pressAll u width path curds flits hs).1.kept = s.kept := by
  induction hs generalizing s curds flits with
  | nil => rfl
  | cons h hs ih =>
    simp only [State.pressAll]
    repeat' split
    all_goals simp [ih]

@[simp] theorem execPressEntry_kept (entry : Nat) (s : State) (u : State) : (after (execPressEntry entry s) u).kept = s.kept := by
  simp [execPressEntry]

@[simp] theorem State.setSched_kept (s : State) (f : Sched → Sched) : (s.setSched f).kept = s.kept := by
  simp [State.setSched]

@[simp] theorem execSchedLoad_kept (r : Req) (s : State) (u : State) : (after (execSchedLoad r s) u).kept = s.kept := by
  simp only [execSchedLoad, after_next]
  refine State.runOp_kept _ _ _ _ fun t => ?_
  simp

@[simp] theorem State.swapRosters_kept (s : State) (l1 : SMap (Option Roster)) : (s.swapRosters l1).kept = s.kept := by
  induction l1 generalizing s with
  | nil => simp [State.swapRosters]
  | cons x xs ih => simp [State.swapRosters, ih]

@[simp] theorem State.swapBanks_kept (s : State) : (s.swapBanks).kept = s.kept := by
  simp [State.swapBanks]

@[simp] theorem State.judgeCommit_kept (s : State) : (s.judgeCommit).kept = s.kept := by
  simp [State.judgeCommit]

@[simp] theorem execSchedCommit_kept (r : Req) (s u : State) : (after (execSchedCommit r s) u).kept = s.kept := by
  refine State.runOp_kept _ _ _ _ fun t => needStep_kept t 5 ?_
  dsimp only
  split
  · simp
  · split <;> simp

@[simp] theorem execScheduleSwap_kept (s : State) (u : State) : (after (execScheduleSwap s) u).kept = s.kept := by
  simp [execScheduleSwap]

@[simp] theorem execShadowCopyDone_kept (s : State) (u : State) : (after (execShadowCopyDone s) u).kept = s.kept := by
  simp [execShadowCopyDone]

@[simp] theorem execSchedRead_kept (r : Req) (s : State) (u : State) : (after (execSchedRead r s) u).kept = s.kept := by
  simp only [execSchedRead, after_next]
  refine State.runOp_kept _ _ _ _ fun t => ?_
  simp

@[simp] theorem State.insertSlot_kept (s : State) (n : Nat) (e : Entry) (w : Slot) : (s.insertSlot n e w).kept = s.kept := by
  simp [State.insertSlot]

@[simp] theorem State.openSingle_kept (s : State) (n : Nat) : (s.openSingle n).kept = s.kept := by
  simp [State.openSingle]

@[simp] theorem State.insertAll_kept (s : State) (n : Nat) (e : Entry) : (s.insertAll n e).kept = s.kept :=
  (kept_foldl (fun s w => by simp) _ _).trans (by simp)

@[simp] theorem State.pumpLane_kept (s : State) (n : Nat) : (s.pumpLane n).kept = s.kept :=
  kept_foldl (fun s e => by simp) _ s

@[simp] theorem State.uplinkTake_kept (s : State) (p : Nat) (c : Nat) : (s.uplinkTake p c).2.kept = s.kept := by
  simp [State.uplinkTake]

@[simp] theorem State.takeLostAll_kept (s : State) (l1 : List Held) : (s.takeLostAll l1).1.kept = s.kept := by
  induction l1 generalizing s with
  | nil => simp [State.takeLostAll]
  | cons x xs ih => simp [State.takeLostAll, ih]

@[simp] theorem State.flushUplink_kept (s : State) : (s.flushUplink).kept = s.kept := by
  simp only [State.flushUplink]
  split <;> simp

@[simp] theorem State.sendDatagrams_kept (s : State) (k : Nat) (all : List Flit) (starts : List Nat) (ends : List (Nat × Held))
    (n pos : Nat) :
    (s.sendDatagrams k all starts ends n pos).kept = s.kept := by
  induction n generalizing s pos with
  | zero => rfl
  | succ n ih => simp [State.sendDatagrams, ih]

@[simp] theorem State.uplinkEmit_kept (s : State) (e : Entry) : (s.uplinkEmit e).kept = s.kept := by
  simp [State.uplinkEmit]

@[simp] theorem execCurdEmission_kept (entry : Nat) (s : State) (u : State) : (after (execCurdEmission entry s) u).kept = s.kept := by
  simp [execCurdEmission]

@[simp] theorem State.abortTransfer_stores {κ : Kept} (s : State) (i ch : Nat) (h : Stores κ s.kept) :
    Stores κ (s.abortTransfer i ch).kept := by
  have scrambled := Stores.foldl s ((s.dmaCh ch).open_.map (·.dst) ++ (s.dmaCh ch).dests) h fun s r => s.scrambleRows_stores r (.refl _)
  simpa [State.abortTransfer] using scrambled

@[simp] theorem State.abortStep_kept (s : State) (entry : Nat) (e : Entry) : (s.abortStep entry e).kept = s.kept := by
  simp [State.abortStep]

@[simp] theorem execEntryAbort_stores {κ : Kept} (entry : Nat) (s : State) (u : State) (h : Stores κ s.kept) :
    Stores κ (after (execEntryAbort entry s) u).kept := by
  simp only [execEntryAbort, after_next]
  repeat' split
  all_goals simp [h]

@[simp] theorem execCurdDeadline_kept (path : Nat) (s : State) (u : State) : (after (execCurdDeadline path s) u).kept = s.kept := by
  simp [execCurdDeadline]

@[simp] theorem State.setLink_kept (s : State) (f : Link → Link) : (s.setLink f).kept = s.kept := by
  simp [State.setLink]

@[simp] theorem State.modLane_kept (s : State) (n : Nat) (f : Lane → Lane) : (s.modLane n f).kept = s.kept := by
  simp [State.modLane]

@[simp] theorem State.untrain_kept (s : State) (n : Nat) : (s.untrain n).kept = s.kept := by
  simp [State.untrain]

@[simp] theorem State.startLane_kept (s : State) (n : Nat) : (s.startLane n).kept = s.kept := by
  simp [State.startLane]

@[simp] theorem State.dropLane_kept (s : State) (n : Nat) : (s.dropLane n).kept = s.kept := by
  simp [State.dropLane]

@[simp] theorem State.dropLanes_kept (s : State) (l1 : List Nat) : (s.dropLanes l1).kept = s.kept := by
  induction l1 generalizing s with
  | nil => simp [State.dropLanes]
  | cons x xs ih => simp [State.dropLanes, ih]

@[simp] theorem State.retrain_kept (s : State) (n : Nat) : (s.retrain n).kept = s.kept := by
  simp [State.retrain]

@[simp] theorem State.endTrain_kept (s : State) (n : Nat) : (s.endTrain n).kept = s.kept := by
  simp only [State.endTrain]
  split <;> simp

@[simp] theorem State.trainLane_kept (s : State) (n : Nat) : (s.trainLane n).kept = s.kept := by
  simp [State.trainLane]

@[simp] theorem execBringupStepComplete_kept (lane : Nat) (s : State) (u : State) :
    (after (execBringupStepComplete lane s) u).kept = s.kept := by
  simp [execBringupStepComplete]

@[simp] theorem execBringupTimeout_kept (lane : Nat) (s : State) (u : State) : (after (execBringupTimeout lane s) u).kept = s.kept := by
  simp [execBringupTimeout]

@[simp] theorem execBringupSignalLoss_kept (lane : Nat) (s : State) (u : State) :
    (after (execBringupSignalLoss lane s) u).kept = s.kept := by
  simp [execBringupSignalLoss]

@[simp] theorem execLaneDown_kept (lane : Nat) (s : State) (u : State) : (after (execLaneDown lane s) u).kept = s.kept := by
  simp [execLaneDown]

@[simp] theorem State.refclkRetrain_kept (s : State) (l1 : List Nat) : (s.refclkRetrain l1).kept = s.kept := by
  induction l1 generalizing s with
  | nil => simp [State.refclkRetrain]
  | cons x xs ih => simp [State.refclkRetrain, ih]

@[simp] theorem execLaneRefclkLost_kept (s : State) (u : State) : (after (execLaneRefclkLost s) u).kept = s.kept := by
  simp [execLaneRefclkLost]

@[simp] theorem State.startLanes_kept (s : State) (l1 : List Nat) : (s.startLanes l1).kept = s.kept := by
  induction l1 generalizing s with
  | nil => simp [State.startLanes]
  | cons x xs ih => simp [State.startLanes, ih]

@[simp] theorem execLaneRefclkReturn_kept (s : State) (u : State) : (after (execLaneRefclkReturn s) u).kept = s.kept := by
  simp [execLaneRefclkReturn]

@[simp] theorem execLinkTrain_kept (r : Req) (s : State) (u : State) : (after (execLinkTrain r s) u).kept = s.kept := by
  simp only [execLinkTrain, after_next]
  refine State.runOp_kept _ _ _ _ fun t => ?_
  simp

@[simp] theorem execLinkTrainTimeout_kept (lane : Nat) (s : State) (u : State) :
    (after (execLinkTrainTimeout lane s) u).kept = s.kept := by
  simp [execLinkTrainTimeout]

@[simp] theorem execLinkStatus_kept (r : Req) (s : State) (u : State) : (after (execLinkStatus r s) u).kept = s.kept := by
  simp only [execLinkStatus, after_next]
  refine State.runOp_kept _ _ _ _ fun t => ?_
  simp

@[simp] theorem execLinkRtt_kept (r : Req) (s : State) (u : State) : (after (execLinkRtt r s) u).kept = s.kept := by
  simp only [execLinkRtt, after_next]
  refine State.runOp_kept _ _ _ _ fun t => ?_
  simp

@[simp] theorem State.applyLane_kept (s : State) (n : Nat) (v : Word) : (s.applyLane n v).kept = s.kept := by
  simp [State.applyLane]

@[simp] theorem execLaneCfgHoldExpiry_kept (lane : Nat) (s : State) (u : State) :
    (after (execLaneCfgHoldExpiry lane s) u).kept = s.kept := by
  simp only [execLaneCfgHoldExpiry, after_next]
  split <;> simp

@[simp] theorem State.goDeep_keeps (s : State) (n : Nat) : WriteKeeps s (s.goDeep n) := by
  simp [State.goDeep]

@[simp] theorem State.wakeLane_kept (s : State) (n : Nat) : (s.wakeLane n).kept = s.kept := by
  simp [State.wakeLane]

@[simp] theorem State.setDeep_kept (s : State) (n : Nat) (on : Bool) : (s.setDeep n on).kept = s.kept := by
  simp [State.setDeep]

@[simp] theorem wrDeep_keeps (s : State) (n : Nat) (on : Bool) : WriteKeeps s (wrDeep s n on) := by
  have deep := State.goDeep_keeps s n
  simp only [wrDeep]
  split
  · split
    case h_1 t e => simpa using deep t e
    case h_2 => simp
  · simp

@[simp] theorem execDeepIdleEnter_kept (port : Nat) (lane : Nat) (s : State) (u : State) :
    (after (execDeepIdleEnter port lane s) u).kept = s.kept := by
  simp [execDeepIdleEnter]

@[simp] theorem execDeepIdleWake_kept (port : Nat) (lane : Nat) (s : State) (u : State) :
    (after (execDeepIdleWake port lane s) u).kept = s.kept := by
  simp [execDeepIdleWake]

@[simp] theorem execSleep_kept (lane : Nat) (s : State) (u : State) : (after (execSleep lane s) u).kept = s.kept := by
  simp only [execSleep, after_next]
  repeat' split
  all_goals simp

@[simp] theorem execSignalDetection_kept (lane : Nat) (s : State) (u : State) : (after (execSignalDetection lane s) u).kept = s.kept := by
  simp [execSignalDetection]

@[simp] theorem State.sendCaps_kept (s : State) : (s.sendCaps).kept = s.kept := by
  simp [State.sendCaps]

@[simp] theorem execCap_kept (lane : Nat) (c : Cap) (s : State) (u : State) : (after (execCap lane c s) u).kept = s.kept := by
  simp only [execCap, after_next]
  repeat' split
  all_goals simp

@[simp] theorem execLinkUnknown_kept (lane : Nat) (kind : Byte) (s : State) (u : State) :
    (after (execLinkUnknown lane kind s) u).kept = s.kept := by
  simp [execLinkUnknown]

@[simp] theorem execDamagedCodeword_kept (lane : Nat) (curdFlits : Bool) (s : State) (u : State) :
    (after (execDamagedCodeword lane curdFlits s) u).kept = s.kept := by
  simp [execDamagedCodeword]

@[simp] theorem execRosterLoad_kept (r : Req) (s : State) (u : State) : (after (execRosterLoad r s) u).kept = s.kept := by
  simp only [execRosterLoad, after_next]
  refine State.runOp_kept _ _ _ _ fun t => ?_
  simp

@[simp] theorem execRosterRead_kept (r : Req) (s : State) (u : State) : (after (execRosterRead r s) u).kept = s.kept := by
  simp only [execRosterRead, after_next]
  refine State.runOp_kept _ _ _ _ fun t => ?_
  simp

@[simp] theorem State.openOwned_kept (s : State) (n : Nat) (w : Slot) : (s.openOwned n w).1.kept = s.kept := by
  simp [State.openOwned]

@[simp] theorem State.sendOwned_kept (s : State) (n : Nat) (w : Slot) (number : Byte) (source : BitVec 16) (fn : FN) :
    (s.sendOwned n w number source fn).kept = s.kept := by
  simp [State.sendOwned]

@[simp] theorem State.passSlot_kept (s : State) (n : Nat) (number : Byte) (free : Bool) (source : BitVec 16) (fn : FN) :
    (s.passSlot n number free source fn).kept = s.kept := by
  simp only [State.passSlot]
  split <;> simp

@[simp] theorem State.slotAt_kept (s : State) (n : Nat) (number : Byte) (free : Bool) (source : BitVec 16) (fn : FN) :
    (s.slotAt n number free source fn).kept = s.kept := by
  simp only [State.slotAt]
  split <;> simp

@[simp] theorem execSlot_kept (lane : Nat) (number : Byte) (free : Bool) (source : BitVec 16) (fn : FN) (s : State) (u : State) :
    (after (execSlot lane number free source fn s) u).kept = s.kept := by
  simp only [execSlot, after_next]
  repeat' split
  all_goals simp

@[simp] theorem execSlotOpen_kept (lane : Nat) (number : Nat) (s : State) (u : State) :
    (after (execSlotOpen lane number s) u).kept = s.kept := by
  simp only [execSlotOpen, after_next]
  repeat' split
  all_goals simp

@[simp] theorem execTakeover_kept (lane : Nat) (s : State) (u : State) : (after (execTakeover lane s) u).kept = s.kept := by
  simp [execTakeover]

@[simp] theorem execTimeExchangeStart_kept (lane : Nat) (s : State) (u : State) :
    (after (execTimeExchangeStart lane s) u).kept = s.kept := by
  simp [execTimeExchangeStart]

@[simp] theorem execTsSync_kept (lane : Nat) (seq : Byte) (t2 : CT) (s : State) (u : State) :
    (after (execTsSync lane seq t2 s) u).kept = s.kept := by
  simp [execTsSync]

@[simp] theorem execTsReq_kept (lane : Nat) (seq : Byte) (t4 : CT) (s : State) (u : State) :
    (after (execTsReq lane seq t4 s) u).kept = s.kept := by
  simp only [execTsReq, after_next]
  split <;> simp

@[simp] theorem execTsData_kept (lane : Nat) (seq : Byte) (t1 : CT) (d41 : Word) (s : State) (u : State) :
    (after (execTsData lane seq t1 d41 s) u).kept = s.kept := by
  simp only [execTsData, after_next]
  repeat' split
  all_goals simp

@[simp] theorem execFrame_kept (lane : Nat) (period : BitVec 21) (fn : FN) (epoch : Word) (aligned : Bool) (switchPending : Bool)
    (s : State) (u : State) : (after (execFrame lane period fn epoch aligned switchPending s) u).kept = s.kept := by
  simp only [execFrame, after_next]
  repeat' split
  all_goals simp

@[simp] theorem execFrameSw_kept (lane : Nat) (switchFn : FN) (nextPeriod : BitVec 21) (s : State) (u : State) :
    (after (execFrameSw lane switchFn nextPeriod s) u).kept = s.kept := by
  simp [execFrameSw]

@[simp] theorem execTrigFlit_kept (lane : Nat) (origin : BitVec 16) (sources : BitVec 10) (t : CT) (s : State) (u : State) :
    (after (execTrigFlit lane origin sources t s) u).kept = s.kept := by
  simp [execTrigFlit]

@[simp] theorem State.carryNotice_kept (s : State) (p : Nat) (n : Nat) : (s.carryNotice p n).kept = s.kept := by
  simp only [State.carryNotice]
  split <;> simp

@[simp] theorem execCarriageSend_kept (lane : Nat) (s : State) (u : State) : (after (execCarriageSend lane s) u).kept = s.kept := by
  simp only [execCarriageSend, after_next]
  repeat' split
  all_goals simp

@[simp] theorem execCdcDrop_kept (lane : Nat) (carriage : Bool) (s : State) (u : State) :
    (after (execCdcDrop lane carriage s) u).kept = s.kept := by
  simp only [execCdcDrop, after_next]
  repeat' split
  all_goals simp

@[simp] theorem execEnumerate_kept (r : Req) (s : State) (u : State) : (after (execEnumerate r s) u).kept = s.kept := by
  simp only [execEnumerate, after_next]
  refine State.runOp_kept _ _ _ _ fun t => ?_
  simp

@[simp] theorem execFeatureEpoch_kept (r : Req) (s u : State) : (after (execFeatureEpoch r s) u).kept = s.kept := by
  refine State.runOp_kept _ _ _ _ fun t => ?_
  dsimp only
  split
  · split
    · simp
    · refine needStep_kept t 8 ?_
      split <;> simp
  all_goals simp

@[simp] theorem execEpochSwitch_kept (s : State) (u : State) : (after (execEpochSwitch s) u).kept = s.kept := by
  simp [execEpochSwitch]

@[simp] theorem State.notExecuted_kept (s : State) (counter : Nat) : (s.notExecuted counter).kept = s.kept := by
  simp [State.notExecuted]

@[simp] theorem State.sendCurds_kept (s : State) (cs : List Curd) (l2 : List Nat) : (s.sendCurds cs l2).kept = s.kept := by
  induction l2 generalizing s with
  | nil => simp [State.sendCurds]
  | cons x xs ih => simp [State.sendCurds, ih]

@[simp] theorem State.sendRequest_kept (s : State) (ws : List Word) (l2 : List Nat) : (s.sendRequest ws l2).kept = s.kept := by
  induction l2 generalizing s with
  | nil => simp [State.sendRequest]
  | cons x xs ih => simp [State.sendRequest, ih]

@[simp] theorem State.takePacket_kept (s : State) (port : Nat) (lane : Nat) (ws : List Word) :
    (s.takePacket port lane ws).kept = s.kept := by
  simp [State.takePacket]

@[simp] theorem execPacketReceive_kept (port : Nat) (lane : Nat) (words : List Word) (s : State) (u : State) :
    (after (execPacketReceive port lane words s) u).kept = s.kept := by
  simp [execPacketReceive]

@[simp] theorem execMgmtWrite_kept (words : List Word) (s : State) (u : State) : (after (execMgmtWrite words s) u).kept = s.kept := by
  simp [execMgmtWrite]

@[simp] theorem State.dropFront_kept (s : State) (p : Nat) : (s.dropFront p).kept = s.kept := by
  simp [State.dropFront]

@[simp] theorem execMgmtRead_kept (complete : Bool) (s : State) (u : State) : (after (execMgmtRead complete s) u).kept = s.kept := by
  simp only [execMgmtRead, after_next]
  repeat' split
  all_goals simp

@[simp] theorem execMgmtStatus_kept (s : State) (u : State) : (after (execMgmtStatus s) u).kept = s.kept := by
  simp [execMgmtStatus]

@[simp] theorem execCmdDataCapture_kept (s : State) (u : State) : (after (execCmdDataCapture s) u).kept = s.kept := by
  simp only [execCmdDataCapture, after_next]
  repeat' split
  all_goals simp

@[simp] theorem execCmdDataUpdate_kept (valid : Bool) (w : Word) (s : State) (u : State) :
    (after (execCmdDataUpdate valid w s) u).kept = s.kept := by
  simp [execCmdDataUpdate]

@[simp] theorem execOutstandingTimeout_kept (tag : BitVec 16) (node : BitVec 16) (s : State) (u : State) :
    (after (execOutstandingTimeout tag node s) u).kept = s.kept := by
  simp [execOutstandingTimeout]

@[simp] theorem State.trackSeq_kept (s : State) (n : Nat) (c : Curd) : (s.trackSeq n c).1.kept = s.kept := by
  simp only [State.trackSeq]
  split <;> simp

@[simp] theorem State.joinParts_kept (s : State) (n : Nat) (c : Curd) : (s.joinParts n c).1.kept = s.kept := by
  simp only [State.joinParts]
  repeat' split
  all_goals simp

@[simp] theorem State.request_kept (s : State) (n : Nat) (ws : List Word) (cs : List Curd) (segment : Bool) :
    (s.request n ws cs segment).kept = s.kept := by
  simp [State.request]

@[simp] theorem State.handNotice_kept (s : State) (p : Nat) (x : Notice) : (s.handNotice p x).kept = s.kept := by
  simp [State.handNotice]

@[simp] theorem State.replyIn_kept (s : State) (ws : List Word) (cs : List Curd) : (s.replyIn ws cs).kept = s.kept := by
  simp only [State.replyIn]
  split <;> simp

@[simp] theorem State.noticeIn_kept (s : State) (ws : List Word) (cs : List Curd) : (s.noticeIn ws cs).kept = s.kept := by
  simp [State.noticeIn]

@[simp] theorem State.carriageIn_kept (s : State) (n : Nat) (c : Curd) (segment : Bool) : (s.carriageIn n c segment).kept = s.kept := by
  have joined := s.joinParts_kept n c
  simp only [State.carriageIn]
  split
  case h_1 t e => simpa [e] using joined
  case h_2 t ws cs e =>
    rw [e] at joined
    repeat' split
    all_goals simpa using joined

@[simp] theorem State.countStranger_kept (s : State) (n : Nat) : (s.countStranger n).kept = s.kept := by
  simp [State.countStranger]

@[simp] theorem State.quarantine_kept (s : State) (n : Nat) (c : Curd) : (s.quarantine n c).kept = s.kept := by
  simp [State.quarantine]

@[simp] theorem State.relay_kept (s : State) (n : Nat) (p : Nat) (c : Curd) : (s.relay n p c).kept = s.kept := by
  simp [State.relay]

@[simp] theorem State.onPath_stores {κ : Kept} (s : State) (n : Nat) (p : Nat) (c : Curd) (gap : Bool) (h : Stores κ s.kept) :
    Stores κ (s.onPath n p c gap).kept := by
  simp [State.onPath, h]

@[simp] theorem State.settleCurd_stores {κ : Kept} (s : State) (n : Nat) (c : Curd) (gap : Bool) (h : Stores κ s.kept) :
    Stores κ (s.settleCurd n c gap).kept := by
  simp only [State.settleCurd]
  repeat' split
  all_goals simp [h]

@[simp] theorem execCurdReceive_stores {κ : Kept} (lane : Nat) (c : Curd) (crcOk : Bool) (s : State) (u : State) (h : Stores κ s.kept) :
    Stores κ (after (execCurdReceive lane c crcOk s) u).kept := by
  simp only [execCurdReceive, after_next]
  repeat' split
  all_goals simp [h]

@[simp] theorem State.leaveTags_kept (s : State) (g : Region) : (s.leaveTags g).kept = s.kept := by
  simp [State.leaveTags]

@[simp] theorem execRegionSet_kept (r : Req) (s : State) (u : State) : (after (execRegionSet r s) u).kept = s.kept := by
  simp only [execRegionSet, after_next]
  refine State.runOp_kept _ _ _ _ fun t => ?_
  simp

@[simp] theorem execRegionReady_stores {κ : Kept} (region : Nat) (s u : State) (h : Stores κ s.kept) :
    Stores κ (after (execRegionReady region s) u).kept := by
  simp only [execRegionReady, after_next]
  split
  · exact h
  · rw [State.raise_kept, State.setRegion_kept]
    exact State.setMem_stores _ _ _ (by simp [h]) (wf_zeroRange _ _ _)

@[simp] theorem execRegionRead_kept (r : Req) (s : State) (u : State) : (after (execRegionRead r s) u).kept = s.kept := by
  simp only [execRegionRead, after_next]
  refine State.runOp_kept _ _ _ _ fun t => ?_
  simp

@[simp] theorem State.setTest_kept (s : State) (f : TestAccess → TestAccess) : (s.setTest f).kept = s.kept := by
  simp [State.setTest]

@[simp] theorem State.lanesBack_kept (s : State) (l1 : List Nat) : (s.lanesBack l1).kept = s.kept := by
  induction l1 generalizing s with
  | nil => simp [State.lanesBack]
  | cons x xs ih => simp [State.lanesBack, ih]

@[simp] theorem State.loadIr_kept (s : State) (c : Byte) : (s.loadIr c).kept = s.kept := by
  simp [State.loadIr]

@[simp] theorem execJtagInstruction_kept (code : Byte) (s : State) (u : State) :
    (after (execJtagInstruction code s) u).kept = s.kept := by
  simp [execJtagInstruction]

@[simp] theorem execTestLogicReset_kept (s : State) (u : State) : (after (execTestLogicReset s) u).kept = s.kept := by
  simp [execTestLogicReset]

@[simp] theorem execBistRun_kept (r : Req) (s : State) (u : State) : (after (execBistRun r s) u).kept = s.kept := by
  simp only [execBistRun, after_next]
  refine State.runOp_kept _ _ _ _ fun t => ?_
  simp

@[simp] theorem State.freeStores_kept (s : State) (cs : List Nat) : (s.freeStores cs).kept = s.kept := by
  induction cs generalizing s with
  | nil => rfl
  | cons c cs ih =>
    unfold State.freeStores
    generalize freeStore s.free = store
    exact ih _

@[simp] theorem execBistDone_stores {k : Kept} (failed : BitVec 6) (target : BitVec 4) (unit : BitVec 12) (addr : Word) (s u : State)
    (h : Stores k s.kept) : Stores k (after (execBistDone failed target unit addr s) u).kept := by
  have zeroed (t : State) (same : t.kept = s.kept) : Stores k (⟨t.fuses, t.straps, [], t.vatMem, t.flash, t.pending⟩ : Kept) := by
    have h' : Stores k t.kept := same ▸ h
    exact ⟨h'.fuses, h'.straps, h'.flash, h'.pending, fun c => ⟨rfl, (h'.canon c).2⟩⟩
  have drawn (c : Prop) [Decidable c] : (if c then s.draw else s).kept = s.kept := by simp
  simp only [execBistDone, after_next]
  split
  · exact h
  · simp only [State.reply_kept, State.kept_ite, State.raise_kept, State.setReg_kept, ite_self, State.kept_mk, State.kept_eta,
      State.freeStores_kept]
    split
    · exact zeroed _ (drawn _)
    · simpa using h

@[simp] theorem wrAtest_keeps (s : State) (v : Word) : WriteKeeps s (wrAtest s v) := by
  simp [wrAtest]

@[simp] theorem wrDtest_keeps (s : State) (v : Word) : WriteKeeps s (wrDtest s v) := by
  simp [wrDtest]

@[simp] theorem execTestmuxSet_kept (r : Req) (s u : State) : (after (execTestmuxSet r s) u).kept = s.kept := by
  refine State.runOp_kept _ _ _ _ fun t => ?_
  dsimp only
  split
  case h_1 => simp
  case h_2 a ea =>
    have first := wrAtest_keeps t _ a ea
    split
    case h_1 => simp
    case h_2 d ed => simpa using (wrDtest_keeps a _ d ed).trans first

@[simp] theorem State.setUp_kept (s : State) (f : Uplink → Uplink) : (s.setUp f).kept = s.kept := by
  simp [State.setUp]

@[simp] theorem State.uplinkDown_kept (s : State) : (s.uplinkDown).kept = s.kept := by
  simp only [State.uplinkDown]
  repeat' split
  all_goals simp

@[simp] theorem State.giveLanes_kept (s : State) (on : Bool) (l2 : List Nat) : (s.giveLanes on l2).kept = s.kept := by
  induction l2 generalizing s with
  | nil => simp [State.giveLanes]
  | cons x xs ih => simp [State.giveLanes, ih]

@[simp] theorem State.applyEu_kept (s : State) (v : Word) : (s.applyEu v).kept = s.kept := by
  simp [State.applyEu]

@[simp] theorem wrEuCfg_keeps (s : State) (v : Word) : WriteKeeps s (wrEuCfg s v) := by
  simp [wrEuCfg]

@[simp] theorem execUplinkEnable_kept (port : Nat) (value : Word) (s : State) (u : State) :
    (after (execUplinkEnable port value s) u).kept = s.kept := by
  simp [execUplinkEnable]

@[simp] theorem State.sendNotices_kept (s : State) (l1 : List Notice) : (s.sendNotices l1).kept = s.kept := by
  induction l1 generalizing s with
  | nil => simp [State.sendNotices]
  | cons x xs ih => simp [State.sendNotices, ih]

@[simp] theorem execEuUp_kept (s : State) (u : State) : (after (execEuUp s) u).kept = s.kept := by
  simp [execEuUp]

@[simp] theorem execEuDown_kept (s : State) (u : State) : (after (execEuDown s) u).kept = s.kept := by
  simp [execEuDown]

@[simp] theorem State.announce_kept (s : State) (m : PtpMaster) : (s.announce m).kept = s.kept := by
  simp [State.announce]

@[simp] theorem State.ptpMessage_kept (s : State) (ws : List Word) : (s.ptpMessage ws).kept = s.kept := by
  simp only [State.ptpMessage]
  repeat' split
  all_goals simp

@[simp] theorem execPtpOffsetEstimate_kept (offset : Int) (n : Nat) (s : State) (u : State) :
    (after (execPtpOffsetEstimate offset n s) u).kept = s.kept := by
  simp only [execPtpOffsetEstimate, after_next]
  repeat' split
  all_goals simp

@[simp] theorem execPtpSyncTimeout_kept (s : State) (u : State) : (after (execPtpSyncTimeout s) u).kept = s.kept := by
  simp [execPtpSyncTimeout]

@[simp] theorem execPtpDelayReq_kept (s : State) (u : State) : (after (execPtpDelayReq s) u).kept = s.kept := by
  simp [execPtpDelayReq]

@[simp] theorem State.euDiscard_kept (s : State) : (s.euDiscard).kept = s.kept := by
  simp [State.euDiscard]

@[simp] theorem State.datagram_kept (s : State) (src : EthPeer) (dstPort : BitVec 16) (ws : List Word) :
    (s.datagram src dstPort ws).kept = s.kept := by
  simp [State.datagram]

@[simp] theorem execEthFrameReceive_kept (fr : EthFrame) (s : State) (u : State) :
    (after (execEthFrameReceive fr s) u).kept = s.kept := by
  simp only [execEthFrameReceive, after_next]
  repeat' split
  all_goals simp

@[simp] theorem State.latchWord_kept (s : State) (r : Reg) (v : Word) : (s.latchWord r v).kept = s.kept := by
  simp [State.latchWord]

@[simp] theorem State.latchAll_kept (s now : State) (rs : List Reg) : (s.latchAll now rs).kept = s.kept := by
  induction rs generalizing s with
  | nil => rfl
  | cons r rs ih => simp [State.latchAll, ih]

@[simp] theorem State.latchOf_kept (s : State) (r : Reg) : (s.latchOf r).kept = s.kept := State.latchAll_kept _ _ _

@[simp] theorem State.dropStamp_kept (s : State) (n : Nat) : (s.dropStamp n).kept = s.kept := by
  simp [State.dropStamp]

@[simp] theorem State.dropMiss_kept (s : State) : (s.dropMiss).kept = s.kept := by
  simp [State.dropMiss]

@[simp] theorem State.dropQuarantine_kept (s : State) : (s.dropQuarantine).kept = s.kept := by
  simp [State.dropQuarantine]

@[simp] theorem State.readClear_kept (s : State) (r : Reg) : (s.readClear r).kept = s.kept := by
  simp only [State.readClear]
  split <;> simp

@[simp] theorem State.clearBits_kept (s : State) (r : Reg) (m : Word) : (s.clearBits r m).kept = s.kept := by
  unfold State.clearBits
  split
  · rfl
  · exact s.action_kept _ fun _ => rfl

@[simp] theorem State.writePlain_kept (s : State) (r : Reg) (v : Word) : (s.writePlain r v).kept = s.kept := by
  simp [State.writePlain]

@[simp] theorem wrRole_keeps (s : State) (v : Word) : WriteKeeps s (wrRole s v) := by
  simp [wrRole]

@[simp] theorem wrCntClear_kept (s : State) (v : Word) : (wrCntClear s v).kept = s.kept := by
  unfold wrCntClear
  split
  · rfl
  · exact s.action_kept _ fun _ => rfl

@[simp] theorem wrClkCtrl_keeps (s : State) (v : Word) : WriteKeeps s (wrClkCtrl s v) := by
  simp only [wrClkCtrl]
  repeat' split
  all_goals simp

@[simp] theorem State.armSwitch_kept (s : State) : (s.armSwitch).kept = s.kept := by
  simp [State.armSwitch]

@[simp] theorem State.runOn_kept (s : State) : (s.runOn).kept = s.kept := by
  simp [State.runOn]

@[simp] theorem State.runOff_kept (s : State) : (s.runOff).kept = s.kept := by
  simp [State.runOff]

@[simp] theorem wrFrameCtrl_keeps (s : State) (v : Word) : WriteKeeps s (wrFrameCtrl s v) := by
  simp only [wrFrameCtrl]
  repeat' split
  all_goals simp

@[simp] theorem wrSwitchReg_keeps (s : State) (r : Reg) (v : Word) : WriteKeeps s (wrSwitchReg s r v) := by
  simp [wrSwitchReg]

@[simp] theorem wrChCfg_keeps (s : State) (n : Nat) (v : Word) : WriteKeeps s (wrChCfg s n v) := by
  simp [wrChCfg]

@[simp] theorem wrChWin_keeps (s : State) (n : Nat) (v : Word) : WriteKeeps s (wrChWin s n v) := by
  simp [wrChWin]

@[simp] theorem wrSnip_keeps (s : State) (n : Nat) (v : Word) : WriteKeeps s (wrSnip s n v) := by
  simp [wrSnip]

@[simp] theorem wrHbCfg_keeps (s : State) (v : Word) : WriteKeeps s (wrHbCfg s v) :=
  writeKeeps_stateThen s _ (writeKeeps_rangeThen s _ (writeKeeps_hitGuard s (by simp)))

@[simp] theorem wrArmed_keeps (s : State) (r : Reg) (v : Word) : WriteKeeps s (wrArmed s r v) := by
  simp [wrArmed]

@[simp] theorem wrMask_keeps (s : State) (r : Reg) (v : Word) (lo : Nat) : WriteKeeps s (wrMask s r v lo) := by
  simp [wrMask]

@[simp] theorem wrTbCfg_keeps (s : State) (v : Word) : WriteKeeps s (wrTbCfg s v) :=
  writeKeeps_rangeThen s _ (writeKeeps_stateThen s _ (writeKeeps_stateThen s _ (writeKeeps_stateThen s _ (by simp))))

@[simp] theorem wrOutCfg_keeps (s : State) (v : Word) : WriteKeeps s (wrOutCfg s v) := by
  simp [wrOutCfg]

@[simp] theorem wrCareHi_keeps (s : State) (k : Nat) (v : Word) : WriteKeeps s (wrCareHi s k v) := by
  simp [wrCareHi]

@[simp] theorem wrPathCfg_keeps (s : State) (p : Nat) (v : Word) : WriteKeeps s (wrPathCfg s p v) := by
  have plain (b : Bool) : WriteKeeps s (stateThen b (.ok (s.writePlain (.scPathCfg p) v))) := writeKeeps_stateThen s b (by simp)
  refine writeKeeps_rangeThen s _ ?_
  split
  · exact writeKeeps_hitGuard s (plain _)
  · exact plain _

@[simp] theorem wrPathMatch_keeps (s : State) (p : Nat) (v : Word) : WriteKeeps s (wrPathMatch s p v) := by
  simp [wrPathMatch]

@[simp] theorem wrDeepField_keeps (s : State) (n : Nat) (v : Word) : WriteKeeps s (wrDeepField s n v) := by
  simp [wrDeepField]

@[simp] theorem State.laneFields_kept (s : State) (n : Nat) (v : Word) : (s.laneFields n v).kept = s.kept := by
  simp [State.laneFields]

@[simp] theorem wrLaneCfg_keeps (s : State) (n : Nat) (v : Word) : WriteKeeps s (wrLaneCfg s n v) := by
  have deep (w : Word) := wrDeepField_keeps s n w
  simp only [wrLaneCfg]
  split
  · simp
  · split
    case h_1 t e => simpa using deep _ t e
    case h_2 => simp

@[simp] theorem State.pendOrNow_kept (s : State) (r : Reg) (v : Word) : (s.pendOrNow r v).kept = s.kept := by
  simp [State.pendOrNow]

@[simp] theorem wrRefCfg_keeps (s : State) (v : Word) : WriteKeeps s (wrRefCfg s v) := by
  simp [wrRefCfg]

@[simp] theorem wrMaxPayload_keeps (s : State) (v : Word) : WriteKeeps s (wrMaxPayload s v) := by
  simp [wrMaxPayload]

@[simp] theorem State.clearLog_kept (s : State) : s.clearLog.kept = s.kept := s.action_kept _ fun _ => rfl

@[simp] theorem wrReg_keeps (s : State) (r : Reg) (v : Word) : WriteKeeps s (wrReg s r v) := by
  simp only [wrReg]
  repeat' split
  all_goals simp

@[simp] theorem State.writeAt_kept (s : State) (port a : Nat) (v : Word) : (s.writeAt port a v).1.kept = s.kept := by
  simp only [State.writeAt]
  split
  · rfl
  split
  · rfl
  split
  · rfl
  next r _ =>
    split
    · rfl
    split
    · simp
    split
    case h_1 t e => exact writeKeeps_guarded s s (wrReg_keeps s r v) t e
    case h_2 => rfl

@[simp] theorem State.drawFor_kept (s : State) (r : Reg) : (s.drawFor r).kept = s.kept := by
  simp only [State.drawFor]
  split <;> simp

@[simp] theorem State.readAt_kept (s : State) (port : Nat) (a : Nat) : (s.readAt port a).1.kept = s.kept := by
  simp only [State.readAt]
  repeat' split
  all_goals simp

@[simp] theorem execCsrRead_kept (r : Req) (s : State) (u : State) : (after (execCsrRead r s) u).kept = s.kept := by
  simp only [execCsrRead, after_next]
  refine State.runOp_kept _ _ _ _ fun t => ?_
  simp

@[simp] theorem execCsrWrite_kept (r : Req) (s : State) (u : State) : (after (execCsrWrite r s) u).kept = s.kept := by
  simp only [execCsrWrite, after_next]
  refine State.runOp_kept _ _ _ _ fun t => ?_
  simp

@[simp] theorem State.readMany_kept (s : State) (port a stride n : Nat) : (s.readMany port a stride n).1.kept = s.kept := by
  induction n generalizing s a with
  | zero => rfl
  | succ n ih =>
    simp only [State.readMany]
    split <;> simp [ih]

@[simp] theorem execCsrReadBlock_kept (r : Req) (s : State) (u : State) : (after (execCsrReadBlock r s) u).kept = s.kept := by
  simp only [execCsrReadBlock, after_next]
  refine State.runOp_kept _ _ _ _ fun t => ?_
  simp

@[simp] theorem State.writeMany_kept (s : State) (port a stride : Nat) (vs : List Word) :
    (s.writeMany port a stride vs).1.kept = s.kept := by
  induction vs generalizing s a with
  | nil => rfl
  | cons v vs ih =>
    simp only [State.writeMany]
    split <;> simp [ih]

@[simp] theorem execCsrWriteBlock_kept (r : Req) (s : State) (u : State) : (after (execCsrWriteBlock r s) u).kept = s.kept := by
  simp only [execCsrWriteBlock, after_next]
  refine State.runOp_kept _ _ _ _ fun t => ?_
  simp

@[simp] theorem execCsrModify_kept (r : Req) (s u : State) : (after (execCsrModify r s) u).kept = s.kept := by
  refine State.runOp_kept _ _ _ _ fun t => ?_
  dsimp only
  split <;> simp

@[simp] theorem execRegisterWrite_kept (port : Nat) (addr : Word) (value : Word) (s : State) (u : State) :
    (after (execRegisterWrite port addr value s) u).kept = s.kept := by
  simp [execRegisterWrite]

@[simp] theorem execSnapshotRead_kept (addr : Word) (s : State) (u : State) : (after (execSnapshotRead addr s) u).kept = s.kept := by
  simp only [execSnapshotRead, after_next]
  split <;> simp

@[simp] theorem execRcRead_kept (port : Nat) (addr : Word) (s : State) (u : State) :
    (after (execRcRead port addr s) u).kept = s.kept := by
  simp [execRcRead]

@[simp] theorem execStampRead_kept (port : Nat) (n : Nat) (s : State) (u : State) : (after (execStampRead port n s) u).kept = s.kept := by
  simp [execStampRead]

@[simp] theorem execMissRead_kept (port : Nat) (s : State) (u : State) : (after (execMissRead port s) u).kept = s.kept := by
  simp [execMissRead]

@[simp] theorem execQuarantineRead_kept (port : Nat) (s : State) (u : State) : (after (execQuarantineRead port s) u).kept = s.kept := by
  simp [execQuarantineRead]

@[simp] theorem execCntClear_kept (port : Nat) (value : Word) (s : State) (u : State) :
    (after (execCntClear port value s) u).kept = s.kept := by
  simp [execCntClear]

@[simp] theorem execLogClear_kept (port : Nat) (s : State) (u : State) : (after (execLogClear port s) u).kept = s.kept := by
  simp [execLogClear]

@[simp] theorem execActiveRoleWrite_kept (port : Nat) (value : Word) (s : State) (u : State) :
    (after (execActiveRoleWrite port value s) u).kept = s.kept := by
  simp [execActiveRoleWrite]

@[simp] theorem execMergeEnable_kept (port : Nat) (value : Word) (s u : State) :
    (after (execMergeEnable port value s) u).kept = s.kept := by
  have written := writeOr_kept s (writeKeeps_guarded s s (writeKeeps_inMergeRole s s (wrMergeCfg_keeps s value)))
  simp [execMergeEnable, written]

@[simp] theorem execCdcTimeout_kept (r : Req) (s u : State) : (after (execCdcTimeout r s) u).kept = s.kept := by
  have answered := s.runOp_kept 0x101 r true (body := fun s =>
      if keeperOnly (r.w 0).toNat && decide ((s.port r.port).cls ≠ 2) then no s .classRefused else no (s.bump 0x40 1) .cdcTimeout)
    fun t => by simp
  simp only [execCdcTimeout, after_next, State.kept_ite, answered, ite_self]

theorem State.uncarry_kept (s : State) (n : Nat) (ws : List Word) (t : State) (h : s.uncarry n ws = some t) : t.kept = s.kept := by
  simp only [State.uncarry] at h
  split at h
  · exact nomatch h
  · cases h
    simp

theorem State.unreply_kept (s : State) (r : Req) (ws : List Word) (t : State) (h : s.unreply r ws = some t) : t.kept = s.kept := by
  simp only [State.unreply] at h
  repeat' split at h
  case h_1 | h_2 => exact s.uncarry_kept _ ws t h
  all_goals cases h
  all_goals simp

@[simp] theorem State.unstart_kept (s : State) (op : BitVec 12) (r : Req) : (s.unstart op r).kept = s.kept := by
  simp [State.unstart]

theorem State.takeBack_kept (s : State) (op : BitVec 12) (r : Req) (t : State) (h : s.takeBack op r = some t) : t.kept = s.kept := by
  simp only [State.takeBack] at h
  split at h
  · exact nomatch h
  · obtain ⟨u, e, rfl⟩ := Option.map_eq_some_iff.mp h
    rw [State.unstart_kept]
    split at e
    · cases e
      rfl
    · exact s.unreply_kept r _ u e

@[simp] theorem State.wrongWrite_kept (s : State) (addr : Nat) : (s.wrongWrite addr).kept = s.kept := by
  simp only [State.wrongWrite]
  split <;> simp

@[simp] theorem State.wrongWrites_kept (s : State) (addr n : Nat) : (s.wrongWrites addr n).kept = s.kept := by
  induction n generalizing s addr with
  | zero => rfl
  | succ n ih => simp [State.wrongWrites, ih]

@[simp] theorem State.beginArbitration_kept (s : State) (kind : BitVec 2) (u : Nat) (addr : Word) (tag : BitVec 16)
    (hit : Option (BitVec 12 × Req)) (late : Bool) : (s.beginArbitration kind u addr tag hit late).kept = s.kept := by
  simp [State.beginArbitration]

@[simp] theorem State.mismatchLast_kept (s : State) (kind : BitVec 2) (u : Nat) (addr : Word) (tag : BitVec 16) :
    (s.mismatchLast kind u addr tag).kept = s.kept := by
  have back (op : BitVec 12) (r : Req) := (s.wrongWrites addr.toNat u).takeBack_kept op r
  simp only [State.mismatchLast]
  split
  case h_1 op r _ =>
    split
    case h_1 t e =>
      split at e
      · simpa using back op r t e
      · exact nomatch e
    case h_2 => simp
  case h_2 => simp

@[simp] theorem execMismatch_kept (kind : BitVec 2) (unmatched : Nat) (addr : Word) (tag : BitVec 16) (s : State) (u : State) :
    (after (execMismatch kind unmatched addr tag s) u).kept = s.kept := by
  simp only [execMismatch, after_next]
  repeat' split
  all_goals simp

@[simp] theorem State.chanEffect_stores {κ : Kept} (s : State) (old : State) (due : SMap Word) (n : Nat) (h : Stores κ s.kept) :
    Stores κ (s.chanEffect old due n).kept := by
  simp [State.chanEffect, h]

@[simp] theorem State.chanEffects_stores {κ : Kept} (s : State) (old : State) (due : SMap Word) (l3 : List Nat) (h : Stores κ s.kept) :
    Stores κ (s.chanEffects old due l3).kept := by
  induction l3 generalizing s with
  | nil => simp [State.chanEffects, h]
  | cons x xs ih => simp [State.chanEffects, ih, h]

@[simp] theorem State.pathEffect_kept (s old : State) (p : Nat) : (s.pathEffect old p).kept = s.kept := by
  simp only [State.pathEffect]
  split
  · rfl
  · exact (kept_foldl (fun s m => by simp) _ _).trans (by simp)

@[simp] theorem State.pathEffects_kept (s : State) (old : State) (l2 : List Nat) : (s.pathEffects old l2).kept = s.kept := by
  induction l2 generalizing s with
  | nil => simp [State.pathEffects]
  | cons x xs ih => simp [State.pathEffects, ih]

@[simp] theorem State.bufferEffect_kept (s : State) (old : State) : (s.bufferEffect old).kept = s.kept := by
  simp [State.bufferEffect]

@[simp] theorem State.laneEffects_kept (s : State) (due : SMap Word) (l2 : List Nat) : (s.laneEffects due l2).kept = s.kept := by
  induction l2 generalizing s with
  | nil => simp [State.laneEffects]
  | cons x xs ih =>
    simp only [State.laneEffects]
    repeat' split
    all_goals simp [ih]

@[simp] theorem State.takeRwf_stores {κ : Kept} (s : State) (h : Stores κ s.kept) : Stores κ (s.takeRwf).kept := by
  simp only [State.takeRwf]
  split <;> simp [h]

@[simp] theorem execRwfTakeEffect_stores {κ : Kept} (s : State) (u : State) (h : Stores κ s.kept) :
    Stores κ (after (execRwfTakeEffect s) u).kept := by
  simp [execRwfTakeEffect, h]

@[simp] theorem State.takeSwitch_kept (s : State) : (s.takeSwitch).kept = s.kept := by
  simp only [State.takeSwitch]
  split <;> simp

@[simp] theorem execPeriodSwitch_kept (s : State) (u : State) : (after (execPeriodSwitch s) u).kept = s.kept := by
  simp [execPeriodSwitch]

@[simp] theorem State.endRun_kept (s : State) : (s.endRun).kept = s.kept := by
  simp [State.endRun]

@[simp] theorem execLastTick_kept (s : State) (u : State) : (after (execLastTick s) u).kept = s.kept := by
  simp [execLastTick]

@[simp] theorem execRunStart_kept (port : Nat) (s : State) (u : State) : (after (execRunStart port s) u).kept = s.kept := by
  simp [execRunStart]

@[simp] theorem execRunStop_kept (port : Nat) (s : State) (u : State) : (after (execRunStop port s) u).kept = s.kept := by
  simp [execRunStop]

@[simp] theorem execFrameSwitchArm_kept (port : Nat) (s : State) (u : State) : (after (execFrameSwitchArm port s) u).kept = s.kept := by
  simp [execFrameSwitchArm]

@[simp] theorem State.abortAll_stores {κ : Kept} (s : State) (l1 : List Nat) (h : Stores κ s.kept) : Stores κ (s.abortAll l1).kept := by
  induction l1 generalizing s with
  | nil => simp [State.abortAll, h]
  | cons x xs ih => simp [State.abortAll, ih, h]

@[simp] theorem State.closeAll_stores {κ : Kept} (s : State) (l1 : List Nat) (h : Stores κ s.kept) : Stores κ (s.closeAll l1).kept := by
  induction l1 generalizing s with
  | nil => simp [State.closeAll, h]
  | cons x xs ih => simp [State.closeAll, ih, h]

@[simp] theorem execTrigArmTakesEffect_stores {κ : Kept} (s : State) (u : State) (h : Stores κ s.kept) :
    Stores κ (after (execTrigArmTakesEffect s) u).kept := by
  simp [execTrigArmTakesEffect, h]

@[simp] theorem execTrigDisarmTakesEffect_stores {κ : Kept} (s : State) (u : State) (h : Stores κ s.kept) :
    Stores κ (after (execTrigDisarmTakesEffect s) u).kept := by
  simp [execTrigDisarmTakesEffect, h]

@[simp] theorem State.settleNow_stores {κ : Kept} (s : State) (h : Stores κ s.kept) : Stores κ s.settleNow.kept := by
  unfold State.settleNow
  split
  · exact h
  · simp only [execLastTick_kept, execEpochSwitch_kept]
    refine execTrigDisarmTakesEffect_stores _ _ (execTrigArmTakesEffect_stores _ _ ?_)
    simp only [execPeriodSwitch_kept, execScheduleSwap_kept]
    exact execRwfTakeEffect_stores s s h

@[simp] theorem State.runChain_stores {κ : Kept} (s : State) (ch : Nat) (l2 : Nat) (h : Stores κ s.kept) :
    Stores κ (s.runChain ch l2).kept := by
  induction l2 generalizing s with
  | zero => simp [State.runChain, h]
  | succ n ih => simp [State.runChain, ih, h]

@[simp] theorem State.closeChains_stores {κ : Kept} (s : State) (l1 : List Nat) (h : Stores κ s.kept) :
    Stores κ (s.closeChains l1).kept := by
  induction l1 generalizing s with
  | nil => simp [State.closeChains, h]
  | cons x xs ih => simp [State.closeChains, ih, h]

@[simp] theorem State.settleTick_stores {κ : Kept} (s : State) (h : Stores κ s.kept) : Stores κ s.settleTick.kept := by
  simp only [State.settleTick, execLastTick_kept, State.closeHits_kept]
  refine State.closeChains_stores _ _ (State.abortAll_stores _ _ ?_)
  rw [State.drainTrigs_kept]
  refine State.settleNow_stores _ ?_
  rw [execMergeSlotEmpty_kept]
  exact State.closeAll_stores _ _ h

@[simp] theorem State.align_kept (s : State) : (s.align).kept = s.kept := by
  simp [State.align]

@[simp] theorem State.closeStreams_kept (s : State) (fn : Word) (l2 : List Nat) : (s.closeStreams fn l2).kept = s.kept := by
  induction l2 generalizing s with
  | nil => simp [State.closeStreams]
  | cons x xs ih => simp [State.closeStreams, ih]

@[simp] theorem State.firstTick_kept (s : State) (l1 : List Nat) : (s.firstTick l1).kept = s.kept := by
  induction l1 generalizing s with
  | nil => simp [State.firstTick]
  | cons x xs ih => simp [State.firstTick, ih]

@[simp] theorem State.tickChan_kept (s : State) (fn : FN) (l2 : List Nat) : (s.tickChan fn l2).kept = s.kept := by
  induction l2 generalizing s with
  | nil => simp [State.tickChan]
  | cons x xs ih => simp [State.tickChan, ih]

@[simp] theorem State.tickLane_kept (s : State) (l1 : List Nat) : (s.tickLane l1).kept = s.kept := by
  induction l1 generalizing s with
  | nil => simp [State.tickLane]
  | cons x xs ih =>
    simp only [State.tickLane]
    repeat' split
    all_goals simp [ih]

@[simp] theorem State.tickCluster_kept (s : State) (l1 : List Nat) : (s.tickCluster l1).kept = s.kept := by
  induction l1 generalizing s with
  | nil => simp [State.tickCluster]
  | cons x xs ih => simp [State.tickCluster, ih]

@[simp] theorem State.catchLane_kept (s : State) (l1 : List Nat) : (s.catchLane l1).kept = s.kept := by
  induction l1 generalizing s with
  | nil => simp [State.catchLane]
  | cons x xs ih =>
    simp only [State.catchLane]
    repeat' split
    all_goals simp [ih]

@[simp] theorem State.catchRwf_kept (s : State) : (s.catchRwf).kept = s.kept := by
  simp [State.catchRwf]

@[simp] theorem State.raiseDue_kept (s : State) : (s.raiseDue).kept = s.kept := by
  simp [State.raiseDue]

@[simp] theorem State.endFrame_stores {κ : Kept} (s : State) (h : Stores κ s.kept) : Stores κ (s.endFrame).kept := by
  simp [State.endFrame, h]

@[simp] theorem State.reopen_kept (s : State) : (s.reopen).kept = s.kept := by
  simp [State.reopen]

@[simp] theorem State.placeTick_kept (s : State) : (s.placeTick).kept = s.kept := by
  simp [State.placeTick]

@[simp] theorem execFrameTick_stores {κ : Kept} (s : State) (u : State) (h : Stores κ s.kept) :
    Stores κ (after (execFrameTick s) u).kept := by
  simp [execFrameTick, h]

@[simp] theorem execDigitiserSample_stores {κ : Kept} (ch : Nat) (code : BitVec 12) (s : State) (u : State) (h : Stores κ s.kept) :
    Stores κ (after (execDigitiserSample ch code s) u).kept := by
  simp [execDigitiserSample, h]

@[simp] theorem execTdcStop_stores {κ : Kept} (ch : Nat) (trailing : Bool) (cycle : Byte) (coarse : BitVec 12) (bin : BitVec 9)
    (s : State) (u : State) (h : Stores κ s.kept) : Stores κ (after (execTdcStop ch trailing cycle coarse bin s) u).kept := by
  simp [execTdcStop, h]

@[simp] theorem execHitForm_stores {κ : Kept} (ch : Nat) (s : State) (u : State) (h : Stores κ s.kept) :
    Stores κ (after (execHitForm ch s) u).kept := by
  simp [execHitForm, h]

@[simp] theorem execTotWaitExpiry_stores {κ : Kept} (ch : Nat) (s : State) (u : State) (h : Stores κ s.kept) :
    Stores κ (after (execTotWaitExpiry ch s) u).kept := by
  simp [execTotWaitExpiry, h]

@[simp] theorem execTrigInEdge_stores {κ : Kept} (t : CT) (s : State) (u : State) (h : Stores κ s.kept) :
    Stores κ (after (execTrigInEdge t s) u).kept := by
  simp [execTrigInEdge, h]

@[simp] theorem execPatternFire_stores {κ : Kept} (k : Nat) (cycle : CT) (s : State) (u : State) (h : Stores κ s.kept) :
    Stores κ (after (execPatternFire k cycle s) u).kept := by
  simp [execPatternFire, h]

@[simp] theorem execCtCompare_stores {κ : Kept} (s : State) (u : State) (h : Stores κ s.kept) :
    Stores κ (after (execCtCompare s) u).kept := by
  simp [execCtCompare, h]

@[simp] theorem execTriggerDecision_stores {κ : Kept} (s : State) (u : State) (h : Stores κ s.kept) :
    Stores κ (after (execTriggerDecision s) u).kept := by
  simp [execTriggerDecision, h]

@[simp] theorem execAutoTimeout_stores {κ : Kept} (s : State) (u : State) (h : Stores κ s.kept) :
    Stores κ (after (execAutoTimeout s) u).kept := by
  simp [execAutoTimeout, h]

@[simp] theorem execAutorangeDrop_stores {κ : Kept} (ch : Nat) (s : State) (u : State) (h : Stores κ s.kept) :
    Stores κ (after (execAutorangeDrop ch s) u).kept := by
  simp [execAutorangeDrop, h]

@[simp] theorem execAutorangeRise_stores {κ : Kept} (ch : Nat) (s : State) (u : State) (h : Stores κ s.kept) :
    Stores κ (after (execAutorangeRise ch s) u).kept := by
  simp [execAutorangeRise, h]

@[simp] theorem execEcho_kept (r : Req) (s : State) (u : State) : (after (execEcho r s) u).kept = s.kept := by
  simp only [execEcho, after_next]
  refine State.runOp_kept _ _ _ _ fun t => ?_
  simp

@[simp] theorem execIdentify_kept (r : Req) (s : State) (u : State) : (after (execIdentify r s) u).kept = s.kept := by
  simp only [execIdentify, after_next]
  refine State.runOp_kept _ _ _ _ fun t => ?_
  simp

@[simp] theorem execResetDevice_kept (r : Req) (s : State) (u : State) : (after (execResetDevice r s) u).kept = s.kept := by
  simp only [execResetDevice, after_next]
  refine State.runOp_kept _ _ _ _ fun t => ?_
  simp

@[simp] theorem execResetDeviceReset_stores {κ : Kept} (s : State) (u : State) (h : Stores κ s.kept) :
    Stores κ (after (execResetDeviceReset s) u).kept := by
  simp [execResetDeviceReset, h]

@[simp] theorem execHealthReport_kept (r : Req) (s : State) (u : State) : (after (execHealthReport r s) u).kept = s.kept := by
  simp only [execHealthReport, after_next]
  refine State.runOp_kept _ _ _ _ fun t => ?_
  simp

@[simp] theorem execNoticeSubscribe_kept (r : Req) (s : State) (u : State) : (after (execNoticeSubscribe r s) u).kept = s.kept := by
  simp only [execNoticeSubscribe, after_next]
  refine State.runOp_kept _ _ _ _ fun t => ?_
  simp

end Sys2Proof.Machine
end

section
/-!
SUPPORT. The frame of every command, from the equations of the part before, with the statements on it.
-/
namespace Sys2Proof.Machine
open Sys2Proof.Claims

/-- What a command that goes from `s` to `t` may write, by the tables of `storesBytes`, `settlesFirst` and `writesFlash`. -/
inductive CmdFrame (c : Instr) (s t : State) : Prop where
  | quiet (same : t.kept = s.kept)
  | stores (may : storesBytes c = true) (stored : Stores s.kept t.kept)
  | settles (may : settlesFirst c = true) (stored : Stores s.kept t.kept) (quiet : s.settled = true → t.kept = s.kept)
  | writes (may : writesFlash c = true) (same : t.kept.noFlash = s.kept.noFlash)

theorem State.settleNow_of_settled {s : State} (settled : s.settled = true) : s.settleNow = s := if_pos settled

theorem execTdcStop_kept_of_settled (ch : Nat) (trailing : Bool) (cycle : Byte) (coarse : BitVec 12) (bin : BitVec 9) (s u : State) (settled : s.settled = true) : (after (execTdcStop ch trailing cycle coarse bin s) u).kept = s.kept := by
  simp [execTdcStop, State.settleNow_of_settled settled]

theorem execAutorangeDrop_kept_of_settled (ch : Nat) (s u : State) (settled : s.settled = true) : (after (execAutorangeDrop ch s) u).kept = s.kept := by
  simp [execAutorangeDrop, State.settleNow_of_settled settled]

theorem execAutorangeRise_kept_of_settled (ch : Nat) (s u : State) (settled : s.settled = true) : (after (execAutorangeRise ch s) u).kept = s.kept := by
  simp [execAutorangeRise, State.settleNow_of_settled settled]

theorem execHitForm_kept_of_settled (ch : Nat) (s u : State) (settled : s.settled = true) : (after (execHitForm ch s) u).kept = s.kept := by
  simp [execHitForm, State.settleNow_of_settled settled]

theorem execTotWaitExpiry_kept_of_settled (ch : Nat) (s u : State) (settled : s.settled = true) : (after (execTotWaitExpiry ch s) u).kept = s.kept := by
  simp [execTotWaitExpiry, State.settleNow_of_settled settled]

theorem execPatternFire_kept_of_settled (k : Nat) (cycle : CT) (s u : State) (settled : s.settled = true) : (after (execPatternFire k cycle s) u).kept = s.kept := by
  simp [execPatternFire, State.settleNow_of_settled settled]

theorem execTrigInEdge_kept_of_settled (t : CT) (s u : State) (settled : s.settled = true) : (after (execTrigInEdge t s) u).kept = s.kept := by
  simp [execTrigInEdge, State.settleNow_of_settled settled]

theorem execCtCompare_kept_of_settled (s u : State) (settled : s.settled = true) : (after (execCtCompare s) u).kept = s.kept := by
  simp [execCtCompare, State.settleNow_of_settled settled]

theorem execAutoTimeout_kept_of_settled (s u : State) (settled : s.settled = true) : (after (execAutoTimeout s) u).kept = s.kept := by
  simp [execAutoTimeout, State.settleNow_of_settled settled]

theorem execTriggerDecision_kept_of_settled (s u : State) (settled : s.settled = true) : (after (execTriggerDecision s) u).kept = s.kept := by
  simp [execTriggerDecision, State.settleNow_of_settled settled]

theorem exec_trig_frame (e : Nat) (w : EngWord) (apart : Bool) (s : State) :
    CmdFrame (.trig e w apart) s (after (exec (.trig e w apart) s) s) :=
  .quiet (execTrig_kept e w apart s s)

theorem exec_frame (c : Instr) (s : State) : CmdFrame c s (after (exec c s) s) := by
  cases c with
  | echo => exact .quiet (execEcho_kept _ _ _)
  | identify => exact .quiet (execIdentify_kept _ _ _)
  | resetDevice => exact .quiet (execResetDevice_kept _ _ _)
  | resetDeviceReset => exact .stores rfl (execResetDeviceReset_stores _ _ (.refl _))
  | healthReport => exact .quiet (execHealthReport_kept _ _ _)
  | enumerate => exact .quiet (execEnumerate_kept _ _ _)
  | featureEpoch => exact .quiet (execFeatureEpoch_kept _ _ _)
  | noticeSubscribe => exact .quiet (execNoticeSubscribe_kept _ _ _)
  | csrRead => exact .quiet (execCsrRead_kept _ _ _)
  | csrWrite => exact .quiet (execCsrWrite_kept _ _ _)
  | csrReadBlock => exact .quiet (execCsrReadBlock_kept _ _ _)
  | csrWriteBlock => exact .quiet (execCsrWriteBlock_kept _ _ _)
  | csrModify => exact .quiet (execCsrModify_kept _ _ _)
  | registerWrite => exact .quiet (execRegisterWrite_kept _ _ _ _ _)
  | snapshotRead => exact .quiet (execSnapshotRead_kept _ _ _)
  | rcRead => exact .quiet (execRcRead_kept _ _ _ _)
  | stampRead => exact .quiet (execStampRead_kept _ _ _ _)
  | missRead => exact .quiet (execMissRead_kept _ _ _)
  | quarantineRead => exact .quiet (execQuarantineRead_kept _ _ _)
  | memRead => exact .stores rfl (execMemRead_stores _ _ _ _ (.refl _))
  | memWrite => exact .stores rfl (execMemWrite_stores _ _ _ _ (.refl _))
  | readModifyWrite => exact .stores rfl (execReadModifyWrite_stores _ _ _ _ _ _ (.refl _))
  | regionSet => exact .quiet (execRegionSet_kept _ _ _)
  | regionReady => exact .stores rfl (execRegionReady_stores _ _ _ (.refl _))
  | regionRead => exact .quiet (execRegionRead_kept _ _ _)
  | spareRow => exact .quiet (execSpareRow_kept _ _ _)
  | rowMoveDone => exact .stores rfl (execRowMoveDone_stores _ _ _ _ (.refl _))
  | writeBack => exact .quiet (execWriteBack_kept _ _ _ _)
  | imageErase => exact .quiet (execImageErase_kept _ _ _)
  | imageEraseDone => exact .writes rfl (execImageEraseDone_noFlash _ _)
  | imageWrite => exact .quiet (execImageWrite_kept _ _ _)
  | imageWriteDone => exact .writes rfl (execImageWriteDone_noFlash _ _)
  | imageVerify => exact .quiet (execImageVerify_kept _ _ _)
  | imageVerifyDone => exact .quiet (execImageVerifyDone_kept _ _)
  | imageArm => exact .writes rfl (execImageArm_noFlash _ _ _)
  | imageConfirm => exact .writes rfl (execImageConfirm_noFlash _ _ _)
  | imageInfo => exact .quiet (execImageInfo_kept _ _ _)
  | bootGo => exact .writes rfl (execBootGo_noFlash _ _ _)
  | schedLoad => exact .quiet (execSchedLoad_kept _ _ _)
  | schedCommit => exact .quiet (execSchedCommit_kept _ _ _)
  | scheduleSwap => exact .quiet (execScheduleSwap_kept _ _)
  | shadowCopyDone => exact .quiet (execShadowCopyDone_kept _ _)
  | schedRead => exact .quiet (execSchedRead_kept _ _ _)
  | kernelLoad => exact .quiet (execKernelLoad_kept _ _ _)
  | kernelInfo => exact .quiet (execKernelInfo_kept _ _ _)
  | trigArm => exact .quiet (execTrigArm_kept _ _ _)
  | trigArmTakesEffect => exact .stores rfl (execTrigArmTakesEffect_stores _ _ (.refl _))
  | trigDisarm => exact .quiet (execTrigDisarm_kept _ _ _)
  | trigDisarmTakesEffect => exact .stores rfl (execTrigDisarmTakesEffect_stores _ _ (.refl _))
  | trigForce => exact .quiet (execTrigForce_kept _ _ _)
  | segmentRead => exact .stores rfl (execSegmentRead_stores _ _ _ _ (.refl _))
  | calRun => exact .quiet (execCalRun_kept _ _ _)
  | calRunDone => exact .quiet (execCalRunDone_kept _ _ _ _)
  | linkTrain => exact .quiet (execLinkTrain_kept _ _ _)
  | linkTrainTimeout => exact .quiet (execLinkTrainTimeout_kept _ _ _)
  | linkStatus => exact .quiet (execLinkStatus_kept _ _ _)
  | rosterLoad => exact .quiet (execRosterLoad_kept _ _ _)
  | rosterRead => exact .quiet (execRosterRead_kept _ _ _)
  | linkRtt => exact .quiet (execLinkRtt_kept _ _ _)
  | pressJob => exact .stores rfl (execPressJob_stores _ _ _ _ (.refl _))
  | pressFlush => exact .stores rfl (execPressFlush_stores _ _ _ _ (.refl _))
  | timeSet => exact .quiet (execTimeSet_kept _ _ _)
  | timeRead => exact .quiet (execTimeRead_kept _ _ _)
  | freqMeasure => exact .quiet (execFreqMeasure_kept _ _ _)
  | freqMeasureDone => exact .quiet (execFreqMeasureDone_kept _ 0 _ _)
  | pulseSet => exact .quiet (execPulseSet_kept _ _ _)
  | pulseRise => exact .quiet (execPulseRise_kept _ _ _)
  | pulseFall => exact .quiet (execPulseFall_kept _ _ _)
  | hkSeqLoad => exact .quiet (execHkSeqLoad_kept _ _ _)
  | hkSeqStart => exact .quiet (execHkSeqStart_kept _ _ _)
  | hkRead => exact .quiet (execHkRead_kept _ _ _)
  | bistRun => exact .quiet (execBistRun_kept _ _ _)
  | bistDone => exact .stores rfl (execBistDone_stores _ _ _ _ _ _ (.refl _))
  | testmuxSet => exact .quiet (execTestmuxSet_kept _ _ _)
  | runStart => exact .quiet (execRunStart_kept _ _ _)
  | runStop => exact .quiet (execRunStop_kept _ _ _)
  | lastTick => exact .quiet (execLastTick_kept _ _)
  | frameSwitchArm => exact .quiet (execFrameSwitchArm_kept _ _ _)
  | periodSwitch => exact .quiet (execPeriodSwitch_kept _ _)
  | frameTick => exact .stores rfl (execFrameTick_stores _ _ (.refl _))
  | rwfTakeEffect => exact .stores rfl (execRwfTakeEffect_stores _ _ (.refl _))
  | laneCfgHoldExpiry => exact .quiet (execLaneCfgHoldExpiry_kept _ _ _)
  | returnSwitch => exact .quiet (execReturnSwitch_kept _ _ _)
  | returnSwitchDone => exact .quiet (execReturnSwitchDone_kept _ _)
  | oscTrimStep => exact .quiet (execOscTrimStep_kept _ _)
  | activeRoleWrite => exact .quiet (execActiveRoleWrite_kept _ _ _ _)
  | readmit => exact .quiet (execReadmit_kept _ _ _)
  | forceSwap => exact .quiet (execForceSwap_kept _ _ _)
  | watchdogFeed => exact .quiet (execWatchdogFeed_kept _ _ _ _)
  | watchdogEnable => exact .quiet (execWatchdogEnable_kept _ _ _ _)
  | biasKey => exact .quiet (execBiasKey_kept _ _ _ _)
  | biasKeyClose => exact .quiet (execBiasKeyClose_kept _ _)
  | biasEnableWrite => exact .quiet (execBiasEnableWrite_kept _ _ _ _)
  | modeWrite => exact .quiet (execModeWrite_kept _ _ _ _)
  | referenceTakeBack => exact .quiet (execReferenceTakeBack_kept _ _ _ _)
  | cmpArm => exact .quiet (execCmpArm_kept _ _ _)
  | ctCompare => exact .settles rfl (execCtCompare_stores _ _ (.refl _)) (execCtCompare_kept_of_settled _ _)
  | cntClear => exact .quiet (execCntClear_kept _ _ _ _)
  | logClear => exact .quiet (execLogClear_kept _ _ _)
  | deepIdleEnter => exact .quiet (execDeepIdleEnter_kept _ _ _ _)
  | deepIdleWake => exact .quiet (execDeepIdleWake_kept _ _ _ _)
  | mergeEnable => exact .quiet (execMergeEnable_kept _ _ _ _)
  | uplinkEnable => exact .quiet (execUplinkEnable_kept _ _ _ _)
  | supplyGood => exact .quiet (execSupplyGood_kept _ _ _)
  | supplyBad => exact .stores rfl (execSupplyBad_stores _ _ _ (.refl _))
  | supplyWarn => exact .quiet (execSupplyWarn_kept _ _ _)
  | powerOnReset => exact .stores rfl (execPowerOnReset_stores _ _ _ (.refl _))
  | rstNReset => exact .stores rfl (execRstNReset_stores _ _ (.refl _))
  | watchdogExpiry => exact .stores rfl (execWatchdogExpiry_stores _ _ (.refl _))
  | clockLossReset => exact .stores rfl (execClockLossReset_stores _ _ (.refl _))
  | fuseCrcExhaustion => exact .stores rfl (execFuseCrcExhaustion_stores _ _ (.refl _))
  | resetHoldEnd => exact .quiet (execResetHoldEnd_kept _ _)
  | domainRelease => exact .stores rfl (execDomainRelease_stores _ _ (.refl _))
  | fuseLoad => exact .quiet (execFuseLoad_kept _ _ _)
  | xtalWaitExpiry => exact .quiet (execXtalWaitExpiry_kept _ _ _)
  | pllLock => exact .quiet (execPllLock_kept _ _)
  | dividerRampDone => exact .quiet (execDividerRampDone_kept _ _)
  | pllUnlock => exact .quiet (execPllUnlock_kept _ _ _)
  | fallbackSwitch => exact .stores rfl (execFallbackSwitch_stores _ _ (.refl _))
  | forcedSwitch => exact .quiet (execForcedSwitch_kept _ _)
  | oscReadyTimeout => exact .stores rfl (execOscReadyTimeout_stores _ _ (.refl _))
  | ckOscFail => exact .stores rfl (execCkOscFail_stores _ _ (.refl _))
  | primaryOk => exact .quiet (execPrimaryOk_kept _ _)
  | bootRomStart => exact .quiet (execBootRomStart_kept _ _)
  | bootAttempt => exact .writes rfl (execBootAttempt_noFlash _ _ _)
  | downloadTimeout => exact .writes rfl (execDownloadTimeout_noFlash _ _)
  | packetReceive => exact .quiet (execPacketReceive_kept _ _ _ _ _)
  | mgmtWrite => exact .quiet (execMgmtWrite_kept _ _ _)
  | mgmtRead => exact .quiet (execMgmtRead_kept _ _ _)
  | mgmtStatus => exact .quiet (execMgmtStatus_kept _ _)
  | cmdDataCapture => exact .quiet (execCmdDataCapture_kept _ _)
  | cmdDataUpdate => exact .quiet (execCmdDataUpdate_kept _ _ _ _)
  | jtagInstruction => exact .quiet (execJtagInstruction_kept _ _ _)
  | testLogicReset => exact .quiet (execTestLogicReset_kept _ _)
  | outstandingTimeout => exact .quiet (execOutstandingTimeout_kept _ _ _ _)
  | mismatch => exact .quiet (execMismatch_kept _ _ _ _ _ _)
  | arbitration => exact .stores rfl (execArbitration_stores _ _ _ _ (.refl _))
  | failOver => exact .quiet (execFailOver_kept _ _)
  | standbySelftestSlice => exact .quiet (execStandbySelftestSlice_kept _ _ _)
  | demotedSelftest => exact .quiet (execDemotedSelftest_kept _ _ _)
  | resyncDone => exact .quiet (execResyncDone_kept _ _)
  | takeBack => exact .quiet (execTakeBack_kept _ _)
  | transfer => exact .quiet (execTransfer_kept _ _ _)
  | dmaDescriptor => exact .stores rfl (execDmaDescriptor_stores _ _ _ _ (.refl _))
  | dmaDescriptorDone => exact .quiet (execDmaDescriptorDone_kept _ _ _)
  | kernelRun => exact .stores rfl (execKernelRun_stores _ _ _ (.refl _))
  | kernelRunComplete => exact .quiet (execKernelRunComplete_kept _ _ _)
  | curdEmission => exact .quiet (execCurdEmission_kept _ _ _)
  | housekeepingStep => exact .quiet (execHousekeepingStep_kept _ _ _)
  | scrubStep => exact .stores rfl (execScrubStep_stores _ _ _ _ (.refl _))
  | pressEntry => exact .quiet (execPressEntry_kept _ _ _)
  | transientBufferReadout => exact .stores rfl (execTransientBufferReadout_stores _ _ _ _ (.refl _))
  | entryAbort => exact .stores rfl (execEntryAbort_stores _ _ _ (.refl _))
  | curdDeadline => exact .quiet (execCurdDeadline_kept _ _ _)
  | tdcStop => exact .settles rfl (execTdcStop_stores _ _ _ _ _ _ _ (.refl _)) (execTdcStop_kept_of_settled _ _ _ _ _ _ _)
  | autorangeDrop => exact .settles rfl (execAutorangeDrop_stores _ _ _ (.refl _)) (execAutorangeDrop_kept_of_settled _ _ _)
  | autorangeRise => exact .settles rfl (execAutorangeRise_stores _ _ _ (.refl _)) (execAutorangeRise_kept_of_settled _ _ _)
  | invIntervalEnd => exact .quiet (execInvIntervalEnd_kept _ _ _)
  | hitForm => exact .settles rfl (execHitForm_stores _ _ _ (.refl _)) (execHitForm_kept_of_settled _ _ _)
  | totWaitExpiry => exact .settles rfl (execTotWaitExpiry_stores _ _ _ (.refl _)) (execTotWaitExpiry_kept_of_settled _ _ _)
  | hitFrameClose => exact .quiet (execHitFrameClose_kept _ _ _ _)
  | patternFire => exact .settles rfl (execPatternFire_stores _ _ _ _ (.refl _)) (execPatternFire_kept_of_settled _ _ _ _)
  | trigInEdge => exact .settles rfl (execTrigInEdge_stores _ _ _ (.refl _)) (execTrigInEdge_kept_of_settled _ _ _)
  | autoTimeout => exact .settles rfl (execAutoTimeout_stores _ _ (.refl _)) (execAutoTimeout_kept_of_settled _ _)
  | triggerDecision => exact .settles rfl (execTriggerDecision_stores _ _ (.refl _)) (execTriggerDecision_kept_of_settled _ _)
  | trigOutPulse => exact .quiet (execTrigOutPulse_kept _ _)
  | recordComplete => exact .stores rfl (execRecordComplete_stores _ _ (.refl _))
  | rearmComplete => exact .quiet (execRearmComplete_kept _ _)
  | nop => exact .quiet (execNop_kept _ _ _ _)
  | halt => exact .quiet (execHalt_kept _ _ _ _)
  | br => exact .quiet (execBr_kept _ _ _ _)
  | brdec => exact .quiet (execBrdec_kept _ _ _ _)
  | id => exact .quiet (execId_kept _ _ _ _)
  | time => exact .quiet (execTime_kept _ _ _ _)
  | li => exact .quiet (execLi_kept _ _ _ _)
  | addi => exact .quiet (execAddi_kept _ _ _ _)
  | add => exact .quiet (execAdd_kept _ _ _ _)
  | sub => exact .quiet (execSub_kept _ _ _ _)
  | slli => exact .quiet (execSlli_kept _ _ _ _)
  | srai => exact .quiet (execSrai_kept _ _ _ _)
  | cmp => exact .quiet (execCmp_kept _ _ _ _)
  | cmpi => exact .quiet (execCmpi_kept _ _ _ _)
  | agset => exact .quiet (execAgset_kept _ _ _ _)
  | agget => exact .quiet (execAgget_kept _ _ _ _)
  | setlen => exact .quiet (execSetlen_kept _ _ _ _)
  | agexp => exact .quiet (execAgexp_kept _ _ _ _)
  | agidx => exact .quiet (execAgidx_kept _ _ _ _)
  | ld => exact .stores rfl (execLd_stores _ _ _ _ _ (.refl _))
  | ldp => exact .stores rfl (execLdp_stores _ _ _ _ _ (.refl _))
  | st => exact .stores rfl (execSt_stores _ _ _ _ (.refl _))
  | stp => exact .stores rfl (execStp_stores _ _ _ _ (.refl _))
  | vadd => exact .quiet (execVadd_kept _ _ _ _)
  | vsub => exact .quiet (execVsub_kept _ _ _ _)
  | vsra => exact .quiet (execVsra_kept _ _ _ _)
  | vand => exact .quiet (execVand_kept _ _ _ _)
  | vor => exact .quiet (execVor_kept _ _ _ _)
  | vxor => exact .quiet (execVxor_kept _ _ _ _)
  | vmov => exact .quiet (execVmov_kept _ _ _ _)
  | vtag => exact .quiet (execVtag_kept _ _ _ _)
  | vget => exact .quiet (execVget_kept _ _ _ _)
  | vsplat => exact .quiet (execVsplat_kept _ _ _ _)
  | mac8 => exact .quiet (execMac8_kept _ _ _ _)
  | mac4 => exact .quiet (execMac4_kept _ _ _ _)
  | mac16 => exact .quiet (execMac16_kept _ _ _ _)
  | bclr => exact .quiet (execBclr_kept _ _ _ _)
  | movs => exact .quiet (execMovs_kept _ _ _ _)
  | emit => exact .quiet (execEmit_kept _ _ _ _)
  | resultAdmission => exact .stores rfl (execResultAdmission_stores _ _ _ (.refl _))
  | trig => exact exec_trig_frame _ _ _ _
  | mergeClose => exact .stores rfl (execMergeClose_stores _ _ _ _ (.refl _))
  | mergeSlotEmpty => exact .quiet (execMergeSlotEmpty_kept _ _)
  | epochSwitch => exact .quiet (execEpochSwitch_kept _ _)
  | ppsEdge => exact .quiet (execPpsEdge_kept _ _ _)
  | refPresent => exact .quiet (execRefPresent_kept _ _ _)
  | refLost => exact .quiet (execRefLost_kept _ _ _)
  | ppsLost => exact .quiet (execPpsLost_kept _ _)
  | epochWrap => exact .quiet (execEpochWrap_kept _ _)
  | servoUpdate => exact .quiet (execServoUpdate_kept _ _)
  | exchangeTimeout => exact .quiet (execExchangeTimeout_kept _ _)
  | holdLimitExpiry => exact .quiet (execHoldLimitExpiry_kept _ _)
  | ptpOffsetEstimate => exact .quiet (execPtpOffsetEstimate_kept _ _ _ _)
  | ptpSyncTimeout => exact .quiet (execPtpSyncTimeout_kept _ _)
  | bringupStepComplete => exact .quiet (execBringupStepComplete_kept _ _ _)
  | bringupTimeout => exact .quiet (execBringupTimeout_kept _ _ _)
  | laneDown => exact .quiet (execLaneDown_kept _ _ _)
  | laneRefclkLost => exact .quiet (execLaneRefclkLost_kept _ _)
  | curdReceive => exact .stores rfl (execCurdReceive_stores _ _ _ _ _ (.refl _))
  | damagedCodeword => exact .quiet (execDamagedCodeword_kept _ _ _ _)
  | cap => exact .quiet (execCap_kept _ _ _ _)
  | slot => exact .quiet (execSlot_kept _ _ _ _ _ _ _)
  | slotOpen => exact .quiet (execSlotOpen_kept _ _ _ _)
  | takeover => exact .quiet (execTakeover_kept _ _ _)
  | tsSync => exact .quiet (execTsSync_kept _ _ _ _ _)
  | tsReq => exact .quiet (execTsReq_kept _ _ _ _ _)
  | tsData => exact .quiet (execTsData_kept _ _ _ _ _ _)
  | timeExchangeStart => exact .quiet (execTimeExchangeStart_kept _ _ _)
  | frame => exact .quiet (execFrame_kept _ _ _ _ _ _ _ _)
  | frameSw => exact .quiet (execFrameSw_kept _ _ _ _ _)
  | trigFlit => exact .quiet (execTrigFlit_kept _ _ _ _ _ _)
  | sleep => exact .quiet (execSleep_kept _ _ _)
  | linkUnknown => exact .quiet (execLinkUnknown_kept _ _ _ _)
  | carriageSend => exact .quiet (execCarriageSend_kept _ _ _)
  | cdcTimeout => exact .quiet (execCdcTimeout_kept _ _ _)
  | cdcDrop => exact .quiet (execCdcDrop_kept _ _ _ _)
  | euUp => exact .quiet (execEuUp_kept _ _)
  | euDown => exact .quiet (execEuDown_kept _ _)
  | ethFrameReceive => exact .quiet (execEthFrameReceive_kept _ _ _)
  | hkConnect => exact .quiet (execHkConnect_kept _ _)
  | hkSettleEnd => exact .quiet (execHkSettleEnd_kept _ _)
  | hkConversionEnd => exact .quiet (execHkConversionEnd_kept _ _ _)
  | hkResultPublish => exact .quiet (execHkResultPublish_kept _ _)
  | sensorFault => exact .quiet (execSensorFault_kept _ _ _ _)
  | dieSensorRead => exact .quiet (execDieSensorRead_kept _ _ _)
  | stackTrainingDone => exact .quiet (execStackTrainingDone_kept _ _ _ _)
  | stackTempRead => exact .quiet (execStackTempRead_kept _ _ _ _)
  | powerOff => exact .stores rfl (execPowerOff_stores _ _ (.refl _))
  | rstNRelease => exact .quiet (execRstNRelease_kept _ _)
  | laneRefclkReturn => exact .quiet (execLaneRefclkReturn_kept _ _)
  | signalDetection => exact .quiet (execSignalDetection_kept _ _ _)
  | bringupSignalLoss => exact .quiet (execBringupSignalLoss_kept _ _ _)
  | digitiserSample => exact .stores rfl (execDigitiserSample_stores _ _ _ _ (.refl _))
  | oscSettled => exact .quiet (execOscSettled_kept _ _)
  | trigOutFall => exact .quiet (execTrigOutFall_kept _ _)
  | ptpDelayReq => exact .quiet (execPtpDelayReq_kept _ _)

/-- The interpreter runs a packet as the command of its opcode, and acknowledges one that has none of its own. -/
theorem execOpcode_command (op : BitVec 12) (r : Req) (s : State) :
    (∃ c, execOpcode op r s = exec c s) ∨ execOpcode op r s = .next (s.runOp op r true yes) := by
  unfold execOpcode
  split
  · exact .inl ⟨.echo r, rfl⟩
  · exact .inl ⟨.identify r, rfl⟩
  · exact .inl ⟨.resetDevice r, rfl⟩
  · exact .inl ⟨.healthReport r, rfl⟩
  · exact .inl ⟨.enumerate r, rfl⟩
  · exact .inl ⟨.featureEpoch r, rfl⟩
  · exact .inl ⟨.noticeSubscribe r, rfl⟩
  · exact .inl ⟨.csrRead r, rfl⟩
  · exact .inl ⟨.csrWrite r, rfl⟩
  · exact .inl ⟨.csrReadBlock r, rfl⟩
  · exact .inl ⟨.csrWriteBlock r, rfl⟩
  · exact .inl ⟨.csrModify r, rfl⟩
  · exact .inl ⟨.memRead r [], rfl⟩
  · exact .inl ⟨.memWrite r [], rfl⟩
  · exact .inl ⟨.regionSet r, rfl⟩
  · exact .inl ⟨.regionRead r, rfl⟩
  · exact .inl ⟨.spareRow r, rfl⟩
  · exact .inl ⟨.imageErase r, rfl⟩
  · exact .inl ⟨.imageWrite r, rfl⟩
  · exact .inl ⟨.imageVerify r, rfl⟩
  · exact .inl ⟨.imageArm r, rfl⟩
  · exact .inl ⟨.imageConfirm r, rfl⟩
  · exact .inl ⟨.imageInfo r, rfl⟩
  · exact .inl ⟨.bootGo r, rfl⟩
  · exact .inl ⟨.schedLoad r, rfl⟩
  · exact .inl ⟨.schedCommit r, rfl⟩
  · exact .inl ⟨.schedRead r, rfl⟩
  · exact .inl ⟨.kernelLoad r, rfl⟩
  · exact .inl ⟨.kernelInfo r, rfl⟩
  · exact .inl ⟨.trigArm r, rfl⟩
  · exact .inl ⟨.trigForce r, rfl⟩
  · exact .inl ⟨.trigDisarm r, rfl⟩
  · exact .inl ⟨.segmentRead r [], rfl⟩
  · exact .inl ⟨.calRun r, rfl⟩
  · exact .inl ⟨.linkTrain r, rfl⟩
  · exact .inl ⟨.linkStatus r, rfl⟩
  · exact .inl ⟨.rosterLoad r, rfl⟩
  · exact .inl ⟨.rosterRead r, rfl⟩
  · exact .inl ⟨.linkRtt r, rfl⟩
  · exact .inl ⟨.pressJob r [], rfl⟩
  · exact .inl ⟨.pressFlush r [], rfl⟩
  · exact .inl ⟨.timeSet r, rfl⟩
  · exact .inl ⟨.timeRead r, rfl⟩
  · exact .inl ⟨.freqMeasure r, rfl⟩
  · exact .inl ⟨.pulseSet r, rfl⟩
  · exact .inl ⟨.hkSeqLoad r, rfl⟩
  · exact .inl ⟨.hkSeqStart r, rfl⟩
  · exact .inl ⟨.hkRead r, rfl⟩
  · exact .inl ⟨.bistRun r, rfl⟩
  · exact .inl ⟨.testmuxSet r, rfl⟩
  · exact .inr rfl

/-- The part of `kept` that O3 names, component by component. -/
theorem kept_iff (s t : State) : t.kept = s.kept ↔
    t.fuses = s.fuses ∧ t.straps = s.straps ∧ t.window = s.window ∧ t.vatMem = s.vatMem ∧ t.flash = s.flash ∧ t.pending = s.pending := by
  simp only [State.kept, Kept.mk.injEq]

theorem kept_noFlash_iff (s t : State) : t.kept.noFlash = s.kept.noFlash ↔
    t.fuses = s.fuses ∧ t.straps = s.straps ∧ t.window = s.window ∧ t.vatMem = s.vatMem ∧ t.pending = s.pending := by
  simp only [State.kept, Kept.noFlash, Kept.mk.injEq, true_and]

/-- Canonical memory before a command is canonical after it. -/
theorem CmdFrame.memInv {c : Instr} {s t : State} (frame : CmdFrame c s t) (canon : MemInv s) : MemInv t := by
  cases frame with
  | quiet same =>
    obtain ⟨-, -, window, vat, -, -⟩ := (kept_iff s t).mp same
    exact ⟨window ▸ canon.1, vat ▸ canon.2⟩
  | stores _ stored => exact stored.canon canon
  | settles _ stored _ => exact stored.canon canon
  | writes _ same =>
    obtain ⟨-, -, window, vat, -⟩ := (kept_noFlash_iff s t).mp same
    exact ⟨window ▸ canon.1, vat ▸ canon.2⟩

theorem exec_memInv (c : Instr) {s t : State} (canon : MemInv s) (ran : exec c s = .next t) : MemInv t := by
  have frame := exec_frame c s
  rw [ran] at frame
  exact frame.memInv canon

theorem execOpcode_memInv {op : BitVec 12} {r : Req} {s t : State} (canon : MemInv s) (ran : execOpcode op r s = .next t) : MemInv t := by
  obtain ⟨c, command⟩ | plain := execOpcode_command op r s
  · exact exec_memInv c canon (command.symm.trans ran)
  · cases plain.symm.trans ran
    obtain ⟨-, -, window, vat, -, -⟩ := (kept_iff s _).mp (s.runOp_kept op r true yes_kept)
    exact ⟨window ▸ canon.1, vat ▸ canon.2⟩

end Sys2Proof.Machine

namespace Sys2Proof.Claims
open Sys2Proof.Machine

/-- Settles O3: each command's frame, read component by component. -/
theorem everyCommandKeepsWhatItMayNotWrite : Obligations.EveryCommandKeepsWhatItMayNotWrite := by
  intro c s t ran
  have frame := exec_frame c s
  rw [ran, after_next] at frame
  cases frame with
  | quiet same =>
    obtain ⟨fuses, straps, window, vat, flash, pending⟩ := (kept_iff s t).mp same
    exact ⟨⟨fuses, straps, pending⟩, fun _ _ => ⟨window, vat⟩, fun _ => flash⟩
  | stores may stored =>
    exact ⟨⟨stored.fuses, stored.straps, stored.pending⟩, fun quiet => absurd (may.symm.trans quiet) (by decide), fun _ => stored.flash⟩
  | settles may stored quiet =>
    refine ⟨⟨stored.fuses, stored.straps, stored.pending⟩, fun _ settled => ?_, fun _ => stored.flash⟩
    obtain other | settled := settled
    · exact absurd (may.symm.trans other) (by decide)
    · obtain ⟨-, -, window, vat, -, -⟩ := (kept_iff s t).mp (quiet settled)
      exact ⟨window, vat⟩
  | writes may same =>
    obtain ⟨fuses, straps, window, vat, pending⟩ := (kept_noFlash_iff s t).mp same
    exact ⟨⟨fuses, straps, pending⟩, fun _ _ => ⟨window, vat⟩, fun quiet => absurd (may.symm.trans quiet) (by decide)⟩

/-- Settles O4: a step is a command of the queue or of a packet, and each keeps canonical memory canonical. -/
theorem everyStepKeepsMemoryCanonical : Obligations.EveryStepKeepsMemoryCanonical := by
  intro s t canon ran
  rcases pending : s.pending with _ | ⟨c, rest⟩
  · rw [step_of_empty pending] at ran
    rcases next : s.nextCmd with _ | ⟨op, r⟩
    · rw [State.interpret_of_none next] at ran
      cases ran
      exact canon
    · rw [State.interpret_of_some next] at ran
      exact execOpcode_memInv canon ran
  · rw [step_of_front pending] at ran
    exact exec_memInv c (s := { s with pending := rest }) canon ran

end Sys2Proof.Claims
end

section
/-!
SUPPORT. How an accepted command ends, what a plain register write leaves, and the walks of the block commands, with the statements on
registers (R109, R110, R418).
-/
open Sys2Proof

namespace Sys2Proof.Machine

-- registers ------------------------------------------------------------------------------------------------------------------------------

/-- A register's value and what waits for its tick rest on the register maps, on the boot and on the fuses. -/
theorem State.regW_congr (s t : State) (q : Reg) (hc : t.csr = s.csr) (hb : t.boot.passed = s.boot.passed) (hf : t.fuses = s.fuses) :
    t.regW q = s.regW q := by
  simp only [State.regW, hc, State.reg_congr s t q (by rw [hc]) hb hf]

theorem and_not_zero (x : Word) : x &&& ~~~(0 : Word) = x := by
  change x &&& ~~~0#32 = x
  rw [BitVec.not_zero, BitVec.and_allOnes]

theorem and_zero (x : Word) : x &&& 0 = 0 := BitVec.and_zero

theorem or_zero (x : Word) : x ||| 0 = x := BitVec.or_zero

/-- Setting a register keeps every register with another key. -/
theorem State.reg_setReg_of_ne (s : State) {p q : Reg} (v : Word) (h : p.key ≠ q.key) : (s.setReg q v).reg p = s.reg p := by
  simp [State.reg, State.find_setReg s p q v h, State.resetIn_congr s (s.setReg q v) p (by simp) (by simp)]

theorem State.regW_setReg_of_ne (s : State) {p q : Reg} (v : Word) (h : p.key ≠ q.key) : (s.setReg q v).regW p = s.regW p := by
  simp only [State.regW, State.reg_setReg_of_ne s v h]
  simp [State.setReg]

@[simp] theorem State.reg_pendReg (s : State) (p q : Reg) (v : Word) : (s.pendReg q v).reg p = s.reg p :=
  State.reg_congr s _ p rfl rfl rfl

@[simp] theorem State.regW_pendReg (s : State) (q : Reg) (v : Word) : (s.pendReg q v).regW q = v := by
  simp [State.regW, State.pendReg, SMap.find_put]

theorem State.regW_pendReg_of_ne (s : State) {p q : Reg} (v : Word) (h : p.key ≠ q.key) : (s.pendReg q v).regW p = s.regW p := by
  have stored : (s.pendReg q v).reg p = s.reg p := s.reg_pendReg p q v
  simp only [State.regW, stored]
  simp [State.pendReg, SMap.find_put, h]

/-- Outside a replay an action always takes place, under the next tag of its block. -/
theorem State.action_of_not_replaying {s : State} (block : Nat) (f : State → State) (fresh : s.pair.replaying = false) :
    s.action block f = f { s with pair := { s.pair with
      pushTag := s.pair.pushTag + 1, lastTag := SMap.set 0 s.pair.lastTag block (s.pair.pushTag + 1) } } := by
  simp [State.action, State.replayed, fresh]

/-- Outside a replay the W1C bits of a mask clear in their register. -/
theorem State.reg_clearBits {s : State} (q : Reg) (m : Word) (fresh : s.pair.replaying = false) :
    (s.clearBits q m).reg q = s.reg q &&& ~~~m := by
  unfold State.clearBits
  split
  · next h => rw [h, and_not_zero]
  · rw [State.action_of_not_replaying _ _ fresh, State.reg_setReg]
    exact congrArg (· &&& ~~~m) (State.reg_congr s _ q rfl rfl rfl)

theorem State.reg_clearBits_of_ne {s : State} {p q : Reg} (m : Word) (fresh : s.pair.replaying = false) (h : p.key ≠ q.key) :
    (s.clearBits q m).reg p = s.reg p ∧ (s.clearBits q m).regW p = s.regW p := by
  unfold State.clearBits
  split
  · exact ⟨rfl, rfl⟩
  · rw [State.action_of_not_replaying _ _ fresh]
    exact ⟨(State.reg_setReg_of_ne _ _ h).trans (State.reg_congr s _ p rfl rfl rfl),
      (State.regW_setReg_of_ne _ _ h).trans (State.regW_congr s _ p rfl rfl rfl)⟩

end Sys2Proof.Machine

namespace Sys2Proof.Claims
open Sys2Proof.Machine

/-- Settles O8: the three parts of a plain write, each with its rule on the written register and on the others. -/
theorem plainWritesFollowTheAccessCodes : Obligations.PlainWritesFollowTheAccessCodes := by
  intro q v s
  refine ⟨fun noW1c noRwf => ?_, fun noW1c noRw isRwf => ?_, fun noRw noRwf fresh => ?_, fun p other fresh => ?_⟩
  · simp only [State.writePlain, noW1c, noRwf, if_true]
    split
    · next noRw => simp only [noRw, and_not_zero, and_zero, or_zero]
    · exact State.reg_setReg _ _ _
  · simp only [State.writePlain, noW1c, noRw, if_neg isRwf, if_true]
    exact ⟨State.regW_pendReg s q _, State.reg_pendReg s q q _⟩
  · simp only [State.writePlain, noRw, noRwf, if_true]
    split
    · next noW1c => simp only [noW1c, and_zero, and_not_zero]
    · exact State.reg_clearBits q _ fresh
  · have cleared : (if q.info.w1c = 0 then s else s.clearBits q (v &&& q.info.w1c)).reg p = s.reg p ∧
        (if q.info.w1c = 0 then s else s.clearBits q (v &&& q.info.w1c)).regW p = s.regW p := by
      split
      · exact ⟨rfl, rfl⟩
      · exact State.reg_clearBits_of_ne _ fresh other
    simp only [State.writePlain]
    generalize (if q.info.w1c = 0 then s else s.clearBits q (v &&& q.info.w1c)) = t at cleared
    split <;> split <;> simp [cleared, State.reg_setReg_of_ne _ _ other, State.regW_setReg_of_ne _ _ other, State.regW_pendReg_of_ne _ _ other]

end Sys2Proof.Claims

namespace Sys2Proof.Claims
open Sys2Proof.Machine

-- accepted commands ----------------------------------------------------------------------------------------------------------------------

/-- An accepted command that answers ends with that answer. -/
theorem runOp_of_answer {s t : State} {op : BitVec 12} {r : Req} {tie : Bool} {body : State → State × Option Answer} {a : Answer}
    (acc : Accepts s op r tie) (answers : body (s.startCmd op r) = (t, some a)) : s.runOp op r tie body = ran op r a t := by
  obtain ⟨hears, turn, gate⟩ := acc
  rw [State.runOp_passes s op r tie body hears turn gate, answers, ran]

/-- An accepted command that answers later ends without one. -/
theorem runOp_of_silent {s t : State} {op : BitVec 12} {r : Req} {tie : Bool} {body : State → State × Option Answer}
    (acc : Accepts s op r tie) (silent : body (s.startCmd op r) = (t, none)) : s.runOp op r tie body = t.endCmd true := by
  obtain ⟨hears, turn, gate⟩ := acc
  rw [State.runOp_passes s op r tie body hears turn gate, silent]

theorem not_minimal_of_readable {s : State} {a : Nat} {q : Reg} (h : Readable s a q) : ¬ (s.boot.state ≠ 1 ∧ rindAddr a = false) := by
  obtain ⟨mode, -, -⟩ := h
  rintro ⟨noFirmware, noRind⟩
  exact mode.elim noFirmware (by simp [noRind])

/-- A write to a writable register is a plain write, answered OK. -/
theorem writeAt_of_writable {s : State} {port a : Nat} {q : Reg} {v : Word} (h : Writable s port a q v) :
    s.writeAt port a v = (s.writePlain q v, .ok) := by
  obtain ⟨readable, cls, running, plain, protected_⟩ := h
  have keeper : (keeperOnly a && decide ((s.port port).cls ≠ 2)) = false := by
    cases only : keeperOnly a
    · rfl
    · simp [cls only]
  obtain ⟨-, here, released⟩ := id readable
  simp only [State.writeAt, if_neg (not_minimal_of_readable readable), keeper, here, released, running, plain, guarded, protected_,
    Bool.not_true, Bool.false_eq_true, if_false, if_true]

/-- A walk over `n` readable registers reads them in order. -/
theorem readMany_of_readable {port stride : Nat} (n : Nat) : ∀ (a : Nat) (f : Nat → State) (g : Nat → Reg),
    (∀ k, k < n → Readable (f k) (a + k * stride) (g k) ∧ f (k + 1) = readState (f k) port (g k)) →
    (f 0).readMany port a stride n = (f n, .ok, (List.range n).map fun k => (f k).readValue (g k)) := by
  induction n with
  | zero => intro a f g h; rfl
  | succ n ih =>
    intro a f g h
    obtain ⟨first, next⟩ := h 0 (by omega)
    have rest := ih (a + stride) (fun k => f (k + 1)) (fun k => g (k + 1)) fun k hk => by
      obtain ⟨readable, step⟩ := h (k + 1) (by omega)
      exact ⟨by rwa [show a + stride + k * stride = a + (k + 1) * stride by rw [Nat.add_mul]; omega], step⟩
    rw [Nat.zero_mul, Nat.add_zero] at first
    simp only [State.readMany, readAt_of_readable (f 0) port a (g 0) first, if_true, ← next, rest, List.range_succ_eq_map, List.map_cons,
      List.map_map, Function.comp_def, Nat.succ_eq_add_one]

/-- A walk over writable registers writes them in order. -/
theorem writeMany_of_writable {port stride : Nat} (vs : List Word) : ∀ (a : Nat) (f : Nat → State) (g : Nat → Reg),
    (∀ k, k < vs.length → Writable (f k) port (a + k * stride) (g k) (vs.getD k 0) ∧ f (k + 1) = (f k).writePlain (g k) (vs.getD k 0)) →
    (f 0).writeMany port a stride vs = (f vs.length, .ok, vs.length) := by
  induction vs with
  | nil => intro a f g h; rfl
  | cons v vs ih =>
    intro a f g h
    obtain ⟨first, next⟩ := h 0 (by simp)
    have rest := ih (a + stride) (fun k => f (k + 1)) (fun k => g (k + 1)) fun k hk => by
      obtain ⟨writable, step⟩ := h (k + 1) (by simpa using hk)
      rw [List.getD_cons_succ] at writable step
      exact ⟨by rwa [show a + stride + k * stride = a + (k + 1) * stride by rw [Nat.add_mul]; omega], step⟩
    rw [Nat.zero_mul, Nat.add_zero, List.getD_cons_zero] at first
    rw [List.getD_cons_zero] at next
    simp only [State.writeMany, writeAt_of_writable first, if_true, ← next, rest, List.length_cons]

end Sys2Proof.Claims
end

section
/-!
SUPPORT. The register commands and reads of the ports, with the statements on them (R109, R110, R415, R418).
-/
open Sys2Proof

namespace Sys2Proof.Claims
open Sys2Proof.Machine

/-- The words of a block write are the payload past its address. -/
theorem getD_drop_one (l : List Word) (k : Nat) : (l.drop 1).getD k 0 = l.getD (k + 1) 0 := by
  simp [List.getD_eq_getElem?_getD]

theorem exec_registerWrite {s : State} {port : Nat} (addr value : Word) (can : canWriteRom s port = true) :
    exec (.registerWrite port addr value) s = .next (s.writeAt port addr.toNat value).1 :=
  congrArg Host.Outcome.next (if_pos can)

theorem exec_csrWrite {r : Req} {s t : State} {st : Status} (acc : Accepts s 0x101 r true)
    (written : (s.startCmd 0x101 r).writeAt r.port (r.w 0).toNat (r.w 1) = (t, st)) :
    exec (.csrWrite r) s = .next (ran 0x101 r { status := st } t) :=
  congrArg Host.Outcome.next (runOp_of_answer acc (by simp only [written, no]))

theorem exec_csrRead {r : Req} {s t : State} {v : Word} (acc : Accepts s 0x100 r true)
    (read : (s.startCmd 0x100 r).readAt r.port (r.w 0).toNat = (t, .ok, v)) :
    exec (.csrRead r) s = .next (ran 0x100 r { status := .ok, payload := [v] } t) :=
  congrArg Host.Outcome.next (runOp_of_answer acc (by simp only [read, Machine.tell, if_true]))

theorem exec_csrReadBlock {r : Req} {s t : State} {st : Status} {vs : List Word} (acc : Accepts s 0x102 r true) (low : 1 ≤ r.p 8 0)
    (high : r.p 8 0 ≤ 256)
    (read : (s.startCmd 0x102 r).readMany r.port (r.w 0).toNat (if r.p 9 9 = 1 then 0 else 4) (r.p 8 0) = (t, st, vs)) :
    exec (.csrReadBlock r) s = .next (ran 0x102 r { status := st, param := vs.length, payload := vs } t) :=
  congrArg Host.Outcome.next (runOp_of_answer acc (by
    have inRange : ¬ (r.p 8 0 = 0 ∨ 256 < r.p 8 0) := by omega
    simp only [if_neg inRange, read]))

theorem exec_csrWriteBlock {r : Req} {s t : State} {st : Status} {n : Nat} (acc : Accepts s 0x103 r (decide (r.len = r.p 8 0 + 1)))
    (written : (s.startCmd 0x103 r).writeMany r.port (r.w 0).toNat (if r.p 9 9 = 1 then 0 else 4) (r.payload.drop 1) = (t, st, n)) :
    exec (.csrWriteBlock r) s = .next (ran 0x103 r { status := st, param := n } t) :=
  congrArg Host.Outcome.next (runOp_of_answer acc (by simp only [written]))

/-- The word that CSR_MODIFY writes: the old value outside the mask, without the bits that act, and the operand inside it. -/
def modified (r : Req) (q : Reg) (old : Word) : Word := (old &&& ~~~(r.w 1) &&& ~~~(actionBits q)) ||| (r.w 2 &&& r.w 1)

theorem exec_csrModify {r : Req} {s t u : State} {q : Reg} {old : Word} (acc : Accepts s 0x104 r true)
    (here : (s.startCmd 0x104 r).regHere (r.w 0).toNat = some q)
    (read : (s.startCmd 0x104 r).readAt r.port (r.w 0).toNat = (u, .ok, old))
    (written : (((s.startCmd 0x104 r).latchOf q).drawFor q).writeAt r.port (r.w 0).toNat (modified r q old) = (t, .ok)) :
    exec (.csrModify r) s = .next (ran 0x104 r { status := .ok, payload := [old, modified r q old] } t) :=
  congrArg Host.Outcome.next (runOp_of_answer acc (by
    unfold modified at written ⊢
    simp only [read, here, written, Machine.tell, ne_eq, not_true_eq_false, if_false, if_true]))

/-- A block write is accepted only with as many words as it says. -/
theorem len_of_accepts {s : State} {op : BitVec 12} {r : Req} {tie : Bool} (acc : Accepts s op r tie) : tie = true := by
  obtain ⟨-, -, gate⟩ := acc
  cases tie
  · simp only [State.gate, Bool.not_false, Bool.or_true, if_true] at gate
    split at gate
    · exact nomatch gate
    · split at gate <;> exact nomatch gate
  · rfl

/-- Settles O9: each command is its walk of accesses, and a walk of readable or writable registers is computed register by register. -/
theorem registerCommandsWriteAndRead : Obligations.RegisterCommandsWriteAndRead := by
  refine ⟨fun r q s u => ⟨fun port addr value can writable => ?_, fun acc start writable => ?_, fun acc start readable => ?_,
    fun n f g acc count low high start walk => ?_, fun n f g acc count start walk => ?_, fun v acc start readable value writable => ?_⟩,
    fun r s => ⟨fun port addr value can => exec_registerWrite addr value can, fun acc t st => exec_csrWrite acc,
      fun acc t v => exec_csrRead acc, fun acc low high t st vs => exec_csrReadBlock acc low high, fun acc t st n => exec_csrWriteBlock acc,
      fun acc q old t u here read written => exec_csrModify acc here read written⟩⟩
  · rw [exec_registerWrite addr value can, writeAt_of_writable writable]
  · subst start
    exact exec_csrWrite acc (writeAt_of_writable writable)
  · subst start
    exact exec_csrRead acc (readAt_of_readable _ _ _ q readable)
  · subst count
    rw [exec_csrReadBlock acc low high (start ▸ readMany_of_readable _ _ f g walk)]
    simp
  · have words : (r.payload.drop 1).length = n := by
      have len : r.payload.length = r.p 8 0 + 1 := of_decide_eq_true (len_of_accepts acc)
      simp [len, count]
    rw [← words] at walk
    rw [exec_csrWriteBlock acc (start ▸ writeMany_of_writable (r.payload.drop 1) _ f g fun k hk => by
      rw [getD_drop_one]
      exact walk k hk), words]
  · subst start value
    exact exec_csrModify acc readable.2.1 (readAt_of_readable _ _ _ q readable) (writeAt_of_writable writable)

/-- Settles O10: each check of a register write answers before the write. -/
theorem refusedRegisterWritesChangeNothing : Obligations.RefusedRegisterWritesChangeNothing := by
  intro s port a v firmware
  have notMinimal : ¬ (s.boot.state ≠ 1 ∧ rindAddr a = false) := fun h => h.1 firmware
  refine ⟨fun keeper lower => ?_, fun free none_ => ?_, fun q st free here stopped refused => ?_,
    fun q st free here released running refused => ?_⟩
  · simp only [State.writeAt, if_neg notMinimal, keeper, lower, Bool.true_and, ne_eq, not_false_eq_true, decide_true, if_true]
  · simp only [State.writeAt, if_neg notMinimal, free, none_, Bool.false_and, Bool.false_eq_true, if_false]
  · simp only [State.writeAt, if_neg notMinimal, free, here, stopped, refused, Bool.false_and, Bool.false_eq_true, if_false, Bool.not_false,
      if_true]
    cases st <;> rfl
  · simp only [State.writeAt, if_neg notMinimal, free, here, released, running, refused, guarded, Bool.false_and, Bool.false_eq_true,
      Bool.not_true, if_false]

/-- Settles O12: each read is its latches, and what it drops but on an Observer port. -/
theorem readsLatchAndPop : Obligations.ReadsLatchAndPop := by
  intro port n addr s
  refine ⟨fun q here serving released firmware => ?_, fun serving serves => exec_rcRead_of_serves port addr s serving serves,
    fun reads low => ?_, fun reads => congrArg Host.Outcome.next (if_pos reads), fun reads => congrArg Host.Outcome.next (if_pos reads)⟩
  · have arm : exec (.snapshotRead addr) s = execSnapshotRead addr s := rfl
    simp [arm, execSnapshotRead, here, serving, released, firmware]
  · exact congrArg Host.Outcome.next (if_pos (by simp [reads, low]))

/-- The counters that a clear keeps are those of the blocks that it does not name. -/
theorem find_filter_keys {α : Type} (p : Nat → Bool) (a : Nat) (l : SMap α) :
    SMap.find (l.filter fun c => p c.1) a = if p a then SMap.find l a else none := by
  induction l with
  | nil => simp [SMap.find]
  | cons c cs ih =>
    obtain ⟨k, v⟩ := c
    by_cases keep : p k <;> by_cases same : k = a <;> simp_all [SMap.find]

theorem ite_lt {c : Prop} [Decidable c] {x y n : Nat} (hx : x < n) (hy : y < n) : (if c then x else y) < n := by
  split <;> assumption

theorem blockOf_lt (a : Nat) : blockOf a < 20 := by
  unfold blockOf
  repeat' apply ite_lt
  all_goals decide

/-- A clear whose mask names no block hits no counter. -/
theorem getLsbD_blockOf_of_low_zero {v : Word} (low : v &&& 0xFFFFF = 0) (a : Nat) : v.getLsbD (blockOf a) = false := by
  have bit : ∀ i : Fin 20, (0xFFFFF : Word).getLsbD i = true := by decide
  have cleared := congrArg (·.getLsbD (blockOf a)) low
  rw [BitVec.getLsbD_and, bit ⟨blockOf a, blockOf_lt a⟩, Bool.and_true] at cleared
  exact cleared.trans BitVec.getLsbD_zero

theorem cnt_wrCntClear {s : State} (v : Word) (fresh : s.pair.replaying = false) (a : Nat) :
    (wrCntClear s v).cnt a = if v.getLsbD (blockOf a) then {} else s.cnt a := by
  unfold wrCntClear
  split
  · next low => simp [getLsbD_blockOf_of_low_zero low a]
  · rw [State.action_of_not_replaying _ _ fresh]
    simp only [State.cnt, SMap.get_eq_find, find_filter_keys (fun a => !v.getLsbD (blockOf a))]
    cases v.getLsbD (blockOf a) <;> simp

theorem wrCntClear_frame {s : State} (v : Word) (fresh : s.pair.replaying = false) :
    (wrCntClear s v).csr.inForce = s.csr.inForce ∧ (wrCntClear s v).ports = s.ports := by
  unfold wrCntClear
  split
  · exact ⟨rfl, rfl⟩
  · rw [State.action_of_not_replaying _ _ fresh]
    exact ⟨rfl, rfl⟩

/-- Settles O13: the action writes, each with its guard open. -/
theorem actionWritesHaveTheirEffect : Obligations.ActionWritesHaveTheirEffect := by
  intro port value r s
  refine ⟨fun can fresh => ⟨_, congrArg Host.Outcome.next (if_pos can), cnt_wrCntClear value fresh, wrCntClear_frame value fresh⟩,
    fun can firmware fresh => ⟨_, congrArg Host.Outcome.next (if_pos can), ?_⟩,
    fun can development role unscheduled noCommit noPath idle notFollower protected_ => ?_, fun q acc here released stops firmware free => ?_⟩
  · rw [State.clearLog, State.action_of_not_replaying _ _ fresh]
    exact ⟨rfl, rfl⟩
  · have isRole : (value &&& 3 == 0) = false := by simpa using role
    have arm : exec (.activeRoleWrite port value) s = execActiveRoleWrite port value s := rfl
    have written : wrRole s value = .ok (s.setReg .idRole (value &&& 3)) := by
      simp only [wrRole, isRole, rangeThen, stateThen, unscheduled, noCommit, noPath, idle, notFollower, development]
      rfl
    simp only [arm, execActiveRoleWrite, can, written, guarded, protected_, writeOr, if_true]
  · have stopped : (decide (s.boot.state = 1) &&
        (match s.regHere (r.w 0).toNat with | some q => s.rel (accessStep (r.w 0).toNat) && cdcStops s q | none => false)) = true := by
      simp [firmware, here, released, stops]
    have arm : exec (.cdcTimeout r) s = execCdcTimeout r s := rfl
    rw [arm, execCdcTimeout]
    simp only [here, released, stops, firmware, decide_true, Bool.and_self, Bool.not_true, Bool.false_eq_true, if_false]
    exact congrArg Host.Outcome.next (runOp_of_answer acc (by simp [free, no]))

end Sys2Proof.Claims
end

section
/-!
SUPPORT. The checks of R105 on an opcode, with the statement on their order.
-/
open Sys2Proof

namespace Sys2Proof.Claims
open Sys2Proof.Machine

/-- A command that is an opcode runs its body behind the checks of its row. -/
theorem exec_of_opcodeRow {c : Instr} {op : BitVec 12} {r : Req} {tie : Bool} (row : opcodeRow c = some (op, r, tie)) :
    ∃ body : State → State × Option Answer, ∀ s, exec c s = .next (s.runOp op r tie body) := by
  cases c <;> cases row <;> exact ⟨_, fun _ => rfl⟩

theorem bcastOk_of_hears {s : State} {op : BitVec 12} {r : Req} (hears : s.hears op r = true) : bcastOk op.toNat r = true := by
  simp only [State.hears, Bool.and_eq_true] at hears
  exact hears.2

/-- A command heard out of its turn enters a queue that has room. -/
theorem runOp_of_waiting {s : State} {op : BitVec 12} {r : Req} (tie : Bool) (body : State → State × Option Answer)
    (hears : s.hears op r = true) (turn : s.turn op r = false) (notNext : s.nextCmd ≠ some (op, r)) (notWaiting : (op, r) ∉ s.ports.queue)
    (room : s.ports.queue.length < 64) :
    s.runOp op r tie body = { s with ports := { s.ports with queue := s.ports.queue ++ [(op, r)] } } := by
  rw [State.runOp_waits s op r tie body hears turn]
  simp [notNext, notWaiting, State.enqueue, bcastOk_of_hears hears, Nat.not_le.mpr room]

/-- The checks past the minimal mode and the opcode's row. -/
theorem gate_of_row {s : State} {op : Nat} {r : Req} {i : OpInfo} (tie : Bool) (served : s.served op r = true) (row : opInfo op = some i) :
    s.gate op r tie = if (decide (r.len < i.lo ∨ i.hi < r.len) || !tie) = true then some .badLength
      else if (!s.classAdmits op i r) = true then some .classRefused
      else if s.roleStops op r = true then some .stateRefused else none := by
  simp only [State.gate, served, row, Bool.not_true, Bool.false_eq_true, if_false]

/-- Settles O14: the checks in their order, and what a command refused or too early does. -/
theorem checksAreMadeInOrderAndRefusedCommandsOnlyReply : Obligations.ChecksAreMadeInOrderAndRefusedCommandsOnlyReply := by
  refine ⟨fun c op r tie s row hears => ?_, fun s op r tie => ⟨fun minimal => ?_, fun served none_ => ?_, fun i served row bad => ?_,
    fun i served row low high tied refused => ?_, fun i served row low high tied admitted => ?_⟩⟩
  · obtain ⟨body, runs⟩ := exec_of_opcodeRow row
    rw [runs]
    exact ⟨fun st turn gate => congrArg _ (State.runOp_refused s op r tie body st hears turn gate),
      fun turn notNext notWaiting room => congrArg _ (runOp_of_waiting tie body hears turn notNext notWaiting room)⟩
  · simp [State.gate, minimal]
  · simp [State.gate, served, none_]
  · have wrong : (decide (r.len < i.lo ∨ i.hi < r.len) || !tie) = true := by
      rcases bad with low | high | untied <;> simp [*]
    rw [gate_of_row tie served row, if_pos wrong]
  · rw [gate_of_row tie served row]
    simp [Nat.not_lt.mpr low, Nat.not_lt.mpr high, tied, refused]
  · rw [gate_of_row tie served row]
    simp [Nat.not_lt.mpr low, Nat.not_lt.mpr high, tied, admitted]

end Sys2Proof.Claims
end

section
/-!
SUPPORT. What the ports take in and hand out, and the system commands, with the statements on them (R100 to R118).
-/
open Sys2Proof

namespace Sys2Proof.Machine

/-- The port record that a write leaves, at the port written and at the others. -/
theorem State.port_setPort (s : State) (p i : Nat) (q : Port) : (s.setPort p q).port i = if i = p then q else s.port i := by
  simp [State.port, State.setPort, SMap.get_set]

@[simp] theorem State.port_setPort_same (s : State) (p : Nat) (q : Port) : (s.setPort p q).port p = q := by
  simp [State.port_setPort]

/-- A packet that passes checks 1 to 3, names this device and finds room enters the queue (R105). -/
theorem State.takePacket_enters {s : State} {port lane : Nat} {ws : List Word} {op : BitVec 12} {r : Req}
    (kind : fld (ws.getD 0 0) 31 28 = 5) (least : 5 ≤ ws.length) (crc : crcWords ws.dropLast = ws.getLastD 0)
    (length : ws.length = fld (ws.getD 1 0) 31 16 + 5) (most : fld (ws.getD 1 0) 31 16 ≤ 1026) (node : r.node = s.ports.nodeId)
    (here : chainEnumerate op r = false) (room : s.ports.queue.length < 64) (bcast : bcastOk op.toNat r = true)
    (request : reqOf port lane ws = (op, r)) :
    s.takePacket port lane ws = { s with ports := { s.ports with queue := s.ports.queue ++ [(op, r)] } } := by
  have sound : ¬ (ws.length < 5 ∨ crcWords ws.dropLast ≠ ws.getLastD 0) := by simp [crc, Nat.not_lt.mpr least]
  have sized : ¬ (ws.length ≠ fld (ws.getD 1 0) 31 16 + 5 ∨ 1026 < fld (ws.getD 1 0) 31 16) := by omega
  have stays : ((port == 0 || port == 1 || port == 4) && (chainEnumerate op r || (r.node != s.ports.nodeId && r.node != 0))) = false := by
    simp [here, node]
  have admitted : s.admits op r = true := by simp [State.admits, here, node]
  simp only [State.takePacket, request, if_neg sound, if_neg sized, kind, stays, ne_eq, not_true_eq_false, if_false, Bool.false_and,
    Bool.false_eq_true, admitted, if_true]
  simp [State.enqueue, bcast, Nat.not_le.mpr room]

end Sys2Proof.Machine

namespace Sys2Proof.Claims
open Sys2Proof.Machine

/-- Settles O16: from each of the three ways a good packet is taken whole, and then enters. -/
theorem goodPacketsEnterTheQueue : Obligations.GoodPacketsEnterTheQueue := by
  intro port lane ws w op r s up kind least crc length most node here room bcast
  refine ⟨fun isPort serves request => ?_, fun place request => ?_, fun ir words place request => ?_⟩
  · exact congrArg Host.Outcome.next ((if_pos (by simp [up, isPort, serves])).trans
      (State.takePacket_enters kind least crc length most node here room bcast request))
  · have arm : exec (.mgmtWrite ws) s = execMgmtWrite ws s := rfl
    rw [arm, execMgmtWrite, State.takePacket_enters kind least crc length most node here room bcast request]
    simp [up, Nat.not_le.mpr place]
  · have arm : exec (.cmdDataUpdate true w) s = execCmdDataUpdate true w s := rfl
    have whole : ¬ (ws.length < 2 ∨ ws.length < fld (ws.getD 1 0) 31 16 + 5) := by omega
    have opened : ¬ (s.test.ir ≠ 0x20 ∨ s.portUp = false ∨ true = false) := by simp [ir, up]
    have space : ¬ 16 ≤ (({ s with ports := { s.ports with jtagRx := [] } } : State).port 1).replies.length := Nat.not_le.mpr place
    have taken := State.takePacket_enters (s := { s with ports := { s.ports with jtagRx := [] } }) kind least crc length most node here room
      bcast request
    simp only [arm, execCmdDataUpdate, words, if_neg opened, if_neg whole, if_neg space, taken]

-- the ports hand out ---------------------------------------------------------------------------------------------------------------------

theorem front_of_reply {s : State} {p : Nat} {ws : List Word} {rest : List (List Word)} (waits : (s.port p).replies = ws :: rest)
    (fresh : (s.port p).begun = false) : (s.port p).atNotice = false ∧ s.front p = some ws := by
  have reply : (s.port p).atNotice = false := by simp [Port.atNotice, fresh, waits]
  exact ⟨reply, by simp [State.front, reply, waits]⟩

theorem front_of_notice {s : State} {p : Nat} {m : Notice} {ms : List Notice} (waits : (s.port p).notices = m :: ms)
    (none_ : (s.port p).replies = []) : (s.port p).atNotice = true ∧ s.front p = some (noticeWords s.ports.nodeId m) := by
  have notice : (s.port p).atNotice = true := by simp [Port.atNotice, none_, waits]
  exact ⟨notice, by simp [State.front, notice, waits]⟩

/-- A READ that completes shifts out what is in front and drops it. -/
theorem exec_mgmtRead_complete {s : State} {ws : List Word} (up : s.portUp = true) (front : s.front 0 = some ws) :
    exec (.mgmtRead true) s = .next (({ s with out := s.out ++ [.spi ws] } : State).dropFront 0) := by
  have arm : exec (.mgmtRead true) s = execMgmtRead true s := rfl
  simp only [arm, execMgmtRead, up, front, Bool.not_true, Bool.false_eq_true, if_false, if_true]

/-- A READ that is cut short shifts out what is in front without its trailer and keeps it. -/
theorem exec_mgmtRead_cut {s : State} {ws : List Word} (up : s.portUp = true) (front : s.front 0 = some ws) :
    exec (.mgmtRead false) s = .next (({ s with out := s.out ++ [.spi ws.dropLast] } : State).setPort 0
      { s.port 0 with begun := (s.port 0).atNotice }) := by
  have arm : exec (.mgmtRead false) s = execMgmtRead false s := rfl
  simp only [arm, execMgmtRead, up, front, Bool.not_true, Bool.false_eq_true, if_false]

theorem exec_mgmtRead_empty {s : State} (up : s.portUp = true) (front : s.front 0 = none) :
    exec (.mgmtRead true) s = .next { s with out := s.out ++ [.spi [0]] } := by
  have arm : exec (.mgmtRead true) s = execMgmtRead true s := rfl
  simp only [arm, execMgmtRead, up, front, Bool.not_true, Bool.false_eq_true, if_false]

/-- The layout of MGMT_STATUS (R111). -/
theorem mgmtStatus_layout : ∀ (n : Fin 17) (reply notice lost : Bool),
    let b := BitVec.ofNat 8 ((if reply then 0x80 else 0) + (if notice then 0x40 else 0) + (if lost then 0x20 else 0) + n.val)
    b.getLsbD 7 = reply ∧ b.toNat % 32 = n.val ∧ b.getLsbD 6 = notice ∧ b.getLsbD 5 = lost := by
  decide

theorem exec_mgmtStatus {s : State} (up : s.portUp = true) : exec .mgmtStatus s =
    .next (({ s with out := s.out ++ [.spiStatus (BitVec.ofNat 8 ((if decide ((s.port 0).replies ≠ []) then 0x80 else 0) +
      (if decide ((s.port 0).notices ≠ []) then 0x40 else 0) + (if (s.port 0).discarded then 0x20 else 0) +
      (s.port 0).replies.length))] } : State).setPort 0 { s.port 0 with discarded := false }) := by
  have arm : exec .mgmtStatus s = execMgmtStatus s := rfl
  simp only [arm, execMgmtStatus, up, Bool.not_true, Bool.false_eq_true, if_false, decide_eq_true_eq, ite_not]

/-- CMD_DATA gives the first word of the oldest reply, and the reply waits for the rest. -/
theorem exec_cmdDataCapture_first {s : State} {ws : List Word} {rest : List (List Word)} (up : s.portUp = true) (ir : s.test.ir = 0x20)
    (start : s.ports.jtagTx = 0) (waits : (s.port 1).replies = ws :: rest) (long : 1 < ws.length) :
    exec .cmdDataCapture s = .next { s with
      out := s.out ++ [.jtag true (ws.getD 0 0)], ports := { s.ports with jtagTx := 1, jtagNotice := false } } := by
  have arm : exec .cmdDataCapture s = execCmdDataCapture s := rfl
  simp [arm, execCmdDataCapture, ir, up, start, waits, long]

/-- Settles O17: each way out of a port, with what is in front of it. -/
theorem portsHandOutWhatWaits : Obligations.PortsHandOutWhatWaits := by
  intro s ws rest up
  refine ⟨fun waits fresh => ?_, fun m ms waits none_ => ?_, fun none_ silent => ?_, fun few => ?_, fun ir waits start long => ?_,
    fun tag node => ⟨_, rfl, rfl, rfl, rfl⟩⟩
  · obtain ⟨reply, front⟩ := front_of_reply waits fresh
    refine ⟨?_, fun early => ?_, _, exec_mgmtRead_cut up front, rfl, ?_, rfl⟩
    · rw [exec_mgmtRead_complete up front]
      simp only [State.dropFront, State.port] at reply ⊢
      simp only [reply, Bool.false_eq_true, if_false]
    · simp [Port.dropReply, waits, early]
    · simp [reply, ← fresh]
  · obtain ⟨notice, front⟩ := front_of_notice waits none_
    refine ⟨⟨_, exec_mgmtRead_cut up front, rfl, by simp [notice]⟩, _, exec_mgmtRead_complete up front, rfl, ?_⟩
    have atNotice : (({ s with out := s.out ++ [.spi (noticeWords s.ports.nodeId m)] } : State).port 0).atNotice = true := notice
    have notices : (({ s with out := s.out ++ [.spi (noticeWords s.ports.nodeId m)] } : State).port 0).notices = m :: ms := waits
    simp only [State.dropFront, atNotice, if_true, notices, State.port_setPort_same, List.drop_succ_cons, List.drop_zero]
    rfl
  · exact exec_mgmtRead_empty up (by simp [State.front, Port.atNotice, none_, silent])
  · obtain ⟨reply, count, notice, lost⟩ := mgmtStatus_layout ⟨(s.port 0).replies.length, by omega⟩ (decide ((s.port 0).replies ≠ []))
      (decide ((s.port 0).notices ≠ [])) (s.port 0).discarded
    exact ⟨_, _, exec_mgmtStatus up, rfl, reply, count, notice, lost, by simp, by simp, rfl⟩
  · exact ⟨_, exec_cmdDataCapture_first up ir start waits long, rfl, rfl, waits⟩

-- system commands ------------------------------------------------------------------------------------------------------------------------

/-- What starts a command on a port whose last one was not interrupted: its request leaves the queue. -/
theorem startCmd_of_fresh {s : State} {op : BitVec 12} {r : Req} (fresh : s.pair.interrupted = none) :
    (s.startCmd op r).pair.replaying = false ∧ (s.startCmd op r).ports = { s.ports with queue := s.ports.queue.drop 1 } := by
  simp [State.startCmd, fresh]

/-- The end of a command that is no replay changes nothing. -/
theorem endCmd_of_not_replaying {s : State} (wrote : Bool) (fresh : s.pair.replaying = false) : s.endCmd wrote = s := by
  simp [State.endCmd, fresh]

theorem gate_of_accepts {s : State} {op : BitVec 12} {r : Req} {tie : Bool} (acc : Accepts s op r tie) : s.pair.gate = true := by
  obtain ⟨-, turn, -⟩ := acc
  simp only [State.turn, Bool.and_eq_true] at turn
  exact turn.1

/-- With the output gate open a reply to port 0 or 1 waits there. -/
theorem deliver_local {s : State} {port lane : Nat} {tag : BitVec 16} {ws : List Word} (open_ : s.pair.gate = true) (local_ : port < 2) :
    s.deliver port lane tag ws = s.setPort port ((s.port port).putReply ws) := by
  obtain rfl | rfl : port = 0 ∨ port = 1 := by omega
  all_goals simp [State.deliver, open_, State.deliverNow]

/-- On port 0 or 1 an answer other than CLASS_REFUSED, to a request that asks for it, waits there. -/
theorem ran_local {op : BitVec 12} {r : Req} {a : Answer} {u : State} (fresh : u.pair.replaying = false) (open_ : u.pair.gate = true)
    (local_ : r.port < 2) (single : r.broadcast = false) (acked : r.noAck = false) (admitted : a.status ≠ .classRefused) :
    ran op r a u = { u.setPort r.port ((u.port r.port).putReply (replyWords u.ports.nodeId op r.tag a)) with
      pair := { u.pair with lastReply := some (replyWords u.ports.nodeId op r.tag a) } } := by
  have replied : u.reply op r a = u.setPort r.port ((u.port r.port).putReply (replyWords u.ports.nodeId op r.tag a)) := by
    rw [State.reply_of u op r a admitted, single, acked, deliver_local open_ local_]
    simp
  have last : u.replyLast op r a = { u.setPort r.port ((u.port r.port).putReply (replyWords u.ports.nodeId op r.tag a)) with
      pair := { u.pair with lastReply := some (replyWords u.ports.nodeId op r.tag a) } } := by
    simp [State.replyLast, single, acked, replied, State.setPort]
  rw [ran, last, endCmd_of_not_replaying]
  exact fresh

/-- An OK answer to a request that asks for none is not sent. -/
theorem ran_unacked {op : BitVec 12} {r : Req} {a : Answer} {u : State} (fresh : u.pair.replaying = false)
    (single : r.broadcast = false) (unacked : r.noAck = true) (ok : a.status = .ok) : ran op r a u = u := by
  have last : u.replyLast op r a = u := by
    simp [State.replyLast, State.reply, single, unacked, ok]
  rw [ran, last, endCmd_of_not_replaying _ fresh]

theorem exec_echo {r : Req} {s : State} (acc : Accepts s 0x000 r true) :
    exec (.echo r) s = .next (ran 0x000 r { status := .ok, payload := r.payload } (s.startCmd 0x000 r)) :=
  congrArg Host.Outcome.next (runOp_of_answer acc rfl)

theorem exec_identify {r : Req} {s : State} (acc : Accepts s 0x001 r true) :
    exec (.identify r) s = .next (ran 0x001 r { status := .ok, payload := identifyWords (s.startCmd 0x001 r) } (s.startCmd 0x001 r)) :=
  congrArg Host.Outcome.next (runOp_of_answer acc rfl)

theorem exec_healthReport {r : Req} {s : State} (acc : Accepts s 0x003 r true) :
    exec (.healthReport r) s = .next (ran 0x003 r { status := .ok, payload := healthWords (s.startCmd 0x003 r) } (s.startCmd 0x003 r)) :=
  congrArg Host.Outcome.next (runOp_of_answer acc rfl)

/-- Settles O15: each command's answer, and what ECHO's leaves at its port. -/
theorem systemCommandsAnswer : Obligations.SystemCommandsAnswer := by
  intro r s
  refine ⟨fun acc local_ single fresh => ⟨fun acked => ?_, fun unacked => ?_⟩, fun acc => exec_identify acc, fun acc => exec_healthReport acc,
    fun acc notChain notUplink => ?_, fun acc key => ?_,
    fun due => ⟨_, congrArg Host.Outcome.next (if_pos (by simp [due])), rfl, rfl, rfl, rfl, rfl, rfl, rfl, rfl, rfl⟩⟩
  · obtain ⟨current, ports⟩ := startCmd_of_fresh (op := 0x000) (r := r) fresh
    have open_ : s.pair.gate = true := gate_of_accepts acc
    refine ⟨_, exec_echo acc, ?_⟩
    rw [ran_local current open_ local_ single acked (by simp)]
    have port (p : Nat) : (s.startCmd 0x000 r).port p = s.port p := rfl
    refine ⟨?_, fun p other => ?_, ?_, rfl, rfl, rfl, rfl⟩
    · refine (State.port_setPort_same _ _ _).trans ?_
      rw [port, ports]
    · exact ((State.port_setPort _ _ _ _).trans (if_neg other)).trans (port p)
    · exact congrArg Ports.queue ports
  · rw [exec_echo acc, ran_unacked (startCmd_of_fresh fresh).1 single unacked rfl]
  · refine congrArg Host.Outcome.next (runOp_of_answer acc ?_)
    simp only [notChain, notUplink, if_false]
    rfl
  · exact ⟨{ s.startCmd 0x002 r with ports := { (s.startCmd 0x002 r).ports with resetDue := some (r.broadcast || r.noAck) } },
      congrArg Host.Outcome.next (runOp_of_answer acc (if_pos key)), rfl, rfl, rfl⟩

end Sys2Proof.Claims
end

section
/-!
SUPPORT. The flash and its slots, and the boot ROM, with the statements on them (R81 to R98, R114).
-/
open Sys2Proof

namespace Sys2Proof.Machine

-- the flash ------------------------------------------------------------------------------------------------------------------------------

/-- A write to the flash replaces its bytes and no other. -/
theorem get_flWrite (bs : List Byte) : ∀ (m : List Host.Cell) (a i : Nat), SMap.get flashDefault (flWrite m a bs) i =
    if a ≤ i ∧ i < a + bs.length then bs.getD (i - a) 0 else SMap.get flashDefault m i := by
  induction bs with
  | nil =>
    intro m a i
    rw [List.length_nil, if_neg (by omega)]
    rfl
  | cons b bs ih =>
    intro m a i
    simp only [flWrite, ih, SMap.get_set, List.length_cons]
    by_cases first : i = a
    · subst first
      rw [if_neg (by omega), if_pos rfl, if_pos (by omega), Nat.sub_self, List.getD_cons_zero]
    · by_cases later : a + 1 ≤ i ∧ i < a + 1 + bs.length
      · rw [if_pos later, if_pos (by omega), show i - a = (i - (a + 1)) + 1 by omega, List.getD_cons_succ]
      · rw [if_neg later, if_neg first, if_neg (by omega)]

/-- An erase leaves the erased value in its range and no other byte changed. -/
theorem get_zeroRange (m : List Host.Cell) (lo hi i : Nat) : SMap.get flashDefault (zeroRange m lo hi) i =
    if lo ≤ i ∧ i < hi then flashDefault else SMap.get flashDefault m i := by
  have kept := Claims.find_filter_keys (α := Byte) (fun a => decide (a < lo) || decide (hi ≤ a)) i m
  rw [SMap.get_eq_find, SMap.get_eq_find, zeroRange, kept]
  by_cases inside : lo ≤ i ∧ i < hi
  · rw [if_pos inside, if_neg (by simp; omega)]
    rfl
  · rw [if_neg inside, if_pos (by simp; omega)]

theorem leBytes_length (n v : Nat) : (leBytes n v).length = n := by
  induction n generalizing v with
  | zero => rfl
  | succ n ih => simp [leBytes, ih]

theorem recFull_length (r : BootRec) : (recFull r).length = 32 := by
  simp [recFull, recBytes, leBytes_length]

/-- The boot record's copies lie below 0x2000: a record write keeps every byte above. -/
theorem get_writeRec (s : State) (active armed tries : Byte) (a : Nat) (above : 0x2000 ≤ a) :
    SMap.get flashDefault (s.writeRec active armed tries).flash a = SMap.get flashDefault s.flash a := by
  have copy (k : Nat) (r : BootRec) (low : k ≤ 1) :
      SMap.get flashDefault (flWrite (zeroRange s.flash (k * 0x1000) (k * 0x1000 + 0x1000)) (k * 0x1000) (recFull r)) a =
        SMap.get flashDefault s.flash a := by
    rw [get_flWrite, recFull_length, if_neg (by omega), get_zeroRange, if_neg (by omega)]
  unfold State.writeRec
  dsimp only
  split
  · exact copy 1 _ (Nat.le_refl 1)
  · exact copy 0 _ (Nat.zero_le 1)

theorem flBytes_congr {m m' : List Host.Cell} (n : Nat) : ∀ a, (∀ i, a ≤ i → SMap.get flashDefault m' i = SMap.get flashDefault m i) →
    flBytes m' a n = flBytes m a n := by
  induction n with
  | zero => intro a same; rfl
  | succ n ih =>
    intro a same
    rw [flBytes, flBytes, same a (Nat.le_refl a), ih (a + 1) fun i low => same i (by omega)]

theorem slotBase_ge (k : Nat) : 0x2000 ≤ slotBase k := by
  unfold slotBase
  split <;> decide

/-- An image is as it was under a write of the boot record. -/
theorem imgBytes_writeRec (s : State) (active armed tries : Byte) (slot off n : Nat) :
    (s.writeRec active armed tries).imgBytes slot off n = s.imgBytes slot off n := by
  have low := slotBase_ge slot
  simp only [State.imgBytes]
  split
  · rfl
  · exact flBytes_congr n _ fun i above => get_writeRec s active armed tries i (by omega)

-- slots and their verification -----------------------------------------------------------------------------------------------------------

@[simp] theorem verOf_unverify (s : State) (k : Nat) : verOf (s.unverify k).boot k = none := by
  unfold State.unverify verOf
  match k with
  | 0 | 1 | _ + 2 => rfl

@[simp] theorem unverify_flashOps (s : State) (k : Nat) : (s.unverify k).boot.flashOps = s.boot.flashOps := by
  unfold State.unverify
  match k with
  | 0 | 1 | _ + 2 => rfl

@[simp] theorem verOf_startFlash (s : State) (op : FlashOp) (slot k : Nat) (r : Req) : verOf (s.startFlash op slot r).boot k = verOf s.boot k := by
  match k with
  | 0 | 1 | _ + 2 => rfl

@[simp] theorem startFlash_flashOps (s : State) (op : FlashOp) (slot : Nat) (r : Req) :
    (s.startFlash op slot r).boot.flashOps = s.boot.flashOps ++ [(op, slot, r)] := rfl

@[simp] theorem verOf_setVer (s : State) (k code : Nat) : verOf (s.setVer k code).boot k = some (BitVec.ofNat 8 code) := by
  unfold State.setVer verOf
  match k with
  | 0 | 1 | _ + 2 => rfl

@[simp] theorem setVer_flashOps (s : State) (k code : Nat) : (s.setVer k code).boot.flashOps = s.boot.flashOps := by
  unfold State.setVer
  match k with
  | 0 | 1 | _ + 2 => rfl

@[simp] theorem verOf_endFlash (s : State) (q : FlashOp × Nat × Req) (k : Nat) : verOf (s.endFlash q).boot k = verOf s.boot k := by
  match k with
  | 0 | 1 | _ + 2 => rfl

/-- A slot that is neither in use nor busy is not refused outside the boot. -/
theorem imgRefuse_none {s : State} {k : Nat} (ramOk : Bool) (isSlot : k < 2) (booted : s.boot.state ≠ 0) (idle : flashBusy s = false)
    (free : slotBusy s k = false) (notHeld : slotHeld s k = false) : imgRefuse s k ramOk false = none := by
  have notBooting : ¬ (s.boot.state = 0 ∧ k < 2) := fun h => booted h.1
  simp only [imgRefuse, if_neg notBooting, show k ≠ 2 by omega, show k ≠ 3 by omega, notHeld, idle, free, Bool.or_self, Bool.false_eq_true,
    or_self, if_false]

end Sys2Proof.Machine

namespace Sys2Proof.Claims
open Sys2Proof.Machine

/-- Settles O18: the start of a long command is its entry in the list, its end what it does to the slot. -/
theorem imageCommandsWorkOnASlot : Obligations.ImageCommandsWorkOnASlot := by
  intro r k s
  refine ⟨fun isSlot booted idle free slot => ⟨fun acc notHeld => ?_, fun acc notHeld aligned fits => ?_, fun acc => ?_⟩,
    fun boots downloading slot => ⟨fun acc aligned fits => ?_, fun acc => ?_⟩, fun op => ?_, fun op => ?_, fun op isSlot => ?_⟩
  · have passes : imgRefuse (s.startCmd 0x280 r) k false false = none := imgRefuse_none false isSlot booted idle free notHeld
    refine ⟨_, congrArg Host.Outcome.next (runOp_of_silent acc (t := ((s.startCmd 0x280 r).unverify k).startFlash .erase k r)
      (by simp only [slot, passes])), ?_, ?_, ?_, ?_⟩
    · simp
    · simp
    · simp [State.startFlash, State.unverify]
    · simp [State.startFlash, State.unverify]
  · have inRange : decide ((r.w 0).toNat % 4 ≠ 0 ∨ 0x300000 < (r.w 0).toNat + 4 * (r.len - 1)) = false := decide_eq_false (by omega)
    have passes : imgRefuse (s.startCmd 0x281 r) k true false = none := imgRefuse_none true isSlot booted idle free notHeld
    refine ⟨_, congrArg Host.Outcome.next (runOp_of_silent acc (t := ((s.startCmd 0x281 r).unverify k).startFlash .write k r)
      (by simp only [slot, inRange, passes, show k ≠ 2 by omega, if_false])), ?_, ?_, ?_⟩
    · simp
    · simp
    · simp [State.startFlash, State.unverify]
  · have free' : (decide ((s.startCmd 0x282 r).boot.state = 0) || flashBusy (s.startCmd 0x282 r) || slotBusy (s.startCmd 0x282 r) k) = false := by
      have idle' : flashBusy (s.startCmd 0x282 r) = false := idle
      have free' : slotBusy (s.startCmd 0x282 r) k = false := free
      rw [idle', free', Bool.or_false, Bool.or_false]
      exact decide_eq_false booted
    refine ⟨_, congrArg Host.Outcome.next (runOp_of_silent acc (t := (s.startCmd 0x282 r).startFlash .verify k r)
      (by simp only [slot, show k ≠ 3 by omega, show k ≠ 2 by omega, if_false, free', Bool.false_eq_true])), ?_, ?_⟩
    · simp
    · simp [State.startFlash]
  · have inRange : decide ((r.w 0).toNat % 4 ≠ 0 ∨ 0x300000 < (r.w 0).toNat + 4 * (r.len - 1)) = false := decide_eq_false (by omega)
    have passes : imgRefuse (s.startCmd 0x281 r) 2 true false = none := by
      simp only [imgRefuse, Nat.lt_irrefl, and_false, if_false, show (2 : Nat) ≠ 3 by decide, Bool.false_eq_true, or_self, if_true]
      exact if_pos (by simpa using ⟨boots, downloading⟩)
    refine ⟨{ (s.startCmd 0x281 r).unverify 2 with
      ramImage := wrBytes s.ramImage (r.w 0).toNat (leWords (r.payload.drop 1)) }, congrArg Host.Outcome.next (runOp_of_answer acc ?_),
      rfl, rfl, rfl⟩
    simp only [slot, inRange, passes, if_true]
    rfl
  · refine ⟨(s.startCmd 0x282 r).setVer 2 (s.imgCheck 2), congrArg Host.Outcome.next (runOp_of_answer acc ?_), rfl, rfl⟩
    have loading : (s.startCmd 0x282 r).boot.state = 0 ∧ (s.startCmd 0x282 r).boot.downloading = true := ⟨boots, downloading⟩
    simp only [slot, if_pos loading, if_true, show (2 : Nat) ≠ 3 by decide, if_false]
    rfl
  · refine ⟨({ s with flash := zeroRange s.flash (slotBase k) (slotBase k + 0x300000) } : State).endFlash (.erase, k, r), ?_, rfl,
      get_zeroRange _ _ _⟩
    have arm : exec .imageEraseDone s = execImageEraseDone s := rfl
    simp only [arm, execImageEraseDone, op]
  · refine ⟨({ s with flash := flWrite s.flash (slotBase k + (r.w 0).toNat) (leWords (r.payload.drop 1)) } : State).endFlash (.write, k, r),
      ?_, rfl, get_flWrite _ _ _⟩
    have arm : exec .imageWriteDone s = execImageWriteDone s := rfl
    simp only [arm, execImageWriteDone, op]
  · refine ⟨(s.setVer k (s.imgCheck k)).endFlash (.verify, k, r), ?_, ?_, by simp, rfl⟩
    · have arm : exec .imageVerifyDone s = execImageVerifyDone s := rfl
      simp only [arm, execImageVerifyDone, op]
    · simp [State.endFlash]

-- the boot ROM ---------------------------------------------------------------------------------------------------------------------------

@[simp] theorem rind_state (s : State) (reason attempt : Nat) : (s.rind reason attempt).boot.state = 2 := rfl

@[simp] theorem rind_reason (s : State) (reason attempt : Nat) : (s.rind reason attempt).boot.reason = BitVec.ofNat 8 reason := rfl

@[simp] theorem rind_tried (s : State) (reason attempt : Nat) : (s.rind reason attempt).boot.tried = s.boot.tried := rfl

/-- The end of a download changes the uplink and its lane only. -/
theorem endDownload_frame (s : State) : s.endDownload = { s with uplink := s.endDownload.uplink, link := s.endDownload.link } := by
  unfold State.endDownload State.giveBootLane
  repeat' split
  all_goals rfl

@[simp] theorem endDownload_boot (s : State) : s.endDownload.boot = s.boot := by rw [endDownload_frame]

@[simp] theorem endDownload_flash (s : State) : s.endDownload.flash = s.flash := by rw [endDownload_frame]

@[simp] theorem writeRec_boot (s : State) (active armed tries : Byte) : (s.writeRec active armed tries).boot = s.boot := rfl

theorem bootFail_frame (s : State) (code : Nat) (slot : Option Nat) : (s.bootFail code slot).boot.tried = s.boot.tried ∧
    (s.bootFail code slot).boot.state = if 6 ≤ s.boot.tried ∨ code = 4 then 2 else s.boot.state := by
  simp only [State.bootFail]
  repeat' split
  all_goals simp_all [State.setBoot]

/-- A download that ends before the last attempt is a failed attempt with no slot. -/
theorem bootFail_download {s : State} (few : s.boot.tried < 6) :
    s.bootFail 9 none = s.endDownload.setBoot fun b => { b with lastFail := 9, downloading := false } := by
  have more : ¬ (6 ≤ s.endDownload.boot.tried ∨ 9 = 4) := by
    rw [endDownload_boot]
    omega
  simp only [State.bootFail, Option.isSome_none, Bool.false_and, Bool.false_eq_true, if_false]
  exact if_neg more

/-- What has left the device stays in its record when a notice is sent. -/
theorem mem_out_notifyPort {o : Out} (s : State) (p block code : Nat) (w : Word) (ct : CT) (left : o ∈ s.out) :
    o ∈ (s.notifyPort p block code w ct).out := by
  simp only [State.notifyPort]
  repeat' split
  · exact left
  · exact List.mem_append_left _ left
  · exact left
  · exact left

theorem mem_out_notify {o : Out} (s : State) (block code : Nat) (w : Word) (left : o ∈ s.out) : o ∈ (s.notify block code w).out := by
  have fold (ct : CT) (ps : List Nat) : ∀ t : State, o ∈ t.out → o ∈ (ps.foldl (fun s p => s.notifyPort p block code w ct) t).out := by
    induction ps with
    | nil => exact fun _ left => left
    | cons p ps ih => exact fun t left => ih _ (mem_out_notifyPort t p block code w ct left)
  simp only [State.notify, State.notifyPorts]
  repeat' split
  · exact left
  · exact fold _ _ _ left
  · exact left

theorem mem_out_raise {o : Out} (s : State) (block code : Nat) (w : Word) (left : o ∈ s.out) : o ∈ (s.raise block code w).out := by
  unfold State.raise
  refine mem_out_notify _ _ _ _ ?_
  split <;> exact left

/-- A new link revision and lane 0 coming up touch neither the boot nor control memory, and only add to what leaves. -/
theorem newRev_enableLane0_frame (s : State) : s.newRev.enableLane0.boot = s.boot ∧ s.newRev.enableLane0.pair.wdogOn = s.pair.wdogOn ∧
    s.newRev.enableLane0.ctrlA = s.ctrlA ∧ ∀ o ∈ s.out, o ∈ s.newRev.enableLane0.out := by
  have enabled (t : State) : t.enableLane0.boot = t.boot ∧ t.enableLane0.pair = t.pair ∧ t.enableLane0.ctrlA = t.ctrlA ∧
      t.enableLane0.out = t.out := by
    unfold State.enableLane0
    split <;> exact ⟨rfl, rfl, rfl, rfl⟩
  obtain ⟨boot, pair, ctrl, out⟩ := enabled s.newRev
  rw [boot, pair, ctrl, out]
  unfold State.newRev
  dsimp only
  split
  · exact ⟨rfl, rfl, rfl, fun _ left => left⟩
  · refine ⟨by simp, ?_, by simp, fun o left => mem_out_raise _ _ _ _ left⟩
    rw [State.raise_pair]
    rfl

/-- What starting an image sets (R82, R88). -/
theorem startImage_frame (s : State) (target source attempt : Nat) :
    (s.startImage target source attempt).boot = { s.boot with
      state := 1, attempt, source := BitVec.ofNat 2 source, slot := BitVec.ofNat 2 target, reason := 0,
      fwVersion := BitVec.ofNat 32 (hdr (s.imgBytes target 0 256) 8 4), linkRev := BitVec.ofNat 4 (hdr (s.imgBytes target 0 256) 0x17 1),
      entry := BitVec.ofNat 32 (hdr (s.imgBytes target 0 256) 0x10 4), downloading := false } ∧
    (s.startImage target source attempt).pair.wdogOn = true ∧
    (s.startImage target source attempt).ctrlA = cellsOf 0 (s.imgBytes target 0x100 (hdr (s.imgBytes target 0 256) 0xC 4)) ∧
    ∀ o ∈ s.out, o ∈ (s.startImage target source attempt).out := by
  unfold State.startImage
  dsimp only
  rw [endDownload_frame]
  exact newRev_enableLane0_frame _

/-- The codes of R87 that the checks of an image answer. -/
theorem imgCheck_ne_four (s : State) (slot : Nat) : s.imgCheck slot ≠ 4 := by
  simp only [State.imgCheck]
  repeat' split
  all_goals decide

/-- A retry of the boot: the attempt is counted, the flash is asked for its parameters, and the image's checks decide (R81 to R92). -/
theorem exec_bootAttempt_slot {s : State} {slot : Nat} (sfdp : Option FlashPar) (released : s.rel 5 = true) (rom : s.boot.romOn = true)
    (booting : s.boot.state = 0) (quiet : s.boot.downloading = false) (retry : 0 < s.boot.tried) (few : s.boot.tried < 6)
    (chosen : attemptSlot s.boot (s.boot.tried + 1) = some slot) (u : State)
    (read : u = (s.setBoot fun b => { b with tried := s.boot.tried + 1 }).readSfdp sfdp) : exec (.bootAttempt sfdp) s = .next
      (if sfdp.isNone = true then u.bootFail 4 (some slot)
       else if s.imgCheck slot ≠ 0 then u.bootFail (s.imgCheck slot) (some slot)
       else (if armedSlot u.bootRec = some slot then u.writeRec u.bootRec.active u.bootRec.armed (u.bootRec.tries + 1) else u).startImage slot 0
         (s.boot.tried + 1)) := by
  subst read
  have arm : exec (.bootAttempt sfdp) s = execBootAttempt sfdp s := rfl
  have opened : (!s.rel 5 || !s.boot.romOn || s.boot.state != 0 || s.boot.downloading || decide (6 ≤ s.boot.tried)) = false := by
    simp [released, rom, booting, quiet, few]
  have chosen' : attemptSlot (s.setBoot fun b => { b with tried := s.boot.tried + 1 }).boot (s.boot.tried + 1) = some slot := chosen
  simp only [arm, execBootAttempt, opened, Bool.false_eq_true, if_false, show ¬ s.boot.tried = 0 by omega, chosen']
  rfl

/-- Settles O20: the start of the ROM by cases, and the end of an attempt by what the checks of its image answer. -/
theorem bootAttemptsStartOrFail : Obligations.BootAttemptsStartOrFail := by
  intro par s
  refine ⟨fun released fresh => ?_, fun slot released rom booting quiet retry few chosen => ⟨fun good => ?_, fun bad => ?_, ?_⟩,
    fun loading ready few => ?_⟩
  · refine ⟨_, congrArg Host.Outcome.next (if_neg (by simp [released, fresh])), ?_, ?_, fun failed => ?_, fun passed sel => ?_,
      fun passed sel => ?_⟩
    · dsimp only
      repeat' split
      all_goals rfl
    · dsimp only
      repeat' split
      all_goals rfl
    · simp [State.setBoot, failed]
    · simp [State.setBoot, passed, sel]
    · have notRind : ¬ s.boot.sampled.bootSel.toNat = 7 ∧ ¬ 4 ≤ s.boot.sampled.bootSel.toNat := by omega
      simp [State.setBoot, passed, notRind]
  · have attempt := exec_bootAttempt_slot (some par) released rom booting quiet retry few chosen _ rfl
    rw [if_neg (by simp), if_neg (by simp [good])] at attempt
    refine ⟨_, attempt, ?_⟩
    generalize read : (s.setBoot fun b => { b with tried := s.boot.tried + 1 }).readSfdp (some par) = u
    have image (off n : Nat) : (if armedSlot u.bootRec = some slot then u.writeRec u.bootRec.active u.bootRec.armed (u.bootRec.tries + 1)
        else u).imgBytes slot off n = s.imgBytes slot off n := by
      split
      · rw [imgBytes_writeRec, ← read]
        rfl
      · rw [← read]
        rfl
    have kept : (if armedSlot u.bootRec = some slot then u.writeRec u.bootRec.active u.bootRec.armed (u.bootRec.tries + 1) else u).boot = u.boot ∧
        (if armedSlot u.bootRec = some slot then u.writeRec u.bootRec.active u.bootRec.armed (u.bootRec.tries + 1) else u).out = u.out := by
      split <;> exact ⟨rfl, rfl⟩
    generalize (if armedSlot u.bootRec = some slot then u.writeRec u.bootRec.active u.bootRec.armed (u.bootRec.tries + 1) else u) = v
      at image kept
    obtain ⟨boot, wdog, ctrl, out⟩ := startImage_frame v slot 0 (s.boot.tried + 1)
    rw [image, image] at ctrl
    rw [boot, kept.1]
    refine ⟨rfl, rfl, rfl, rfl, wdog, ?_, ?_, out _ ?_, ctrl⟩
    · rw [← read]
      rfl
    · rw [← read]
      rfl
    · rw [kept.2, ← read]
      exact List.mem_append_right _ (List.mem_singleton_self _)
  · have attempt := exec_bootAttempt_slot (some par) released rom booting quiet retry few chosen _ rfl
    rw [if_neg (by simp), if_pos bad] at attempt
    obtain ⟨tried, state⟩ := bootFail_frame ((s.setBoot fun b => { b with tried := s.boot.tried + 1 }).readSfdp (some par)) (s.imgCheck slot)
      (some slot)
    refine ⟨_, attempt, tried, state.trans ?_⟩
    have last : (6 ≤ s.boot.tried + 1 ∨ s.imgCheck slot = 4) ↔ s.boot.tried = 5 := by
      have := imgCheck_ne_four s slot
      omega
    by_cases final : s.boot.tried = 5
    · exact (if_pos (last.mpr final)).trans (if_pos final).symm
    · exact (if_neg fun ends => final (last.mp ends)).trans (booting.trans (if_neg final).symm)
  · have attempt := exec_bootAttempt_slot none released rom booting quiet retry few chosen _ rfl
    rw [if_pos (by simp)] at attempt
    refine ⟨_, attempt, (bootFail_frame _ _ _).2.trans (if_pos (.inr rfl)), ?_⟩
    simp only [State.bootFail, or_true, if_true]
    rfl
  · refine ⟨_, congrArg Host.Outcome.next (if_pos (by simp [loading, ready])), ?_⟩
    rw [bootFail_download few]
    exact ⟨rfl, rfl, by simp [State.setBoot], by simp⟩

end Sys2Proof.Claims
end

section
/-!
SUPPORT. Fuses, releases, resets and clocks, with the statements on them (R57 to R79).
-/
open Sys2Proof

namespace Sys2Proof.Machine

/-- The classes of the ports that a walk has set. -/
theorem port_setClasses (ps : List Nat) : ∀ (s : State) (p : Nat), p ∈ ps → ((s.setClasses ps).port p).cls = portClass s p := by
  have kept (ps : List Nat) : ∀ (s : State) (p : Nat), p ∉ ps → (s.setClasses ps).port p = s.port p := by
    induction ps with
    | nil => exact fun _ _ _ => rfl
    | cons q ps ih =>
      intro s p absent
      obtain ⟨other, later⟩ := not_or.mp (mt List.mem_cons.mpr absent)
      exact (ih _ p later).trans ((State.port_setPort s q p _).trans (if_neg other))
  induction ps with
  | nil => exact fun _ _ h => nomatch h
  | cons q ps ih =>
    intro s p mem
    have classes (i : Nat) : portClass (s.setPort q { s.port q with cls := portClass s q }) i = portClass s i := rfl
    by_cases later : p ∈ ps
    · exact (ih _ p later).trans (classes p)
    · obtain rfl : p = q := (List.mem_cons.mp mem).resolve_right later
      rw [State.setClasses, kept ps _ p later, State.port_setPort_same]

/-- One step of the trim code towards its target. -/
theorem trimStep_toNat {c t : BitVec 6} (off : c ≠ t) :
    (c.toNat < t.toNat ∧ (if c.toNat < t.toNat then c + 1 else c - 1).toNat = c.toNat + 1) ∨
      (t.toNat < c.toNat ∧ (if c.toNat < t.toNat then c + 1 else c - 1).toNat + 1 = c.toNat) := by
  have differ : c.toNat ≠ t.toNat := fun h => off (BitVec.eq_of_toNat_eq h)
  by_cases below : c.toNat < t.toNat
  · rw [if_pos below]
    have up : (c + 1).toNat = c.toNat + 1 := by bv_omega
    exact .inl ⟨below, up⟩
  · rw [if_neg below]
    have down : (c - 1).toNat + 1 = c.toNat := by bv_omega
    exact .inr ⟨by omega, down⟩

@[simp] theorem enableLane0_power (s : State) : s.enableLane0.power = s.power := by
  unfold State.enableLane0
  split <;> rfl

@[simp] theorem giveBootLane_power (s : State) (on : Bool) : (s.giveBootLane on).power = s.power := by
  simp only [State.giveBootLane]
  split <;> rfl

/-- A release sets one step and leaves the rest of the power unit. -/
theorem onRelease_released (s : State) (n : Nat) : (s.onRelease n).power.released = s.power.released := by
  have classes (ps : List Nat) : ∀ s : State, (s.setClasses ps).power = s.power := by
    induction ps with
    | nil => exact fun _ => rfl
    | cons p ps ih => exact fun s => (ih _).trans rfl
  unfold State.onRelease
  split
  case h_3 => rw [classes]
  case h_7 =>
    dsimp only
    repeat' split
    all_goals simp
  all_goals repeat' split
  all_goals rfl

end Sys2Proof.Machine

namespace Sys2Proof.Claims
open Sys2Proof.Machine

/-- Settles O21: fuse loads, the trim code's steps, releases and the end of a hold, each with its guard open. -/
theorem bringUpGoesInItsOrder : Obligations.BringUpGoesInItsOrder := by
  intro row s
  refine ⟨fun clocked unreleased unloaded loads few => ?_, fun tries unloaded => ?_, fun on off => ?_,
    fun on free high more supplies ready => ?_, fun hold trim => ?_⟩
  · have opened : ¬ (!s.rel 3 || s.rel 4 || s.boot.passed || s.power.noFuse || decide (3 ≤ s.boot.fuseTries)) = true := by
      simp [clocked, unreleased, unloaded, loads, few]
    refine ⟨congrArg Host.Outcome.next (if_neg opened), _, congrArg Host.Outcome.next (if_neg opened), ?_⟩
    dsimp only
    split
    · next trimmed => simp [State.setPow, trimmed]
    · next other => simp [other]
  · exact congrArg Host.Outcome.next (if_pos (by simp [tries, unloaded]))
  · refine ⟨_, congrArg Host.Outcome.next (if_neg (by simp [on, off])), ?_⟩
    have step := trimStep_toNat off
    dsimp only
    generalize (if s.clocks.trim.toNat < (trimTarget s).toNat then s.clocks.trim + 1 else s.clocks.trim - 1) = c at step ⊢
    split <;> exact ⟨rfl, step, rfl⟩
  · refine ⟨_, congrArg Host.Outcome.next (if_neg (by simp [on, free, high, supplies, ready]; omega)), ?_, fun step p low => ?_, fun step => ?_⟩
    · rw [onRelease_released]
      rfl
    · rw [step]
      exact port_setClasses _ _ p (by revert p; decide)
    · rw [step]
      rfl
  · exact congrArg Host.Outcome.next (if_pos (by simp [hold, trim]))

/-- Bit `k` of a comparator word with bit `n` set, or cleared. -/
theorem getLsbD_or_bit (g : BitVec 11) (n k : Nat) : (g ||| BitVec.ofNat 11 (2 ^ n)).getLsbD k = (g.getLsbD k || (decide (k < 11) && decide (n = k))) := by
  rw [BitVec.getLsbD_or, BitVec.getLsbD_ofNat, Nat.testBit_two_pow]

theorem getLsbD_cleared_bit (g : BitVec 11) (n : Nat) : (g &&& ~~~(BitVec.ofNat 11 (2 ^ n))).getLsbD n = false := by
  by_cases low : n < 11
  · rw [BitVec.getLsbD_and, BitVec.getLsbD_not, BitVec.getLsbD_ofNat, Nat.testBit_two_pow_self]
    simp [low]
  · rw [BitVec.getLsbD_and, BitVec.getLsbD_of_ge g n (by omega), Bool.false_and]

/-- Settles O22: each source of a reset with its guard open. -/
theorem resetsLeaveTheirLatch : Obligations.ResetsLeaveTheirLatch := by
  intro n s on
  refine ⟨fun compared => ?_, fun compared good => ⟨fun used => ?_, fun unused other => ?_, fun off => ?_, fun enabled => ?_⟩, fun compared bad => ?_,
    ?_, ⟨_, rfl, rfl⟩, fun running awake => ?_, ?_, ⟨_, rfl, rfl, rfl, rfl, rfl, rfl, rfl, rfl, _, rfl, rfl, rfl⟩⟩
  · refine ⟨_, congrArg Host.Outcome.next (if_neg (by simp [on, compared])), rfl, fun low => ?_, fun k other => ?_⟩
    · exact (getLsbD_or_bit _ n n).trans (by simp [low])
    · exact (getLsbD_or_bit _ n k).trans (by simp [Ne.symm other])
  · refine ⟨_, congrArg Host.Outcome.next ((if_neg (by simp [on, compared, good])).trans (if_pos (by simp [used]))), rfl, rfl, ?_, rfl, rfl⟩
    exact getLsbD_cleared_bit _ n
  · refine ⟨_, congrArg Host.Outcome.next ((if_neg (by simp [on, compared, good])).trans (if_neg (by simp [unused, other]))), rfl, ?_⟩
    exact getLsbD_cleared_bit _ n
  · exact congrArg Host.Outcome.next ((if_neg (by simp [on, compared, good])).trans (if_neg (by simp [off])))
  · exact congrArg Host.Outcome.next ((if_neg (by simp [on, compared, good])).trans (if_pos enabled))
  · exact congrArg Host.Outcome.next (if_neg (by simp [on, compared, bad]))
  · exact congrArg Host.Outcome.next (if_neg (by simp [on]))
  · exact congrArg Host.Outcome.next (if_pos (by simp [running, awake]))
  · exact congrArg Host.Outcome.next (if_neg (by simp [on]))

/-- Settles O23: each clock event with its guard open. -/
theorem clocksComeUp : Obligations.ClocksComeUp := by
  intro khz pll s
  refine ⟨fun released off external => ?_, fun enabled => ?_, ⟨_, rfl, fun ctrl => ?_, fun ctrl core => ?_, fun ctrl core eng => ?_⟩,
    fun enabled exists_ => ?_⟩
  · have opened : ¬ (!s.rel 2 || s.clocks.enabled || s.boot.sampled.clkMode == 3) = true := by simpa [released, off] using external
    have arm : exec (.xtalWaitExpiry khz) s = execXtalWaitExpiry khz s := rfl
    refine ⟨fun m measured => ?_, fun failed few => ?_, fun failed many => ?_⟩
    · refine ⟨s.setClk fun c => { c with checks := c.checks + 1, enabled := true, onPrimary := true, extMhz := m }, ?_, rfl, rfl, rfl, rfl⟩
      simp only [arm, execXtalWaitExpiry, if_neg opened, measured]
    · simp only [arm, execXtalWaitExpiry, if_neg opened, failed]
      exact congrArg Host.Outcome.next (if_pos (Nat.add_lt_add_right few 1))
    · refine ⟨((s.setClk fun c => { c with checks := c.checks + 1 }).setClk fun c =>
        { c with enabled := true, onPrimary := false, fallback := true }).raise 1 4 0, ?_, ?_⟩
      · simp only [arm, execXtalWaitExpiry, if_neg opened, failed]
        exact congrArg Host.Outcome.next (if_neg (Nat.not_lt.mpr (Nat.add_le_add_right many 1)))
      · simp [State.setClk]
  · refine ⟨_, congrArg Host.Outcome.next (if_neg (by simp [enabled])), ?_⟩
    dsimp only
    split
    · exact ⟨rfl, rfl, rfl, fun _ => rfl, rfl⟩
    · next unreleased => exact ⟨rfl, rfl, rfl, fun released => absurd released unreleased, rfl⟩
  · rw [if_pos ctrl]
    exact ⟨rfl, rfl⟩
  · rw [if_neg (Nat.not_lt.mpr ctrl), if_pos core]
    rfl
  · rw [if_neg (Nat.not_lt.mpr ctrl), if_neg (Nat.not_lt.mpr core), if_pos eng]
    rfl
  · have opened : ¬ (!s.clocks.enabled || decide (2 < pll) || (s.isF && pll == 2)) = true := by
      rcases exists_ with low | ⟨rfl, vat⟩
      · simp [enabled, show ¬ 2 < pll by omega, show pll ≠ 2 by omega]
      · simp [enabled, vat]
    refine ⟨_, congrArg Host.Outcome.next (if_neg opened), fun sys => ?_, fun ctrl => ?_, fun vat => ?_,
      State.reg_raise_own_bit _ 1 3 3 0 _ rfl (by decide)⟩
    · rw [State.raise_clocks, sys]
      exact ⟨rfl, rfl, rfl⟩
    · rw [State.raise_clocks, ctrl]
      exact ⟨rfl, rfl⟩
    · rw [State.raise_clocks, vat]
      rfl

/-- An event keeps the registers of other events. -/
theorem reg_raise_of_ne (s : State) (block code : Nat) (w : Word) {p q : Reg} {i : Nat} (own : eventReg block code = some (q, i))
    (other : p.key ≠ q.key) : (s.raise block code w).reg p = s.reg p := by
  rw [State.reg_congr (s.orReg q (bit32 i true)) _ p (State.raise_inForce s block code w q i own) (by simp) (by simp)]
  exact State.reg_setReg_of_ne s _ other

/-- The loss of the alignment keeps the clocks, the registers of other blocks and the time. -/
theorem clearAligned_frame (s : State) : s.clearAligned.clocks = s.clocks ∧ s.clearAligned.reg .crClkEvents = s.reg .crClkEvents ∧
    s.clearAligned.time.pllRef = s.time.pllRef ∧ s.clearAligned.time.state = s.time.state ∧ s.clearAligned.time.ct = s.time.ct := by
  simp only [State.clearAligned]
  split
  · refine ⟨by simp, ?_, by simp [State.setTime], by simp [State.setTime], by simp [State.setTime]⟩
    rw [reg_raise_of_ne _ 5 0 0 rfl (by decide)]
    exact State.reg_congr s _ _ rfl rfl rfl
  · exact ⟨rfl, State.reg_congr s _ _ rfl rfl rfl, rfl, rfl, rfl⟩

/-- The time core's part in a fallback keeps the clocks and their events (R71, R160). -/
theorem timeFallback_frame (s : State) : s.timeFallback.clocks = s.clocks ∧ s.timeFallback.reg .crClkEvents = s.reg .crClkEvents := by
  unfold State.timeFallback
  split
  · obtain ⟨clocks, events, -⟩ := clearAligned_frame (s.setTime fun t => { t with
      pllRef := 3, state := 0, holding := false, waitReturn := true })
    exact ⟨clocks, (State.reg_congr _ _ _ rfl rfl rfl).trans (events.trans (State.reg_congr s _ _ rfl rfl rfl))⟩
  · exact ⟨rfl, rfl⟩

/-- With PLL_TIME on PLL_SYS's clock the time core follows the fallback to the oscillator. -/
theorem timeFallback_time {s : State} (released : s.rel 7 = true) (system : s.time.pllRef = 0) :
    s.timeFallback.time.pllRef = 3 ∧ s.timeFallback.time.state = 0 ∧ s.timeFallback.time.ct = s.time.ct := by
  unfold State.timeFallback
  rw [if_pos (by simp [released, system])]
  obtain ⟨-, -, pllRef, state, ct⟩ := clearAligned_frame (s.setTime fun t => { t with
    pllRef := 3, state := 0, holding := false, waitReturn := true })
  exact ⟨pllRef, state, ct⟩

/-- A fallback puts the device on its oscillator and records it (R70, R71). -/
theorem fallback_frame (s : State) : s.fallback.clocks = { s.clocks with fallback := true, onPrimary := false, latched := false } ∧
    (s.fallback.reg .crClkEvents).getLsbD 0 = true ∧
    (s.rel 7 = true → s.time.pllRef = 0 → s.fallback.time.pllRef = 3 ∧ s.fallback.time.state = 0 ∧ s.fallback.time.ct = s.time.ct) := by
  simp only [State.fallback]
  generalize before : (({ s with house := { s.house with fallbackSeen := true } } : State).setClk fun c =>
    { c with fallback := true, onPrimary := false, latched := false }) = u
  obtain ⟨clocks, events⟩ := timeFallback_frame (u.raise 1 0 0)
  rw [clocks, events, State.raise_clocks, ← before]
  refine ⟨rfl, State.reg_raise_own_bit _ 1 0 0 0 _ rfl (by decide), fun released system => ?_⟩
  have time := timeFallback_time (s := u.raise 1 0 0) (by rw [State.rel, State.raise_power, ← before]; exact released)
    (by rw [State.raise_time, ← before]; exact system)
  rw [← before] at time
  refine ⟨time.1, time.2.1, time.2.2.trans ?_⟩
  rw [State.raise_time]
  rfl

theorem opened_of_clocks {s : State} (done : s.power.clockDone = true) (external : s.boot.sampled.clkMode ≠ 3) :
    ¬ (!s.power.clockDone || s.boot.sampled.clkMode == 3) = true := by
  simpa [done] using external

/-- FALLBACK_SWITCH on the primary clock, by the state of the oscillator. -/
theorem exec_fallbackSwitch {s : State} (done : s.power.clockDone = true) (external : s.boot.sampled.clkMode ≠ 3)
    (steady : s.clocks.returning = false) (primary : s.clocks.onPrimary = true) (u : State)
    (failed : u = s.setClk fun c => { c with primaryOk := false }) : exec .fallbackSwitch s = .next
      (if s.clocks.oscOk = false then u.clockLoss
       else if s.clocks.oscReady = false then u.setClk fun c => { c with latched := true } else u.fallback) := by
  subst failed
  have arm : exec .fallbackSwitch s = execFallbackSwitch s := rfl
  simp only [arm, execFallbackSwitch, if_neg (opened_of_clocks done external)]
  simp [State.setClk, steady, primary]

/-- Settles O24: each failure of a clock and each return with its guard open. -/
theorem clockFailuresFallBackAndReturn : Obligations.ClockFailuresFallBackAndReturn := by
  intro port s done external
  refine ⟨fun steady primary ok ready => ?_, fun steady primary ok ready => ?_, fun steady primary bad => ?_, fun fallen => ?_,
    fun latched unready => ⟨_, congrArg Host.Outcome.next (if_pos (by simp [latched, unready])), rfl⟩, fun released latched => ?_,
    fun primary => ?_, fun oscillator => ?_, ?_, fun can ok fallen => ?_, fun returning => ?_⟩
  · have run := exec_fallbackSwitch done external steady primary _ rfl
    rw [if_neg (by simp [ok]), if_neg (by simp [ready])] at run
    obtain ⟨clocks, event, time⟩ := fallback_frame (s.setClk fun c => { c with primaryOk := false })
    refine ⟨_, run, ?_, ?_, ?_, event, time⟩
    all_goals rw [clocks]
    rfl
  · rw [exec_fallbackSwitch done external steady primary _ rfl, if_neg (by simp [ok]), if_pos ready]
    rfl
  · rw [exec_fallbackSwitch done external steady primary _ rfl, if_pos bad]
    exact ⟨_, rfl, rfl, rfl⟩
  · exact ⟨_, congrArg Host.Outcome.next (if_pos fallen), State.reg_raise_own_bit _ 1 1 1 0 _ rfl (by decide), by simp⟩
  · refine ⟨_, congrArg Host.Outcome.next ((if_neg (by simp [released])).trans (if_pos latched)), ?_⟩
    obtain ⟨clocks, -⟩ := fallback_frame (s.setClk fun c => { c with oscReady := s.rel 2 })
    rw [clocks]
    exact ⟨rfl, rfl⟩
  · refine ⟨_, congrArg Host.Outcome.next ((if_neg (by simp [done])).trans (if_pos primary)), ?_,
      State.reg_raise_own_bit _ 1 2 2 0 _ rfl (by decide)⟩
    rw [State.raise_clocks]
    rfl
  · exact ⟨_, congrArg Host.Outcome.next ((if_neg (by simp [done])).trans (if_neg (by simp [oscillator]))), rfl, rfl⟩
  · exact congrArg Host.Outcome.next (if_pos (by simpa [done] using external))
  · have arm : exec (.returnSwitch port) s = execReturnSwitch port s := rfl
    have written : wrReturn s = .ok (s.setClk fun c => { c with returning := true }) := if_pos (by simp [ok, fallen])
    simp only [arm, execReturnSwitch, can, if_true, writeOr, written]
    rfl
  · have event (u : State) : ((u.raise 1 5 0).reg .crClkEvents).getLsbD 5 = true :=
      State.reg_raise_own_bit _ 1 5 5 0 _ rfl (by decide)
    refine ⟨_, congrArg Host.Outcome.next (if_neg (by simp [returning])), ?_⟩
    dsimp only
    split
    · have events (v : State) (f : Time → Time) (w : Word) : ((v.startMode w).setTime f).reg .crClkEvents = v.reg .crClkEvents :=
        State.reg_congr v _ _ rfl rfl rfl
      rw [events]
      exact ⟨by simp [State.startMode, State.setClk], by simp [State.startMode, State.setClk], by simp [State.startMode, State.setClk],
        event _⟩
    · exact ⟨by simp [State.setClk], by simp [State.setClk], by simp [State.setClk], event _⟩

end Sys2Proof.Claims
end

section
/-!
SUPPORT. Control after a mismatch, the standby and the watchdog, with the statement on them (R130 to R138).
-/
open Sys2Proof

namespace Sys2Proof.Machine

theorem notifyPort_queue (s : State) (p block code : Nat) (w : Word) (ct : CT) :
    (s.notifyPort p block code w ct).ports.queue = s.ports.queue ∧ (s.notifyPort p block code w ct).pair = s.pair := by
  simp only [State.notifyPort]
  repeat' split
  all_goals exact ⟨rfl, rfl⟩

theorem deliverNow_queue (s : State) (port lane : Nat) (tag : BitVec 16) (ws : List Word) :
    (s.deliverNow port lane tag ws).ports.queue = s.ports.queue ∧ (s.deliverNow port lane tag ws).pair = s.pair := by
  unfold State.deliverNow
  split
  · simp
  · simp
  · split
    · exact ⟨rfl, rfl⟩
    · exact ⟨rfl, rfl⟩
  · exact ⟨rfl, rfl⟩

/-- What the gate held goes out when it opens; the queue and what is recorded of control stay (R130, R132). -/
theorem openGate_frame (s : State) : s.openGate.pair = { s.pair with gate := true, heldReplies := [], heldEvents := [] } ∧
    s.openGate.ports.queue = s.ports.queue := by
  have delivered (l : List (Nat × Nat × BitVec 16 × List Word)) : ∀ t : State,
      (t.deliverAll l).pair = t.pair ∧ (t.deliverAll l).ports.queue = t.ports.queue := by
    induction l with
    | nil => exact fun _ => ⟨rfl, rfl⟩
    | cons x l ih =>
      intro t
      obtain ⟨queue, pair⟩ := deliverNow_queue t x.1 x.2.1 x.2.2.1 x.2.2.2
      exact ⟨(ih _).1.trans pair, (ih _).2.trans queue⟩
  have port (block code : Nat) (w : Word) (ct : CT) (ps : List Nat) : ∀ t : State,
      (ps.foldl (fun s p => s.notifyPort p block code w ct) t).pair = t.pair ∧
        (ps.foldl (fun s p => s.notifyPort p block code w ct) t).ports.queue = t.ports.queue := by
    induction ps with
    | nil => exact fun _ => ⟨rfl, rfl⟩
    | cons p ps ih =>
      intro t
      obtain ⟨queue, pair⟩ := notifyPort_queue t p block code w ct
      exact ⟨(ih _).1.trans pair, (ih _).2.trans queue⟩
  have notified (l : List (List Nat × Nat × Nat × Word × CT)) : ∀ t : State,
      (t.notifyHeld l).pair = t.pair ∧ (t.notifyHeld l).ports.queue = t.ports.queue := by
    induction l with
    | nil => exact fun _ => ⟨rfl, rfl⟩
    | cons x l ih =>
      intro t
      obtain ⟨pair, queue⟩ := port x.2.1 x.2.2.1 x.2.2.2.1 x.2.2.2.2 x.1 t
      exact ⟨(ih _).1.trans pair, (ih _).2.trans queue⟩
  unfold State.openGate
  exact ⟨(notified _ _).1.trans (delivered _ _).1, (notified _ _).2.trans (delivered _ _).2⟩

end Sys2Proof.Machine

namespace Sys2Proof.Claims
open Sys2Proof.Machine

/-- A mismatch of the command that is next interrupts it. -/
theorem exec_mismatch_next {kind : BitVec 2} {u : Nat} {addr : Word} {tag : BitVec 16} {s : State} {c : BitVec 12 × Req}
    (serving : s.serving = true) (healthy : s.pair.standby = 0) (next : s.nextCmd = some c) (own : c.2.tag = tag) :
    ∃ t, exec (.mismatch kind u addr tag) s = .next t ∧ t.pair.interrupted = some c := by
  rw [exec_mismatch, execMismatch, if_neg (by simp [serving, healthy])]
  simp only [next, own, if_true]
  refine ⟨_, rfl, ?_⟩
  rw [State.beginArbitration_pair]

/-- With nothing next, a mismatch interrupts the command just executed while it can be taken back. -/
theorem exec_mismatch_last {kind : BitVec 2} {addr : Word} {s : State} {c : BitVec 12 × Req} (serving : s.serving = true)
    (healthy : s.pair.standby = 0) (empty : s.nextCmd = none) (last : s.pair.lastCmd = some c) (compared : s.pair.compared = true)
    (unanswered : s.pair.lastReply = none) :
    ∃ t, exec (.mismatch kind 0 addr c.2.tag) s = .next t ∧ t.pair.interrupted = some c := by
  obtain ⟨op, r⟩ := c
  have back : s.takeBack op r = some (s.unstart op r) := by
    simp [State.takeBack, compared, unanswered]
  rw [exec_mismatch, execMismatch, if_neg (by simp [serving, healthy])]
  simp only [empty, State.mismatchLast, last, if_true, Nat.zero_min, State.wrongWrites, back]
  refine ⟨_, rfl, ?_⟩
  rw [State.beginArbitration_pair]

/-- A write of CP_CTRL that its rule admits, outside a replay. -/
theorem wrCpCtrl_of_admitted {s : State} {v : Word} (fresh : s.pair.replaying = false)
    (admitted : (v.getLsbD 2 && s.pair.standby != 0 || v.getLsbD 1 && !s.pair.repaired) = false) (acts : (v.getLsbD 2 || v.getLsbD 1) = true) :
    ∃ t, wrCpCtrl s v = .ok t ∧ t.pair.force = (s.pair.force || v.getLsbD 2) ∧ t.pair.readmit = (s.pair.readmit || v.getLsbD 1) ∧
      (v.getLsbD 1 = true → t.pair.standby = 1) := by
  have set : (s.setReg .cpCtrl (v &&& 9)).pair.replaying = false := fresh
  simp only [wrCpCtrl, admitted, acts, Bool.false_and, Bool.false_eq_true, if_false, Bool.not_true,
    State.action_of_not_replaying 3 _ set]
  refine ⟨_, rfl, ?_⟩
  generalize promoted : (v.getLsbD 3 && _ && _) = promote
  cases promote
  · exact ⟨rfl, rfl, fun readmits => if_pos readmits⟩
  · exact ⟨rfl, rfl, fun _ => rfl⟩

/-- A passed self-test of a demoted standby repairs it at the third, and AUTO_READMIT then readmits it (R134, R135). -/
theorem exec_demotedSelftest_passes {s : State} (demoted : s.pair.standby = 2) :
    exec (.demotedSelftest true) s = .next { s with pair := { s.pair with
      passes := min 3 (s.pair.passes + 1), repaired := decide (2 ≤ s.pair.passes),
      standby := if 2 ≤ s.pair.passes ∧ s.b .cpCtrl 3 = true then 1 else 2 } } := by
  refine congrArg Host.Outcome.next ((if_neg (by simp [demoted])).trans ((if_neg (by simp)).trans ?_))
  have passed : decide (3 ≤ s.pair.passes + 1) = decide (2 ≤ s.pair.passes) := decide_eq_decide.mpr (by omega)
  have again (p : Pair → Pair) : (s.setPair p).b .cpCtrl 3 = s.b .cpCtrl 3 := rfl
  simp only [again, State.setPair_pair, passed]
  by_cases readmits : 2 ≤ s.pair.passes ∧ s.b .cpCtrl 3 = true
  · rw [if_pos readmits, if_pos (by simpa using readmits), ← passed]
    rfl
  · rw [if_neg readmits, if_neg (by simpa using readmits), ← demoted, ← passed]
    rfl

/-- Bits of CP_CTRL with an action bit added. -/
theorem getLsbD_or_two (w : Word) : (w ||| 2).getLsbD 1 = true ∧ (w ||| 2).getLsbD 2 = w.getLsbD 2 := by
  simp

theorem getLsbD_or_four (w : Word) : (w ||| 4).getLsbD 2 = true ∧ (w ||| 4).getLsbD 1 = w.getLsbD 1 := by
  simp

/-- Settles O26: control and the standby, each event with its guard open. -/
theorem controlFailsOverAndTheStandbyReturns : Obligations.ControlFailsOverAndTheStandbyReturns := by
  intro port value s
  refine ⟨fun kind u addr tag c => exec_mismatch_next, fun kind addr c => exec_mismatch_last, fun idle swaps => ?_,
    fun idle none_ forced healthy => ?_, fun healthy released => ?_, fun demoted => ⟨?_, ?_⟩, fun resyncs => ?_,
    fun inB healthy resynced allowed open_ => ?_, fun can fresh => ⟨fun repaired clear => ?_, fun healthy clear => ?_, ?_, fun on period => ?_⟩⟩
  · obtain ⟨pair, queue⟩ := openGate_frame (s.setPair fun p => { p with swapping := none, wdogPaused := false })
    refine ⟨_, congrArg Host.Outcome.next ((if_neg (by simp [idle])).trans (if_pos swaps)), ?_⟩
    rw [State.nextCmd, pair, queue]
    exact ⟨rfl, rfl, rfl, rfl, rfl⟩
  · refine ⟨_, congrArg Host.Outcome.next ((if_neg (by simp [idle])).trans ((if_neg (by simp [none_])).trans
      (if_pos (by simp [forced, healthy])))), ?_, ?_, ?_⟩
    · rw [State.changeControl_pair]
      rfl
    · rw [State.changeControl_pair]
    · unfold State.changeControl
      rw [if_neg (by simp)]
      exact State.reg_raise_own_bit _ 3 1 1 _ .cpEvents rfl (by decide)
  · refine ⟨_, congrArg Host.Outcome.next (if_neg (by simp [healthy, released])), ?_, ?_, ?_,
      State.reg_raise_own_bit _ 3 3 3 0 _ rfl (by decide)⟩
    all_goals rw [State.raise_pair]; rfl
  · exact ⟨_, exec_demotedSelftest_passes demoted, rfl, rfl, rfl⟩
  · exact congrArg Host.Outcome.next ((if_neg (by simp [demoted])).trans (if_pos rfl))
  · refine ⟨_, congrArg Host.Outcome.next (if_neg (by simp [resyncs])), ?_, ?_, State.reg_raise_own_bit _ 3 4 4 0 _ rfl (by decide)⟩
    all_goals rw [State.raise_pair]; rfl
  · refine ⟨_, congrArg Host.Outcome.next (if_pos (by simp [inB, healthy, resynced, allowed, open_])), ?_⟩
    rw [State.changeControl_pair]
    exact ⟨rfl, rfl, rfl⟩
  · obtain ⟨readmits, swaps⟩ := getLsbD_or_two (s.reg .cpCtrl)
    have clear' : (s.reg .cpCtrl).getLsbD 2 = false := clear
    obtain ⟨t, written, -, readmit, standby⟩ := wrCpCtrl_of_admitted (v := s.reg .cpCtrl ||| 2) fresh (by rw [readmits, swaps, clear', repaired]; rfl)
      (by rw [readmits, Bool.or_true])
    exact ⟨t, congrArg Host.Outcome.next ((if_pos can).trans (by rw [written]; rfl)), standby readmits, by rw [readmit, readmits, Bool.or_true]⟩
  · obtain ⟨swaps, readmits⟩ := getLsbD_or_four (s.reg .cpCtrl)
    have clear' : (s.reg .cpCtrl).getLsbD 1 = false := clear
    obtain ⟨t, written, force, -⟩ := wrCpCtrl_of_admitted (v := s.reg .cpCtrl ||| 4) fresh (by rw [swaps, readmits, clear', healthy]; rfl)
      (by rw [swaps, Bool.true_or])
    exact ⟨t, congrArg Host.Outcome.next ((if_pos can).trans (by rw [written]; rfl)), by rw [force, swaps, Bool.or_true]⟩
  · refine ⟨_, congrArg Host.Outcome.next (if_pos can), ?_⟩
    simp only [wrFeed, writeOr, State.action_of_not_replaying 3 _ fresh]
    split
    · exact ⟨rfl, rfl, rfl⟩
    · exact ⟨rfl, rfl, rfl⟩
  · refine ⟨_, congrArg Host.Outcome.next (if_pos (by simp [can, on])), ?_⟩
    have set : (s.setReg .cpWdogCfg (value &&& 0x7FF)).pair.replaying = false := fresh
    simp only [wrWdogCfg, if_neg period, on, if_true, writeOr, State.action_of_not_replaying 3 _ set]
    exact ⟨rfl, rfl, (State.reg_congr _ _ _ rfl rfl rfl).trans (State.reg_setReg s .cpWdogCfg (value &&& 0x7FF))⟩

end Sys2Proof.Claims
end

section
/-!
SUPPORT. Fields of a word put together and read back, the lanes under scan control, the test unit and the regions, with the statements on
them (R325 to R331, R405 to R412).
-/
open Sys2Proof

namespace Sys2Proof.Machine

-- fields ----------------------------------------------------------------------------------------------------------------------------------

theorem fld_lt (w : Word) (hi lo : Nat) : fld w hi lo < 2 ^ (hi + 1 - lo) := Nat.mod_lt _ (Nat.two_pow_pos _)

theorem fld_and (v w : Word) (hi lo : Nat) : fld (v &&& w) hi lo = fld v hi lo &&& fld w hi lo := by
  simp only [fld, BitVec.toNat_and, Nat.and_mod_two_pow, ← Nat.shiftRight_eq_div_pow, Nat.shiftRight_and_distrib]

/-- A mask that covers a field keeps it. -/
theorem fld_and_of_covered {v m : Word} {hi lo : Nat} (covered : fld m hi lo = 2 ^ (hi + 1 - lo) - 1) : fld (v &&& m) hi lo = fld v hi lo := by
  rw [fld_and, covered, Nat.and_two_pow_sub_one_eq_mod, Nat.mod_eq_of_lt (fld_lt v hi lo)]

/-- A value placed at a field is read back. -/
theorem fld_at32_same {v hi lo : Nat} (ordered : lo ≤ hi) (fits : hi < 32) (small : v < 2 ^ (hi + 1 - lo)) : fld (at32 lo v) hi lo = v := by
  have scaled : v * 2 ^ lo < 2 ^ 32 := by
    calc v * 2 ^ lo < 2 ^ (hi + 1 - lo) * 2 ^ lo := Nat.mul_lt_mul_of_pos_right small (Nat.two_pow_pos lo)
      _ = 2 ^ (hi + 1) := by rw [← Nat.pow_add]; congr 1; omega
      _ ≤ 2 ^ 32 := Nat.pow_le_pow_right (by decide) fits
  rw [fld, at32, BitVec.toNat_ofNat, Nat.mod_eq_of_lt scaled, Nat.mul_div_cancel _ (Nat.two_pow_pos lo), Nat.mod_eq_of_lt small]

/-- A value placed above a field leaves it zero. -/
theorem fld_at32_above {v hi lo k : Nat} (above : hi < k) : fld (at32 k v) hi lo = 0 := by
  apply Nat.eq_of_testBit_eq
  intro i
  simp only [fld, at32, BitVec.toNat_ofNat, Nat.testBit_mod_two_pow, Nat.testBit_div_two_pow, Nat.testBit_mul_two_pow, Nat.zero_testBit]
  by_cases inField : i < hi + 1 - lo
  · simp [show ¬ k ≤ i + lo by omega]
  · simp [inField]

/-- A value placed below a field leaves it zero. -/
theorem fld_at32_below {v n hi lo k : Nat} (small : v < 2 ^ n) (below : k + n ≤ lo) : fld (at32 k v) hi lo = 0 := by
  apply fld_of_lt
  have scaled : v * 2 ^ k < 2 ^ lo := by
    calc v * 2 ^ k < 2 ^ n * 2 ^ k := Nat.mul_lt_mul_of_pos_right small (Nat.two_pow_pos k)
      _ = 2 ^ (k + n) := by rw [← Nat.pow_add, Nat.add_comm]
      _ ≤ 2 ^ lo := Nat.pow_le_pow_right (by decide) below
  rw [at32, BitVec.toNat_ofNat]
  exact Nat.lt_of_le_of_lt (Nat.mod_le _ _) scaled

/-- A field of a field that starts where it starts. -/
theorem fld_at32_fld {w : Word} {hi lo top : Nat} (inside : hi ≤ top) (fits : top < 32) :
    fld (at32 0 (fld w top 0)) hi lo = fld w hi lo := by
  apply Nat.eq_of_testBit_eq
  intro i
  simp only [fld, at32, BitVec.toNat_ofNat, Nat.testBit_mod_two_pow, Nat.testBit_div_two_pow, Nat.pow_zero, Nat.mul_one, Nat.div_one, Nat.sub_zero]
  by_cases inField : i < hi + 1 - lo
  · simp [inField, show i + lo < top + 1 by omega, show i + lo < 32 by omega]
  · simp [inField]

-- lanes -----------------------------------------------------------------------------------------------------------------------------------

/-- The lane that a write leaves, at the lane written and at the others. -/
theorem State.lane_setLane (s : State) (n k : Nat) (l : Lane) : (s.setLane n l).lane k = if k = n then l else s.lane k := by
  simp [State.lane, State.setLane, SMap.get_set]

theorem lane_congr {s t : State} (same : t.link = s.link) (k : Nat) : t.lane k = s.lane k := by
  simp only [State.lane, same]

@[simp] theorem enterHoldover_link (s : State) : s.enterHoldover.link = s.link := by simp [State.enterHoldover]

@[simp] theorem enterHoldover_test (s : State) : s.enterHoldover.test = s.test := by simp [State.enterHoldover]

@[simp] theorem untrain_test (s : State) (n : Nat) : (s.untrain n).test = s.test := by
  simp only [State.untrain]
  repeat' split
  all_goals simp

/-- A lane whose training is lost. -/
def untrained (l : Lane) : Lane :=
  { l with trained := false, sending := none, exT1 := none, exT2 := none, exT3 := none, cap := none, slotTrig := none, trigWait := [] }

theorem untrain_link (s : State) (n : Nat) :
    (s.untrain n).link = if (s.lane n).trained then (s.setLane n (untrained (s.lane n))).link else s.link := by
  simp only [State.untrain]
  by_cases on : (s.lane n).trained
  · simp only [on, Bool.not_true, Bool.false_eq_true, if_false, if_true]
    repeat' split
    all_goals simp [State.setLane, untrained]
  · simp [on]

/-- Untraining a lane leaves it untrained and keeps the others. -/
theorem trained_untrain (s : State) (n k : Nat) : ((s.untrain n).lane k).trained = if k = n then false else (s.lane k).trained := by
  by_cases on : (s.lane n).trained = true
  · have link : (s.untrain n).link = (s.setLane n (untrained (s.lane n))).link := (untrain_link s n).trans (if_pos on)
    rw [lane_congr link, State.lane_setLane, apply_ite Lane.trained]
    rfl
  · have link : (s.untrain n).link = s.link := (untrain_link s n).trans (if_neg on)
    rw [lane_congr link]
    split
    · next same => simpa [same] using on
    · rfl

@[simp] theorem startLane_test (s : State) (n : Nat) : (s.startLane n).test = s.test := rfl

theorem trained_startLane (s : State) (n k : Nat) : ((s.startLane n).lane k).trained = (s.lane k).trained := by
  rw [State.startLane, State.modLane, State.lane_setLane]
  split
  · next same =>
    rw [same]
    split <;> rfl
  · rfl

/-- Scan control untrains every lane that it reaches. -/
theorem trained_dropLanes (ns : List Nat) : ∀ (s : State) (k : Nat),
    ((s.dropLanes ns).lane k).trained = (if k ∈ ns then false else (s.lane k).trained) ∧ (s.dropLanes ns).test = s.test := by
  induction ns with
  | nil => exact fun s k => ⟨rfl, rfl⟩
  | cons n ns ih =>
    intro s k
    have dropped : ((if (s.lane n).trained then s.dropLane n else s).lane k).trained = (if k = n then false else (s.lane k).trained) ∧
        (if (s.lane n).trained then s.dropLane n else s).test = s.test := by
      split
      · rw [State.dropLane, trained_startLane, trained_untrain]
        exact ⟨rfl, by simp⟩
      · next off =>
        refine ⟨?_, rfl⟩
        split
        · next same => simpa [same] using off
        · rfl
    obtain ⟨trained, test⟩ := ih (if (s.lane n).trained then s.dropLane n else s) k
    rw [State.dropLanes, trained, test, dropped.1, dropped.2]
    refine ⟨?_, rfl⟩
    by_cases here : k = n <;> by_cases later : k ∈ ns <;> simp [here, later]

theorem lanesBack_test (ns : List Nat) : ∀ s : State, (s.lanesBack ns).test = s.test := by
  induction ns with
  | nil => exact fun _ => rfl
  | cons n ns ih =>
    intro s
    rw [State.lanesBack, ih]
    split <;> rfl

/-- An instruction code in force. -/
theorem loadIr_ir (s : State) (c : Byte) : (s.loadIr c).test.ir = c := by
  simp only [State.loadIr]
  split
  · rfl
  · split
    · rw [(trained_dropLanes _ _ 0).2]
      rfl
    · split
      · rw [lanesBack_test]
        rfl
      · rfl

/-- The start of scan control untrains every lane of the device. -/
theorem trained_loadIr {s : State} {c : Byte} (scan : scanCode c = true) (fresh : scanCode s.test.ir = false) (released : s.rel 8 = true)
    (n : Nat) (lane : n < s.res.lanes) : ((s.loadIr c).lane n).trained = false := by
  simp only [State.loadIr, scan, fresh, released, Bool.not_true, Bool.not_false, Bool.and_self, Bool.false_eq_true, if_false, if_true]
  rw [(trained_dropLanes _ _ n).1, if_pos (List.mem_range.mpr lane)]

end Sys2Proof.Machine

namespace Sys2Proof.Claims
open Sys2Proof.Machine

/-- The end of a command keeps every register but the event register of the control pair, and what it does not record of control. -/
theorem endCmd_frame (s : State) (wrote : Bool) (q : Reg) (other : q.key ≠ Reg.key .cpEvents) :
    (s.endCmd wrote).reg q = s.reg q ∧ (s.endCmd wrote).test = s.test ∧ (s.endCmd wrote).pair.service = s.pair.service := by
  simp only [State.endCmd]
  split
  · split
    · refine ⟨(reg_raise_of_ne _ 3 5 0 rfl other).trans (State.reg_congr s _ _ rfl rfl rfl), by simp, ?_⟩
      rw [State.raise_pair]
    · exact ⟨State.reg_congr s _ _ rfl rfl rfl, rfl, rfl⟩
  · exact ⟨rfl, rfl, rfl⟩

/-- The memories that a self-test zeroes or leaves free (R408). -/
def bistZeroed (s : State) (mask : BitVec 6) : State :=
  let z : State := if mask.getLsbD 0 then { s with window := [], vat := { s.vat with poisonWin := [], stale := [] } } else s
  if mask.getLsbD 1 then z.freeStores (List.range z.res.clusters) else z

/-- The end of a self-test: its result kept and SERVICE restored (R408, R409). -/
def bistEnded (z : State) (f : BitVec 6) : State :=
  let t : State := { z with ports := { z.ports with long := z.ports.long.filter fun l => l.op != 0xF00 },
                            pair := { z.pair with service := none }, test := { z.test with bist := none, result := f } }
  t.setReg .cpCtrl ((t.reg .cpCtrl &&& 0xFFFFFFFE) ||| bit32 0 (z.pair.service.getD false))

theorem freeStores_frame (cs : List Nat) : ∀ s : State, (s.freeStores cs).pair = s.pair ∧ (s.freeStores cs).window = s.window := by
  induction cs with
  | nil => exact fun _ => ⟨rfl, rfl⟩
  | cons c cs ih =>
    intro s
    unfold State.freeStores
    generalize freeStore s.free = store
    exact ⟨(ih _).1, (ih _).2⟩

theorem bistZeroed_frame (s : State) (mask : BitVec 6) : (bistZeroed s mask).pair = s.pair ∧
    (mask.getLsbD 0 = true → (bistZeroed s mask).window = []) := by
  unfold bistZeroed
  dsimp only
  split
  · obtain ⟨pair, window⟩ := freeStores_frame
      (List.range (if mask.getLsbD 0 then { s with window := [], vat := { s.vat with poisonWin := [], stale := [] } } else s).res.clusters)
      (if mask.getLsbD 0 then { s with window := [], vat := { s.vat with poisonWin := [], stale := [] } } else s)
    rw [pair, window]
    split
    · exact ⟨rfl, fun _ => rfl⟩
    · next off => exact ⟨rfl, fun on => absurd on off⟩
  · split
    · exact ⟨rfl, fun _ => rfl⟩
    · next off => exact ⟨rfl, fun on => absurd on off⟩

/-- BIST_DONE with a failing bit under the mask. -/
theorem exec_bistDone_failing {failed : BitVec 6} {target : BitVec 4} {unit : BitVec 12} {addr : Word} {s : State} {r : Req} {mask : BitVec 6}
    (runs : s.test.bist = some (r, mask)) (failing : failed &&& mask ≠ 0) : exec (.bistDone failed target unit addr) s = .next
      ((((bistEnded (bistZeroed s mask) (failed &&& mask)).raise 18 0 0).raise 18 1 0).reply 0xF00 r
        { status := .ok, payload := [(failed &&& mask).setWidth 32, at32 28 target.toNat ||| at32 16 unit.toNat, addr] }) := by
  have arm : exec (.bistDone failed target unit addr) s = execBistDone failed target unit addr s := rfl
  simp only [arm, execBistDone, runs, if_neg failing]
  rfl

/-- The bit of SERVICE in a restored CP_CTRL. -/
theorem getLsbD_service (w : Word) (on : Bool) : ((w &&& 0xFFFFFFFE) ||| bit32 0 on).getLsbD 0 = on := by
  cases on <;> simp [bit32]

/-- Settles O27: the test unit's commands, each with its checks passed. -/
theorem testAccessTakesEffect : Obligations.TestAccessTakesEffect := by
  intro r code failed target unit addr s
  refine ⟨fun on => ⟨⟨_, congrArg Host.Outcome.next (if_pos on), loadIr_ir _ _, trained_loadIr⟩, _, congrArg Host.Outcome.next (if_pos on),
    loadIr_ir _ _⟩, fun acc some_ six clocks free idle => ?_, fun mask runs failing => ?_, fun acc low high digital idle => ?_⟩
  · have clocked : (List.range 6).all (fun i => !(r.w 0).toNat.testBit i || s.rel (bistStep i)) = true := by
      simp only [List.all_eq_true, List.mem_range]
      intro i small
      cases bit : (r.w 0).toNat.testBit i
      · rfl
      · simp [clocks i small bit]
    have asked : ¬ ((r.w 0).toNat = 0 ∨ 64 ≤ (r.w 0).toNat) := by omega
    have clocked' : (List.range 6).all (fun i => !(r.w 0).toNat.testBit i || (s.startCmd 0xF00 r).rel (bistStep i)) = true := clocked
    have free' : bistRefused (s.startCmd 0xF00 r) (r.w 0).toNat = false := free
    have idle' : (s.startCmd 0xF00 r).test.bist = none := idle
    let u := s.startCmd 0xF00 r
    refine ⟨_, congrArg Host.Outcome.next (runOp_of_silent acc (t := (({ u with
      test := { u.test with bist := some (r, BitVec.ofNat 6 (r.w 0).toNat) }, pair := { u.pair with service := some (u.b .cpCtrl 0) },
      ports := { u.ports with long := u.ports.long ++ [{ op := 0xF00, res := 0, req := r }] } } : State).setReg .cpCtrl
        (u.reg .cpCtrl &&& 0xFFFFFFFE))) ?_), ?_⟩
    · simp only [if_neg asked, clocked', free', idle', Bool.not_true, Bool.false_eq_true, if_false, Option.isSome_none]
      rfl
    · obtain ⟨ctrl, test, service⟩ := endCmd_frame (({ u with
        test := { u.test with bist := some (r, BitVec.ofNat 6 (r.w 0).toNat) }, pair := { u.pair with service := some (u.b .cpCtrl 0) },
        ports := { u.ports with long := u.ports.long ++ [{ op := 0xF00, res := 0, req := r }] } } : State).setReg .cpCtrl
          (u.reg .cpCtrl &&& 0xFFFFFFFE)) true .cpCtrl (by decide)
      refine ⟨by rw [test]; rfl, service, ?_⟩
      rw [State.b, ctrl, State.reg_setReg]
      simp
  · obtain ⟨pair, window⟩ := bistZeroed_frame s mask
    refine ⟨_, exec_bistDone_failing runs failing, by simp [bistEnded], by simp [bistEnded], ?_, ?_, ?_, fun zeroed => ?_⟩
    · rw [State.b, reg_raise_of_ne _ 18 1 0 rfl (by decide), reg_raise_of_ne _ 18 0 0 rfl (by decide), bistEnded, State.reg_setReg,
        getLsbD_service, pair]
    · exact State.reg_raise_of_set _ 18 1 1 0 0 _ rfl (State.reg_raise_own_bit _ 18 0 0 0 _ rfl (by decide))
    · exact State.reg_raise_own_bit _ 18 1 1 0 _ rfl (by decide)
    · simpa [bistEnded] using window zeroed
  · have analog : wrAtest (s.startCmd 0xF01 r) (at32 0 (fld (r.w 0) 15 0)) =
        .ok ((s.startCmd 0xF01 r).setReg .tdAtestSel (at32 0 (fld (r.w 0) 15 0) &&& 0xFFFF)) := by
      have low' : atestOk (s.startCmd 0xF01 r) (fld (r.w 0) 7 0) = true := low
      have high' : atestOk (s.startCmd 0xF01 r) (fld (r.w 0) 15 8) = true := high
      have idle' : (s.startCmd 0xF01 r).test.bist = none := idle
      simp only [wrAtest, fld_at32_fld (show 7 ≤ 15 by decide) (show 15 < 32 by decide), fld_at32_fld (Nat.le_refl 15) (show 15 < 32 by decide),
        low', high', idle', Bool.not_true, Bool.or_self, Bool.false_eq_true, if_false, Option.isSome_none]
    generalize written : (s.startCmd 0xF01 r).setReg .tdAtestSel (at32 0 (fld (r.w 0) 15 0) &&& 0xFFFF) = t at analog
    have group : fld (at32 8 (fld (r.w 0) 29 24) ||| at32 0 (fld (r.w 0) 20 16)) 4 0 = fld (r.w 0) 20 16 := by
      rw [fld_or, fld_at32_above (by decide), Nat.zero_or]
      exact fld_at32_same (by decide) (by decide) (fld_lt (r.w 0) 20 16)
    have index : fld (at32 8 (fld (r.w 0) 29 24) ||| at32 0 (fld (r.w 0) 20 16)) 13 8 = fld (r.w 0) 29 24 := by
      rw [fld_or, fld_at32_below (fld_lt (r.w 0) 20 16) (by decide), Nat.or_zero]
      exact fld_at32_same (by decide) (by decide) (fld_lt (r.w 0) 29 24)
    have digital' : wrDtest t (at32 8 (fld (r.w 0) 29 24) ||| at32 0 (fld (r.w 0) 20 16)) =
        .ok (t.setReg .tdDtestSel ((at32 8 (fld (r.w 0) 29 24) ||| at32 0 (fld (r.w 0) 20 16)) &&& 0x3F1F)) := by
      have ok : dtestOk t (fld (r.w 0) 20 16) (fld (r.w 0) 29 24) = true := written ▸ digital
      have idle' : t.test.bist = none := written ▸ idle
      simp only [wrDtest, group, index, ok, idle', Bool.not_true, Bool.false_eq_true, if_false, Option.isSome_none]
    refine ⟨t.setReg .tdDtestSel ((at32 8 (fld (r.w 0) 29 24) ||| at32 0 (fld (r.w 0) 20 16)) &&& 0x3F1F),
      congrArg Host.Outcome.next (runOp_of_answer acc ?_), ?_, ?_, ?_⟩
    · simp only [analog, digital']
      rfl
    · rw [State.f, State.reg_setReg_of_ne _ _ (by decide), ← written, State.reg_setReg, fld_and_of_covered (by decide),
        fld_at32_fld (Nat.le_refl 15) (by decide)]
    · rw [State.f, State.reg_setReg, fld_and_of_covered (by decide), group]
    · rw [State.f, State.reg_setReg, fld_and_of_covered (by decide), index]

-- regions ---------------------------------------------------------------------------------------------------------------------------------

/-- The region that a write leaves, at the region written and at the others. -/
theorem region_setRegion (s : State) (n k : Nat) (g : Region) : (s.setRegion n g).region k = if k = n then g else s.region k := by
  simp [State.region, State.setRegion, SMap.get_set]

theorem leaveTags_frame (s : State) (g : Region) : (∀ k, (s.leaveTags g).region k = s.region k) ∧ (s.leaveTags g).window = s.window ∧
    (s.leaveTags g).vatMem = s.vatMem := by
  unfold State.leaveTags
  split <;> exact ⟨fun _ => rfl, rfl, rfl⟩

theorem needStep_of_released {s : State} {n : Nat} (k : State × Option Answer) (released : s.rel n = true) : needStep s n k = k :=
  if_pos released

/-- Zeroed memory reads zero in the range and as before outside it. -/
theorem rdByte_zeroRange (m : List Host.Cell) (lo hi i : Nat) :
    rdByte (zeroRange m lo hi) i = if lo ≤ i ∧ i < hi then 0 else rdByte m i := by
  have kept := find_filter_keys (α := Byte) (fun a => decide (a < lo) || decide (hi ≤ a)) i m
  rw [rdByte, rdByte, SMap.get_eq_find, SMap.get_eq_find, zeroRange, kept]
  by_cases inside : lo ≤ i ∧ i < hi
  · rw [if_pos inside, if_neg (by simp; omega)]
    rfl
  · rw [if_neg inside, if_pos (by simp; omega)]

/-- The records of region `n`'s range dropped before it is zeroed (R331). -/
def cleared (s : State) (n : Nat) : State :=
  let g := s.region n
  let t := (s.freeRange (!g.sram) g.base (g.base + g.size)).retag (!g.sram) g.base (g.base + g.size)
  t.setPoison (!g.sram) ((t.poison (!g.sram)).filter fun c => !decide (g.base ≤ c.1 ∧ c.1 < g.base + g.size))

theorem cleared_memories (s : State) (n : Nat) : (cleared s n).window = s.window ∧ (cleared s n).vatMem = s.vatMem := by
  have kept : (cleared s n).kept = s.kept := by simp [cleared]
  obtain ⟨-, -, window, vat, -, -⟩ := (kept_iff s _).mp kept
  exact ⟨window, vat⟩

/-- What the end of an init does to the memories: the named one is zeroed in its range (R331). -/
theorem setMem_zeroRange (s : State) (vat : Bool) (lo hi : Nat) :
    (vat = false → (s.setMem vat (zeroRange (s.mem vat) lo hi)).vatMem = s.vatMem ∧
      (s.setMem vat (zeroRange (s.mem vat) lo hi)).window = zeroRange s.window lo hi) ∧
    (vat = true → (s.setMem vat (zeroRange (s.mem vat) lo hi)).window = s.window ∧
      (s.setMem vat (zeroRange (s.mem vat) lo hi)).vatMem = zeroRange s.vatMem lo hi) := by
  cases vat
  · exact ⟨fun _ => ⟨rfl, rfl⟩, fun h => nomatch h⟩
  · exact ⟨fun h => absurd h (by decide), fun _ => ⟨rfl, rfl⟩⟩

/-- Settles O28: the branches of REGION_SET, the zeroing and the read. -/
theorem regionsAreDefinedZeroedAndRead : Obligations.RegionsAreDefinedZeroedAndRead := by
  intro r n s released
  refine ⟨fun g acc slot six seven none_ defined some_ good => ?_, fun acc slot six seven three four ready unused => ?_, fun init => ?_,
    fun acc => congrArg Host.Outcome.next (runOp_of_answer acc (needStep_of_released _ released))⟩
  · have old : (s.startCmd 0x210 r).region n = s.region n := rfl
    have good' : (s.startCmd 0x210 r).regionBad n g (fld (r.w 0) 13 12) (fld (r.w 0) 18 16) = false := good
    obtain ⟨regions, window, vat⟩ := leaveTags_frame (s.startCmd 0x210 r) (s.region n)
    refine ⟨((s.startCmd 0x210 r).leaveTags (s.region n)).setRegion n g, congrArg Host.Outcome.next (runOp_of_answer acc ?_), ?_,
      fun k other => ?_, window, vat⟩
    · have some' : ¬ (r.w 4).toNat * 2 ^ 32 + (r.w 3).toNat = 0 := by
        rw [defined] at some_
        exact some_
      subst defined
      simp only [slot, six, seven, ne_eq, not_true_eq_false, or_self, if_false, old, none_, good', Bool.and_false, Bool.false_eq_true, some',
        decide_true, or_true, false_and, and_false, if_true, needStep_of_released _ (show (s.startCmd 0x210 r).rel 6 = true from released)]
      exact if_neg (by decide)
    · exact (region_setRegion _ n n g).trans (if_pos rfl)
    · exact (region_setRegion _ n k g).trans ((if_neg other).trans (regions k))
  · have old : (s.startCmd 0x210 r).region n = s.region n := rfl
    have unused' : (s.startCmd 0x210 r).regionUsed (s.region n) = false := unused
    let v := (s.startCmd 0x210 r).freeRange (!(s.region n).sram) (s.region n).base ((s.region n).base + (s.region n).size)
    obtain ⟨regions, -, -⟩ := leaveTags_frame v (s.region n)
    refine ⟨(v.leaveTags (s.region n)).setRegion n {}, congrArg Host.Outcome.next (runOp_of_answer acc ?_), ?_, fun k other => ?_⟩
    · have empty : (r.w 4).toNat * 2 ^ 32 + (r.w 3).toNat = 0 := by rw [three, four]; rfl
      simp only [slot, six, seven, ne_eq, not_true_eq_false, or_self, if_false, old, ready, unused', empty, decide_false, Bool.false_and,
        Bool.false_eq_true, and_false, if_true, needStep_of_released _ (show (s.startCmd 0x210 r).rel 6 = true from released)]
      exact (if_neg (by decide)).trans (by rw [if_neg (show ¬ (2 : BitVec 2) = 0 by decide)]; rfl)
    · exact (region_setRegion _ n n _).trans (if_pos rfl)
    · exact (region_setRegion _ n k _).trans ((if_neg other).trans (regions k))
  · have notIdle : ¬ (s.region n).state ≠ 1 := not_not_intro init
    refine ⟨_, congrArg Host.Outcome.next (if_neg notIdle), ?_, State.reg_raise_own_bit _ 12 1 1 _ _ rfl (by decide), fun sram => ?_,
      fun vat => ?_⟩
    · rw [State.region, State.raise_vat]
      exact congrArg Region.state ((region_setRegion _ n n _).trans (if_pos rfl))
    all_goals rw [State.raise_window, State.raise_vatMem]
    · obtain ⟨named, -⟩ := setMem_zeroRange (cleared s n) (!(s.region n).sram) (s.region n).base ((s.region n).base + (s.region n).size)
      obtain ⟨other, zeroed⟩ := named (by rw [sram]; rfl)
      refine ⟨other.trans (cleared_memories s n).2, fun a => (congrArg (rdByte · a) zeroed).trans ?_⟩
      rw [rdByte_zeroRange, (cleared_memories s n).1]
    · obtain ⟨-, named⟩ := setMem_zeroRange (cleared s n) (!(s.region n).sram) (s.region n).base ((s.region n).base + (s.region n).size)
      obtain ⟨other, zeroed⟩ := named (by rw [vat]; rfl)
      refine ⟨other.trans (cleared_memories s n).1, fun a => (congrArg (rdByte · a) zeroed).trans ?_⟩
      rw [rdByte_zeroRange, (cleared_memories s n).2]

end Sys2Proof.Claims
end

section
/-!
SUPPORT. What an advance of chain time leaves, and the statements on the time commands and the pulse outputs (R140 to R156).
-/
open Sys2Proof

namespace Sys2Proof.Machine
open Sys2Proof.Claims

/-- An advance moves the clocks of the time core and raises at most the wrap (R141). -/
theorem State.advance_frame (s : State) (d : Nat) : s.advance d =
    { s with time := { s.time with ct := (s.advance d).time.ct, epoch := (s.advance d).time.epoch, ltFrac := (s.advance d).time.ltFrac,
                                   ltFine := (s.advance d).time.ltFine, lt := (s.advance d).time.lt },
             csr := (s.advance d).csr, ports := (s.advance d).ports, pair := (s.advance d).pair, out := (s.advance d).out,
             free := (s.advance d).free } := by
  simp only [State.advance]
  split
  · simp only [State.raise_time, State.raise_free]
    split <;> exact State.raise_frame _ 5 11 0
  · split <;> rfl

theorem State.advanceTo_frame (s : State) (c : CT) : s.advanceTo c =
    { s with time := { s.time with ct := (s.advanceTo c).time.ct, epoch := (s.advanceTo c).time.epoch, ltFrac := (s.advanceTo c).time.ltFrac,
                                   ltFine := (s.advanceTo c).time.ltFine, lt := (s.advanceTo c).time.lt },
             csr := (s.advanceTo c).csr, ports := (s.advanceTo c).ports, pair := (s.advanceTo c).pair, out := (s.advanceTo c).out,
             free := (s.advanceTo c).free } := by
  unfold State.advanceTo
  split
  · exact State.advance_frame s _
  · rfl

/-- CT after an advance. -/
theorem State.advance_ct (s : State) (d : Nat) : (s.advance d).time.ct = s.time.ct + BitVec.ofNat 64 d := by
  have sum : BitVec.ofNat 64 (s.time.ct.toNat + d) = s.time.ct + BitVec.ofNat 64 d := by
    rw [BitVec.ofNat_add, BitVec.ofNat_toNat, BitVec.setWidth_eq]
  simp only [State.advance]
  split
  · rw [State.raise_time]
    split <;> exact sum
  · split <;> exact sum

/-- CT comes to an instant that is not earlier than the present (R141). -/
theorem State.advanceTo_ct {s : State} {c : CT} (released : s.rel 7 = true) (later : 0 ≤ ctDiff c s.time.ct) : (s.advanceTo c).time.ct = c := by
  unfold State.advanceTo
  by_cases moves : 0 < ctDiff c s.time.ct
  · rw [if_pos (by rw [released, Bool.true_and, decide_eq_true moves]), State.advance_ct, BitVec.ofNat_toNat, BitVec.setWidth_eq,
      BitVec.add_comm, BitVec.sub_add_cancel]
  · rw [if_neg (by rw [decide_eq_false moves, Bool.and_false]; exact Bool.false_ne_true)]
    have same : (c - s.time.ct).toInt = (0 : BitVec 64).toInt := by
      have := Int.le_antisymm (Int.not_lt.mp moves) later
      exact this
    have zero := BitVec.eq_of_toInt_eq same
    calc s.time.ct = 0 + s.time.ct := (BitVec.zero_add _).symm
      _ = c := by rw [← zero, BitVec.sub_add_cancel]

@[simp] theorem State.advanceTo_rel (s : State) (c : CT) (n : Nat) : (s.advanceTo c).rel n = s.rel n := by
  rw [State.advanceTo_frame]; rfl

/-- A bit of a register that is set stays set through an advance: it raises the wrap alone. -/
theorem State.reg_advance_of_ne (s : State) (d : Nat) (q : Reg) (other : q.key ≠ Reg.key .tcEvents) : (s.advance d).reg q = s.reg q := by
  simp only [State.advance]
  split
  · rw [reg_raise_of_ne _ 5 11 0 rfl other]
    split <;> rfl
  · split <;> rfl

theorem State.reg_advanceTo_of_ne (s : State) (c : CT) (q : Reg) (other : q.key ≠ Reg.key .tcEvents) :
    (s.advanceTo c).reg q = s.reg q := by
  unfold State.advanceTo
  split
  · exact State.reg_advance_of_ne s _ q other
  · rfl

/-- A step of CT writes the pulse outputs and keeps the set event bits (R151). -/
theorem State.stepPulses_frame (old new : CT) (ks : List Nat) : ∀ s : State,
    (s.stepPulses old new ks).time = { s.time with pulses := (s.stepPulses old new ks).time.pulses } ∧
    (∀ i, (s.reg .tcEvents).getLsbD i = true → ((s.stepPulses old new ks).reg .tcEvents).getLsbD i = true) ∧
    ∀ q : Reg, q.key ≠ Reg.key .tcEvents → (s.stepPulses old new ks).reg q = s.reg q := by
  induction ks with
  | nil => exact fun _ => ⟨rfl, fun _ => id, fun _ _ => rfl⟩
  | cons k ks ih =>
    intro s
    simp only [State.stepPulses]
    generalize (SMap.get {} s.time.pulses k).afterStep old new = q
    split
    · obtain ⟨time, bits, regs⟩ := ih ((s.setTime fun t => { t with pulses := SMap.set {} t.pulses k q.1 }).raise 5 9 0)
      refine ⟨time.trans (by rw [State.raise_time]; rfl), fun i set => bits i (State.reg_raise_of_set _ 5 9 9 i 0 _ rfl set),
        fun r other => (regs r other).trans ((reg_raise_of_ne _ 5 9 0 rfl other).trans rfl)⟩
    · exact ih _

/-- The compare after a step of CT (R151). -/
theorem State.stepCompare_frame (s : State) (new : CT) : (s.stepCompare new).time = s.time ∧
    ∀ q : Reg, q.key ≠ Reg.key .trEvents → (s.stepCompare new).reg q = s.reg q := by
  simp only [State.stepCompare]
  split
  · exact ⟨rfl, fun _ _ => rfl⟩
  · split
    · exact ⟨by rw [State.raise_time], fun q other => (reg_raise_of_ne _ 9 5 0 rfl other).trans rfl⟩
    · exact ⟨rfl, fun _ _ => rfl⟩

theorem State.shiftChans_frame (s : State) (d : CT) : (s.shiftChans d).time = s.time ∧ ∀ q : Reg, (s.shiftChans d).reg q = s.reg q := by
  have frame : (s.shiftChans d).time = s.time ∧ (s.shiftChans d).csr = s.csr ∧ (s.shiftChans d).boot = s.boot ∧
      (s.shiftChans d).fuses = s.fuses := by
    refine ⟨?_, ?_, ?_, ?_⟩ <;> rw [State.shiftChans]
  obtain ⟨time, csr, boot, fuses⟩ := frame
  exact ⟨time, fun q => State.reg_congr _ _ q (by rw [csr]) (by rw [boot]) fuses⟩

/-- A step of CT: it stands at the new instant, with the event of R151; the set bits of the core's events stay. -/
theorem State.stepCt_frame (s : State) (c : CT) (epoch : Word) :
    (s.stepCt c epoch).time = { s.time with ct := c, epoch, stepped := true, freq := (s.stepCt c epoch).time.freq,
                                            pulses := (s.stepCt c epoch).time.pulses } ∧
    ((s.stepCt c epoch).reg .tcEvents).getLsbD 8 = true ∧
    (∀ i, (s.reg .tcEvents).getLsbD i = true → ((s.stepCt c epoch).reg .tcEvents).getLsbD i = true) ∧
    ∀ q : Reg, q.key ≠ Reg.key .tcEvents → q.key ≠ Reg.key .trEvents → (s.stepCt c epoch).reg q = s.reg q := by
  simp only [State.stepCt]
  obtain ⟨shiftedTime, shiftedRegs⟩ := State.shiftChans_frame s (c - s.time.ct)
  generalize s.shiftChans (c - s.time.ct) = w at shiftedTime shiftedRegs
  generalize stepped : State.setTime w _ = v
  have started : v.time = { s.time with ct := c, epoch, stepped := true, freq := v.time.freq } := by
    rw [← stepped, ← shiftedTime]
    rfl
  have regs (q : Reg) : v.reg q = s.reg q := by
    rw [← stepped, ← shiftedRegs q]
    rfl
  obtain ⟨time, bits, others⟩ := State.stepPulses_frame s.time.ct c [0, 1, 2, 3] (v.raise 5 8 0)
  obtain ⟨time', others'⟩ := State.stepCompare_frame ((v.raise 5 8 0).stepPulses s.time.ct c [0, 1, 2, 3]) c
  rw [State.raise_time, started] at time
  refine ⟨?_, ?_, fun i set => ?_, fun q notTime notTrigger => ?_⟩
  · rw [time', time]
  · rw [others' _ (by decide)]
    exact bits 8 (State.reg_raise_own_bit v 5 8 8 0 _ rfl (by decide))
  · rw [others' _ (by decide)]
    exact bits i (State.reg_raise_of_set v 5 8 8 i 0 _ rfl ((regs _).symm ▸ set))
  · rw [others' q notTrigger, others q notTime, reg_raise_of_ne v 5 8 0 rfl notTime, regs]

/-- The flags of a measurement that has its three stamps (R161). -/
theorem measure_bits (stepped unaligned : Bool) :
    (bit32 0 false ||| bit32 1 stepped ||| bit32 2 unaligned).getLsbD 0 = false ∧
    (bit32 0 false ||| bit32 1 stepped ||| bit32 2 unaligned).getLsbD 1 = stepped := by
  cases stepped <;> cases unaligned <;> exact ⟨rfl, rfl⟩

/-- A fit counts its points. -/
theorem fitOf_n (used : List (Nat × CT)) (first : CT) : (fitOf used first).n = used.length := by
  have counted (l : List (Nat × CT)) : ∀ f : Fit, (l.foldl (fun f c => f.add c.1 (ctDiff c.2 first)) f).n = f.n + l.length := by
    induction l with
    | nil => exact fun _ => rfl
    | cons x l ih =>
      intro f
      rw [List.foldl_cons, ih, List.length_cons, Nat.add_comm l.length, ← Nat.add_assoc]
      rfl
  exact (counted used {}).trans (Nat.zero_add _)

end Sys2Proof.Machine

namespace Sys2Proof.Claims
open Sys2Proof.Machine

/-- Settles O29: the branches of the three commands, and the step of CT by its own lemma. -/
theorem timeCommandsSetAndRead : Obligations.TimeCommandsSetAndRead := by
  intro r s released
  refine ⟨fun acc whole stopped => ⟨fun free => ?_, fun root => ?_⟩, fun acc => ?_, fun acc source low high fast idle => ?_,
    fun q stamps lost taken used x xs open_ opened within among head many => ?_⟩
  · obtain ⟨time, event, -, -⟩ := State.stepCt_frame (s.startCmd 0x700 r) ((r.w 0) ++ (r.w 1)) (r.w 2)
    refine ⟨(s.startCmd 0x700 r).stepCt ((r.w 0) ++ (r.w 1)) (r.w 2), congrArg Host.Outcome.next (runOp_of_answer acc ?_),
      by rw [time], by rw [time], event⟩
    have free' : (s.startCmd 0x700 r).mode = 0 := free
    exact (if_neg (not_not_intro whole)).trans ((needStep_of_released _ (show (s.startCmd _ r).rel 7 = true from released)).trans
      ((if_neg (by rw [free', State.startCmd_time, stopped]; decide)).trans (if_pos free')))
  · have root' : (s.startCmd 0x700 r).mode = 1 := root
    refine congrArg Host.Outcome.next (runOp_of_answer acc ?_)
    exact (if_neg (not_not_intro whole)).trans ((needStep_of_released _ (show (s.startCmd _ r).rel 7 = true from released)).trans
      ((if_neg (by rw [root', State.startCmd_time, stopped]; decide)).trans (if_neg (by rw [root']; decide))))
  · exact congrArg Host.Outcome.next (runOp_of_answer acc (needStep_of_released _ released))
  · refine ⟨_, congrArg Host.Outcome.next (runOp_of_silent acc ((if_neg ?_).trans ((needStep_of_released _ (show (s.startCmd _ r).rel 7 = true from released)).trans (if_neg ?_)))), ?_⟩
    · have fast' : nominalKhz (s.startCmd 0x702 r) (fld (r.w 0) 2 0) ≤ 20000 * (fld (r.w 0) 31 16 + 1) := fast
      omega
    · rw [State.startCmd_time, idle]
      exact Bool.false_ne_true
    · rw [State.endCmd_time]
      exact ⟨_, rfl, rfl, rfl, rfl, rfl⟩
  · have notFew : decide (used.length < 3) = false := by
      rw [head, List.length_cons]
      exact decide_eq_false (by omega)
    have arm : exec (.freqMeasureDone stamps lost) s = execFreqMeasureDone stamps lost s := rfl
    have started : used.map (·.2) ≠ [] := by rw [head]; exact List.cons_ne_nil _ _
    have first : (used.map (·.2)).headD 0 = x.2 := by rw [head]; rfl
    simp only [arm, execFreqMeasureDone, open_, opened, Bool.not_true, Bool.false_eq_true, if_false, within, among, notFew, if_neg started, fitOf_n, first]
    obtain ⟨fewBit, steppedBit⟩ := measure_bits q.stepped q.unaligned
    exact ⟨_, _, rfl, rfl, rfl, rfl, rfl, rfl, fewBit, steppedBit, rfl⟩

-- pulse outputs ---------------------------------------------------------------------------------------------------------------------------

/-- What PULSE_SET leaves in an output `q` (R155). -/
def pulseAfterSet (q : Pulse) (mode : Nat) (start : CT) (period : BitVec 48) (width : Word) : Pulse :=
  if q.high then { q with queued := some (BitVec.ofNat 2 mode, start, period, width), armed := q.armed && mode != 0 }
  else if mode = 0 then { q with mode := 0, armed := false }
  else Pulse.load (BitVec.ofNat 2 mode) start period width

theorem pulses_set (s : State) (k j : Nat) (q : Pulse) :
    SMap.get {} (s.setPulse k q).time.pulses j = if j = k then q else SMap.get {} s.time.pulses j :=
  SMap.get_set {} s.time.pulses k j q

theorem advanceTo_pulses (s : State) (c : CT) : (s.advanceTo c).time.pulses = s.time.pulses := by rw [State.advanceTo_frame]

theorem exec_pulseSet {r : Req} {s : State} (acc : Accepts s 0x703 r true) (released : s.rel 7 = true)
    (fields : (r.w 0) &&& 0xFFFFFCFC = 0) (listed : fld (r.w 0) 9 8 ≠ 3)
    (good : fld (r.w 0) 9 8 = 0 ∨ pulseBad (fld (r.w 0) 9 8) ((r.w 1) ++ (r.w 2)) (fld (r.w 3) 15 0 * 2 ^ 32 + (r.w 4).toNat) (r.w 5).toNat
      (if (SMap.get {} s.time.pulses (fld (r.w 0) 1 0)).high then (SMap.get {} s.time.pulses (fld (r.w 0) 1 0)).fall else s.time.ct) = false) :
    exec (.pulseSet r) s = .next (ran 0x703 r { status := .ok } ((s.startCmd 0x703 r).setPulse (fld (r.w 0) 1 0)
      (pulseAfterSet (SMap.get {} s.time.pulses (fld (r.w 0) 1 0)) (fld (r.w 0) 9 8) ((r.w 1) ++ (r.w 2))
        (BitVec.ofNat 48 (fld (r.w 3) 15 0 * 2 ^ 32 + (r.w 4).toNat)) (r.w 5)))) := by
  refine congrArg Host.Outcome.next (runOp_of_answer acc ((if_neg ?_).trans ((if_neg ?_).trans (needStep_of_released _ released))))
  · exact not_or.mpr ⟨listed, not_not_intro fields⟩
  · rw [Bool.and_eq_true, decide_eq_true_eq]
    rintro ⟨some_, bad⟩
    rcases good with none_ | fine
    · exact some_ none_
    · exact Bool.false_ne_true (fine.symm.trans bad)

/-- Settles O30: the output written by each of the three, and the others unchanged. -/
theorem pulseOutputsRiseAndFall : Obligations.PulseOutputsRiseAndFall := by
  intro r k q s released out
  refine ⟨fun acc names fields listed good => ?_, fun armed low later => ?_, fun high later => ?_⟩
  · subst names out
    refine ⟨_, exec_pulseSet acc released fields listed good, fun low => ?_, fun high => ?_, fun j other => ?_⟩
    all_goals rw [pulses_set]
    · rw [if_pos rfl, pulseAfterSet, low, if_neg Bool.false_ne_true]
      by_cases off : fld (r.w 0) 9 8 = 0
      · rw [if_pos off]
        exact ⟨(decide_eq_false (not_not_intro off)).symm, fun on => absurd off on⟩
      · rw [if_neg off]
        refine ⟨?_, fun _ => ⟨rfl, rfl⟩⟩
        have small : fld (r.w 0) 9 8 < 4 := fld_lt (r.w 0) 9 8
        have on : BitVec.ofNat 2 (fld (r.w 0) 9 8) ≠ 0 := by
          intro zero
          have := congrArg BitVec.toNat zero
          rw [BitVec.toNat_ofNat, Nat.mod_eq_of_lt small] at this
          exact off this
        exact (decide_eq_true on).trans (decide_eq_true off).symm
    · rw [if_pos rfl, pulseAfterSet, high, if_pos rfl]
      exact ⟨rfl, rfl⟩
    · exact if_neg other
  · have arm : exec (.pulseRise k) s = execPulseRise k s := rfl
    simp only [arm, execPulseRise, out, released, armed, low, Bool.not_true, Bool.or_self, Bool.false_eq_true, if_false]
    refine ⟨_, rfl, State.advanceTo_ct released later, ?_⟩
    rw [pulses_set, if_pos rfl]
    exact ⟨rfl, rfl, rfl, fun periodic => if_pos periodic⟩
  · have arm : exec (.pulseFall k) s = execPulseFall k s := rfl
    simp only [arm, execPulseFall, out, high, Bool.not_true, Bool.false_eq_true, if_false]
    refine ⟨_, rfl, State.advanceTo_ct released later, ?_, fun j other => ?_⟩
    · rw [pulses_set, if_pos rfl]
      split
      · rfl
      · split
        · rfl
        · split <;> rfl
    · rw [pulses_set, if_neg other, advanceTo_pulses]

end Sys2Proof.Claims
end

section
/-!
SUPPORT. References, PPS edges and the follower's servo, with the statements on them (R143 to R153).
-/
open Sys2Proof

namespace Sys2Proof.Machine
open Sys2Proof.Claims

theorem State.f_congr {s t : State} {q : Reg} (same : t.reg q = s.reg q) (hi lo : Nat) : t.f q hi lo = s.f q hi lo := by
  rw [State.f, State.f, same]

theorem State.b_congr {s t : State} {q : Reg} (same : t.reg q = s.reg q) (i : Nat) : t.b q i = s.b q i := by
  rw [State.b, State.b, same]

theorem State.mode_congr {s t : State} (same : t.reg .tcSrcCfg = s.reg .tcSrcCfg) : t.mode = s.mode := State.f_congr same 2 0

/-- A counter's advance keeps every register but the one that says which block's counters stick (R416). -/
theorem reg_bump_of_ne (s : State) (a n : Nat) {q : Reg} (other : q.key ≠ Reg.key .gsCntSat) : (s.bump a n).reg q = s.reg q := by
  simp only [State.bump]
  split
  · rw [State.reg_congr ((s.bumpRaw a n).orReg .gsCntSat (bit32 (blockOf a) true)) _ q (State.notify_inForce _ _ _ _) (by simp) (by simp)]
    exact State.reg_setReg_of_ne _ _ other
  · rfl

/-- The entry to holdover (R147, R152). -/
theorem enterHoldover_frame (s : State) :
    s.enterHoldover.time = { s.time with state := 3, holding := true, steer := s.enterHoldover.time.steer, firstAvg := true, slew := 0,
                                         thetas := [], within := 0 } ∧
    (s.enterHoldover.reg .tcEvents).getLsbD 2 = true :=
  ⟨by simp only [State.enterHoldover, State.raise_time]; rfl, State.reg_raise_own_bit _ 5 2 2 0 _ rfl (by decide)⟩

/-- The loss of the alignment: the time record, its event, and the registers of other events (R12). -/
theorem clearAligned_time (s : State) :
    s.clearAligned.time = { s.time with freq := s.clearAligned.time.freq, fresh := false, aligned := false,
                                        stepped := s.clearAligned.time.stepped } ∧
    (s.time.aligned = true → (s.clearAligned.reg .tcEvents).getLsbD 0 = true) ∧
    ∀ q : Reg, q.key ≠ Reg.key .tcEvents → s.clearAligned.reg q = s.reg q := by
  simp only [State.clearAligned]
  split
  · exact ⟨by rw [State.raise_time]; rfl, fun _ => State.reg_raise_own_bit _ 5 0 0 0 _ rfl (by decide),
      fun q other => (reg_raise_of_ne _ 5 0 0 rfl other).trans rfl⟩
  · next apart =>
    have apart' : s.time.aligned = false := Bool.not_eq_true _ ▸ apart
    refine ⟨?_, fun on => absurd on apart, fun _ _ => rfl⟩
    simp only [State.setTime, apart']

/-- The entry to LOCKED (R146, R150). -/
theorem lock_frame (s : State) : s.lock.time = { s.time with state := 2, holding := s.lock.time.holding } ∧
    (s.time.state ≠ 2 → (s.lock.reg .tcEvents).getLsbD 1 = true) ∧ ∀ q : Reg, q.key ≠ Reg.key .tcEvents → s.lock.reg q = s.reg q := by
  unfold State.lock
  by_cases locked : s.time.state = 2
  · rw [if_pos locked]
    refine ⟨?_, fun off => absurd locked off, fun _ _ => rfl⟩
    show { s.time with state := s.time.state } = _
    rw [locked]
  · rw [if_neg locked]
    exact ⟨by rw [State.raise_time]; rfl, fun _ => State.reg_raise_own_bit _ 5 1 1 0 _ rfl (by decide),
      fun q other => (reg_raise_of_ne _ 5 1 0 rfl other).trans rfl⟩

/-- A stamp taken on a PPS edge, or dropped, changes only the FIFOs of the stamps (R160). -/
theorem stamp_frame (s : State) (n : Nat) (c : CT) :
    (s.stamp n c).time = { s.time with stamps0 := (s.stamp n c).time.stamps0, stamps1 := (s.stamp n c).time.stamps1 } ∧
    ∀ q : Reg, q.key ≠ Reg.key .tcEvents → q.key ≠ Reg.key .gsCntSat → (s.stamp n c).reg q = s.reg q := by
  simp only [State.stamp]
  split
  · exact ⟨rfl, fun _ _ _ => rfl⟩
  · generalize (if n = 0 then s.time.stamps0 else s.time.stamps1) = fifo
    by_cases full : 16 ≤ fifo.length
    · rw [if_pos full]
      refine ⟨?_, fun q notTime notSat => ?_⟩
      · simp only [State.raise_time, State.bump_time]
      · exact (reg_raise_of_ne _ 5 10 0 rfl notTime).trans (reg_bump_of_ne s _ 1 notSat)
    · rw [if_neg full]
      refine ⟨?_, fun _ _ _ => rfl⟩
      simp only [State.setTime]
      split <;> rfl

theorem ppsGone_frame (s : State) (lost : Bool) :
    (if lost = true then (s.setTime fun t => { t with pps := false }).raise 5 6 0 else s).time =
      { s.time with pps := (if lost = true then (s.setTime fun t => { t with pps := false }).raise 5 6 0 else s).time.pps } ∧
    ∀ q : Reg, q.key ≠ Reg.key .tcEvents →
      (if lost = true then (s.setTime fun t => { t with pps := false }).raise 5 6 0 else s).reg q = s.reg q := by
  cases lost
  · exact ⟨rfl, fun _ _ => rfl⟩
  · exact ⟨by simp only [if_true, State.raise_time]; rfl, fun q other => (reg_raise_of_ne _ 5 6 0 rfl other).trans rfl⟩

/-- What a PPS edge does to the presence of PPS_IN (R144). -/
theorem ppsPresence_frame (s : State) :
    s.ppsPresence.time = { s.time with pps := s.ppsPresence.time.pps, ppsLast := s.ppsPresence.time.ppsLast,
                                       ppsRun := s.ppsPresence.time.ppsRun } ∧
    ∀ q : Reg, q.key ≠ Reg.key .tcEvents → s.ppsPresence.reg q = s.reg q := by
  simp only [State.ppsPresence]
  generalize gone : (if (s.time.pps && decide (11 * secFine < 10 * _)) = true then _ else s) = w
  have frame : w.time = { s.time with pps := w.time.pps } ∧ ∀ q : Reg, q.key ≠ Reg.key .tcEvents → w.reg q = s.reg q :=
    gone ▸ ppsGone_frame s _
  obtain ⟨time, regs⟩ := frame
  refine ⟨?_, regs⟩
  simp only [State.setTime]
  rw [time]

end Sys2Proof.Machine

namespace Sys2Proof.Claims
open Sys2Proof.Machine

/-- The reference that REFA was leaves the time core (R147). -/
def refALost (s : State) : State := (s.setTime fun t => { t with refA := false }).raise 5 4 0

theorem refALost_frame (s : State) : (refALost s).time = { s.time with refA := false } ∧ (refALost s).clocks = s.clocks ∧
    ((refALost s).reg .tcEvents).getLsbD 4 = true ∧ ∀ q : Reg, q.key ≠ Reg.key .tcEvents → (refALost s).reg q = s.reg q :=
  ⟨State.raise_time _ _ _ _, State.raise_clocks _ _ _ _, State.reg_raise_own_bit _ 5 4 4 0 _ rfl (by decide),
    fun q other => (reg_raise_of_ne _ 5 4 0 rfl other).trans rfl⟩

/-- A PPS edge at `t0` after which a waiting TIME_SET applies (R145). -/
theorem exec_ppsEdge_sets {t0 c : CT} {e : Word} {s v u : State} (released : s.rel 7 = true)
    (turned : { s with time := { s.time with ppsIn := !s.time.ppsIn } } = v) (edge : s.time.ppsIn = s.b .tcSrcCfg 7)
    (arrived : ((v.advanceTo t0).stamp 0 t0).ppsPresence = u) (root : s.mode = 1) (uses : s.b .tcSrcCfg 6 = true)
    (present : u.time.pps = true) (waits : s.time.setCt = some (c, e)) (apart : s.time.aligned = false) :
    ∃ w : State, exec (.ppsEdge t0) s = .next (w.stepCt (ctAdd c (ppsDelay w)) e).lock ∧ ppsDelay w = ppsDelay s ∧
      w.time.setCt = none ∧ w.time.timeSet = true := by
  have turnedTime : v.time = { s.time with ppsIn := !s.time.ppsIn } := turned ▸ rfl
  have turnedRegs (q : Reg) : v.reg q = s.reg q := turned ▸ rfl
  obtain ⟨stamped, stampRegs⟩ := stamp_frame (v.advanceTo t0) 0 t0
  obtain ⟨time, regs⟩ := ppsPresence_frame ((v.advanceTo t0).stamp 0 t0)
  rw [arrived] at time regs
  rw [stamped, State.advanceTo_frame, turnedTime] at time
  have same (q : Reg) (notTime : q.key ≠ Reg.key .tcEvents) (notSat : q.key ≠ Reg.key .gsCntSat) : u.reg q = s.reg q := by
    rw [regs q notTime, stampRegs q notTime notSat, State.reg_advanceTo_of_ne v t0 q notTime, turnedRegs]
  have waits' : u.time.setCt = some (c, e) := by rw [time]; exact waits
  have apart' : u.time.aligned = false := by rw [time]; exact apart
  have config := same .tcSrcCfg (by decide) (by decide)
  refine ⟨u.setTime fun x => { x with setCt := none, timeSet := true, jumps := 0, slew := 0, ppsNext := some (c + BitVec.ofNat 64 secFine) },
    ?_, congrArg BitVec.toInt (same .tcPpsDelay (by decide) (by decide)), rfl, rfl⟩
  have arm : exec (.ppsEdge t0) s = execPpsEdge t0 s := rfl
  have turned' : (s.setTime fun x => { x with ppsIn := !s.time.ppsIn }) = v := turned
  have vReleased : v.rel 7 = true := turned ▸ released
  have uses' : u.b .tcSrcCfg 6 = true := (State.b_congr config 6).trans uses
  have root' : u.mode = 1 := (State.mode_congr config).trans root
  have edge' : s.time.ppsIn = v.b .tcSrcCfg 7 := edge.trans (State.b_congr (turnedRegs _) 7).symm
  simp only [arm, execPpsEdge, turned', vReleased, ← edge', arrived, uses', root', present, waits', apart', Bool.not_true, bne_self_eq_false,
    Bool.or_self, Bool.false_eq_true, if_false, ne_eq, not_true_eq_false, decide_false]

theorem exec_refLost_a {s : State} (released : s.rel 7 = true) (root : s.mode = 1) (onA : s.time.pllRef = 1) (here : s.time.refA = true) :
    exec (.refLost 0) s = .next (if s.b .tcSrcCfg 5 && s.time.refB && (s.b .tcSrcCfg 4 == false)
      then ((refALost s).setTime fun t => { t with pllRef := 2 }).raise 5 3 0
      else ((refALost s).setTime fun t => { t with pllRef := if s.clocks.fallback then 3 else 0 }).enterHoldover) := by
  obtain ⟨time, clocks, -, regs⟩ := refALost_frame s
  have config := regs .tcSrcCfg (by decide)
  have root' : (refALost s).mode = 1 := (State.mode_congr config).trans root
  have onA' : (refALost s).time.pllRef = 1 := by rw [time]; exact onA
  have other : refPresent (refALost s).time 2 = s.time.refB := by rw [time]; rfl
  have here' : refPresent s.time 1 = true := here
  have arm : exec (.refLost 0) s = execRefLost 0 s := rfl
  have lost : ((s.setTime fun t => { t with refA := false }).raise 5 4 0) = refALost s := rfl
  simp only [arm, execRefLost, released, here', if_true, Nat.zero_add, Nat.add_zero, lost, root', onA', other, State.b_congr config, clocks,
    Bool.not_true]
  exact congrArg Host.Outcome.next (if_neg (by decide))

/-- An advance to the wrap of CT (R140). -/
theorem advance_wraps (s : State) {d : Nat} (wrap : s.time.ct.toNat + d = 2 ^ 64) :
    (s.advance d).time.epoch = s.time.epoch + 1 ∧ ((s.advance d).reg .tcEvents).getLsbD 11 = true := by
  have once : (2 : Nat) ^ 64 / 2 ^ 64 = 1 := Nat.div_self (Nat.two_pow_pos 64)
  simp only [State.advance, wrap, once, Nat.le_refl, if_true]
  refine ⟨?_, State.reg_raise_own_bit _ 5 11 11 0 _ rfl (by decide)⟩
  rw [State.raise_time]
  split <;> rfl

/-- Settles O31: the branches of each event. -/
theorem referencesAndPpsSteerTheRoot : Obligations.ReferencesAndPpsSteerTheRoot := by
  intro c e t0 s released
  refine ⟨⟨congrArg Host.Outcome.next (if_neg (by simp [released])), congrArg Host.Outcome.next (if_neg (by simp [released])),
      congrArg Host.Outcome.next (if_neg (by simp [released]))⟩,
    fun root onA here => ⟨fun failover prefers other => ?_, fun stays => ?_⟩, fun present => ?_,
    fun falling u v level turned arrived => ⟨fun off => ?_, fun edge root uses present waits apart => ?_⟩, ?_⟩
  · obtain ⟨time, -, events, -⟩ := refALost_frame s
    refine ⟨_, (exec_refLost_a released root onA here).trans (congrArg Host.Outcome.next (if_pos (by rw [failover, other, prefers]; rfl))),
      ?_, ?_, ?_, State.reg_raise_own_bit _ 5 3 3 0 _ rfl (by decide), State.reg_raise_of_set _ 5 3 3 4 0 _ rfl events⟩
    all_goals rw [State.raise_time]
    · rfl
    · show (refALost s).time.refA = false
      rw [time]
    · show (refALost s).time.state = s.time.state
      rw [time]
  · have stays' : ¬ (s.b .tcSrcCfg 5 && s.time.refB && (s.b .tcSrcCfg 4 == false)) = true := by
      rcases stays with off | other | none_
      · rw [off]; simp
      · rw [other]; simp
      · rw [none_]; simp
    obtain ⟨time, event⟩ := enterHoldover_frame ((refALost s).setTime fun t => { t with pllRef := if s.clocks.fallback then 3 else 0 })
    exact ⟨_, (exec_refLost_a released root onA here).trans (congrArg Host.Outcome.next (if_neg stays')), by rw [time]; rfl, by rw [time],
      event⟩
  · refine ⟨_, congrArg Host.Outcome.next (if_pos (by rw [released, present]; rfl)), ?_, State.reg_raise_own_bit _ 5 6 6 0 _ rfl (by decide),
      ?_, ?_⟩
    all_goals rw [State.raise_time]; rfl
  · subst level turned
    exact congrArg Host.Outcome.next (if_pos (by rw [Bool.or_eq_true]; exact .inr (bne_iff_ne.mpr off)))
  · subst level
    obtain ⟨w, ran, delay, none_, done_⟩ := exec_ppsEdge_sets released turned edge arrived root uses present waits apart
    obtain ⟨stepped, -⟩ := State.stepCt_frame w (ctAdd c (ppsDelay w)) e
    obtain ⟨locked, -⟩ := lock_frame (w.stepCt (ctAdd c (ppsDelay w)) e)
    exact ⟨_, ran, by rw [locked, stepped, delay], by rw [locked, stepped], by rw [locked], by rw [locked, stepped]; exact none_,
      by rw [locked, stepped]; exact done_⟩
  · obtain ⟨epoch, event⟩ := advance_wraps s (Nat.add_sub_of_le (Nat.le_of_lt s.time.ct.isLt))
    refine ⟨_, congrArg Host.Outcome.next (if_pos released), ?_, epoch, event, by rw [State.advance_frame]⟩
    rw [State.advance_ct]
    apply BitVec.eq_of_toNat_eq
    have := s.time.ct.isLt
    show (s.time.ct.toNat + (2 ^ 64 - s.time.ct.toNat) % 2 ^ 64) % 2 ^ 64 = 0
    omega

-- the follower ------------------------------------------------------------------------------------------------------------------------------

/-- The state in which the servo acts on an average (R149). -/
def averaged (s : State) (avg : Int) : State :=
  (s.setTime fun t => { t with offset := w32 (sat 32 avg), steer := steerFree (s.freeVal / 2), thetas := [], firstAvg := false }).draw

section
variable {s : State} {n : Nat} {sum : Int} (follows : s.follower = true) (count : 2 ^ s.f .tcSrcCfg 11 8 = n)
    (enough : n ≤ s.time.thetas.length) (total : (s.time.thetas.drop (s.time.thetas.length - n)).foldl (· + ·) 0 = sum)
    (exact_ : sum % (2 * n : Int) = 0)
include follows count enough total exact_

theorem servo_locks (acquires : s.time.state = 1) (later : s.time.firstAvg = false) (small : (sum.natAbs : Int) * 5 < 256 * (2 * n : Int))
    (almost : s.time.within = 15) :
    s.servo = ((averaged s (sum / (2 * n : Int))).setTime fun t => { t with within := 0 }).lock := by
  have due : (!s.follower || decide (s.time.thetas.length < n)) = false := by
    rw [follows, decide_eq_false (Nat.not_lt.mpr enough)]
    rfl
  subst count
  simp only [State.servo, due, total, exact_, if_true, Bool.false_eq_true, if_false, acquires, later, small, almost, decide_true, Bool.false_and,
    averaged]
  rfl

theorem servo_steps (acquires : s.time.state = 1) (first : s.time.firstAvg = true) (large : 512000 * (2 * n : Int) < sum.natAbs * 1) :
    s.servo = (((averaged s (sum / (2 * n : Int))).stepCt (ctAdd s.time.ct (-(sum / (2 * n : Int)))) s.time.upEpoch).takeFrame).setTime
      fun t => { t with within := 0 } := by
  have due : (!s.follower || decide (s.time.thetas.length < n)) = false := by
    rw [follows, decide_eq_false (Nat.not_lt.mpr enough)]
    rfl
  subst count
  simp only [State.servo, due, total, exact_, if_true, Bool.false_eq_true, if_false, acquires, first, large, decide_true, Bool.and_self,
    averaged]
  rfl

theorem servo_unlocks (locked : s.time.state = 2) (large : 512 * (2 * n : Int) < sum.natAbs * 1) :
    s.servo = ((averaged s (sum / (2 * n : Int))).setTime fun t => { t with state := 1, firstAvg := true, within := 0 }).clearAligned := by
  have due : (!s.follower || decide (s.time.thetas.length < n)) = false := by
    rw [follows, decide_eq_false (Nat.not_lt.mpr enough)]
    rfl
  subst count
  simp only [State.servo, due, total, exact_, if_true, Bool.false_eq_true, if_false, locked, large, decide_true, averaged]
  rfl

end

/-- An exact average above a bound. -/
theorem above_of_average {sum bound : Int} {n : Nat} (positive : 0 < n) (exact_ : sum % (2 * n : Int) = 0)
    (large : bound < ((sum / (2 * n : Int)).natAbs : Int)) : bound * (2 * n : Int) < sum.natAbs * 1 := by
  have whole : sum = sum / (2 * n : Int) * (2 * n : Int) := (Int.ediv_mul_cancel_of_emod_eq_zero exact_).symm
  have size : (sum.natAbs : Int) = (sum / (2 * n : Int)).natAbs * (2 * n : Int) := by
    calc (sum.natAbs : Int) = ((sum / (2 * n : Int) * (2 * n : Int)).natAbs : Int) := congrArg (fun v : Int => (v.natAbs : Int)) whole
      _ = _ := by rw [Int.natAbs_mul, Int.natCast_mul, Int.natAbs_of_nonneg (show (0 : Int) ≤ 2 * n by omega)]
  rw [Int.mul_one, size]
  exact Int.mul_lt_mul_of_pos_right large (by omega)

/-- The frame taken afresh from upstream keeps CT and the epoch (R453). -/
theorem takeFrame_frame (s : State) : s.takeFrame.time.ct = s.time.ct ∧ s.takeFrame.time.epoch = s.time.epoch ∧
    ∀ q : Reg, s.takeFrame.reg q = s.reg q := by
  simp only [State.takeFrame]
  split
  · exact ⟨rfl, rfl, fun _ => rfl⟩
  · generalize decide (sdiff 48 s.time.upFn.toNat (s.frameSent / max s.time.upPeriod.toNat 1) = 0) = near
    cases near
    all_goals refine ⟨?_, ?_, fun q => State.reg_congr s _ q ?_ ?_ ?_⟩ <;> simp only [State.dropCommit, State.setTime, State.draw, if_true, Bool.false_eq_true, if_false]

theorem fld_srcCfg (v : Word) : fld (v &&& 0xFF7) 2 0 = fld v 2 0 ∧ fld (v &&& 0xFF7) 11 8 = fld v 11 8 ∧
    (v &&& 0xFF7).getLsbD 4 = v.getLsbD 4 := by
  refine ⟨fld_and_of_covered (by decide), fld_and_of_covered (by decide), ?_⟩
  rw [BitVec.getLsbD_and]
  exact Bool.and_true _

/-- Settles O32: the branches of the servo, of the two ends of a wait, and of a write of TC_SRC_CFG. -/
theorem followersAcquireLockAndHold : Obligations.FollowersAcquireLockAndHold := by
  intro port value s released
  refine ⟨fun n sum follows count enough total => ?_, fun follows locked => ?_, fun holds running steered => ?_,
    fun can listed low high => ⟨fun changes stopped paths => ?_, fun same => ?_⟩⟩
  · have positive : 0 < n := count ▸ Nat.two_pow_pos _
    have arm : exec .servoUpdate s = .next s.servo := rfl
    refine ⟨fun acquires later zero almost => ?_, fun acquires first exact_ large => ?_, fun locked exact_ large aligned => ?_⟩
    · subst zero
      refine ⟨_, arm, ?_⟩
      rw [servo_locks follows count enough total (Int.zero_emod _) acquires later (by omega) almost, Int.zero_ediv]
      obtain ⟨time, event, -⟩ := lock_frame ((averaged s 0).setTime fun t => { t with within := 0 })
      refine ⟨by rw [time], by rw [time]; rfl, by rw [time]; rfl, by rw [time]; rfl, event fun locked => ?_⟩
      have acquires' : s.time.state = 2 := locked
      rw [acquires] at acquires'
      exact absurd acquires' (by decide)
    · refine ⟨_, arm, ?_⟩
      rw [servo_steps follows count enough total exact_ acquires first (above_of_average positive exact_ (Int.ofNat_lt.mpr large))]
      generalize sum / (2 * n : Int) = avg
      obtain ⟨time, event, -, -⟩ := State.stepCt_frame (averaged s avg) (ctAdd s.time.ct (-avg)) s.time.upEpoch
      obtain ⟨ct, epoch, regs⟩ := takeFrame_frame ((averaged s avg).stepCt (ctAdd s.time.ct (-avg)) s.time.upEpoch)
      generalize State.takeFrame _ = u at ct epoch regs
      refine ⟨ct.trans (by rw [time]), epoch.trans (by rw [time]), ?_⟩
      rw [← regs] at event
      exact event
    · refine ⟨_, arm, ?_⟩
      rw [servo_unlocks follows count enough total exact_ locked (above_of_average positive exact_ (Int.ofNat_lt.mpr large))]
      obtain ⟨time, event, -⟩ := clearAligned_time ((averaged s (sum / (2 * n : Int))).setTime fun t =>
        { t with state := 1, firstAvg := true, within := 0 })
      exact ⟨by rw [time]; rfl, by rw [time], by rw [time]; rfl, event aligned⟩
  · refine ⟨_, congrArg Host.Outcome.next (if_pos (by rw [follows, locked]; rfl)), ?_⟩
    obtain ⟨time, event⟩ := enterHoldover_frame s
    exact ⟨by rw [time], by rw [time], by rw [time], event⟩
  · refine ⟨_, congrArg Host.Outcome.next (if_pos (by rw [holds, running, decide_eq_true steered]; rfl)), ?_⟩
    obtain ⟨time, -, -⟩ := clearAligned_time (s.setTime fun t => { t with holding := false })
    exact ⟨by rw [time], by rw [time]; exact holds, by rw [time]; rfl⟩
  · obtain ⟨mode, log2, -⟩ := fld_srcCfg value
    refine ⟨_, congrArg Host.Outcome.next (if_pos (by rw [can, decide_eq_true changes]; rfl)), ?_⟩
    have refused : ¬ (3 < fld value 2 0 ∨ fld value 11 8 < 4 ∨ 10 < fld value 11 8) := by omega
    have idle : ¬ (s.time.ticking || anyPathEnabled s) = true := by rw [stopped, paths]; exact Bool.false_ne_true
    simp only [wrSrcCfg, mode, log2, if_neg refused, if_pos changes, if_neg idle, writeOr]
    generalize ended : (if s.time.taken = true then _ else _) = w
    have frame : w.time.ct = s.time.ct ∧ w.time.aligned = false := by
      obtain ⟨time, -, -⟩ := clearAligned_time s
      rw [← ended]
      have kept : s.clearAligned.time.ct = s.time.ct := by rw [time]
      have lost : s.clearAligned.time.aligned = false := by rw [time]
      split <;> exact ⟨kept, lost⟩
    obtain ⟨ct, apart⟩ := frame
    have source : ((w.setReg .tcSrcCfg (value &&& 0xFF7)).startMode (value &&& 0xFF7)).reg .tcSrcCfg = value &&& 0xFF7 := State.reg_setReg w _ _
    refine ⟨(congrArg (fld · 2 0) source).trans mode, source, ct, apart, fun root => ?_, fun ptp => ?_⟩
    · have notPtp : ¬ fld value 2 0 = 2 := by omega
      have notFollower : ¬ fld value 2 0 = 3 := by omega
      simp only [State.startMode, State.setTime, mode, if_neg notPtp, notFollower, false_and, if_false]
    · simp only [State.startMode, State.setTime, mode, if_pos ptp]
  · obtain ⟨mode, log2, prefers⟩ := fld_srcCfg value
    refine ⟨_, congrArg Host.Outcome.next (if_pos (by rw [can, decide_eq_true same]; rfl)), ?_⟩
    have refused : ¬ (3 < fld value 2 0 ∨ fld value 11 8 < 4 ∨ 10 < fld value 11 8) := by omega
    simp only [wrSrcCfg, mode, log2, prefers, if_neg refused, if_neg (not_not_intro same)]
    rw [apply_ite (writeOr s)]
    simp only [writeOr]
    generalize wrote : s.setReg .tcSrcCfg (value &&& 0xFF7) = w
    have source : w.reg .tcSrcCfg = value &&& 0xFF7 := wrote ▸ State.reg_setReg s _ _
    have time : w.time = s.time := wrote ▸ rfl
    rw [time]
    generalize chosen : (w.setTime fun t => { t with pllRef := BitVec.ofNat 2 (if value.getLsbD 4 = true then 2 else 1), steer := 0 }) = x
    obtain ⟨locked, -, regs⟩ := lock_frame x
    have source' : x.reg .tcSrcCfg = value &&& 0xFF7 := chosen ▸ source
    refine ⟨?_, fun root prefersA onB hereA => ?_⟩
    · generalize (if value.getLsbD 4 = true then 2 else 1) = want
      split
      · split
        · exact (regs _ (by decide)).trans source'
        · exact source'
      · exact source
    · have taken : fld value 2 0 = 1 ∧ s.time.pllRef.toNat ≠ (if value.getLsbD 4 = true then 2 else 1) ∧
          refPresent s.time (if value.getLsbD 4 = true then 2 else 1) = true := by
        rw [same, prefersA, onB]
        exact ⟨root, by decide, hereA⟩
      have onA : x.time.pllRef = 1 := by
        rw [← chosen, prefersA]
        rfl
      have state : x.time.state = s.time.state := by rw [← chosen, ← time]; rfl
      rw [if_pos taken, state]
      split
      · rw [locked]
        exact ⟨onA, fun _ => rfl⟩
      · next off => exact ⟨onA, fun on => absurd on off⟩

end Sys2Proof.Claims
end

section
/-!
SUPPORT. The core of the state: the frame grid, the schedule in force, what waits for a tick and the registers that are not event registers,
as one projection of the state and one equation for each operation that keeps it. The statements on ticks rest on it (R7, R25).
-/
open Sys2Proof
namespace Sys2Proof.Machine
open Sys2Proof.Claims

/-- The registers that events and counters write. -/
def eventRegs : List Reg :=
  [.crClkEvents, .pmWarn, .cpEvents, .cmdEvents, .tcEvents, .caEvents, .mdEvents, .hbEvents, .trEvents, .eaEvents, .scEvents, .scMergeEvents,
    .vtEvents, .igEvents, .prEvents, .lkEvents, .euEvents, .hkEvents, .tdEvents, .gsCntSat]

/-- The values in force of the other registers. -/
def settingsOf (m : SMap Word) (k : Nat) : Option Word := if k ∈ eventRegs.map Reg.key then none else SMap.find m k

/-- What the work of a frame leaves as it is. -/
structure Core where
  ct        : CT
  epoch     : Word
  fn        : FN
  period    : BitVec 21
  org       : BitVec 87
  tickE     : BitVec 87
  first     : Bool
  power     : Power
  active    : List Entry
  swapDue   : Bool
  pend      : SMap Word
  due       : SMap Word
  settings  : Nat → Option Word
  passed    : Bool
  fuses     : Fuses
  armDue    : Option Arm
  disarmDue : Bool

def State.core (s : State) : Core :=
  ⟨s.time.ct, s.time.epoch, s.time.fn, s.time.period, s.time.org, s.time.tickE, s.time.first, s.power, s.sched.active, s.sched.swapDue,
    s.csr.pend, s.csr.due, settingsOf s.csr.inForce, s.boot.passed, s.fuses, s.rennet.armDue, s.rennet.disarmDue⟩

@[simp] theorem State.core_mk (a b c d e f g h i j k l m n o p q r s t u v w x y z a' b' c' d' e') :
    (State.mk a b c d e f g h i j k l m n o p q r s t u v w x y z a' b' c' d' e').core =
      ⟨i.ct, i.epoch, i.fn, i.period, i.org, i.tickE, i.first, c, j.active, j.swapDue, h.pend, h.due, settingsOf h.inForce, e.passed, a,
        n.armDue, n.disarmDue⟩ := (rfl)

@[simp] theorem State.core_eta (s : State) :
    Core.mk s.time.ct s.time.epoch s.time.fn s.time.period s.time.org s.time.tickE s.time.first s.power s.sched.active s.sched.swapDue
      s.csr.pend s.csr.due (settingsOf s.csr.inForce) s.boot.passed s.fuses s.rennet.armDue s.rennet.disarmDue = s.core := (rfl)

@[simp] theorem State.core_ite (c : Prop) [Decidable c] (s t : State) : (if c then s else t).core = if c then s.core else t.core :=
  apply_ite State.core c s t

@[simp] theorem core_foldl {α : Type} {f : State → α → State} (step : ∀ s x, (f s x).core = s.core) (l : List α) :
    ∀ s : State, (l.foldl f s).core = s.core := by
  induction l with
  | nil => exact fun _ => rfl
  | cons x xs ih => exact fun s => (ih _).trans (step s x)

theorem settingsOf_put {m : SMap Word} {k : Nat} (v : Word) (event : k ∈ eventRegs.map Reg.key) :
    settingsOf (SMap.put m k v) = settingsOf m := by
  funext i
  unfold settingsOf
  split
  · rfl
  · next quiet => rw [SMap.find_put, if_neg fun same : i = k => quiet (same.symm ▸ event)]

theorem State.orReg_core (s : State) {q : Reg} (m : Word) (event : q.key ∈ eventRegs.map Reg.key) : (s.orReg q m).core = s.core := by
  have same : settingsOf (s.orReg q m).csr.inForce = settingsOf s.csr.inForce := settingsOf_put _ event
  rw [State.core, same]
  rfl

/-- The register of every event is one of them. -/
theorem eventReg_mem {block code i : Nat} {q : Reg} (own : eventReg block code = some (q, i)) : q.key ∈ eventRegs.map Reg.key := by
  unfold eventReg at own
  repeat' split at own
  any_goals
    obtain ⟨rfl, -⟩ := Prod.mk.inj (Option.some.inj own)
    decide
  exact nomatch own

@[simp] theorem State.bumpRaw_core (s : State) (a n : Nat) : (s.bumpRaw a n).core = s.core := (rfl)

@[simp] theorem State.bumpRaw_pend (s : State) (a n : Nat) : (s.bumpRaw a n).csr.pend = s.csr.pend :=
  congrArg Core.pend (State.bumpRaw_core s a n)

@[simp] theorem State.bumpRaw_due (s : State) (a n : Nat) : (s.bumpRaw a n).csr.due = s.csr.due :=
  congrArg Core.due (State.bumpRaw_core s a n)

@[simp] theorem State.bumpRaw_settings (s : State) (a n : Nat) :
    settingsOf (s.bumpRaw a n).csr.inForce = settingsOf s.csr.inForce :=
  congrArg Core.settings (State.bumpRaw_core s a n)

@[simp] theorem State.setPort_core (s : State) (p : Nat) (q : Port) : (s.setPort p q).core = s.core := by
  simp [State.setPort]

@[simp] theorem State.sendDatagram_core (s : State) (dst : EthPeer) (ws : List Word) : (s.sendDatagram dst ws).core = s.core := by
  simp [State.sendDatagram]

@[simp] theorem State.notifyPort_core (s : State) (p : Nat) (block : Nat) (code : Nat) (detail : Word) (ct : CT) :
    (s.notifyPort p block code detail ct).core = s.core := by
  simp [State.notifyPort]

@[simp] theorem State.notifyPorts_core (s : State) (ps : List Nat) (block code : Nat) (detail : Word) :
    (s.notifyPorts ps block code detail).core = s.core := by
  simp only [State.notifyPorts]
  split
  · exact core_foldl (by simp) ps s
  · simp

@[simp] theorem State.notify_core (s : State) (block : Nat) (code : Nat) (detail : Word) :
    (s.notify block code detail).core = s.core := by
  simp [State.notify]

@[simp] theorem State.raise_core (s : State) (block code : Nat) (w : Word) : (s.raise block code w).core = s.core := by
  unfold State.raise
  split
  · next q i own => simp [State.orReg_core s (bit32 i true) (eventReg_mem own)]
  · simp

@[simp] theorem State.raise_pend (s : State) (block code : Nat) (w : Word) : (s.raise block code w).csr.pend = s.csr.pend :=
  congrArg Core.pend (State.raise_core s block code w)

@[simp] theorem State.raise_due (s : State) (block code : Nat) (w : Word) : (s.raise block code w).csr.due = s.csr.due :=
  congrArg Core.due (State.raise_core s block code w)

@[simp] theorem State.raise_settings (s : State) (block code : Nat) (w : Word) :
    settingsOf (s.raise block code w).csr.inForce = settingsOf s.csr.inForce :=
  congrArg Core.settings (State.raise_core s block code w)

@[simp] theorem State.bump_core (s : State) (a n : Nat) : (s.bump a n).core = s.core := by
  simp only [State.bump]
  split
  · rw [State.notify_core, State.orReg_core _ _ (by decide), State.bumpRaw_core]
  · rfl

@[simp] theorem State.bump_pend (s : State) (a n : Nat) : (s.bump a n).csr.pend = s.csr.pend :=
  congrArg Core.pend (State.bump_core s a n)

@[simp] theorem State.bump_due (s : State) (a n : Nat) : (s.bump a n).csr.due = s.csr.due :=
  congrArg Core.due (State.bump_core s a n)

@[simp] theorem State.bump_settings (s : State) (a n : Nat) :
    settingsOf (s.bump a n).csr.inForce = settingsOf s.csr.inForce :=
  congrArg Core.settings (State.bump_core s a n)

@[simp] theorem State.draw_core (s : State) : (s.draw).core = s.core := by
  simp [State.draw]

@[simp] theorem State.nextSeq_core (s : State) (type : Nat) : (s.nextSeq type).core = s.core := by
  simp [State.nextSeq]

@[simp] theorem State.setLane_core (s : State) (n : Nat) (l : Lane) : (s.setLane n l).core = s.core := by
  simp [State.setLane]

@[simp] theorem State.pushCarriage_core (s : State) (lane : Nat) (type : Nat) (part : Nat) (parts : Nat) (count : Nat) (ws : List Word) :
    (s.pushCarriage lane type part parts count ws).core = s.core := by
  simp [State.pushCarriage]

@[simp] theorem State.sendCarriage_core (s : State) (lane : Nat) (type : Nat) (ws : List Word) :
    (s.sendCarriage lane type ws).core = s.core := by
  simp [State.sendCarriage]

@[simp] theorem State.deliverNow_core (s : State) (port : Nat) (lane : Nat) (tag : BitVec 16) (ws : List Word) :
    (s.deliverNow port lane tag ws).core = s.core := by
  simp only [State.deliverNow]
  split <;> simp

@[simp] theorem State.deliver_core (s : State) (port : Nat) (lane : Nat) (tag : BitVec 16) (ws : List Word) :
    (s.deliver port lane tag ws).core = s.core := by
  simp [State.deliver]

@[simp] theorem State.setTime_core (s : State) (f : Time → Time)
    (same : ((f s.time).ct, (f s.time).epoch, (f s.time).fn, (f s.time).period, (f s.time).org, (f s.time).tickE, (f s.time).first) =
      (s.time.ct, s.time.epoch, s.time.fn, s.time.period, s.time.org, s.time.tickE, s.time.first)) : (s.setTime f).core = s.core := by
  simp only [Prod.mk.injEq] at same
  simp [State.setTime, same]

@[simp] theorem State.enterHoldover_core (s : State) : (s.enterHoldover).core = s.core := by
  simp [State.enterHoldover]

@[simp] theorem State.lose_core (s : State) (p : Nat) (c : Curd) : (s.lose p c).core = s.core := by
  simp [State.lose]

@[simp] theorem State.loseAll_core (s : State) (l1 : List Held) : (s.loseAll l1).core = s.core := by
  induction l1 generalizing s with
  | nil => simp [State.loseAll]
  | cons x xs ih => simp [State.loseAll, ih]

@[simp] theorem State.unpathed_core (s : State) (c : Curd) (lane : Nat) : (s.unpathed c lane).core = s.core := by
  simp [State.unpathed]

@[simp] theorem State.hold_core (s : State) (h : Held) : (s.hold h).core = s.core := by
  simp [State.hold]

@[simp] theorem State.setHeld_core (s : State) (l : List Held) : (s.setHeld l).core = s.core := by
  simp [State.setHeld]

@[simp] theorem State.setFormed_core (s : State) (type : Nat) (fn : Word) : (s.setFormed type fn).core = s.core := by
  simp [State.setFormed]

@[simp] theorem State.formCurd_core (s : State) (type : Nat) (fn : Word) (payload : List Flit) (mark : Rind → Rind) (ready : Bool)
    (dep : Option Nat) : (s.formCurd type fn payload mark ready dep).core = s.core := by
  simp only [State.formCurd]
  split <;> simp

@[simp] theorem State.closeStream_core (s : State) (type : Nat) (n : Word) : (s.closeStream type n).core = s.core := by
  simp only [State.closeStream]
  split <;> simp

@[simp] theorem State.flushLane_core (s : State) (n : Nat) : (s.flushLane n).core = s.core := by
  simp only [State.flushLane]
  split <;> simp

@[simp] theorem State.setMem_core (s : State) (vat : Bool) (m : List Host.Cell) : (s.setMem vat m).core = s.core := by
  cases vat <;> rfl

@[simp] theorem State.setPoison_core (s : State) (vat : Bool) (p : SMap Bool) : (s.setPoison vat p).core = s.core := by
  simp [State.setPoison]

@[simp] theorem State.logErr_core (s : State) (kind : Nat) (vat : Bool) (a : Nat) (src : Nat) (denied : Bool) (spare : Option Nat) :
    (s.logErr kind vat a src denied spare).1.core = s.core := by
  simp [State.logErr]

@[simp] theorem State.setTracks_core (s : State) (t : Nat) (l : List Track) : (s.setTracks t l).core = s.core := by
  simp [State.setTracks]

@[simp] theorem State.freeTrack_core (s : State) (vat : Bool) (a : Nat) : (s.freeTrack vat a).core = s.core := by
  simp [State.freeTrack]

@[simp] theorem State.touchTrack_core (s : State) (t : Track) : (s.touchTrack t).core = s.core := by
  simp [State.touchTrack]

@[simp] theorem State.queueMove_core (s : State) (m : RowMove) : (s.queueMove m).core = s.core := by
  simp [State.queueMove]

@[simp] theorem State.hardSuspect_core (s : State) (vat : Bool) (a : Nat) (src : Nat) : (s.hardSuspect vat a src).core = s.core := by
  simp only [State.hardSuspect]
  split <;> simp

@[simp] theorem State.corrected_core (s : State) (vat : Bool) (a : Nat) (src : Nat) : (s.corrected vat a src).core = s.core := by
  simp only [State.corrected]
  split <;> simp

@[simp] theorem State.uncorrectable_core (s : State) (vat : Bool) (a : Nat) (src : Nat) (kind : Nat) :
    (s.uncorrectable vat a src kind).core = s.core := by
  simp [State.uncorrectable]

@[simp] theorem State.retag_core (s : State) (vat : Bool) (lo : Nat) (hi : Nat) : (s.retag vat lo hi).core = s.core := by
  simp [State.retag]

@[simp] theorem State.meetCells_core (s : State) (vat : Bool) (a : Nat) (found : List Finding) : (s.meetCells vat a found).core = s.core := by
  simp only [State.meetCells]
  repeat' split
  all_goals simp

@[simp] theorem State.rmwRead_core (s : State) (vat : Bool) (a : Nat) (found : List Finding) :
    (s.rmwRead vat a found).core = s.core  := by
  simp only [State.rmwRead]
  repeat' split
  all_goals simp

@[simp] theorem State.clearOvf_core (s : State) (vat : Bool) (lo : Nat) (hi : Nat) : (s.clearOvf vat lo hi).core = s.core := by
  simp [State.clearOvf]

@[simp] theorem State.clearPoison_core (s : State) (vat : Bool) (lo : Nat) (hi : Nat) : (s.clearPoison vat lo hi).core = s.core := by
  simp [State.clearPoison]

@[simp] theorem State.rmwReads_core (s : State) (vat : Bool) (found : List Finding) (l3 : List Nat) :
    (s.rmwReads vat found l3).core = s.core  := by
  induction l3 generalizing s with
  | nil => simp [State.rmwReads]
  | cons x xs ih => simp [State.rmwReads, ih]

@[simp] theorem State.freeRange_core (s : State) (vat : Bool) (lo : Nat) (hi : Nat) : (s.freeRange vat lo hi).core = s.core := by
  simp [State.freeRange]

@[simp] theorem State.writeRange_core (s : State) (vat : Bool) (a : Nat) (bs : List Byte) (found : List Finding) :
    (s.writeRange vat a bs found).core = s.core := by
  simp only [State.writeRange]
  split <;> simp

@[simp] theorem State.setChan_core (s : State) (n : Nat) (c : Chan) : (s.setChan n c).core = s.core := by
  simp [State.setChan]

@[simp] theorem State.logMark_core (s : State) (ch : Nat) (kind : Nat) (t : CT) (range : BitVec 2) (samples : Nat) :
    (s.logMark ch kind t range samples).core = s.core := by
  simp [State.logMark]

@[simp] theorem State.setCluster_core (s : State) (c : Nat) (k : Cluster) : (s.setCluster c k).core = s.core := by
  simp [State.setCluster]

@[simp] theorem State.setHitChan_core (s : State) (n : Nat) (h : HitChan) : (s.setHitChan n h).core = s.core := by
  simp [State.setHitChan]

@[simp] theorem State.setRennet_core (s : State) (f : Rennet → Rennet)
    (same : ((f s.rennet).armDue, (f s.rennet).disarmDue) = (s.rennet.armDue, s.rennet.disarmDue)) : (s.setRennet f).core = s.core := by
  simp only [Prod.mk.injEq] at same
  simp [State.setRennet, same]

@[simp] theorem State.writeBlock_core (s : State) (k : Nat) (b : Nat) (codes : List (BitVec 12)) :
    (s.writeBlock k b codes).core = s.core  := by
  simp only [State.writeBlock]
  split <;> simp

@[simp] theorem State.writeZeros_core (s : State) (k ch b n : Nat) : (s.writeZeros k ch b n).core = s.core := by
  induction n generalizing s b with
  | zero => rfl
  | succ n ih => exact (ih _ _).trans (State.writeBlock_core _ _ _ _)

@[simp] theorem State.zeroBlocks_core (s : State) (l1 : List (Nat × Nat)) :
    (s.zeroBlocks l1).core = s.core  := by
  induction l1 generalizing s with
  | nil => simp [State.zeroBlocks]
  | cons x xs ih => simp [State.zeroBlocks, ih]

@[simp] theorem State.zeroNow_core (s : State) :
    (s.zeroNow).core = s.core  := by
  simp [State.zeroNow]

@[simp] theorem State.formMarks_core (s : State) (fn : Word) (n : Nat) (ms : List TrigMark) : (s.formMarks fn n ms).core = s.core := by
  induction n generalizing s ms with
  | zero => simp [State.formMarks]
  | succ n ih =>
    cases ms with
    | nil => rfl
    | cons m ms => simp [State.formMarks, ih]

@[simp] theorem State.endRennet_core (s : State) (fn : FN) (stop : CT) : (s.endRennet fn stop).core = s.core := by
  simp [State.endRennet]

@[simp] theorem State.closeMarks_core (s : State) (now : CT) (l2 : Nat) : (s.closeMarks now l2).core = s.core := by
  induction l2 generalizing s with
  | zero => simp [State.closeMarks]
  | succ n ih =>
    simp only [State.closeMarks]
    repeat' split
    all_goals simp [ih]

@[simp] theorem State.closeReadouts_core (s : State) (now : CT) (l2 : Nat) : (s.closeReadouts now l2).core = s.core := by
  induction l2 generalizing s with
  | zero => simp [State.closeReadouts]
  | succ n ih =>
    simp only [State.closeReadouts]
    repeat' split
    all_goals simp [ih]

@[simp] theorem State.closeRennet_core (s : State) : (s.closeRennet).core = s.core := by
  simp [State.closeRennet]

@[simp] theorem State.setFx_core (s : State) (f : Fx → Fx) : (s.setFx f).core = s.core := by
  simp [State.setFx]

@[simp] theorem State.ringSample_core (s : State) (q : Nat) (x : Sample) :
    (s.ringSample q x).core = s.core  := by
  simp only [State.ringSample]
  split <;> simp

@[simp] theorem State.ringSamples_core (s : State) (q : Nat) (l2 : List Sample) :
    (s.ringSamples q l2).core = s.core  := by
  induction l2 generalizing s with
  | nil => simp [State.ringSamples]
  | cons x xs ih => simp [State.ringSamples, ih]

@[simp] theorem State.fxEnable_core (s : State) (q : Nat) (on : Bool) : (s.fxEnable q on).core = s.core := by
  simp [State.fxEnable]

@[simp] theorem State.setMerge_core (s : State) (f : Merge → Merge) : (s.setMerge f).core = s.core := by
  simp [State.setMerge]

@[simp] theorem State.mergeEvent_core (s : State) (bit : Nat) (lane : Nat) : (s.mergeEvent bit lane).core = s.core := by
  simp [State.mergeEvent]

@[simp] theorem State.mergeOff_core (s : State) : s.mergeOff.core = s.core := by
  simp only [State.mergeOff, State.setMerge_core]
  exact (core_foldl (fun s h => by simp) _ _).trans ((core_foldl (fun s m => by simp) _ _).trans (by simp))

@[simp] theorem State.setSched_core (s : State) (f : Sched → Sched)
    (same : ((f s.sched).active, (f s.sched).swapDue) = (s.sched.active, s.sched.swapDue)) : (s.setSched f).core = s.core := by
  simp only [Prod.mk.injEq] at same
  simp [State.setSched, same]

@[simp] theorem State.flushUplink_core (s : State) : (s.flushUplink).core = s.core := by
  simp only [State.flushUplink]
  split <;> simp

@[simp] theorem State.modLane_core (s : State) (n : Nat) (f : Lane → Lane) : (s.modLane n f).core = s.core := by
  simp [State.modLane]

@[simp] theorem State.untrain_core (s : State) (n : Nat) : (s.untrain n).core = s.core := by
  simp [State.untrain]

@[simp] theorem State.startLane_core (s : State) (n : Nat) : (s.startLane n).core = s.core := by
  simp [State.startLane]

@[simp] theorem State.dropLane_core (s : State) (n : Nat) : (s.dropLane n).core = s.core := by
  simp [State.dropLane]

@[simp] theorem State.setUp_core (s : State) (f : Uplink → Uplink) : (s.setUp f).core = s.core := by
  simp [State.setUp]

@[simp] theorem State.uplinkDown_core (s : State) : (s.uplinkDown).core = s.core := by
  simp only [State.uplinkDown]
  repeat' split
  all_goals simp

@[simp] theorem State.giveLanes_core (s : State) (on : Bool) (l2 : List Nat) : (s.giveLanes on l2).core = s.core := by
  induction l2 generalizing s with
  | nil => simp [State.giveLanes]
  | cons x xs ih => simp [State.giveLanes, ih]

@[simp] theorem State.chanEffect_core (s : State) (old : State) (due : SMap Word) (n : Nat) :
    (s.chanEffect old due n).core = s.core  := by
  simp [State.chanEffect]

@[simp] theorem State.chanEffects_core (s : State) (old : State) (due : SMap Word) (l3 : List Nat) :
    (s.chanEffects old due l3).core = s.core  := by
  induction l3 generalizing s with
  | nil => simp [State.chanEffects]
  | cons x xs ih => simp [State.chanEffects, ih]

@[simp] theorem State.pathEffect_core (s old : State) (p : Nat) : (s.pathEffect old p).core = s.core := by
  simp only [State.pathEffect]
  split
  · rfl
  · exact (core_foldl (fun s m => by simp) _ _).trans (by simp)

@[simp] theorem State.pathEffects_core (s : State) (old : State) (l2 : List Nat) : (s.pathEffects old l2).core = s.core := by
  induction l2 generalizing s with
  | nil => simp [State.pathEffects]
  | cons x xs ih => simp [State.pathEffects, ih]

@[simp] theorem State.bufferEffect_core (s : State) (old : State) : (s.bufferEffect old).core = s.core := by
  simp [State.bufferEffect]

@[simp] theorem State.closeStreams_core (s : State) (fn : Word) (l2 : List Nat) : (s.closeStreams fn l2).core = s.core := by
  induction l2 generalizing s with
  | nil => simp [State.closeStreams]
  | cons x xs ih => simp [State.closeStreams, ih]

@[simp] theorem State.firstTick_core (s : State) (l1 : List Nat) : (s.firstTick l1).core = s.core := by
  induction l1 generalizing s with
  | nil => simp [State.firstTick]
  | cons x xs ih => simp [State.firstTick, ih]

@[simp] theorem State.tickChan_core (s : State) (fn : FN) (l2 : List Nat) : (s.tickChan fn l2).core = s.core := by
  induction l2 generalizing s with
  | nil => simp [State.tickChan]
  | cons x xs ih => simp [State.tickChan, ih]

@[simp] theorem State.tickLane_core (s : State) (l1 : List Nat) : (s.tickLane l1).core = s.core := by
  induction l1 generalizing s with
  | nil => simp [State.tickLane]
  | cons x xs ih =>
    simp only [State.tickLane]
    repeat' split
    all_goals simp [ih]

@[simp] theorem State.tickCluster_core (s : State) (l1 : List Nat) : (s.tickCluster l1).core = s.core := by
  induction l1 generalizing s with
  | nil => simp [State.tickCluster]
  | cons x xs ih => simp [State.tickCluster, ih]

@[simp] theorem State.endFrame_core (s : State) :
    (s.endFrame).core = s.core  := by
  simp [State.endFrame]

@[simp] theorem State.reopen_core (s : State) : (s.reopen).core = s.core := by
  simp [State.reopen]

end Sys2Proof.Machine
end

section
/-!
SUPPORT. The frame tick, with the statement on it (R7, R9, R25).
-/
open Sys2Proof

namespace Sys2Proof.Machine
open Sys2Proof.Claims

/-- What the core holds, by component. -/
theorem core_iff (s t : State) : t.core = s.core ↔ (t.time.ct = s.time.ct ∧ t.time.epoch = s.time.epoch ∧ t.time.fn = s.time.fn ∧
    t.time.period = s.time.period ∧ t.time.org = s.time.org ∧ t.time.tickE = s.time.tickE ∧ t.time.first = s.time.first) ∧
    t.power = s.power ∧ (t.sched.active = s.sched.active ∧ t.sched.swapDue = s.sched.swapDue) ∧
    (t.csr.pend = s.csr.pend ∧ t.csr.due = s.csr.due ∧ settingsOf t.csr.inForce = settingsOf s.csr.inForce) ∧
    (t.boot.passed = s.boot.passed ∧ t.fuses = s.fuses) ∧ t.rennet.armDue = s.rennet.armDue ∧ t.rennet.disarmDue = s.rennet.disarmDue := by
  simp only [State.core, Core.mk.injEq, and_assoc]

-- the instant of the next tick ----------------------------------------------------------------------------------------------------------------

/-- The least point of the grid O + kP from an instant on. -/
theorem grid_ceil (now o p : Int) (positive : 0 < p) :
    now ≤ o + (now - o + p - 1) / p * p ∧ o + (now - o + p - 1) / p * p ≤ now + p - 1 ∧
    (o + (now - o + p - 1) / p * p - o) % p = 0 := by
  have low := Int.lt_ediv_add_one_mul_self (now - o + p - 1) positive
  have high := Int.ediv_mul_le (now - o + p - 1) (Int.ne_of_gt positive)
  rw [Int.add_mul, Int.one_mul] at low
  refine ⟨by omega, by omega, ?_⟩
  rw [Int.add_comm o, Int.add_sub_cancel, Int.mul_emod_left]

/-- The next tick is on the grid, not before the present instant, not the last tick, and at most two periods away (R7). -/
theorem nextTick_spec {s : State} (positive : 0 < s.time.period.toNat) :
    s.time.e * 512 + s.time.ct.toNat % 512 ≤ s.nextTick * 512 ∧ s.nextTick ≤ s.time.e + 2 * s.time.period.toNat ∧
    ((s.nextTick : Int) - s.time.org.toNat) % s.time.period.toNat = 0 ∧
    (s.time.first = false → s.nextTick ≠ s.time.tickE.toNat) := by
  have one : max (s.time.period.toNat : Int) 1 = s.time.period.toNat := Int.max_eq_left (by omega)
  simp only [State.nextTick, one]
  generalize step : (if s.time.ct.toNat % 512 = 0 then 0 else 1) = d
  have d_le : d ≤ 1 ∧ (d = 0 → s.time.ct.toNat % 512 = 0) := by
    rw [← step]
    split
    · next whole => exact ⟨Nat.zero_le 1, fun _ => whole⟩
    · exact ⟨Nat.le_refl 1, fun zero => absurd zero (by decide)⟩
  obtain ⟨low, high, onGrid⟩ := grid_ceil ((s.time.e : Int) + (d : Int)) s.time.org.toNat s.time.period.toNat (by omega)
  generalize (s.time.org.toNat : Int) + ((s.time.e : Int) + (d : Int) - s.time.org.toNat + s.time.period.toNat - 1) / s.time.period.toNat *
    s.time.period.toNat = e at low high onGrid
  have part := Nat.mod_lt s.time.ct.toNat (show 0 < 512 by decide)
  by_cases last : e = s.time.tickE.toNat ∧ s.time.first = false
  · rw [if_pos last]
    obtain ⟨same, -⟩ := last
    refine ⟨by omega, by omega, ?_, fun _ => by omega⟩
    rw [Int.toNat_of_nonneg (by omega), show e + (s.time.period.toNat : Int) - s.time.org.toNat = e - s.time.org.toNat + s.time.period.toNat by omega, Int.add_emod_right]
    exact onGrid
  · rw [if_neg last]
    refine ⟨by omega, by omega, ?_, fun notFirst same => last ⟨by omega, notFirst⟩⟩
    rw [Int.toNat_of_nonneg (by omega)]
    exact onGrid

/-- CT comes to the next tick: the instant is less than half a turn of CT away. -/
theorem nextTick_later {s : State} (positive : 0 < s.time.period.toNat) :
    0 ≤ ctDiff (BitVec.ofNat 64 (s.nextTick * 512)) s.time.ct := by
  obtain ⟨low, high, -, -⟩ := nextTick_spec positive
  have short := s.time.period.isLt
  have bound := s.time.ct.isLt
  have split : s.time.e * 512 + s.time.ct.toNat % 512 = s.time.epoch.toNat * 2 ^ 64 + s.time.ct.toNat := by
    rw [Time.e]
    omega
  rw [ctDiff]
  have value : (BitVec.ofNat 64 (s.nextTick * 512) - s.time.ct).toNat < 2 ^ 63 := by
    rw [BitVec.toNat_sub, BitVec.toNat_ofNat]
    omega
  rw [BitVec.toInt_eq_toNat_of_lt (by omega)]
  exact Int.natCast_nonneg _

/-- The next tick is judged by the core alone. -/
theorem nextTick_of_core {s t : State} (same : t.core = s.core) : t.nextTick = s.nextTick := by
  obtain ⟨⟨ct, epoch, -, period, org, tickE, first⟩, -⟩ := (core_iff s t).mp same
  unfold State.nextTick Time.e
  dsimp only
  rw [ct, epoch, period, org, tickE, first]

theorem fnAt_of_core {s t : State} (same : t.core = s.core) (e : Nat) : t.time.fnAt e = s.time.fnAt e := by
  obtain ⟨⟨-, -, fn, period, -, -, first⟩, -⟩ := (core_iff s t).mp same
  simp only [Time.fnAt, fn, period, first]

theorem advanceTo_csr (s : State) (c : CT) : (s.advanceTo c).csr.pend = s.csr.pend := by
  unfold State.advanceTo
  split
  · simp only [State.advance]
    split
    · rw [State.raise_pend]
      split <;> rfl
    · split <;> rfl
  · rfl

/-- The tick is placed: time stands at it, and what waits for it stays (R7, R9). -/
theorem placeTick_frame {s : State} (released : s.rel 7 = true) (positive : 0 < s.time.period.toNat) :
    (s.placeTick.time.ct = BitVec.ofNat 64 (s.nextTick * 512) ∧ s.placeTick.time.tickE = BitVec.ofNat 87 s.nextTick ∧
      s.placeTick.time.fn = s.time.fnAt s.nextTick ∧ s.placeTick.time.period = s.time.period ∧ s.placeTick.time.first = false) ∧
    s.placeTick.csr.pend = s.csr.pend ∧ s.placeTick.sched = s.sched ∧ s.placeTick.rennet = s.rennet := by
  have arrives := State.advanceTo_ct (c := BitVec.ofNat 64 (s.nextTick * 512)) released (nextTick_later positive)
  have pend := advanceTo_csr s (BitVec.ofNat 64 (s.nextTick * 512))
  have frame := State.advanceTo_frame s (BitVec.ofNat 64 (s.nextTick * 512))
  simp only [State.placeTick, State.align]
  generalize s.advanceTo (BitVec.ofNat 64 (s.nextTick * 512)) = v at arrives pend frame
  have fn : v.time.fnAt s.nextTick = s.time.fnAt s.nextTick := by rw [frame]; rfl
  have period : v.time.period = s.time.period := by rw [frame]
  have sched : v.sched = s.sched := by rw [frame]
  have rennet : v.rennet = s.rennet := by rw [frame]
  split <;> exact ⟨⟨arrives, rfl, fn, period, rfl⟩, pend, sched, rennet⟩

/-- What the lanes catch at a tick: other registers are not touched (R25, R364). -/
theorem catchLane_frame (ns : List Nat) : ∀ s : State, (s.catchLane ns).time = s.time ∧ (s.catchLane ns).sched = s.sched ∧
    (s.catchLane ns).rennet = s.rennet ∧
    ∀ k, (∀ n, n ∈ ns → k ≠ Reg.key (.lkLCfg n)) → SMap.find (s.catchLane ns).csr.due k = SMap.find s.csr.due k := by
  induction ns with
  | nil => exact fun _ => ⟨rfl, rfl, rfl, fun _ _ => rfl⟩
  | cons n ns ih =>
    intro s
    simp only [State.catchLane]
    split
    · obtain ⟨time, sched, rennet, due⟩ := ih s
      exact ⟨time, sched, rennet, fun k other => due k fun m mem => other m (List.mem_cons_of_mem n mem)⟩
    · split
      · obtain ⟨time, sched, rennet, due⟩ := ih (s.setLane n { s.lane n with heldCfg := none, heldDue := false })
        exact ⟨time, sched, rennet, fun k other => due k fun m mem => other m (List.mem_cons_of_mem n mem)⟩
      · next v _ _ =>
        obtain ⟨time, sched, rennet, due⟩ := ih { s with csr := { s.csr with
          due := SMap.put s.csr.due (Reg.key (.lkLCfg n)) ((v &&& ~~~enGen) ||| (s.reg (.lkLCfg n) &&& enGen)),
          pend := SMap.put s.csr.pend (Reg.key (.lkLCfg n)) v } }
        refine ⟨time, sched, rennet, fun k other => (due k fun m mem => other m (List.mem_cons_of_mem n mem)).trans ?_⟩
        exact (SMap.find_put _ _ _ _).trans (if_neg (other n List.mem_cons_self))

theorem key_lane_lt {k : Nat} (other : ∀ n, n < 48 → k ≠ Reg.key (.lkLCfg n)) : ∀ n, n ∈ List.range 48 → k ≠ Reg.key (.lkLCfg n) :=
  fun n mem => other n (List.mem_range.mp mem)

/-- What a tick sets going (R13, R25, R222). -/
theorem raiseDue_frame (s : State) : (s.raiseDue.time.ct = s.time.ct ∧ s.raiseDue.time.tickE = s.time.tickE ∧
      s.raiseDue.time.fn = s.time.fn ∧ s.raiseDue.time.period = s.time.period ∧ s.raiseDue.time.first = s.time.first) ∧
    s.raiseDue.sched.active = s.sched.active ∧ s.raiseDue.sched.swapNow = s.sched.swapDue ∧
    s.raiseDue.rennet.armNow = s.rennet.armDue.isSome ∧ s.raiseDue.rennet.disarmNow = s.rennet.disarmDue ∧ s.raiseDue.csr = s.csr :=
  ⟨⟨rfl, rfl, rfl, rfl, rfl⟩, rfl, rfl, rfl, rfl, rfl⟩

end Sys2Proof.Machine

namespace Sys2Proof.Claims
open Sys2Proof.Machine

/-- The state in which the tick is placed: the frame that ends is closed, or the first one begins. -/
def tickReady (u : State) : State := if u.time.first then u.firstTick (List.range u.res.channels) else u.endFrame

theorem tickReady_core (u : State) : (tickReady u).core = u.core := by
  unfold tickReady
  split <;> simp

theorem exec_frameTick {s u : State} (settled : s.settleTick = u) (released : u.rel 7 = true) (places : u.placesTicks = true) :
    exec .frameTick s = .next ((((tickReady u).placeTick).reopen.closeRennet.catchRwf).raiseDue) := by
  subst settled
  exact congrArg Host.Outcome.next (if_neg (by rw [released, places]; exact Bool.false_ne_true))

/-- Settles O33: the tick's instant by `nextTick_spec`, and the rest by what keeps the core. -/
theorem ticksFallOnTheFrameGrid : Obligations.TicksFallOnTheFrameGrid := by
  intro s u settled released places positive low
  refine ⟨_, exec_frameTick settled released places, ?_⟩
  obtain ⟨⟨ct, epoch, fn, period, org, tickE, first⟩, power, ⟨active, swapDue⟩, ⟨pend, -⟩, -, armDue, disarmDue⟩ :=
    (core_iff u _).mp (tickReady_core u)
  have next := nextTick_of_core (tickReady_core u)
  have fnAt := fnAt_of_core (tickReady_core u) u.nextTick
  have released' : (tickReady u).rel 7 = true := (congrArg (fun p : Power => decide (7 ≤ p.released)) power).trans released
  have positive' : 0 < (tickReady u).time.period.toNat := period ▸ positive
  obtain ⟨⟨ct', tickE', fn', period', first'⟩, pend', sched', rennet'⟩ := placeTick_frame released' positive'
  have closed : ((tickReady u).placeTick.reopen.closeRennet).core = (tickReady u).placeTick.core := by simp
  generalize (tickReady u).placeTick = v at ct' tickE' fn' period' first' pend' sched' rennet' closed
  obtain ⟨⟨ct'', -, fn'', period'', -, tickE'', first''⟩, -, ⟨active'', swapDue''⟩, ⟨pend'', -⟩, -, armDue'', disarmDue''⟩ :=
    (core_iff v _).mp closed
  generalize v.reopen.closeRennet = w at ct'' fn'' period'' tickE'' first'' active'' swapDue'' pend'' armDue'' disarmDue''
  obtain ⟨time, sched, rennet, due⟩ := catchLane_frame (List.range 48) { w with csr := { w.csr with due := w.csr.pend, pend := [] } }
  obtain ⟨⟨ct''', tickE''', fn''', period''', first'''⟩, active''', swapNow, armNow, disarmNow, csr⟩ := raiseDue_frame w.catchRwf
  obtain ⟨notBefore, soon, onGrid, notLast⟩ := nextTick_spec positive
  have fits : u.nextTick < 2 ^ 87 := by
    have := u.time.period.isLt
    omega
  have instant : (w.catchRwf.raiseDue).time.tickE = BitVec.ofNat 87 u.nextTick := by
    rw [tickE''', State.catchRwf, time, tickE'', tickE', next]
  have value : (w.catchRwf.raiseDue).time.tickE.toNat = u.nextTick := by
    rw [instant, BitVec.toNat_ofNat, Nat.mod_eq_of_lt fits]
  rw [value]
  refine ⟨by omega, soon, onGrid, fun notFirst same => notLast notFirst ?_, ?_, ?_, ?_, ?_, ?_, fun k x waits other => ?_, ?_, ?_, ?_⟩
  · rw [← value, same]
  · rw [ct''', State.catchRwf, time, ct'', ct', next]
  · rw [fn''', State.catchRwf, time, fn'', fn', next, fnAt, Time.fnAt, Nat.max_eq_left positive]
  · rw [period''', State.catchRwf, time, period'', period', period]
  · rw [first''', State.catchRwf, time, first'', first']
  · rw [active''', State.catchRwf, sched, active'', sched', active]
  · rw [csr, State.catchRwf, due k (key_lane_lt other), pend'', pend', pend]
    exact waits
  · rw [swapNow, State.catchRwf, sched, swapDue'', sched', swapDue]
  · rw [armNow, State.catchRwf, rennet, armDue'', rennet', armDue]
  · rw [disarmNow, State.catchRwf, rennet, disarmDue'', rennet', disarmDue]

end Sys2Proof.Claims
end

section
/-!
SUPPORT. The run, the period switch, the RWF values and the schedules, with the statements on them (R13, R14, R20 to R25, R364, R452).
-/
open Sys2Proof

namespace Sys2Proof.Machine
open Sys2Proof.Claims

/-- The core but the registers' values. -/
def State.grid (s : State) : Core := { s.core with settings := fun _ => none }

theorem grid_of_core {s t : State} (same : t.core = s.core) : t.grid = s.grid := congrArg (fun c : Core => { c with settings := fun _ => none }) same

theorem setReg_grid (s : State) (q : Reg) (v : Word) : (s.setReg q v).grid = s.grid := rfl

theorem applyLane_grid (s : State) (n : Nat) (v : Word) : (s.applyLane n v).grid = s.grid := by
  simp only [State.applyLane]
  split
  · rfl
  · split
    · exact (grid_of_core (State.dropLane_core _ n)).trans (setReg_grid s _ v)
    · exact (grid_of_core (State.startLane_core _ n)).trans (setReg_grid s _ v)

theorem applyEu_grid (s : State) (v : Word) : (s.applyEu v).grid = s.grid := by
  simp only [State.applyEu]
  split
  · exact (grid_of_core (State.giveLanes_core _ _ _)).trans (setReg_grid s _ v)
  · split
    · exact (grid_of_core ((State.giveLanes_core _ _ _).trans (State.uplinkDown_core _))).trans (setReg_grid s _ v)
    · exact setReg_grid s _ v

theorem laneEffects_grid (due : SMap Word) (ns : List Nat) : ∀ s : State, (s.laneEffects due ns).grid = s.grid := by
  induction ns with
  | nil => exact fun _ => rfl
  | cons n ns ih =>
    intro s
    refine (ih _).trans ?_
    split
    · exact applyLane_grid s n _
    · rfl

/-- The values that take effect are those in force afterwards (R25). -/
theorem find_foldl_put {k : Nat} {v : Word} (l : SMap Word) : ∀ m : SMap Word, SMap.find l k = some v → (l.map (·.1)).Nodup →
    SMap.find (l.foldl (fun m c => SMap.put m c.1 c.2) m) k = some v := by
  have untouched (l : SMap Word) : ∀ m : SMap Word, k ∉ l.map (·.1) → SMap.find (l.foldl (fun m c => SMap.put m c.1 c.2) m) k = SMap.find m k := by
    induction l with
    | nil => exact fun _ _ => rfl
    | cons c l ih =>
      intro m absent
      rw [List.map_cons, List.mem_cons, not_or] at absent
      exact (ih _ absent.2).trans ((SMap.find_put _ _ _ _).trans (if_neg absent.1))
  induction l with
  | nil => exact fun _ none_ => nomatch none_
  | cons c l ih =>
    intro m found distinct
    rw [List.map_cons, List.nodup_cons] at distinct
    rw [List.foldl_cons]
    by_cases here : c.1 = k
    · have value : c.2 = v := by
        have := found
        simpa [SMap.find, here] using this
      rw [untouched l _ (here ▸ distinct.1), SMap.find_put, if_pos here.symm, value]
    · refine ih _ ?_ distinct.2
      simpa [SMap.find, here] using found

/-- A register of the map that has no W1C bits is none of the event registers. -/
theorem quiet_of_w1c {q : Reg} (mapped : regAt q.addr = some q) (own : q.key = q.addr) (plain : q.info.w1c = 0) :
    q.key ∉ eventRegs.map Reg.key := by
  intro event
  obtain ⟨p, listed, same⟩ := List.mem_map.mp event
  have all : ∀ p ∈ eventRegs, regAt p.key = some p ∧ p.info.w1c ≠ 0 := by decide
  obtain ⟨mapped', marked⟩ := all p listed
  rw [same, own, mapped] at mapped'
  exact marked (Option.some.inj mapped' ▸ plain)

/-- The effects of a change of the values in force keep the core: what they send and store is elsewhere (R25). -/
def effectsOf (s old : State) (due : SMap Word) : State :=
  let s := s.chanEffects old due (List.range s.res.channels)
  let s := s.pathEffects old (List.range 64)
  let s := if old.b .scMergeCfg 31 && !s.b .scMergeCfg 31 then s.mergeOff else s
  s.bufferEffect old

theorem effectsOf_core (s old : State) (due : SMap Word) : (effectsOf s old due).core = s.core := by
  simp only [effectsOf]
  split <;> simp

/-- The values that a tick has caught are in force, and nothing else of a frame has moved (R25). -/
theorem takeRwf_frame (s : State) {q : Reg} {v : Word} (found : SMap.find s.csr.due q.key = some v) (distinct : (s.csr.due.map (·.1)).Nodup)
    (quiet : q.key ∉ eventRegs.map Reg.key) : s.takeRwf.reg q = v ∧ s.takeRwf.csr.due = [] ∧ s.takeRwf.csr.pend = s.csr.pend ∧
    s.takeRwf.time.fn = s.time.fn ∧ s.takeRwf.sched.active = s.sched.active := by
  have euGrid : (match dueOf s.csr.due .euCfg with | some v => s.applyEu v | none => s).grid = s.grid := by
    split
    · exact applyEu_grid s _
    · rfl
  generalize eu : (match dueOf s.csr.due .euCfg with | some v => s.applyEu v | none => s) = a at euGrid
  have grid := (laneEffects_grid s.csr.due (List.range 48) a).trans euGrid
  generalize lanes : a.laneEffects s.csr.due (List.range 48) = b at grid
  let c : State := { b with csr := { b.csr with
    inForce := s.csr.due.foldl (fun m c => SMap.put m c.1 c.2) b.csr.inForce, due := [] } }
  have taken : s.takeRwf = effectsOf c s s.csr.due := by
    subst eu lanes
    rfl
  obtain ⟨⟨-, -, fn, -⟩, -, ⟨active, -⟩, ⟨pend, due, settings⟩, -⟩ := (core_iff c s.takeRwf).mp (taken ▸ effectsOf_core c s s.csr.due)
  have value : SMap.find s.takeRwf.csr.inForce q.key = some v := by
    have same := congrFun settings q.key
    rw [settingsOf, if_neg quiet, settingsOf, if_neg quiet] at same
    exact same.trans (find_foldl_put s.csr.due b.csr.inForce found distinct)
  refine ⟨by rw [State.reg, value]; rfl, due, pend.trans (congrArg Core.pend grid), fn.trans (congrArg Core.fn grid),
    active.trans (congrArg Core.active grid)⟩

/-- A register that no event writes is judged by the core. -/
theorem reg_of_core {s t : State} (same : t.core = s.core) {q : Reg} (quiet : q.key ∉ eventRegs.map Reg.key) : t.reg q = s.reg q := by
  obtain ⟨-, -, -, ⟨-, -, settings⟩, ⟨passed, fuses⟩, -⟩ := (core_iff s t).mp same
  have value := congrFun settings q.key
  rw [settingsOf, if_neg quiet, settingsOf, if_neg quiet] at value
  rw [State.reg, State.reg, value, State.resetIn_congr s t q passed fuses]

theorem quiet_laneCfg : ∀ n, n < 48 → Reg.key (.lkLCfg n) ∉ eventRegs.map Reg.key := by decide

theorem reg_applyLane (s : State) {n : Nat} (v : Word) (low : n < 48) : (s.applyLane n v).reg (.lkLCfg n) = v := by
  have wrote : (s.setReg (.lkLCfg n) v).reg (.lkLCfg n) = v := State.reg_setReg s _ v
  simp only [State.applyLane]
  split
  · exact wrote
  · split
    · exact (reg_of_core (State.dropLane_core _ n) (quiet_laneCfg n low)).trans wrote
    · exact (reg_of_core (State.startLane_core _ n) (quiet_laneCfg n low)).trans wrote

theorem heldCfg_startLane (s : State) (n : Nat) : ((s.startLane n).lane n).heldCfg = (s.lane n).heldCfg := by
  rw [State.startLane, State.modLane, State.lane_setLane, if_pos rfl]
  split <;> rfl

theorem heldCfg_untrain (s : State) (n : Nat) : ((s.untrain n).lane n).heldCfg = (s.lane n).heldCfg := by
  have at_ : (s.untrain n).lane n = if (s.lane n).trained then (s.setLane n (untrained (s.lane n))).lane n else s.lane n :=
    (congrArg (fun l : Link => (SMap.get {} l.lane n : Lane)) (untrain_link s n)).trans (apply_ite (fun l : Link => (SMap.get {} l.lane n : Lane)) _ _ _)
  rw [at_, State.lane_setLane, if_pos rfl]
  split <;> rfl

theorem heldCfg_applyLane (s : State) (n : Nat) (v : Word) : ((s.applyLane n v).lane n).heldCfg = (s.lane n).heldCfg := by
  simp only [State.applyLane]
  split
  · rfl
  · split
    · exact (heldCfg_startLane _ n).trans (heldCfg_untrain _ n)
    · exact heldCfg_startLane _ n

end Sys2Proof.Machine

namespace Sys2Proof.Claims
open Sys2Proof.Machine

/-- Settles O34: the record of time that each of them writes. -/
theorem runAndPeriodSwitchTakeEffect : Obligations.RunAndPeriodSwitchTakeEffect := by
  intro port s
  refine ⟨fun can running root => ⟨fun stopped => ?_, fun ticking => ?_, fun armed fresh => ?_⟩, fun w due waits => ?_, fun due => ?_⟩
  · refine ⟨s.runOn, congrArg Host.Outcome.next (if_pos (by rw [can, root]; rfl)), rfl, ?_⟩
    simp only [State.runOn, State.setTime, stopped, Bool.false_eq_true, if_false]
    exact ⟨trivial, trivial, trivial, trivial, trivial⟩
  · refine ⟨s.runOff, congrArg Host.Outcome.next (if_pos (by rw [can, root]; rfl)), rfl, rfl, ticking, ticking⟩
  · refine ⟨_, congrArg Host.Outcome.next ((if_pos (by rw [can, root, armed]; rfl)).trans (State.action_of_not_replaying 5 _ fresh)),
      rfl, rfl, rfl, rfl⟩
  · have taken : s.takeSwitch = s.setTime fun t => { t with
        period := BitVec.ofNat 21 (s.switchPeriod w), org := t.tickE, switch := none, switchNow := false, switchDone := true,
        infForce := t.infForce || t.infeasible, infeasible := false } := by
      rw [State.takeSwitch, waits]
    exact ⟨_, congrArg Host.Outcome.next ((if_pos due).trans taken), rfl, rfl, rfl, rfl, rfl, rfl, rfl⟩
  · obtain ⟨time, event, -⟩ := clearAligned_time (s.setTime fun t => { t with
      ticking := false, stopping := false, stopNow := false, switch := none, switchNow := false, infeasible := false, infShadow := false,
      first := false })
    have ended : s.endRun.time = _ := time
    exact ⟨s.endRun, congrArg Host.Outcome.next (if_pos due), by rw [ended]; rfl, by rw [ended], by rw [ended]; rfl, by rw [ended]; rfl, event⟩

/-- Settles O35: the values put in force, and what the effects of a change keep. -/
theorem rwfValuesTakeEffect : Obligations.RwfValuesTakeEffect := by
  intro q v n s
  refine ⟨fun found distinct mapped own plain => ?_, fun low held stopped => ?_⟩
  · have some_ : s.csr.due ≠ [] := fun none_ => by rw [none_] at found; exact nomatch found
    obtain ⟨value, due, pend, fn, active⟩ := takeRwf_frame s found distinct (quiet_of_w1c mapped own plain)
    exact ⟨s.takeRwf, congrArg Host.Outcome.next (if_neg some_), value, due, pend, fn, active⟩
  · have arm : exec (.laneCfgHoldExpiry n) s = execLaneCfgHoldExpiry n s := rfl
    simp only [arm, execLaneCfgHoldExpiry, held, stopped, Bool.false_eq_true, if_false]
    generalize released : State.mk _ _ _ _ _ _ _ _ _ _ _ _ _ _ _ _ _ _ _ _ _ _ _ _ _ _ _ _ _ _ _ = u
    have none_ : (u.lane n).heldCfg = none := by
      rw [← released]
      exact congrArg Lane.heldCfg ((State.lane_setLane s n n _).trans (if_pos rfl))
    exact ⟨_, rfl, (heldCfg_applyLane u n v).trans none_, reg_applyLane u v low⟩

-- the schedules -------------------------------------------------------------------------------------------------------------------------------

/-- The rosters that come into force with a schedule change the lanes alone (R23). -/
theorem swapRosters_frame (l : SMap (Option Roster)) : ∀ s : State,
    (s.swapRosters l).sched = { s.sched with rosterDue := [] } ∧ (s.swapRosters l).csr = s.csr := by
  induction l with
  | nil => exact fun _ => ⟨rfl, rfl⟩
  | cons x l ih => exact fun s => ih _

/-- The swap of the banks (R23). -/
theorem swapBanks_frame (s : State) :
    s.swapBanks.sched = { s.sched with
      active := s.sched.shadow, shadow := s.sched.active, bank := !s.sched.bank, swapDue := false, swapNow := false, copyDue := true,
      running := [], begun := [], params := s.sched.paramsDue, paramsDue := [], rosterDue := [] } ∧
    s.swapBanks.csr = s.csr := by
  obtain ⟨sched, csr⟩ := swapRosters_frame s.sched.rosterDue ((s.setSched fun _ => { s.sched with
    active := s.sched.shadow, shadow := s.sched.active, bank := !s.sched.bank, swapDue := false, swapNow := false, copyDue := true,
    running := [], begun := [], params := s.sched.paramsDue, paramsDue := [] }).setTime fun t =>
      { t with infeasible := t.switch.isSome && t.infShadow, infForce := t.switch.isNone && t.infShadow, infShadow := false })
  exact ⟨sched, csr⟩

theorem entriesOf_words : ∀ es : List Entry, entriesOf (es.flatMap fun e => [e.w0, e.w1, e.w2, e.w3]) = es
  | [] => rfl
  | e :: es => by
    rw [List.flatMap_cons]
    exact congrArg (e :: ·) (entriesOf_words es)

/-- Settles O37: the swap of the banks, the copy, and the round trip of the entries. -/
theorem schedulesSwapAndCopy : Obligations.SchedulesSwapAndCopy := by
  refine ⟨fun s => ⟨fun now due => ?_, fun copy => congrArg Host.Outcome.next (if_pos copy)⟩, entriesOf_words⟩
  obtain ⟨sched, csr⟩ := swapBanks_frame s
  refine ⟨s.swapBanks, congrArg Host.Outcome.next (if_pos (by rw [now, due]; rfl)), ?_⟩
  rw [sched]
  exact ⟨rfl, rfl, rfl, rfl, rfl, rfl, csr⟩

/-- The state with the derived durations and the shadow schedule committed (R21). -/
def committed (u : State) : State :=
  ((withDurations u).setSched fun x => { x with commit := true, swapDue := true, paramsDue := u.blocksOf u.sched.shadow }).judgeCommit

/-- Settles O36: the branches of the three commands. -/
theorem scheduleCommandsLoadCommitAndRead : Obligations.ScheduleCommandsLoadCommitAndRead := by
  intro r es l s u released
  refine ⟨fun acc words allowed inside short good idle loaded => ?_, fun acc idle started => ?_, fun acc bank some_ few inside taken => ?_⟩
  · subst words loaded
    refine congrArg Host.Outcome.next (runOp_of_answer acc ((if_neg ?_).trans ((if_neg ?_).trans
      ((needStep_of_released _ (show (s.startCmd 0x300 r).rel 5 = true from released)).trans (if_neg ?_)))))
    · have allowed' : (entriesOf r.payload).any (s.startCmd 0x300 r).roleBars = false := allowed
      rw [allowed']
      exact Bool.false_ne_true
    · rw [Bool.or_eq_true, decide_eq_true_eq, List.any_eq_true]
      rintro (range | ⟨e, mem, bad⟩)
      · have inside' : r.p 11 0 ≤ (s.startCmd 0x300 r).sched.shadow.length := inside
        omega
      · obtain ⟨has, fine⟩ := good e mem
        have has' : (s.startCmd 0x300 r).hasResource e = true := has
        have fine' : (s.startCmd 0x300 r).badArg e = false := fine
        rw [has', fine'] at bad
        exact Bool.false_ne_true bad
    · rw [State.startCmd_sched, idle]
      exact Bool.false_ne_true
  · have released' : u.rel 5 = true := started ▸ released
    have idle' : ¬ u.sched.commit = true := by
      rw [← started, State.startCmd_sched, idle]
      exact Bool.false_ne_true
    refine ⟨fun i fails => ?_, fun passes places => ?_, fun passes stopped => ?_⟩
    all_goals subst started
    · refine congrArg Host.Outcome.next (runOp_of_answer acc ((needStep_of_released _ released').trans ((if_neg idle').trans ?_)))
      dsimp only
      split
      · next j found =>
        have same : some j = some i := found.symm.trans fails
        rw [Option.some.inj same]
        rfl
      · next none_ => exact absurd (none_.symm.trans fails) (by simp)
    · have places' : (committed (s.startCmd 0x301 r)).placesTicks = true := places
      refine ⟨committed (s.startCmd 0x301 r), congrArg Host.Outcome.next (runOp_of_answer acc
        ((needStep_of_released _ released').trans ((if_neg idle').trans ?_))), rfl, rfl, rfl, rfl⟩
      dsimp only
      split
      · next j found => exact absurd (found.symm.trans passes) (by simp)
      · exact if_pos places'
    · have stopped' : ¬ (committed (s.startCmd 0x301 r)).placesTicks = true := by
        have : (committed (s.startCmd 0x301 r)).placesTicks = false := stopped
        rw [this]
        exact Bool.false_ne_true
      obtain ⟨sched, -⟩ := swapBanks_frame (committed (s.startCmd 0x301 r))
      refine ⟨(committed (s.startCmd 0x301 r)).swapBanks, congrArg Host.Outcome.next (runOp_of_answer acc
        ((needStep_of_released _ released').trans ((if_neg idle').trans ?_))), by rw [sched]; rfl, by rw [sched]; rfl, by rw [sched]; rfl⟩
      dsimp only
      split
      · next j found => exact absurd (found.symm.trans passes) (by simp)
      · exact if_neg stopped'
  · subst taken
    have bank' : (if r.p 23 23 = 1 then (s.startCmd 0x302 r).sched.shadow else (s.startCmd 0x302 r).sched.active) = es := bank.symm
    refine congrArg Host.Outcome.next (runOp_of_answer acc ?_)
    simp only [bank']
    exact (if_neg (by omega)).trans (needStep_of_released _ (show (s.startCmd 0x302 r).rel 5 = true from released))

end Sys2Proof.Claims
end

section
/-!
SUPPORT. The fields of an engine word, and the statements on the address generators, the vector instructions and the multiply-accumulate
instructions (R238, R241 to R243, R268, R278 to R284).
-/
open Sys2Proof

namespace Sys2Proof

/-- A word of no bits of IMM outside the low `n` has IMM[n-1:0] for its IMM. -/
theorem EngWord.im_low {w : EngWord} {d a b f n : Nat} (only : w.only d a b f (2 ^ (n + 1) - 1) = true) : w.im n 0 = w.imm.toNat := by
  simp only [EngWord.only, Bool.and_eq_true, beq_iff_eq] at only
  obtain ⟨-, kept⟩ := only
  rw [Nat.and_two_pow_sub_one_eq_mod] at kept
  rw [EngWord.im, Nat.pow_zero, Nat.div_one, Nat.sub_zero]
  exact kept

end Sys2Proof

namespace Sys2Proof.Machine

theorem shiftBy_natCast (v : Int) (n : Nat) : shiftBy v (n : Int) = v / 2 ^ n := by
  rw [shiftBy, if_pos (Int.natCast_nonneg n), Int.toNat_natCast]
  push_cast
  rfl

theorem Engine.bank_setBank (g : Engine) (n k : Nat) (b : Bank) : (g.setBank n b).bank k = if k = n then b else g.bank k :=
  SMap.get_set _ _ _ _ _

theorem Engine.ag_setAg (g : Engine) (n k : Nat) (a : AddrGen) : (g.setAg n a).ag k = if k = n then a else g.ag k :=
  SMap.get_set _ _ _ _ _

/-- An overflow of the engines is an event: nothing else changes (R284). -/
theorem eaOvf_frame (s : State) (e : Nat) : (s.eaOvf e).engines.eng = s.engines.eng ∧ (s.eaOvf e).window = s.window ∧
    (s.eaOvf e).vatMem = s.vatMem ∧ (s.eaOvf e).sched = s.sched := by
  simp only [State.eaOvf]
  split
  · split
    · exact ⟨rfl, rfl, rfl, rfl⟩
    · rw [State.raise_engines, State.raise_window, State.raise_vatMem, State.raise_sched]
      exact ⟨rfl, rfl, rfl, rfl⟩
  · exact ⟨rfl, rfl, rfl, rfl⟩

end Sys2Proof.Machine

namespace Sys2Proof.Claims
open Sys2Proof.Machine

/-- An instruction that changes its engine's record and may raise the overflow event. -/
theorem issue_engineAfter {s : State} {e op : Nat} {w : EngWord} {ok : Bool} {body : State → State} {f : Engine → Engine} {ofl : Bool}
    (issues : Issues s e op w) (listed : opListed op = true) (fields : ok = true)
    (change : body (s.setEng e (past s e)) =
      if ofl then ((s.setEng e (past s e)).modEng e f).eaOvf e else (s.setEng e (past s e)).modEng e f) :
    EngineAfter s e (.next (s.issue e op w ok body)) (f (past s e)) := by
  obtain ⟨t, same, frame, own, others⟩ := onlyEngine_modEng s e f
  have moved : (s.setEng e (past s e)).modEng e f = t := Host.Outcome.next.inj same
  rw [issue_of_issues issues listed fields, change, moved]
  have window : t.window = s.window := by rw [frame]
  have vat : t.vatMem = s.vatMem := by rw [frame]
  have sched : t.sched = s.sched := by rw [frame]
  cases ofl
  · exact ⟨t, rfl, own, others, window, vat, sched⟩
  · obtain ⟨engines, window', vat', sched'⟩ := eaOvf_frame t e
    have eng (k : Nat) : (t.eaOvf e).eng k = t.eng k := congrArg (fun m : SMap Engine => (SMap.get {} m k : Engine)) engines
    exact ⟨t.eaOvf e, rfl, (eng e).trans own, fun k other => (eng k).trans (others k other), window'.trans window, vat'.trans vat,
      sched'.trans sched⟩

theorem OnlyEngine.congr {s : State} {e : Nat} {r : Res} {g g' : Engine} (only : OnlyEngine s e r g) (same : g = g') : OnlyEngine s e r g' :=
  same ▸ only

/-- Settles O49: each instruction's change of its generator. -/
theorem engineAddressGenerators : Obligations.EngineAddressGenerators := by
  intro e w n i cut a s
  refine ⟨fun issues fields fits same => ?_, fun issues => ?_, fun issues fields length generator => ⟨fun lazy_ some_ => ?_, fun eager cuts => ?_⟩,
    fun issues fields => ?_, fun issues fields cuts => ?_, fun v beyond some_ bits => ?_⟩
  · refine issue_onlyEngine (f := fun g => ((g.setAg w.d.toNat { a with pendLen := (g.ag w.d.toNat).pendLen }).flag 2 cut).flag 3
      ((s.eng e).reg w.a.toNat).poison) issues rfl fields ?_
    simp only [State.eng_setEng_self, reg_past, same, if_neg (Nat.not_lt.mpr fits)]
  · exact issueEng_onlyEngine (fun g => g.setReg w.d.toNat { val := agBits (g.ag w.a.toNat) }) issues rfl
  · have lazy' : (w.f.getLsbD 0 || decide (a.len = 0)) = false := by
      rw [lazy_, decide_eq_false some_]
      rfl
    refine (issueEng_onlyEngine _ issues rfl fields).congr ?_
    simp only [lazy', EngWord.im_low (n := 16) fields, sc_past, length, Bool.false_eq_true, if_false, show (past s e).ag w.d.toNat = a from generator]
  · have eager' : (w.f.getLsbD 0 || decide (a.len = 0)) = true := by
      rw [Bool.or_eq_true, decide_eq_true_eq]
      exact eager
    refine (issueEng_onlyEngine _ issues rfl fields).congr ?_
    simp only [eager', EngWord.im_low (n := 16) fields, sc_past, length, if_true, show (past s e).ag w.d.toNat = a from generator,
      AddrGen.setLen, cuts]
  · refine (issueEng_onlyEngine _ issues rfl fields).congr ?_
    simp only [EngWord.im_low (n := 3) fields]
    rfl
  · refine (issueEng_onlyEngine _ issues rfl fields).congr ?_
    simp only [EngWord.im_low (n := 16) fields, sc_past, show (past s e).ag w.d.toNat = (s.eng e).ag w.d.toNat from rfl, cuts]
  · have cuts : cutIndex (ffld v 48 32) (ffld v 16 0) = (ffld v 16 0 % ffld v 48 32, true) := if_pos ⟨some_, beyond⟩
    simp only [agOf, cuts, true_and]
    have small : ffld v 16 0 % ffld v 48 32 < 2 ^ 17 :=
      Nat.lt_of_le_of_lt (Nat.mod_le _ _) (Nat.mod_lt _ (Nat.two_pow_pos 17))
    rw [BitVec.toNat_ofNat, Nat.mod_eq_of_lt small]

/-- Settles O51: each instruction's change of its engine's registers. -/
theorem engineVectorInstructions : Obligations.EngineVectorInstructions := by
  intro e n w a b xs ys s regA regB width alignedA alignedB
  have listed (low : w.fm 2 0 ≤ 5) {only : Bool} (fields : only = true) : (only && fmtOk w) = true := by
    rw [fields, fmtOk, decide_eq_true low]
    rfl
  subst regA regB width alignedA alignedB
  refine ⟨fun issues fields low => ?_, fun issues fields low => ?_, fun issues fields low => ?_, fun issues => ?_, fun issues => ?_,
    fun issues => ?_, fun issues => ?_, fun issues fields => ?_, fun issues fields low inside => ?_, fun issues fields low => ?_⟩
  · refine issue_engineAfter issues rfl (listed low fields) (f := fun g => (g.setReg w.d.toNat _).flag 0 _) (ofl := ?oflAdd) ?changeAdd
    case changeAdd =>
      simp only [State.vaddsub, State.eng_setEng_self, reg_past, Bool.false_eq_true, if_false]
      rfl
  · refine issue_engineAfter issues rfl (listed low fields) (f := fun g => (g.setReg w.d.toNat _).flag 0 _) (ofl := ?oflSub) ?changeSub
    case changeSub =>
      simp only [State.vaddsub, State.eng_setEng_self, reg_past, if_true]
      rfl
  · refine (issueEng_onlyEngine _ issues rfl (listed low fields)).congr ?_
    simp only [EngWord.im_low (n := 4) fields, shiftBy_natCast, reg_past]
  · exact issueEng_onlyEngine (fun g => g.logic w (· &&& ·)) issues rfl
  · exact issueEng_onlyEngine (fun g => g.logic w (· ||| ·)) issues rfl
  · exact issueEng_onlyEngine (fun g => g.logic w (· ^^^ ·)) issues rfl
  · exact issueEng_onlyEngine (fun g => g.setReg w.d.toNat (g.reg w.a.toNat)) issues rfl
  · refine (issueEng_onlyEngine _ issues rfl fields).congr ?_
    simp only [EngWord.im_low (n := 3) fields, reg_past]
  · have inside' : w.im 3 0 < 128 / fmtElem (w.fm 2 0) := by
      rw [EngWord.im_low (n := 3) fields]
      exact inside
    refine (issueEng_onlyEngine _ issues rfl (by rw [listed low fields, decide_eq_true inside']; rfl)).congr ?_
    simp only [EngWord.im_low (n := 3) fields, reg_past]
  · refine (issueEng_onlyEngine _ issues rfl (listed low fields)).congr ?_
    simp only [reg_past, Engine.sc]

end Sys2Proof.Claims
end

section
/-!
SUPPORT. The accumulator banks, with the statement on the multiply-accumulate instructions (R241 to R243, R283).
-/
open Sys2Proof

namespace Sys2Proof.Machine

/-- What a multiply-accumulate leaves of its engine. -/
theorem eng_mac (s : State) (e n p : Nat) (real bad : Bool) (prods : List (Int × Int)) :
    (s.mac e n p real bad prods).eng e = (s.eng e).setBank n (((s.eng e).bank n).mac p real bad prods).1 := by
  have own : (s.modEng e fun g => g.setBank n (((s.eng e).bank n).mac p real bad prods).1).eng e =
      (s.eng e).setBank n (((s.eng e).bank n).mac p real bad prods).1 := State.eng_setEng_self s e _
  simp only [State.mac]
  split
  · obtain ⟨engines, -⟩ := eaOvf_frame (s.modEng e fun g => g.setBank n (((s.eng e).bank n).mac p real bad prods).1) e
    exact (congrArg (fun m : SMap Engine => (SMap.get {} m e : Engine)) engines).trans own
  · exact own

/-- Products taken by banks that are one behind the other (the outer form of R283). -/
theorem eng_mac_foldl (e base p : Nat) (bad : Bool) (prods : Nat → List (Int × Int)) (l : List Nat) : l.Nodup → ∀ (s : State),
    (((l.foldl (fun s j => s.mac e (base + j) p false bad (prods j)) s).eng e).regs = (s.eng e).regs) ∧
    (∀ j ∈ l, ((l.foldl (fun s j => s.mac e (base + j) p false bad (prods j)) s).eng e).bank (base + j) =
      (((s.eng e).bank (base + j)).mac p false bad (prods j)).1) ∧
    (∀ n, (∀ j ∈ l, n ≠ base + j) → ((l.foldl (fun s j => s.mac e (base + j) p false bad (prods j)) s).eng e).bank n = (s.eng e).bank n) := by
  induction l with
  | nil => exact fun _ _ => ⟨rfl, fun _ none => absurd none List.not_mem_nil, fun _ _ => rfl⟩
  | cons i l ih =>
    intro distinct s
    obtain ⟨fresh, distinct⟩ := List.nodup_cons.mp distinct
    have one := eng_mac s e (base + i) p false bad (prods i)
    obtain ⟨regs, taken, kept⟩ := ih distinct (s.mac e (base + i) p false bad (prods i))
    have apart (n : Nat) (other : n ≠ base + i) : ((s.mac e (base + i) p false bad (prods i)).eng e).bank n = (s.eng e).bank n := by
      rw [one, Engine.bank_setBank, if_neg other]
    refine ⟨regs.trans (by rw [one]; rfl), fun j listed => ?_, fun n other => ?_⟩
    · obtain rfl | later := List.mem_cons.mp listed
      · refine (kept (base + j) fun k later same => fresh (by rwa [Nat.add_left_cancel same])).trans ?_
        rw [one, Engine.bank_setBank, if_pos rfl]
      · refine (taken j later).trans ?_
        rw [apart _ fun same => fresh (by rwa [← Nat.add_left_cancel same])]
    · exact (kept n fun j later => other j (List.mem_cons_of_mem _ later)).trans (apart n (other i List.mem_cons_self))

/-- Banks cleared in a row. -/
theorem bank_foldl_clear (l : List Nat) : ∀ (g : Engine) (n : Nat),
    (l.foldl (fun g b => g.setBank b {}) g).bank n = (if n ∈ l then {} else g.bank n) ∧
    (l.foldl (fun g b => g.setBank b {}) g).regs = g.regs := by
  induction l with
  | nil => exact fun _ _ => ⟨rfl, rfl⟩
  | cons b l ih =>
    intro g n
    obtain ⟨bank, regs⟩ := ih (g.setBank b {}) n
    refine ⟨bank.trans ?_, regs⟩
    rw [Engine.bank_setBank]
    by_cases later : n ∈ l <;> by_cases here : n = b <;> simp [later, here]

-- one lane of a bank --------------------------------------------------------------------------------------------------------------------------

/-- Values written by position. -/
theorem get_foldl_zipIdx {α : Type} (f : α → BitVec 64) (l : List α) : ∀ (m : SMap (BitVec 64)) (n k : Nat),
    SMap.get 0 ((l.zipIdx n).foldl (fun m q => SMap.set 0 m q.2 (f q.1)) m) k =
      if n ≤ k then (match l[k - n]? with | some x => f x | none => SMap.get 0 m k) else SMap.get 0 m k := by
  induction l with
  | nil =>
    intro m n k
    split <;> rfl
  | cons x l ih =>
    intro m n k
    rw [List.zipIdx_cons, List.foldl_cons, ih]
    rcases Nat.lt_trichotomy k n with below | here | above
    · rw [if_neg (by omega), if_neg (by omega), SMap.get_set, if_neg (by omega)]
    · subst here
      rw [if_neg (by omega), if_pos (Nat.le_refl k), Nat.sub_self, SMap.get_set, if_pos rfl]
      rfl
    · obtain ⟨d, rfl⟩ := Nat.exists_eq_add_of_lt above
      rw [if_pos (by omega), if_pos (by omega), show n + d + 1 - (n + 1) = d by omega, show n + d + 1 - n = d + 1 by omega,
        List.getElem?_cons_succ, SMap.get_set, if_neg (by omega)]

/-- A signed value of `n` bits from its low bits. -/
theorem sx_low {n : Nat} {v : Int} (positive : 0 < n) (fits : sat n v = v) : sx n (low n v) = v := by
  obtain ⟨m, rfl⟩ := Nat.exists_eq_succ_of_ne_zero (Nat.ne_of_gt positive)
  have double : (2 : Int) ^ (m + 1) = 2 * 2 ^ m := by rw [Int.pow_succ, Int.mul_comm]
  have bounds : -(2 ^ m : Int) ≤ v ∧ v < 2 ^ m := by
    unfold sat at fits
    rw [Nat.succ_sub_one] at fits
    push_cast at fits
    split at fits
    · omega
    · split at fits <;> omega
  obtain ⟨low_, high⟩ := bounds
  have modulus : (0 : Int) < 2 ^ (m + 1) := Int.pow_pos (by decide)
  have value : ((low (m + 1) v : Nat) : Int) = v % 2 ^ (m + 1) := by
    rw [low]
    push_cast
    exact Int.toNat_of_nonneg (Int.emod_nonneg _ (Int.ne_of_gt modulus))
  have small : low (m + 1) v < 2 ^ (m + 1) := by
    have := Int.emod_lt_of_pos v modulus
    rw [← value] at this
    exact_mod_cast this
  rw [sx, Nat.mod_eq_of_lt small, Nat.succ_sub_one]
  have half : ((2 ^ m : Nat) : Int) = 2 ^ m := Int.natCast_pow 2 m
  by_cases neg : v < 0
  · have wraps : v % 2 ^ (m + 1) = v + 2 ^ (m + 1) := by
      rw [← Int.add_emod_right, Int.emod_eq_of_lt (by omega) (by omega)]
    rw [if_neg (by rw [wraps] at value; omega)]
    push_cast
    rw [value, wraps]
    omega
  · have same : v % 2 ^ (m + 1) = v := Int.emod_eq_of_lt (by omega) (by omega)
    rw [if_pos (by rw [same] at value; omega), value, same]

theorem low_lt (n : Nat) (v : Int) : low n v < 2 ^ n := by
  have positive : (0 : Int) < ((2 ^ n : Nat) : Int) := Int.natCast_pos.mpr (Nat.two_pow_pos n)
  have := Int.emod_lt_of_pos v positive
  rw [low]
  omega

theorem sx_mod (n v : Nat) : sx n (v % 2 ^ n) = sx n v := by
  simp only [sx, Nat.mod_mod]

/-- A complex lane holds both parts (R241). -/
theorem laneParts_laneOf {x y : Int} (fitsX : sat 32 x = x) (fitsY : sat 32 y = y) : laneParts false (laneOf false (x, y)) = (x, y) := by
  have highX := low_lt 32 x
  have highY := low_lt 32 y
  have value : (laneOf false (x, y)).toNat = low 32 x * 2 ^ 32 + low 32 y := by
    rw [laneOf, if_neg Bool.false_ne_true, BitVec.toNat_ofNat]
    exact Nat.mod_eq_of_lt (show low 32 x * 2 ^ 32 + low 32 y < 2 ^ 64 by omega)
  rw [laneParts, if_neg Bool.false_ne_true, value, ← sx_mod 32 (low 32 x * 2 ^ 32 + low 32 y),
    show (low 32 x * 2 ^ 32 + low 32 y) / 2 ^ 32 = low 32 x by omega,
    show (low 32 x * 2 ^ 32 + low 32 y) % 2 ^ 32 = low 32 y by omega, sx_low (by decide) fitsX, sx_low (by decide) fitsY]

theorem shiftBy_zero (v : Int) : shiftBy v 0 = v := by simp [shiftBy]

/-- The values that the lanes of a bank take for a product set (R243). -/
def macLanes (b : Bank) (p : Nat) (real : Bool) (prods : List (Int × Int)) : List (Int × Int) :=
  let e0 := if b.cleared then p else b.exp.toNat
  prods.zipIdx.map fun (q, l) =>
    let v := laneParts real (SMap.get 0 b.lanes l)
    (shiftBy v.1 ((p - e0 : Nat) : Int) + shiftBy q.1 ((e0 - p : Nat) : Int), shiftBy v.2 ((p - e0 : Nat) : Int) + shiftBy q.2 ((e0 - p : Nat) : Int))

theorem mac_lanes (b : Bank) (p : Nat) (real bad : Bool) (prods : List (Int × Int)) : (b.mac p real bad prods).1.lanes =
    (macLanes b p real prods).zipIdx.foldl (fun m q => SMap.set 0 m q.2
      (laneOf real (sat (if real then 64 else 32) q.1.1, sat (if real then 64 else 32) q.1.2))) b.lanes := rfl

/-- A cleared bank takes the products as they are (R243). -/
theorem macLanes_cleared {b : Bank} (p : Nat) (prods : List (Int × Int)) (cleared : b.cleared = true) (empty : b.lanes = []) (l : Nat) :
    (macLanes b p false prods)[l]? = prods[l]? := by
  have zero : laneParts false (SMap.get 0 b.lanes l) = (0, 0) := by
    rw [empty]
    exact show laneParts false 0 = (0, 0) by decide
  have whole (v : Int) : shiftBy 0 0 + shiftBy v 0 = v := by rw [shiftBy_zero, shiftBy_zero, Int.zero_add]
  simp only [macLanes, cleared, if_true, Nat.sub_self, Int.natCast_zero, List.getElem?_map, List.getElem?_zipIdx, Option.map_map, Nat.zero_add]
  cases prods[l]? with
  | none => rfl
  | some q =>
    simp only [Option.map_some, Function.comp_apply, zero, whole]

end Sys2Proof.Machine

namespace Sys2Proof.Claims
open Sys2Proof.Machine

/-- An instruction whose body is one multiply-accumulate. -/
theorem issue_mac {s : State} {e op n p : Nat} {w : EngWord} {ok real bad : Bool} {prods : List (Int × Int)} {body : State → State}
    (issues : Issues s e op w) (listed : opListed op = true) (fields : ok = true)
    (change : body (s.setEng e (past s e)) = (s.setEng e (past s e)).mac e n p real bad prods) :
    EngineAfter s e (.next (s.issue e op w ok body)) ((past s e).setBank n (((s.eng e).bank n).mac p real bad prods).1) := by
  refine issue_engineAfter issues listed fields (f := fun g => g.setBank n (((s.eng e).bank n).mac p real bad prods).1)
    (ofl := (((s.eng e).bank n).mac p real bad prods).2) (change.trans ?_)
  rw [State.mac, State.eng_setEng_self]
  rfl

/-- Settles O52: each form's product set, the four banks of the outer form, the mask of BCLR, and one lane of a cleared bank. -/
theorem engineMultiplyAccumulate : Obligations.EngineMultiplyAccumulate := by
  intro e p w g s own scale
  subst own
  rw [← scale]
  refine ⟨fun issues form fields evenX evenY => ?_, fun issues form fields evenX => ?_, fun issues form fields => ?_,
    fun issues form fields => ?_, fun issues form fields => ?_, fun issues forms evenX => ?_, fun issues fields => ?_,
    fun b prods l x y cleared empty here fitsX fitsY => ⟨?_, rfl⟩⟩
  · refine issue_mac issues rfl ?_ ?_
    · simp only [form, fields, evenX, evenY, Bool.and_self]
    · simp only [form, State.eng_setEng_self, if_true]
      rfl
  · refine issue_mac issues rfl ?_ ?_
    · simp only [form, fields, evenX, Bool.and_self]
    · simp only [form, State.eng_setEng_self, if_neg (show ¬ (2 : Nat) = 1 by decide), if_neg (show ¬ (2 : Nat) = 0 by decide)]
      rfl
  · refine issue_mac issues rfl ?_ ?_
    · simp only [form, fields]
    · simp only [form, State.eng_setEng_self, if_true, if_neg (show ¬ (1 : Nat) = 0 by decide)]
      rfl
  · refine issue_mac issues rfl ?_ ?_
    · simp only [form, fields]
    · simp only [form, State.eng_setEng_self, if_true]
      rfl
  · refine ⟨_, congrArg Host.Outcome.next (issue_of_issues issues rfl (by simp only [form, fields]) _), ?_⟩
    have own := State.eng_setEng_self s e (past s e)
    simp only [form, own, if_neg (show ¬ (1 : Nat) = 0 by decide)]
    obtain ⟨regs, taken, kept⟩ := eng_mac_foldl e (4 * w.im 4 4) ((past s e).prodExp w)
      (((past s e).reg w.a.toNat).poison || ((past s e).reg w.b.toNat).poison)
      (fun j => (celems 4 ((past s e).reg w.a.toNat).val).map fun v =>
        cmul (w.f.getLsbD 2) v ((celems 4 ((past s e).reg w.b.toNat).val).getD (4 * w.im 1 0 + j) (0, 0)))
      (List.range 4) List.nodup_range (s.setEng e (past s e))
    refine ⟨regs.trans ((congrArg Engine.regs own).trans rfl), fun j below => ?_, fun n out => ?_⟩
    · refine (taken j (List.mem_range.mpr below)).trans ?_
      rw [own]
      rfl
    · refine (kept n fun j listed same => ?_).trans ((congrArg (Engine.bank · n) own).trans rfl)
      have := List.mem_range.mp listed
      omega
  · refine issue_mac issues rfl ?_ ?_
    · rcases forms with ⟨form, fields, evenY⟩ | ⟨form, fields⟩
      · simp only [form, fields, evenX, evenY, Bool.and_self]
      · simp only [form, fields, evenX, Bool.and_self]
    · simp only [State.eng_setEng_self]
      rfl
  · refine ⟨_, congrArg Host.Outcome.next (issue_of_issues issues rfl fields _), ?_⟩
    have own := State.eng_setEng_self s e (past s e)
    have cleared := bank_foldl_clear ((List.range 8).filter fun b => w.imm.getLsbD b) (past s e)
    have moved : ((s.setEng e (past s e)).modEng e fun g =>
        ((List.range 8).filter fun b => w.imm.getLsbD b).foldl (fun g b => g.setBank b {}) g).eng e =
        ((List.range 8).filter fun b => w.imm.getLsbD b).foldl (fun g b => g.setBank b {}) (past s e) := by
      rw [State.modEng, own, State.eng_setEng_self]
    rw [moved]
    refine ⟨fun n => (cleared n).1.trans ?_, (cleared 0).2⟩
    simp only [List.mem_filter, List.mem_range]
    rfl
  · have there := macLanes_cleared ((s.eng e).prodExp w) prods cleared empty l
    rw [mac_lanes, get_foldl_zipIdx (fun q : Int × Int => laneOf false (sat (if false then 64 else 32) q.1, sat (if false then 64 else 32) q.2)),
      if_pos (Nat.zero_le l), Nat.sub_zero, there, here]
    simp only [Bool.false_eq_true, if_false, fitsX, fitsY]
    exact laneParts_laneOf fitsX fitsY

end Sys2Proof.Claims
end

section
/-!
SUPPORT. What the memory's own work leaves: the state without the memories' contents, the ports and the logs, and one equation for each
operation on memory that keeps it (R317 to R330). The statements on samples, rings and records rest on it.
-/
open Sys2Proof
namespace Sys2Proof.Machine
open Sys2Proof.Claims

/-- What the work of the memories leaves as it is: everything but their contents, the records of their errors and what reports them. -/
structure Rest where
  fuses    : Fuses
  straps   : Straps
  power    : Power
  clocks   : Clocks
  boot     : Boot
  time     : Time
  sched    : Sched
  merge    : Merge
  chans    : SMap Chan
  hits     : Hits
  rennet   : Rennet
  eng      : SMap Engine
  cl       : SMap Cluster
  dma      : SMap Dma
  kernels  : SMap Kernel
  wheyNow  : Bool
  trigTurn : Nat
  trigRan  : CT
  trigAt   : SMap CT
  fx       : Fx
  press    : SMap PressUnit
  link     : Link
  uplink   : Uplink
  house    : House
  test     : TestAccess
  flash    : List Host.Cell
  ramImage : List Host.Cell
  ctrlA    : List Host.Cell
  ctrlB    : List Host.Cell
  pending  : List Instr
  trained  : BitVec 4
  failed   : BitVec 4
  hot      : BitVec 4
  temps    : SMap (BitVec 16)
  regions  : SMap Region
  soft     : SMap SoftEntry
  cursors  : SMap Nat

def State.rest (s : State) : Rest :=
  ⟨s.fuses, s.straps, s.power, s.clocks, s.boot, s.time, s.sched, s.merge, s.chans, s.hits, s.rennet, s.engines.eng, s.engines.cl, s.engines.dma, s.engines.kernels, s.engines.wheyNow, s.engines.trigTurn,
    s.engines.trigRan, s.engines.trigAt, s.fx, s.press, s.link,
    s.uplink, s.house, s.test, s.flash, s.ramImage, s.ctrlA, s.ctrlB, s.pending, s.vat.trained, s.vat.failed, s.vat.hot, s.vat.temps,
    s.vat.regions, s.vat.soft, s.vat.cursors⟩

@[simp] theorem State.rest_mk (a b c d e f g h i j k l m n o p q r s t u v w x y z a' b' c' d' e') :
    (State.mk a b c d e f g h i j k l m n o p q r s t u v w x y z a' b' c' d' e').rest =
      ⟨a, b, c, d, e, i, j, k, l, m, n, o.eng, o.cl, o.dma, o.kernels, o.wheyNow, o.trigTurn, o.trigRan, o.trigAt, p, r, s, t, u, v, y, z, a', b', e', q.trained, q.failed, q.hot, q.temps, q.regions, q.soft,
        q.cursors⟩ := (rfl)

@[simp] theorem State.rest_eta (s : State) :
    Rest.mk s.fuses s.straps s.power s.clocks s.boot s.time s.sched s.merge s.chans s.hits s.rennet s.engines.eng s.engines.cl s.engines.dma s.engines.kernels s.engines.wheyNow s.engines.trigTurn
    s.engines.trigRan s.engines.trigAt s.fx s.press s.link
      s.uplink s.house s.test s.flash s.ramImage s.ctrlA s.ctrlB s.pending s.vat.trained s.vat.failed s.vat.hot s.vat.temps
      s.vat.regions s.vat.soft s.vat.cursors = s.rest := (rfl)

@[simp] theorem State.rest_ite (c : Prop) [Decidable c] (s t : State) : (if c then s else t).rest = if c then s.rest else t.rest :=
  apply_ite State.rest c s t

@[simp] theorem rest_foldl {α : Type} {f : State → α → State} (step : ∀ s x, (f s x).rest = s.rest) (l : List α) :
    ∀ s : State, (l.foldl f s).rest = s.rest := by
  induction l with
  | nil => exact fun _ => rfl
  | cons x xs ih => exact fun s => (ih _).trans (step s x)

@[simp] theorem State.raise_rest (s : State) (block code : Nat) (w : Word) : (s.raise block code w).rest = s.rest := by
  rw [State.raise_frame]
  rfl

@[simp] theorem State.bump_rest (s : State) (a n : Nat) : (s.bump a n).rest = s.rest := by
  rw [State.bump_frame]
  rfl

@[simp] theorem State.setMem_rest (s : State) (vat : Bool) (m : List Host.Cell) : (s.setMem vat m).rest = s.rest := by
  cases vat <;> rfl

@[simp] theorem State.notifyPorts_rest (s : State) (ps : List Nat) (block code : Nat) (w : Word) :
    (s.notifyPorts ps block code w).rest = s.rest := by
  rw [State.notifyPorts_frame]
  rfl

@[simp] theorem State.setPoison_rest (s : State) (vat : Bool) (p : SMap Bool) : (s.setPoison vat p).rest = s.rest := by
  simp [State.setPoison]

@[simp] theorem State.logErr_rest (s : State) (kind : Nat) (vat : Bool) (a : Nat) (src : Nat) (denied : Bool) (spare : Option Nat) :
    (s.logErr kind vat a src denied spare).1.rest = s.rest := by
  simp [State.logErr]

@[simp] theorem State.setTracks_rest (s : State) (t : Nat) (l : List Track) : (s.setTracks t l).rest = s.rest := by
  simp [State.setTracks]

@[simp] theorem State.freeTrack_rest (s : State) (vat : Bool) (a : Nat) : (s.freeTrack vat a).rest = s.rest := by
  simp [State.freeTrack]

@[simp] theorem State.touchTrack_rest (s : State) (t : Track) : (s.touchTrack t).rest = s.rest := by
  simp [State.touchTrack]

@[simp] theorem State.queueMove_rest (s : State) (m : RowMove) : (s.queueMove m).rest = s.rest := by
  simp [State.queueMove, Vat.take]

@[simp] theorem State.hardSuspect_rest (s : State) (vat : Bool) (a : Nat) (src : Nat) : (s.hardSuspect vat a src).rest = s.rest := by
  simp only [State.hardSuspect]
  split <;> simp

@[simp] theorem State.corrected_rest (s : State) (vat : Bool) (a : Nat) (src : Nat) : (s.corrected vat a src).rest = s.rest := by
  simp only [State.corrected]
  split <;> simp

@[simp] theorem State.uncorrectable_rest (s : State) (vat : Bool) (a : Nat) (src : Nat) (kind : Nat) :
    (s.uncorrectable vat a src kind).rest = s.rest := by
  simp [State.uncorrectable]

@[simp] theorem State.retag_rest (s : State) (vat : Bool) (lo : Nat) (hi : Nat) : (s.retag vat lo hi).rest = s.rest := by
  simp [State.retag]

@[simp] theorem State.meetCells_rest (s : State) (vat : Bool) (a : Nat) (found : List Finding) : (s.meetCells vat a found).rest = s.rest := by
  simp only [State.meetCells]
  repeat' split
  all_goals simp

@[simp] theorem State.rmwRead_rest (s : State) (vat : Bool) (a : Nat) (found : List Finding) :
    (s.rmwRead vat a found).rest = s.rest  := by
  simp only [State.rmwRead]
  repeat' split
  all_goals simp

@[simp] theorem State.clearOvf_rest (s : State) (vat : Bool) (lo : Nat) (hi : Nat) : (s.clearOvf vat lo hi).rest = s.rest := by
  simp [State.clearOvf]

@[simp] theorem State.clearPoison_rest (s : State) (vat : Bool) (lo : Nat) (hi : Nat) : (s.clearPoison vat lo hi).rest = s.rest := by
  simp [State.clearPoison]

@[simp] theorem State.rmwReads_rest (s : State) (vat : Bool) (found : List Finding) (l3 : List Nat) :
    (s.rmwReads vat found l3).rest = s.rest  := by
  induction l3 generalizing s with
  | nil => simp [State.rmwReads]
  | cons x xs ih => simp [State.rmwReads, ih]

@[simp] theorem State.freeRange_rest (s : State) (vat : Bool) (lo : Nat) (hi : Nat) : (s.freeRange vat lo hi).rest = s.rest := by
  simp [State.freeRange]

@[simp] theorem State.writeRange_rest (s : State) (vat : Bool) (a : Nat) (bs : List Byte) (found : List Finding) :
    (s.writeRange vat a bs found).rest = s.rest := by
  simp only [State.writeRange]
  split <;> simp

end Sys2Proof.Machine
end

section
/-!
SUPPORT. The channels, with the statement on their ranges and samples (R166 to R172).
-/
open Sys2Proof

namespace Sys2Proof.Machine
open Sys2Proof.Claims

@[simp] theorem State.chan_setChan_self (s : State) (n : Nat) (c : Chan) : (s.setChan n c).chan n = c := by
  rw [State.chan, State.setChan, SMap.get_set, if_pos rfl]

theorem State.chan_setChan_ne (s : State) (c : Chan) {n k : Nat} (other : k ≠ n) : (s.setChan n c).chan k = s.chan k := by
  rw [State.chan, State.setChan, SMap.get_set, if_neg other]
  rfl

theorem State.chan_congr {s t : State} (same : t.chans = s.chans) (n : Nat) : t.chan n = s.chan n := by
  rw [State.chan, same, State.chan]

/-- A state that differs from another in one channel. -/
theorem State.chan_of_chans_setChan {s t : State} {n : Nat} {c : Chan} (chans : t.chans = (s.setChan n c).chans) :
    t.chan n = c ∧ ∀ k, k ≠ n → t.chan k = s.chan k :=
  ⟨(State.chan_congr chans n).trans (State.chan_setChan_self s n c), fun k other => (State.chan_congr chans k).trans (State.chan_setChan_ne s c other)⟩

@[simp] theorem State.advanceTo_chans (s : State) (c : CT) : (s.advanceTo c).chans = s.chans := by rw [State.advanceTo_frame]

@[simp] theorem State.writeRange_chans (s : State) (vat : Bool) (a : Nat) (bytes : List Byte) (found : List Finding) :
    (s.writeRange vat a bytes found).chans = s.chans := congrArg Rest.chans (State.writeRange_rest s vat a bytes found)

@[simp] theorem State.writeRange_time (s : State) (vat : Bool) (a : Nat) (bytes : List Byte) (found : List Finding) :
    (s.writeRange vat a bytes found).time = s.time := congrArg Rest.time (State.writeRange_rest s vat a bytes found)

/-- The record of a block writes memory alone. -/
@[simp] theorem State.writeBlock_rest (s : State) (k b : Nat) (codes : List (BitVec 12)) : (s.writeBlock k b codes).rest = s.rest := by
  unfold State.writeBlock
  split
  · exact State.writeRange_rest _ _ _ _ _
  · rfl

@[simp] theorem State.writeZeros_rest (s : State) (k ch b n : Nat) : (s.writeZeros k ch b n).rest = s.rest := by
  induction n generalizing s b with
  | zero => rfl
  | succ n ih => exact (ih _ _).trans (State.writeBlock_rest _ _ _ _)

/-- The channels and the time, which the trigger buffer and the rings leave. -/
def State.chanTime (s : State) : SMap Chan × Time := (s.chans, s.time)

theorem State.chanTime_of_rest {s t : State} (same : t.rest = s.rest) : t.chanTime = s.chanTime :=
  Prod.ext (congrArg Rest.chans same) (congrArg Rest.time same)

@[simp] theorem State.setRennet_chanTime (s : State) (f : Rennet → Rennet) : (s.setRennet f).chanTime = s.chanTime := rfl

@[simp] theorem State.setFx_chanTime (s : State) (f : Fx → Fx) : (s.setFx f).chanTime = s.chanTime := rfl

@[simp] theorem State.zeroBlocks_chanTime (l : List (Nat × Nat)) : ∀ s : State, (s.zeroBlocks l).chanTime = s.chanTime := by
  induction l with
  | nil => exact fun _ => rfl
  | cons x l ih =>
    intro s
    rw [State.zeroBlocks, ih, apply_ite State.chanTime, State.setRennet_chanTime, State.chanTime_of_rest (State.writeZeros_rest _ _ _ _ _),
      ite_self]

@[simp] theorem State.zeroNow_chanTime (s : State) : s.zeroNow.chanTime = s.chanTime := by
  rw [State.zeroNow, apply_ite State.chanTime, State.zeroBlocks_chanTime, ite_self]

theorem chanTime_getD_map {α : Type} (o : Option α) {f : α → State} {s : State} (step : ∀ x, (f x).chanTime = s.chanTime) :
    ((o.map f).getD s).chanTime = s.chanTime := by
  cases o with
  | none => rfl
  | some x => exact step x

@[simp] theorem State.bufferSample_chanTime (s : State) (ch : Nat) (t : CT) (code : BitVec 12) :
    (s.bufferSample ch t code).chanTime = s.chanTime := by
  simp only [State.bufferSample]
  split
  · rfl
  · split
    · rfl
    · rw [State.zeroNow_chanTime]
      exact chanTime_getD_map _ fun x => State.chanTime_of_rest (State.writeBlock_rest _ _ _ _)

@[simp] theorem State.ringSample_chanTime (s : State) (q : Nat) (x : Sample) : (s.ringSample q x).chanTime = s.chanTime := by
  simp only [State.ringSample]
  split
  · rw [apply_ite State.chanTime, State.setFx_chanTime, ite_self]
  · rw [State.chanTime_of_rest (State.writeRange_rest _ _ _ _ _), apply_ite State.chanTime, State.setFx_chanTime, ite_self]

@[simp] theorem State.ringSamples_chanTime (q : Nat) (l : List Sample) : ∀ s : State, (s.ringSamples q l).chanTime = s.chanTime := by
  induction l with
  | nil => exact fun _ => rfl
  | cons x l ih => exact fun s => (ih _).trans (State.ringSample_chanTime s q x)

@[simp] theorem State.raise_chanTime (s : State) (block code : Nat) (w : Word) : (s.raise block code w).chanTime = s.chanTime :=
  State.chanTime_of_rest (State.raise_rest s block code w)

@[simp] theorem State.bump_chanTime (s : State) (a n : Nat) : (s.bump a n).chanTime = s.chanTime :=
  State.chanTime_of_rest (State.bump_rest s a n)

/-- The reports of a sample change neither channel nor time. -/
theorem sampleReports_chanTime (a b : Prop) [Decidable a] [Decidable b] (y : State) (k : Nat) (w v : Word) :
    (if a then (if b then (y.bump k 1).raise 6 0 w else y).raise 7 0 v else if b then (y.bump k 1).raise 6 0 w else y).chanTime =
      y.chanTime := by
  split <;> split <;> simp only [State.raise_chanTime, State.bump_chanTime]

theorem State.setChan_chans_congr {s t : State} (same : t.chans = s.chans) (n : Nat) (c : Chan) :
    (t.setChan n c).chans = (s.setChan n c).chans := by
  rw [State.setChan, same, State.setChan]

theorem caChCfg_ne_tcEvents (n : Nat) : Reg.key (.caChCfg n) ≠ Reg.key .tcEvents := by
  have apart : 0x80004 ≠ 0x100000 + n * 0x400 := by omega
  exact fun same => apart same.symm

theorem caChAuto_ne_tcEvents (n : Nat) : Reg.key (.caChAuto n) ≠ Reg.key .tcEvents := by
  have apart : 0x80004 ≠ 0x100004 + n * 0x400 := by omega
  exact fun same => apart same.symm

/-- What a sample leaves: CT stands at its instant, and one channel is another. -/
theorem State.takeSample_frame (s : State) (dig : Nat) (code : BitVec 12) (single : s.paired dig = false) :
    (s.takeSample dig code).1.time = (s.advanceTo (sampleInstant s.time.ct (s.chan dig).lastEven 0)).time ∧
    ∃ c : Chan, (s.takeSample dig code).1.chans = (s.setChan dig c).chans ∧
      c.lastEven = some (sampleInstant s.time.ct (s.chan dig).lastEven 0) ∧ c.range = (s.chan dig).range ∧
      c.dropDue = ((s.chan dig).dropDue || (s.b (.caChCfg dig) 6 &&
        !(s.chan dig).invAt (sampleInstant s.time.ct (s.chan dig).lastEven 0) &&
        overRange (s.ovrMargin dig) code.toNat && (s.chan dig).range != 0 && !(s.chan dig).dropping)) := by
  have own : s.governor dig = dig := by rw [State.governor, single, if_neg Bool.false_ne_true]
  simp only [State.takeSample, own, single, Bool.false_and, Bool.false_eq_true, if_false]
  generalize sampleInstant s.time.ct (s.chan dig).lastEven 0 = t
  have drawn : (if (s.chan dig).prior.isNone = true then (s.advanceTo t).draw else s.advanceTo t).chanTime = (s.advanceTo t).chanTime := by
    rw [apply_ite State.chanTime]
    exact ite_self _
  have chans := (congrArg Prod.fst drawn).trans (State.advanceTo_chans s t)
  refine ⟨(congrArg Prod.snd (sampleReports_chanTime _ _ _ _ _ _)).trans (congrArg Prod.snd drawn), _,
    (congrArg Prod.fst (sampleReports_chanTime _ _ _ _ _ _)).trans (State.setChan_chans_congr chans dig _), rfl, rfl, ?_⟩
  have cfg : (s.advanceTo t).b (.caChCfg dig) 6 = s.b (.caChCfg dig) 6 := State.b_congr (State.reg_advanceTo_of_ne s t _ (caChCfg_ne_tcEvents dig)) 6
  have margin : (s.advanceTo t).ovrMargin dig = s.ovrMargin dig := State.f_congr (State.reg_advanceTo_of_ne s t _ (caChAuto_ne_tcEvents dig)) 11 0
  rw [← cfg, ← margin]


end Sys2Proof.Machine

namespace Sys2Proof.Claims
open Sys2Proof.Machine

/-- The time runs where a channel is on. -/
theorem time_of_chanOn {s : State} {ch : Nat} (on : s.chanOn ch = true) : s.rel 7 = true := by
  rw [State.chanOn, Bool.and_assoc, Bool.and_assoc, Bool.and_eq_true] at on
  exact decide_eq_true (Nat.le_trans (by decide) (of_decide_eq_true on.1))

theorem below_of_chanOn {s : State} {ch : Nat} (on : s.chanOn ch = true) : ch < s.res.channels := by
  simp only [State.chanOn, Bool.and_eq_true, decide_eq_true_eq] at on
  exact on.1.1.2

/-- A sample's instant is not past (R166). -/
theorem sampleInstant_later (now : CT) (last : Option CT) : 0 ≤ ctDiff (sampleInstant now last 0) now := by
  have fresh : 0 ≤ ctDiff (now + BitVec.ofNat 64 ((256 + 0 - now.toNat % 256) % 256)) now := by
    have small : (256 + 0 - now.toNat % 256) % 256 < 256 := Nat.mod_lt _ (by decide)
    generalize (256 + 0 - now.toNat % 256) % 256 = k at small
    have value : (BitVec.ofNat 64 k).toNat = k := by rw [BitVec.toNat_ofNat, Nat.mod_eq_of_lt (by omega)]
    rw [ctDiff, BitVec.add_comm, BitVec.add_sub_cancel, BitVec.toInt_eq_toNat_of_lt (by omega)]
    exact Int.natCast_nonneg _
  unfold sampleInstant
  dsimp only
  split
  · split
    · exact fresh
    · omega
  · exact fresh

/-- Settles O39: the mark and the counter of a drop touch no channel, and a sample's reports and records leave what the sample made. -/
theorem channelRangesAndSamples : Obligations.ChannelRangesAndSamples := by
  intro ch code q s settled on
  subst settled
  refine ⟨fun due range => ?_, fun auto quiet enough room => ?_, fun cause inv later => ?_, fun single => ?_⟩
  · have arm : exec (.autorangeDrop ch) q = autorangeDrop ch q.settleNow := rfl
    have runs : ¬ ((!q.settleNow.chanOn ch || !(q.settleNow.chan ch).dropDue || (q.settleNow.chan ch).range == 0) = true) := by
      rw [on, due, Bool.not_true, Bool.false_or, Bool.false_or]
      exact fun none => range (beq_iff_eq.mp none)
    rw [arm, autorangeDrop, if_neg runs]
    refine ⟨_, rfl, ?_⟩
    have chans := State.bump_chans ((q.settleNow.setChan ch { ((q.settleNow.chan ch).startInv .range q.settleNow.time.ct) with
      range := (q.settleNow.chan ch).range - 1, dropDue := false, dropping := true, quiet := 0, quietNow := false }).logMark ch 1
        q.settleNow.time.ct ((q.settleNow.chan ch).range - 1) (q.settleNow.invSamples ch
          (((q.settleNow.chan ch).startInv .range q.settleNow.time.ct).inv.getD .range))) (0x100068 + ch * 0x400) 1
    obtain ⟨own, others⟩ := State.chan_of_chans_setChan (s := q.settleNow) chans
    exact ⟨by rw [own], by rw [own]; rfl, by rw [own]; rfl, by rw [own], others, State.bump_time _ _ _⟩
  · have runs : (q.settleNow.chanOn ch && q.settleNow.b (.caChCfg ch) 6 && decide (q.settleNow.f (.caChAuto ch) 23 16 ≠ 0 ∧
        q.settleNow.f (.caChAuto ch) 23 16 ≤ (q.settleNow.chan ch).quiet ∧
        (q.settleNow.chan ch).range.toNat < q.settleNow.f (.caChCfg ch) 5 4)) = true := by
      rw [on, auto, decide_eq_true ⟨quiet, enough, room⟩]
      rfl
    have arm : exec (.autorangeRise ch) q = autorangeRise ch q.settleNow := rfl
    rw [arm, autorangeRise, if_pos runs]
    obtain ⟨own, others⟩ := State.chan_of_chans_setChan (s := q.settleNow) (n := ch) (c := { ((q.settleNow.chan ch).startInv .range
      q.settleNow.tickCt) with range := (q.settleNow.chan ch).range + 1, quiet := 0 }) rfl
    refine ⟨_, rfl, ?_, ?_, ?_, others⟩
    · exact congrArg Chan.range own
    · exact congrArg Chan.quiet own
    · exact congrArg Chan.invFrom own
  · have arm : exec (.invIntervalEnd ch) q.settleNow = execInvIntervalEnd ch q.settleNow := rfl
    simp only [arm, execInvIntervalEnd, inv]
    refine ⟨_, rfl, ?_, ?_, State.advanceTo_ct (time_of_chanOn on) later⟩
    · rw [State.chan_setChan_self]
    · rw [State.chan_setChan_self]
  · have own : q.settleNow.governor ch = ch := by rw [State.governor, single, if_neg Bool.false_ne_true]
    have runs : ¬ ((!q.settleNow.chanOn ch || decide (q.settleNow.res.channels ≤ ch)) = true) := by
      rw [on, decide_eq_false (by have := below_of_chanOn on; omega)]
      decide
    have arm : exec (.digitiserSample ch code) q = execDigitiserSample ch code q := rfl
    simp only [arm, execDigitiserSample, own, if_neg runs]
    refine ⟨_, rfl, ?_⟩
    obtain ⟨time, c, chans, last, range, due⟩ := State.takeSample_frame q.settleNow ch code single
    have instant : (q.settleNow.takeSample ch code).1.time.ct = sampleInstant q.settleNow.time.ct (q.settleNow.chan ch).lastEven 0 :=
      (congrArg Time.ct time).trans (State.advanceTo_ct (time_of_chanOn on) (sampleInstant_later _ _))
    have recorded (t : State) (kept : t.chanTime = (q.settleNow.takeSample ch code).1.chanTime) :
        t.time.ct = sampleInstant q.settleNow.time.ct (q.settleNow.chan ch).lastEven 0 ∧ t.chan ch = c ∧
          ∀ k, k ≠ ch → t.chan k = q.settleNow.chan k :=
      ⟨(congrArg (fun p => p.2.ct) kept).trans instant, State.chan_of_chans_setChan ((congrArg Prod.fst kept).trans chans)⟩
    obtain ⟨now, mine, others⟩ := recorded _ ((State.bufferSample_chanTime _ _ _ _).trans (State.ringSamples_chanTime _ _ _))
    rw [now, mine]
    exact ⟨rfl, last, due, range, others⟩

end Sys2Proof.Claims
end

section
/-!
SUPPORT. The stops of a channel, with the statement on their stamps (R173 to R187).
-/
open Sys2Proof

namespace Sys2Proof.Machine
open Sys2Proof.Claims

/-- An advance leaves every register behind the time core's. -/
theorem State.reg_advanceTo_of_lt (s : State) (c : CT) {q : Reg} (above : 0x80004 < q.key) : (s.advanceTo c).reg q = s.reg q :=
  State.reg_advanceTo_of_ne s c q fun same => Nat.lt_irrefl 0x80004 (show 0x80004 < Reg.key .tcEvents from same ▸ above)

/-- The threshold of the channel still settles at an instant (R171). -/
def Chan.settling (c : Chan) (t : CT) : Bool := match c.settleUntil with | some u => decide (ctDiff t u < 0) | none => false

/-- A timing stop that finds an empty FIFO and none before it: `u` is the state with the stop noted, which the window then judges (R174,
R175, R187). -/
theorem State.takeStop_timing {s : State} {ch : Nat} {p : Stop} (on : s.chanOn ch = true) (timing : p.trailing = false)
    (keeps : (s.chan ch).drop = false) (first : (s.chan ch).lastTiming = none) (empty : (s.chan ch).fifo = []) :
    ∃ u : State, (∀ q : Reg, u.reg q = (s.advanceTo p.ct).reg q) ∧ u.time = (s.advanceTo p.ct).time ∧
      (∀ k, k ≠ ch → u.chan k = s.chan k) ∧
      (u.inWindow ch p = true → ∃ (d : Chan) (settle : Bool), s.takeStop ch p = (u.setChan ch d).bump (0x100040 + ch * 0x400) 1 ∧
        d.lastTiming = some p.ct ∧
        d.fifo = [{ p with rangeSwitch := (s.chan ch).dropping, thrSettle := settle, corrected := correctStamp u ch p }]) ∧
      (u.inWindow ch p = false → ∃ d : Chan, s.takeStop ch p = (u.bump (0x100048 + ch * 0x400) 1).setChan ch d ∧
        d.lastTiming = some p.ct ∧ d.fifo = [] ∧ d.timingLost = true) := by
  simp only [State.takeStop, on, timing, Bool.not_true, Bool.false_eq_true, if_false, Bool.false_and, State.drainStops,
    State.chan_setChan_self, empty, keeps, first, Bool.or_self, List.length_nil]
  generalize hu : ((s.advanceTo p.ct).setChan ch _).setChan ch _ = u
  have others (k : Nat) (other : k ≠ ch) : u.chan k = s.chan k := by
    rw [← hu, State.chan_setChan_ne _ _ other, State.chan_setChan_ne _ _ other, State.chan_congr (State.advanceTo_chans s p.ct)]
  refine ⟨u, fun q => by rw [← hu]; exact State.reg_congr _ _ q rfl rfl rfl, by rw [← hu]; rfl, others, fun inside => ?_, fun outside => ?_⟩
  · rw [inside, if_neg (by decide), if_neg (by decide)]
    refine ⟨_, (s.chan ch).settling p.ct, rfl, rfl, ?_⟩
    simp only [List.nil_append, correctStamp, timing]
    rfl
  · rw [outside, if_pos (by decide)]
    have own : (u.bump (0x100048 + ch * 0x400) 1).chan ch = u.chan ch := State.chan_congr (State.bump_chans _ _ _) ch
    refine ⟨_, rfl, ?_, ?_, rfl⟩
    · rw [own, ← hu, State.chan_setChan_self]
    · rw [own, ← hu, State.chan_setChan_self]

end Sys2Proof.Machine

namespace Sys2Proof.Claims
open Sys2Proof.Machine

/-- A correction depends on the registers alone (R187). -/
theorem correctStamp_congr {s t : State} {ch : Nat} (p : Stop) (bins : ∀ i k, t.reg (.mdBin ch i k) = s.reg (.mdBin ch i k))
    (skew : t.reg (.mdChSkew ch) = s.reg (.mdChSkew ch)) : correctStamp t ch p = correctStamp s ch p := by
  simp only [correctStamp, binTable, bins, State.f, skew]

/-- Settles O40: a stop within the window stands in the FIFO with its correction, and one outside is counted alone. -/
theorem stopsAreStampedWithinTheWindow : Obligations.StopsAreStampedWithinTheWindow := by
  intro ch cycle coarse bin p q s settled on stop later keeps first empty
  subst settled stop
  obtain ⟨u, regs, time, others, inside, outside⟩ := State.takeStop_timing on rfl keeps first empty
    (p := q.settleNow.stopAt ch false cycle coarse bin)
  have released := time_of_chanOn on
  have above (i k : Nat) : (u.reg (.mdBin ch i k)) = q.settleNow.reg (.mdBin ch i k) :=
    (regs _).trans (State.reg_advanceTo_of_lt _ _ (show 0x80004 < 0x128000 + ch * 0x800 + i * 0x400 + k * 0x4 by omega))
  have skew : u.reg (.mdChSkew ch) = q.settleNow.reg (.mdChSkew ch) :=
    (regs _).trans (State.reg_advanceTo_of_lt _ _ (show 0x80004 < 0x120020 + ch * 0x200 by omega))
  have window : u.reg (.caChWin ch) = q.settleNow.reg (.caChWin ch) :=
    (regs _).trans (State.reg_advanceTo_of_lt _ _ (show 0x80004 < 0x100014 + ch * 0x400 by omega))
  have now := (congrArg Time.ct time).trans (State.advanceTo_ct released later)
  generalize hp : q.settleNow.stopAt ch false cycle coarse bin = p at *
  have arm : exec (.tdcStop ch false cycle coarse bin) q = .next (q.settleNow.takeStop ch p) := by rw [← hp]; rfl
  have judged : u.inWindow ch p = (decide (q.settleNow.f (.caChWin ch) 11 0 * 512 ≤ p.raw % (4096 * 512) ∧
      p.raw % (4096 * 512) < q.settleNow.f (.caChWin ch) 28 16 * 512) && (q.settleNow.b (.caChWin ch) 31 || p.cycle == 0)) := by
    rw [State.inWindow, window]
    rfl
  refine ⟨_, arm, ?_⟩
  cases side : u.inWindow ch p
  · obtain ⟨d, run, stamped, none_, lost⟩ := outside side
    obtain ⟨own, rest⟩ := State.chan_of_chans_setChan ((congrArg State.chans run).trans (State.setChan_chans_congr (State.bump_chans _ _ _) ch d))
    rw [own]
    refine ⟨?_, stamped, fun k other => (rest k other).trans (others k other), fun low_ high cycle_ => ?_, fun _ => ⟨none_, lost⟩⟩
    · rw [run]
      exact (congrArg Time.ct (State.bump_time u _ 1)).trans now
    · rw [judged, decide_eq_true ⟨low_, high⟩] at side
      rcases cycle_ with first_ | zero
      · rw [first_] at side
        exact nomatch side
      · rw [zero, Bool.or_comm] at side
        exact nomatch side
  · obtain ⟨d, settle, run, stamped, held⟩ := inside side
    obtain ⟨own, rest⟩ := State.chan_of_chans_setChan ((congrArg State.chans run).trans (State.bump_chans (u.setChan ch d) _ 1))
    rw [own]
    refine ⟨?_, stamped, fun k other => (rest k other).trans (others k other), fun _ _ _ => ⟨_, held, ?_, ?_⟩, fun out => ?_⟩
    · rw [run]
      exact (congrArg Time.ct (State.bump_time (u.setChan ch d) _ 1)).trans now
    · exact correctStamp_congr p above skew
    · rw [← hp]
      exact ⟨rfl, rfl, rfl, rfl⟩
    · rw [judged, Bool.and_eq_true, decide_eq_true_eq, Bool.or_eq_true, beq_iff_eq] at side
      obtain ⟨⟨low_, high⟩, cycle_⟩ := side
      rcases out with below | above_ | ⟨single, later_⟩
      · omega
      · omega
      · rw [single] at cycle_
        rcases cycle_ with no | zero
        · exact nomatch no
        · exact absurd zero later_

end Sys2Proof.Claims
end

section
/-!
SUPPORT. What notices and events leave of the ports, with the statement on the bias key and calibration (R179, R190 to R192).
-/
open Sys2Proof

namespace Sys2Proof.Machine
open Sys2Proof.Claims

/-- The ports without what waits at each of them. -/
def State.desk (s : State) : Ports := { s.ports with port := [] }

theorem State.long_of_desk {s t : State} (same : t.desk = s.desk) : t.ports.long = s.ports.long :=
  show t.desk.long = s.desk.long by rw [same]

@[simp] theorem State.setPort_desk (s : State) (p : Nat) (q : Port) : (s.setPort p q).desk = s.desk := rfl

theorem State.notifyPort_desk (s : State) (p block code : Nat) (w : Word) (ct : CT) : (s.notifyPort p block code w ct).desk = s.desk := by
  simp only [State.notifyPort]
  split
  · rfl
  · split
    · rfl
    · split <;> rfl

@[simp] theorem State.notifyPorts_desk (s : State) (ps : List Nat) (block code : Nat) (w : Word) :
    (s.notifyPorts ps block code w).desk = s.desk := by
  have each (ct : CT) (l : List Nat) : ∀ t : State, (l.foldl (fun s p => s.notifyPort p block code w ct) t).desk = t.desk := by
    induction l with
    | nil => exact fun _ => rfl
    | cons p l ih => exact fun t => (ih _).trans (t.notifyPort_desk p block code w ct)
  simp only [State.notifyPorts]
  split
  · exact each _ _ _
  · rfl

@[simp] theorem State.notify_desk (s : State) (block code : Nat) (w : Word) : (s.notify block code w).desk = s.desk := by
  rw [State.notify, apply_ite State.desk, State.notifyPorts_desk, ite_self]

@[simp] theorem State.raise_desk (s : State) (block code : Nat) (w : Word) : (s.raise block code w).desk = s.desk := by
  rw [State.raise, State.notify_desk]
  split <;> rfl

@[simp] theorem State.bump_desk (s : State) (a n : Nat) : (s.bump a n).desk = s.desk := by
  simp only [State.bump]
  split
  · rw [State.notify_desk]
    rfl
  · rfl

@[simp] theorem State.endCmd_desk (s : State) (wrote : Bool) : (s.endCmd wrote).desk = s.desk := by
  simp only [State.endCmd]
  split
  · rw [apply_ite State.desk, State.raise_desk]
    exact ite_self _
  · rfl

/-- A bit of a register that a mask takes alone. -/
theorem bit_and_mask (w : Word) {i : Nat} (other : i ≠ 16) : (w &&& 0xFFFEFFFF).getLsbD i = w.getLsbD i := by
  rw [BitVec.getLsbD_and]
  by_cases low_ : i < 32
  · have kept : ∀ j < 32, j ≠ 16 → (0xFFFEFFFF : Word).getLsbD j = true := by decide
    rw [kept i low_ other, Bool.and_true]
  · rw [BitVec.getLsbD_of_ge w i (by omega), Bool.false_and]

theorem bit_bit32 (j : Nat) (v : Bool) : (bit32 16 v).getLsbD j = (decide (j = 16) && v) := by
  cases v
  · rw [bit32, if_neg Bool.false_ne_true, Bool.and_false]
    exact BitVec.getLsbD_zero
  · rw [bit32, if_pos rfl, BitVec.getLsbD_ofNat, Nat.testBit_two_pow, Bool.and_true]
    by_cases here : j = 16
    · subst here
      rfl
    · rw [decide_eq_false here, decide_eq_false (p := 16 = j) (Ne.symm here), Bool.and_false]

end Sys2Proof.Machine

namespace Sys2Proof.Claims
open Sys2Proof.Machine

/-- Settles O41: the two registers of the key, and what a run of procedure 1 and an interleave end leave. -/
theorem biasKeyAndCalibration : Obligations.BiasKeyAndCalibration := by
  intro port value r ch s
  refine ⟨fun may some_ => ⟨fun fresh => ?_, fun free => ?_, fun shut sets => ?_⟩, ?_,
    fun acc names low_ sweep par zero zero' released off idle => ?_, fun l par apply dt residual running waits => ?_⟩
  · have runs : (canWrite s port 9 && decide (0 < s.res.channels)) = true := by
      rw [may, decide_eq_true some_]
      rfl
    have written : (wrBiasKey { s with pair := { s.pair with
        pushTag := s.pair.pushTag + 1, lastTag := SMap.set 0 s.pair.lastTag 6 (s.pair.pushTag + 1) } } value).reg .caBiasCtrl =
        (s.reg .caBiasCtrl &&& 0xFFFEFFFF) ||| bit32 16 (decide (value = 0xB1A5)) := State.reg_setReg _ _ _
    refine ⟨_, congrArg Host.Outcome.next ((if_pos runs).trans (State.action_of_not_replaying 6 _ fresh)), ?_, fun i other => ?_, rfl⟩
    · rw [State.b, written, BitVec.getLsbD_or, bit_bit32, BitVec.getLsbD_and]
      simp
    · rw [State.b, written, BitVec.getLsbD_or, bit_bit32, bit_and_mask _ other, decide_eq_false other, Bool.false_and, Bool.or_false]
      rfl
  · have runs : (canWrite s port 9 && decide (0 < s.res.channels)) = true := by
      rw [may, decide_eq_true some_]
      rfl
    have allowed : ¬ ((value &&& ~~~(s.reg .caBiasCtrl)) &&& 0xF ≠ 0 ∧ (s.reg .caBiasCtrl).getLsbD 16 = false) := by
      rintro ⟨sets, shut⟩
      rcases free with open_ | none_
      · exact Bool.false_ne_true (shut.symm.trans open_)
      · exact sets none_
    refine ⟨_, congrArg Host.Outcome.next ((if_pos runs).trans (congrArg (writeOr s) (if_neg allowed))), ?_, rfl⟩
    exact State.reg_setReg _ _ _
  · have runs : (canWrite s port 9 && decide (0 < s.res.channels)) = true := by
      rw [may, decide_eq_true some_]
      rfl
    exact congrArg Host.Outcome.next ((if_pos runs).trans (congrArg (writeOr s) (if_pos ⟨sets, shut⟩)))
  · refine ⟨_, rfl, ?_, fun i other => ?_⟩
    · rw [State.b, State.reg_setReg, BitVec.getLsbD_and]
      exact Bool.and_false _
    · rw [State.b, State.reg_setReg, bit_and_mask _ other]
      rfl
  · subst names
    have proc : (decide ((r.w 1).toNat < 8)) = true := decide_eq_true par
    have released' : (s.startCmd 0x410 r).rel 9 = true := released
    have off' : (s.startCmd 0x410 r).enAny (fld (r.w 0) 5 0) = false := off
    have idle' : (s.startCmd 0x410 r).calBusy (fld (r.w 0) 5 0) = false := idle
    have once : ¬ (fld (r.w 0) 9 8 = 2 ∧ (fld (r.w 0) 5 0 % 2 = 1 ∨ (s.startCmd 0x410 r).paired (fld (r.w 0) 5 0) = false)) := by
      rw [sweep]
      exact fun both => absurd both.1 (by decide)
    refine ⟨_, congrArg Host.Outcome.next (runOp_of_silent acc ((if_neg ?_).trans ((needStep_of_released _ released').trans
      ((if_neg (ne_true_of_eq_false off')).trans ((if_neg once).trans (if_neg (ne_true_of_eq_false idle'))))))), ?_, ?_⟩
    · rw [sweep]
      rintro (past | three | bad | w2 | w3)
      · exact absurd (show (s.startCmd 0x410 r).res.channels ≤ fld (r.w 0) 5 0 from past) (Nat.not_le.mpr low_)
      · exact absurd three (by decide)
      · exact Bool.false_ne_true (bad.symm.trans proc)
      · exact w2 zero
      · exact w3 zero'
    · rw [State.chan_congr (State.endCmd_chans _ true)]
      refine (congrArg Chan.cal (State.chan_setChan_self (s.startCmd 0x410 r) _ _)).trans ?_
      rw [sweep]
      rfl
    · exact State.long_of_desk (State.endCmd_desk _ true)
  · have arm : exec (.calRunDone ch (.interleave dt residual)) s = execCalRunDone ch (.interleave dt residual) s := rfl
    simp only [arm, execCalRunDone, running, waits, calProc, ne_eq, not_true_eq_false, if_false, State.calResults]
    refine ⟨_, rfl, ?_, State.reg_raise_own_bit _ 7 1 1 (at32 0 ch) _ rfl (by decide), fun applied below => ?_, fun kept => ?_⟩
    · rw [State.chan_congr (State.raise_chans _ 7 1 _)]
      exact congrArg Chan.cal (State.chan_setChan_self _ _ _)
    · rw [applied, State.regW, State.raise_pend]
      exact congrArg (Option.getD · _) ((SMap.find_put s.csr.pend _ _ _).trans (if_pos rfl))
    · rw [kept, State.raise_pend, if_neg Bool.false_ne_true]
      rfl

end Sys2Proof.Claims
end

section
/-!
SUPPORT. The statement on the trigger sources: its clause on the auto timer asks for a released rennet (step 5 of R77) alone, and the
instant at which the timer expires is one that CT comes to only where the time core is released too (step 7).
-/
open Sys2Proof

namespace Sys2Proof.Claims
open Sys2Proof.Machine

/-- A device whose bring-up stands at step 5, armed in stream mode with an auto timer of one nanosecond. -/
def armedBeforeTime : State :=
  { power := { released := 5 }, rennet := { armed := true, arm := { auto := true, mode := 1, timeout := 1 } } }

/-- Its timer expires with CT at 0, since CT does not move before the time core is released. -/
theorem autoTimeout_armedBeforeTime : (after (exec .autoTimeout armedBeforeTime) armedBeforeTime).time.ct = 0 := by decide

/-- Refutes O44: the auto timer of a device that has not released its time core expires, and CT does not come to that instant. -/
theorem not_triggerSourcesOfferCandidates : ¬ Obligations.TriggerSourcesOfferCandidates := by
  intro all
  obtain ⟨-, -, -, -, -, auto⟩ := all 0 0 0 ⟨0, 0, 0, 0, 0, 0, []⟩ 512 0 armedBeforeTime armedBeforeTime (State.settleNow_of_settled (by decide))
    (by decide) (by decide)
  obtain ⟨u, run, now, -⟩ := auto rfl rfl rfl rfl (by decide) (by decide)
  have still := autoTimeout_armedBeforeTime
  rw [run] at still
  exact absurd (still.symm.trans now) (by decide)

end Sys2Proof.Claims
end

section
/-!
SUPPORT. The decision on a trigger candidate, row by row of R221, with the statement on the decisions (R220 to R222, R236).
-/
open Sys2Proof

namespace Sys2Proof.Machine
open Sys2Proof.Claims

@[simp] theorem State.reg_setRennet (s : State) (f : Rennet → Rennet) (q : Reg) : (s.setRennet f).reg q = s.reg q :=
  State.reg_congr s _ q rfl rfl rfl

@[simp] theorem State.advanceTo_rennet (s : State) (c : CT) : (s.advanceTo c).rennet = s.rennet := by rw [State.advanceTo_frame]

/-- A trigger's frame depends on the frame grid, the budget and the frames that have ended. -/
theorem State.trFrame_congr {s u : State} (fn : u.time.fn = s.time.fn) (period : u.time.period = s.time.period)
    (tick : u.time.tickE = s.time.tickE) (budget : u.reg .trBudget = s.reg .trBudget) (frames : u.rennet.frames = s.rennet.frames)
    (t : CT) : u.trFrame t = s.trFrame t := by
  have at_ : u.tickCt = s.tickCt := by rw [State.tickCt, tick, State.tickCt]
  have fine : u.frameFine = s.frameFine := by rw [State.frameFine, period, State.frameFine]
  simp only [State.trFrame, budget, fn, at_, fine, frames]

theorem ite_left_or_right {α : Type} (c : Prop) [Decidable c] (a b : α) : (if c then a else b) = a ∨ (if c then a else b) = b := by
  by_cases yes : c
  · exact .inl (if_pos yes)
  · exact .inr (if_neg yes)

theorem State.tryClose_eq (s : State) : s.tryClose = s.closeSegment ∨ s.tryClose = s :=
  ite_left_or_right _ _ _

/-- The close of a segment leaves the triggers, the marks and the candidates (R222, R232). -/
theorem State.tryClose_frame (s : State) : s.tryClose.rennet.last = s.rennet.last ∧ s.tryClose.rennet.num = s.rennet.num ∧
    s.tryClose.rennet.cands = s.rennet.cands ∧ s.tryClose.rennet.misses = s.rennet.misses ∧
    s.tryClose.rennet.autoBase = s.rennet.autoBase ∧ s.tryClose.rennet.marks = s.rennet.marks := by
  rcases s.tryClose_eq with closes | stays
  · rw [closes, State.closeSegment, State.raise_rennet]
    exact ⟨rfl, rfl, rfl, rfl, rfl, rfl⟩
  · rw [stays]
    exact ⟨rfl, rfl, rfl, rfl, rfl, rfl⟩

theorem State.tryClose_of_not_closing {s : State} (open_ : s.rennet.closing = false) : s.tryClose = s := by
  simp only [State.tryClose, open_, Bool.false_and, Bool.false_eq_true, if_false]

/-- A candidate with T outside the armed time (row 1). -/
theorem State.decideCand_unarmed {s : State} {c : Cand} (unarmed : s.rennet.armedAt c.t = false) : s.decideCand c = s := by
  simp only [State.decideCand, unarmed, Bool.not_false, if_true]

/-- A candidate with the T of the last trigger (row 2). -/
theorem State.decideCand_same {s : State} {c l : Cand} (armed : s.rennet.armedAt c.t = true) (last : s.rennet.last = some l)
    (same : ctDiff c.t l.t = 0) : ∃ r : Rennet, s.decideCand c = { s with rennet := r } ∧
      r.last = some { l with sources := l.sources ||| c.sources } ∧ r.num = s.rennet.num ∧ r.cands = s.rennet.cands := by
  simp only [State.decideCand, armed, last, same, Bool.not_true, Bool.false_eq_true, if_false, Option.isSome_some, Bool.true_and,
    decide_true, if_true]
  exact ⟨_, rfl, congrArg (Option.map _) last, rfl, rfl⟩

/-- A candidate within the hold-off (row 3). -/
theorem State.decideCand_holdoff {s : State} {c l : Cand} (armed : s.rennet.armedAt c.t = true) (last : s.rennet.last = some l)
    (after_ : 0 < ctDiff c.t l.t) (within : ctDiff c.t l.t ≤ (s.f .trCfg 31 20 * ns : Nat)) : s.decideCand c = s.bump 0x160108 1 := by
  simp only [State.decideCand, armed, last, Bool.not_true, Bool.false_eq_true, if_false, Option.isSome_some, Bool.true_and,
    decide_eq_false (Int.ne_of_gt after_), decide_eq_true (⟨after_, within⟩ : 0 < ctDiff c.t l.t ∧ ctDiff c.t l.t ≤ (s.f .trCfg 31 20 * ns : Nat)), if_true]

/-- A candidate with neither the T nor the hold-off of the last trigger. -/
theorem State.decideCand_free {s : State} {c : Cand} (armed : s.rennet.armedAt c.t = true)
    (free : s.rennet.last = none ∨ ∃ x, s.rennet.last = some x ∧ (s.f .trCfg 31 20 * ns : Nat) < ctDiff c.t x.t) :
    s.decideCand c = if s.rennet.arm.mode = 2 && s.rennet.busyAt c.t then s.miss c
      else if s.rennet.arm.mode = 1 && (!s.time.aligned || s.time.infForce ||
        decide (fld (s.trFrame c.t).budget 8 0 ≤ SMap.get 0 s.rennet.perFrame (s.trFrame c.t).fn.toNat)) then s.bump 0x160118 1
      else s.accept c := by
  rcases free with none_ | ⟨x, last, past_⟩
  · simp only [State.decideCand, armed, none_, Bool.not_true, Bool.false_eq_true, if_false, Option.isSome_none, Bool.false_and]
  · have later : ctDiff c.t x.t ≠ 0 := by omega
    have over_ : ¬ (0 < ctDiff c.t x.t ∧ ctDiff c.t x.t ≤ (s.f .trCfg 31 20 * ns : Nat)) := by omega
    simp only [State.decideCand, armed, last, Bool.not_true, Bool.false_eq_true, if_false, Option.isSome_some, Bool.true_and,
      decide_eq_false later, decide_eq_false over_]

/-- A trigger missed by a busy segment (row 4). -/
theorem State.miss_frame {s : State} (c : Cand) (room : s.rennet.misses.length < 16) :
    (s.miss c).rennet = { s.rennet with misses := s.rennet.misses ++ [(c.t, c.sources)] } ∧ ((s.miss c).reg .trEvents).getLsbD 2 = true := by
  have kept : ((s.bump 0x160130 1).raise 9 2 0).rennet = s.rennet := (State.raise_rennet _ 9 2 0).trans (State.bump_rennet s 0x160130 1)
  constructor
  · simp only [State.miss, State.setRennet, kept, if_neg (Nat.not_le.mpr room)]
  · simp only [State.miss, State.reg_setRennet]
    exact State.reg_raise_own_bit _ 9 2 2 0 _ rfl (by decide)

theorem State.scheduleOut_off {s : State} {t : CT} (off : s.b .trOutCfg 31 = false) : s.scheduleOut t = s := by
  have low_ : (s.reg .trOutCfg).getLsbD 31 = false := off
  simp only [State.scheduleOut, low_, Bool.not_false, if_true]

/-- A trigger accepted in stream mode, without a read-out and with TRIG_OUT off. -/
theorem State.accept_stream {s : State} (c : Cand) (stream : s.rennet.arm.mode = 1) (plain : s.rennet.arm.readout = false)
    (quiet : s.b .trOutCfg 31 = false) : (s.accept c).rennet.num = s.rennet.num + 1 ∧ (s.accept c).rennet.last = some c ∧
      (s.accept c).rennet.autoBase = some c.t ∧
      (s.accept c).rennet.marks = s.rennet.marks ++ [{ num := s.rennet.num, cand := c, noRo := false, fn := s.frameOf c.t }] := by
  have out (f : Rennet → Rennet) : ((s.bump 0x160100 1).setRennet f).b .trOutCfg 31 = false :=
    (State.b_congr ((State.reg_setRennet _ f _).trans (reg_bump_of_ne s 0x160100 1 (by decide))) 31).trans quiet
  have kept : (s.bump 0x160100 1).rennet = s.rennet := State.bump_rennet s 0x160100 1
  simp only [State.accept, State.scheduleOut_off (out _)]
  generalize hx : (s.bump 0x160100 1).setRennet _ = x
  have accepted : x.rennet.num = s.rennet.num + 1 ∧ x.rennet.last = some c ∧ x.rennet.autoBase = some c.t ∧
      x.rennet.marks = s.rennet.marks ∧ x.rennet.arm = s.rennet.arm := by
    rw [← hx, ← kept]
    exact ⟨rfl, rfl, rfl, rfl, rfl⟩
  obtain ⟨num, last, base, marks, arm⟩ := accepted
  have mode : ¬ x.rennet.arm.mode = 2 := by
    rw [arm, stream]
    decide
  have readout (f : Rennet → Rennet) (same : (f x.rennet).arm = x.rennet.arm) : (x.setRennet f).rennet.arm.readout = false :=
    (congrArg Arm.readout (same.trans arm)).trans plain
  rw [if_neg mode, if_neg (ne_true_of_eq_false (readout _ rfl)), apply_ite State.rennet]
  refine ⟨(congrArg Rennet.num (ite_self _)).trans num, (congrArg Rennet.last (ite_self _)).trans last,
    (congrArg Rennet.autoBase (ite_self _)).trans base, (congrArg Rennet.marks (ite_self _)).trans ?_⟩
  exact congrArg (· ++ _) marks

end Sys2Proof.Machine

namespace Sys2Proof.Claims
open Sys2Proof.Machine

/-- Settles O45: each row, and the close that may follow a decision. -/
theorem triggerDecisionsFollowTheRows : Obligations.TriggerDecisionsFollowTheRows := by
  intro c l cs t0 ts q s
  refine ⟨fun settled released cands => ?_, fun time queue low_ later => ?_, fun time falls high later => ?_⟩
  · have arm : exec .triggerDecision q = .next (((s.advanceTo (c.t.plus s.decide_)).setRennet fun r => { r with cands := cs }).decideCand c).tryClose := by
      have run : exec .triggerDecision q = triggerDecision q.settleNow := rfl
      simp only [run, triggerDecision, settled, cands, released, Bool.not_true, Bool.false_eq_true, if_false]
    generalize hv : ((s.advanceTo (c.t.plus s.decide_)).setRennet fun r => { r with cands := cs }) = v at arm
    have rennet : v.rennet = { s.rennet with cands := cs } := by
      rw [← hv, State.setRennet]
      simp only [State.advanceTo_rennet]
    have regs (p : Reg) (other : p.key ≠ Reg.key .tcEvents) : v.reg p = s.reg p := by
      rw [← hv, State.reg_setRennet]
      exact State.reg_advanceTo_of_ne s _ p other
    have time : v.time.fn = s.time.fn ∧ v.time.period = s.time.period ∧ v.time.tickE = s.time.tickE ∧ v.time.aligned = s.time.aligned ∧
        v.time.infForce = s.time.infForce := by
      rw [← hv, State.advanceTo_frame]
      exact ⟨rfl, rfl, rfl, rfl, rfl⟩
    obtain ⟨fn, period, tick, aligned_, forced_⟩ := time
    have holdoff : v.f .trCfg 31 20 = s.f .trCfg 31 20 := State.f_congr (regs .trCfg (by decide)) 31 20
    have armedAt : v.rennet.armedAt c.t = s.rennet.armedAt c.t := by rw [rennet]; rfl
    refine ⟨fun unarmed open_ => ⟨_, arm, ?_⟩, fun armed last same => ⟨_, arm, ?_⟩, fun armed last late within open_ => ⟨_, arm, ?_⟩,
      fun armed free mode busy room => ⟨_, arm, ?_⟩, fun armed free mode plain aligned forced quiet room => ⟨_, arm, ?_⟩⟩
    · rw [State.decideCand_unarmed (armedAt.trans unarmed), State.tryClose_of_not_closing (by rw [rennet]; exact open_), rennet]
    · obtain ⟨r, decided, last', num, cands'⟩ := State.decideCand_same (armedAt.trans armed) (by rw [rennet]; exact last) same
      rw [decided]
      obtain ⟨tLast, tNum, tCands, -⟩ := State.tryClose_frame { v with rennet := r }
      exact ⟨tLast.trans last', tNum.trans (num.trans (by rw [rennet])), tCands.trans (cands'.trans (by rw [rennet]))⟩
    · have decided := State.decideCand_holdoff (armedAt.trans armed) (by rw [rennet]; exact last) late (by rw [holdoff]; exact within)
      have kept : (v.bump 0x160108 1).rennet = { s.rennet with cands := cs } := (State.bump_rennet v 0x160108 1).trans rennet
      rw [decided, State.tryClose_of_not_closing (by rw [kept]; exact open_), kept]
    · have decided := State.decideCand_free (armedAt.trans armed) (by rw [rennet, holdoff]; exact free)
      have full : (v.rennet.arm.mode = 2 && v.rennet.busyAt c.t) = true := by
        rw [rennet, Bool.and_eq_true]
        exact ⟨decide_eq_true mode, busy⟩
      obtain ⟨missed, event⟩ := State.miss_frame (s := v) c (by rw [rennet]; exact room)
      rw [if_pos full] at decided
      rw [decided]
      obtain ⟨-, tNum, tCands, tMisses, -⟩ := State.tryClose_frame (v.miss c)
      rw [tNum, tCands, tMisses, missed, rennet]
      refine ⟨rfl, rfl, rfl, ?_⟩
      rcases (v.miss c).tryClose_eq with closes | stays
      · rw [closes, State.closeSegment]
        exact State.reg_raise_of_set _ 9 3 3 2 0 .trEvents rfl (by rw [State.reg_setRennet]; exact event)
      · rw [stays]
        exact event
    · have decided := State.decideCand_free (armedAt.trans armed) (by rw [rennet, holdoff]; exact free)
      have frame := State.trFrame_congr fn period tick (regs .trBudget (by decide)) (by rw [rennet]) c.t
      have admitted : ¬ ((v.rennet.arm.mode = 1 && (!v.time.aligned || v.time.infForce ||
          decide (fld (v.trFrame c.t).budget 8 0 ≤ SMap.get 0 v.rennet.perFrame (v.trFrame c.t).fn.toNat))) = true) := by
        have counts : v.rennet.perFrame = s.rennet.perFrame := by rw [rennet]
        rw [frame, aligned_, forced_, aligned, forced, counts]
        rw [State.frameOf] at room
        simp [room]
      rw [if_neg (by rw [rennet]; simp [mode]), if_neg admitted] at decided
      rw [decided]
      obtain ⟨num, last, base, marks⟩ := State.accept_stream (s := v) c (by rw [rennet]; exact mode) (by rw [rennet]; exact plain)
        ((State.b_congr (regs .trOutCfg (by decide)) 31).trans quiet)
      obtain ⟨tLast, tNum, -, -, tBase, tMarks⟩ := State.tryClose_frame (v.accept c)
      rw [tNum, tLast, tBase, tMarks, num, last, base, marks, rennet, State.frameOf, frame]
      exact ⟨rfl, rfl, rfl, rfl⟩
  · have arm : exec .trigOutPulse s = execTrigOutPulse s := rfl
    simp only [arm, execTrigOutPulse, queue, low_, Bool.false_eq_true, if_false]
    exact ⟨_, rfl, rfl, rfl, State.advanceTo_ct time later⟩
  · have arm : exec .trigOutFall s = execTrigOutFall s := rfl
    simp only [arm, execTrigOutFall, falls, high, if_true]
    exact ⟨_, rfl, rfl, rfl, State.advanceTo_ct time later⟩

end Sys2Proof.Claims
end

section
/-!
SUPPORT. Arms, records and read-outs of the rennet, with the statement on them (R213 to R216, R222, R227 to R234).
-/
open Sys2Proof

namespace Sys2Proof.Machine
open Sys2Proof.Claims

-- reads of memory -----------------------------------------------------------------------------------------------------------------------------

@[simp] theorem State.readUnit_rest (s : State) (vat : Bool) (a src : Nat) (found : List Finding) : (s.readUnit vat a src found).rest = s.rest := by
  simp only [State.readUnit]
  repeat' split
  all_goals simp

@[simp] theorem State.readUnits_rest (vat : Bool) (src : Nat) (found : List Finding) (l : List Nat) : ∀ s : State,
    (s.readUnits vat src found l).rest = s.rest := by
  induction l with
  | nil => exact fun _ => rfl
  | cons a l ih => exact fun s => (ih _).trans (s.readUnit_rest vat a src found)

@[simp] theorem State.readRange_rest (s : State) (vat : Bool) (lo hi src : Nat) (found : List Finding) :
    (s.readRange vat lo hi src found).rest = s.rest := State.readUnits_rest vat src found _ s

theorem rdFlits_length (m : List Host.Cell) (a n : Nat) : (rdFlits m a n).length = n := by
  rw [rdFlits, List.length_map, List.length_range]

/-- Six 128-bit words of memory are 24 words. -/
theorem blockWords_length (m : List Host.Cell) (a : Nat) : ((rdFlits m a 6).flatMap flitWords).length = 24 := by
  rw [List.length_flatMap]
  have each (f : Flit) : (flitWords f).length = 4 := by rw [flitWords, List.length_map, List.length_range]
  simp only [each, List.map_const', List.sum_replicate_nat, rdFlits_length]

-- the trigger buffer and the records ----------------------------------------------------------------------------------------------------------

/-- The addresses of `n` blocks of one channel's part of a record, from block `first` of its ring (R230, R233). -/
def Seg.blockAddrs (g : Seg) (i k first n : Nat) : List Nat :=
  (List.range n).map fun j => g.slot i + 64 + k * g.len * 96 + (first + j) % g.len * 96

/-- The reads of a record's header and of some of its blocks. -/
def State.readRecord (s : State) (g : Seg) (i : Nat) (addrs : List Nat) (found : List Finding) : State :=
  addrs.foldl (fun s a => s.readRange g.vat a (a + 96) 1 found) (s.readRange g.vat (g.slot i) (g.slot i + 64) 1 found)

theorem State.readRecord_rest (s : State) (g : Seg) (i : Nat) (addrs : List Nat) (found : List Finding) :
    (s.readRecord g i addrs found).rest = s.rest :=
  (rest_foldl (fun t a => t.readRange_rest g.vat a (a + 96) 1 found) addrs _).trans (s.readRange_rest _ _ _ _ _)

/-- Whether a block that was read is poisoned. -/
def State.anyBlockPoison (s : State) (g : Seg) (addrs : List Nat) : Bool := addrs.any fun a => s.anyPoison g.vat a (a + 96)

/-- The words of the answer to SEGMENT_READ (R233). -/
def State.recordRead (s : State) (g : Seg) (i : Nat) (q : Record) (addrs : List Nat) : List Word :=
  recordWords g i q (s.anyBlockPoison g addrs) ++ addrs.flatMap fun a => (rdFlits (s.mem g.vat) a 6).flatMap flitWords

theorem recordRead_length (s : State) (g : Seg) (i : Nat) (q : Record) (addrs : List Nat) :
    (s.recordRead g i q addrs).length = 16 + 24 * addrs.length := by
  rw [State.recordRead, List.length_append, List.length_flatMap]
  simp only [blockWords_length, List.map_const', List.sum_replicate_nat]
  rw [Nat.mul_comm]
  rfl

/-- What the trigger buffer's blocks of zeros leave: all of the rennet but what they have been written up to. -/
theorem State.zeroBlocks_rennet (l : List (Nat × Nat)) : ∀ s : State,
    (s.zeroBlocks l).rennet = { s.rennet with zeroTo := (s.zeroBlocks l).rennet.zeroTo } := by
  induction l with
  | nil => exact fun _ => rfl
  | cons x l ih =>
    intro s
    rw [State.zeroBlocks]
    generalize hu : (if s.chanOn x.2 = true then s else _ : State) = u
    have one : u.rennet = { s.rennet with zeroTo := u.rennet.zeroTo } := by
      rw [← hu]
      split
      · rfl
      · have kept (b n : Nat) : (s.writeZeros x.1 x.2 b n).rennet = s.rennet := congrArg Rest.rennet (State.writeZeros_rest s x.1 x.2 b n)
        simp only [State.setRennet, kept]
    rw [ih u, one]

/-- The blocks of zeros change the rennet and the memory alone. -/
theorem State.zeroBlocks_rest (l : List (Nat × Nat)) : ∀ s : State,
    (s.zeroBlocks l).rest = { s.rest with rennet := (s.zeroBlocks l).rennet } := by
  induction l with
  | nil => exact fun _ => rfl
  | cons x l ih =>
    intro s
    rw [State.zeroBlocks]
    generalize hu : (if s.chanOn x.2 = true then s else _ : State) = u
    have one : u.rest = { s.rest with rennet := u.rennet } := by
      rw [← hu]
      split
      · rfl
      · have kept (b n : Nat) : (s.writeZeros x.1 x.2 b n).rest = s.rest := State.writeZeros_rest s x.1 x.2 b n
        rw [← kept]
        rfl
    rw [ih u, one]

theorem State.zeroNow_rest (s : State) : s.zeroNow.rest = { s.rest with rennet := s.zeroNow.rennet } := by
  unfold State.zeroNow
  split
  · exact State.zeroBlocks_rest _ _
  · rfl

theorem State.zeroNow_rennet (s : State) : s.zeroNow.rennet = { s.rennet with zeroTo := s.zeroNow.rennet.zeroTo } := by
  unfold State.zeroNow
  split
  · exact State.zeroBlocks_rennet _ _
  · rfl

-- read-outs -----------------------------------------------------------------------------------------------------------------------------------

/-- What the forming of a read-out's curds leaves: the rennet, what has begun and runs, and the transfer channels. -/
def State.plan (s : State) : Rennet × List Nat × List Nat × SMap Dma := (s.rennet, s.sched.begun, s.sched.running, s.engines.dma)

theorem State.plan_of_rest {s t : State} (same : t.rest = s.rest) : t.plan = s.plan := by
  have rennet : t.rennet = s.rennet := congrArg Rest.rennet same
  have sched : t.sched = s.sched := congrArg Rest.sched same
  have dma : t.engines.dma = s.engines.dma := congrArg Rest.dma same
  rw [State.plan, rennet, sched, dma, State.plan]

theorem plan_foldl {α : Type} {f : State → α → State} (step : ∀ s x, (f s x).plan = s.plan) (l : List α) :
    ∀ s : State, (l.foldl f s).plan = s.plan := by
  induction l with
  | nil => exact fun _ => rfl
  | cons x xs ih => exact fun s => (ih _).trans (step s x)

@[simp] theorem State.raise_plan (s : State) (block code : Nat) (w : Word) : (s.raise block code w).plan = s.plan :=
  State.plan_of_rest (State.raise_rest s block code w)

@[simp] theorem State.bump_plan (s : State) (a n : Nat) : (s.bump a n).plan = s.plan := State.plan_of_rest (State.bump_rest s a n)

@[simp] theorem State.draw_plan (s : State) : s.draw.plan = s.plan := rfl

@[simp] theorem State.lose_plan (s : State) (p : Nat) (c : Curd) : (s.lose p c).plan = s.plan := by
  have counted := State.bump_plan s (0x301008 + p * 0x10) 1
  simp only [State.lose]
  generalize s.bump (0x301008 + p * 0x10) 1 = u at counted
  split
  · exact counted
  · exact (State.raise_plan _ 11 0 _).trans counted

@[simp] theorem State.loseAll_plan (l : List Held) : ∀ s : State, (s.loseAll l).plan = s.plan := by
  induction l with
  | nil => exact fun _ => rfl
  | cons h l ih => exact fun s => (ih _).trans (s.lose_plan h.path h.curd)

@[simp] theorem State.formCurd_plan (s : State) (type : Nat) (fn : Word) (payload : List Flit) (mark : Rind → Rind) (ready : Bool)
    (dep : Option Nat) : (s.formCurd type fn payload mark ready dep).plan = s.plan := by
  have noted : ((s.nextSeq type).setFormed type fn).plan = s.plan := rfl
  simp only [State.formCurd]
  generalize (s.nextSeq type).setFormed type fn = u at noted
  split
  · exact ((State.raise_plan _ 11 1 _).trans (State.bump_plan u _ 1)).trans noted
  · exact noted

@[simp] theorem State.formReadoutCurd_plan (s : State) (ro : Readout) (k ch span lo total b0 n : Nat) (dep : Option Nat)
    (found : List Finding) : (s.formReadoutCurd ro k ch span lo total b0 n dep found).plan = s.plan := by
  simp only [State.formReadoutCurd]
  rw [State.formCurd_plan]
  simp only [apply_ite State.plan, State.raise_plan, State.draw_plan, ite_self]
  refine State.plan_of_rest (rest_foldl (fun t a => ?_) _ s)
  cases a with
  | none => rfl
  | some a => exact t.readRange_rest _ _ _ _ _

@[simp] theorem State.formReadoutChan_plan (ro : Readout) (k ch span lo total : Nat) (dep : Option Nat) (found : List Finding) (fuel : Nat) :
    ∀ (s : State) (b : Nat), (s.formReadoutChan ro k ch span lo total dep found fuel b).plan = s.plan := by
  induction fuel with
  | zero => exact fun _ _ => rfl
  | succ fuel ih =>
    intro s b
    unfold State.formReadoutChan
    split
    · rfl
    · exact (ih _ _).trans (State.formReadoutCurd_plan _ _ _ _ _ _ _ _ _ _ _)

@[simp] theorem State.formReadout_plan (s : State) (ro : Readout) (dep : Option Nat) (found : List Finding) :
    (s.formReadout ro dep found).plan = s.plan :=
  plan_foldl (fun t _ => t.formReadoutChan_plan ro _ _ _ _ _ dep found _ _) ro.chans s

/-- The read-outs that are formed leave the list, and nothing else of the plan changes. -/
theorem State.formReadouts_plan (dep : Option Nat) (found : List Finding) (rs : List Readout) : ∀ s : State,
    (s.formReadouts dep found rs).plan = ({ s.rennet with readouts := rs.foldl List.erase s.rennet.readouts }, s.plan.2) := by
  induction rs with
  | nil => exact fun _ => rfl
  | cons ro rs ih =>
    intro s
    have one := State.formReadout_plan (s.setRennet fun x => { x with readouts := x.readouts.erase ro }) ro dep found
    have rennet : ((s.setRennet fun x => { x with readouts := x.readouts.erase ro }).formReadout ro dep found).rennet = _ := congrArg Prod.fst one
    rw [State.formReadouts, ih, one, rennet]
    rfl

theorem State.loseReadouts_plan (s : State) (rs : List Readout) :
    (s.loseReadouts rs).plan = ({ s.rennet with readouts := rs.foldl List.erase s.rennet.readouts }, s.plan.2) := by
  rw [State.loseReadouts]
  exact (State.loseAll_plan _ _).trans (State.formReadouts_plan none [] rs s)

theorem State.plan_parts {s t : State} {r : Rennet} (same : t.plan = (r, s.plan.2)) : t.rennet = r ∧ t.sched.begun = s.sched.begun ∧
    t.sched.running = s.sched.running ∧ t.engines.dma = s.engines.dma := by
  obtain ⟨rennet, rest⟩ := Prod.mk.inj same
  obtain ⟨begun, rest⟩ := Prod.mk.inj rest
  obtain ⟨running, dma⟩ := Prod.mk.inj rest
  exact ⟨rennet, begun, running, dma⟩

/-- What stays when listed values are taken out of a list without repetition. -/
theorem mem_foldl_erase {α : Type} [DecidableEq α] (rs : List α) : ∀ l : List α, l.Nodup → (∀ x, x ∈ rs.foldl List.erase l ↔ x ∈ l ∧ x ∉ rs) := by
  induction rs with
  | nil => exact fun l _ x => ⟨fun h => ⟨h, List.not_mem_nil⟩, fun h => h.1⟩
  | cons y rs ih =>
    intro l distinct x
    rw [List.foldl_cons, ih _ (distinct.erase y), distinct.mem_erase_iff, List.mem_cons, not_or, and_assoc, and_left_comm]

theorem State.tryClose_records (s : State) : s.tryClose.rennet.records = s.rennet.records := by
  rcases s.tryClose_eq with closes | stays
  · rw [closes, State.closeSegment, State.raise_rennet]
    rfl
  · rw [stays]

end Sys2Proof.Machine

namespace Sys2Proof.Claims
open Sys2Proof.Machine

/-- The arm that a TRIG_ARM asks for (R213). -/
def armOf (r : Req) : Arm :=
  { mode := BitVec.ofNat 2 (fld (r.w 0) 1 0), auto := (r.w 0).getLsbD 2, readout := (r.w 0).getLsbD 3, pre := fld (r.w 1) 27 0,
    post := fld (r.w 2) 27 0, records := fld (r.w 3) 15 0 + 1, timeout := (r.w 4).toNat }

theorem exec_trigArm {r : Req} {s : State} (acc : Accepts s 0x400 r true) (time : s.rel 7 = true)
    (free : (armOf r).mode = 1 ∧ s.streamStop (armOf r) = none ∨ (armOf r).mode = 2 ∧ s.segmentStop (armOf r) = none)
    (timeout : (armOf r).auto = true → 1000 ≤ (armOf r).timeout) (w5 : r.w 5 = 0) (w6 : r.w 6 = 0) (w7 : r.w 7 = 0)
    (unarmed : s.rennet.armed = false) (none_ : s.rennet.armDue = none) : exec (.trigArm r) s =
      .next (ran 0x400 r { status := .ok } ((s.startCmd 0x400 r).setRennet fun x => { x with armDue := some (armOf r) })) := by
  have fields : ¬ ((armOf r).mode = 0 ∨ (armOf r).mode = 3 ∨ ((armOf r).auto = true ∧ (armOf r).timeout < 1000) ∨ r.w 5 ≠ 0 ∨ r.w 6 ≠ 0 ∨
      r.w 7 ≠ 0) := by
    rintro (zero | three | ⟨auto, short⟩ | h5 | h6 | h7)
    · rcases free with ⟨mode, -⟩ | ⟨mode, -⟩ <;> exact absurd (mode.symm.trans zero) (by decide)
    · rcases free with ⟨mode, -⟩ | ⟨mode, -⟩ <;> exact absurd (mode.symm.trans three) (by decide)
    · exact absurd (timeout auto) (Nat.not_le.mpr short)
    · exact h5 w5
    · exact h6 w6
    · exact h7 w7
  have range : (if (armOf r).mode = 1 then (s.startCmd 0x400 r).streamStop (armOf r) else (s.startCmd 0x400 r).segmentStop (armOf r)) = none := by
    rcases free with ⟨mode, fits⟩ | ⟨mode, fits⟩
    · rw [if_pos mode]
      exact fits
    · rw [if_neg (by rw [mode]; decide)]
      exact fits
  have idle : ¬ (((s.startCmd 0x400 r).rennet.armed || (s.startCmd 0x400 r).rennet.armDue.isSome) = true) := by
    rw [show (s.startCmd 0x400 r).rennet.armed = false from unarmed, show (s.startCmd 0x400 r).rennet.armDue = none from none_]
    decide
  refine congrArg Host.Outcome.next (runOp_of_answer acc ((if_neg fields).trans
    ((needStep_of_released _ (show (s.startCmd 0x400 r).rel 7 = true from time)).trans ?_)))
  refine (if_neg fun bad => ?_).trans ((if_neg idle).trans ?_)
  · exact absurd (range.symm.trans bad) (by decide)
  · unfold armOf at range
    dsimp only
    rw [range]
    rfl

/-- The last block of a record: `v` is the state with the record complete. -/
theorem exec_recordComplete {q : Record} {g : Seg} {s : State} (last : s.rennet.records.getLast? = some q) (seg : s.rennet.seg = some g)
    (open_ : q.done = false) (released : s.rel 9 = true) : ∃ (v : State) (x : Record) (z : SMap Nat),
      v.rennet = { s.rennet with zeroTo := z, records := s.rennet.records.dropLast ++ [x] } ∧ x.t = q.t ∧ x.num = q.num ∧ x.done = true ∧
      exec .recordComplete s = .next (if v.rennet.arm.records ≤ v.rennet.records.length then v.closeSegment
        else (v.setRennet fun r => { r with rearming := true }).tryClose) := by
  have arm : exec .recordComplete s = execRecordComplete s := rfl
  simp only [arm, execRecordComplete, last, seg, open_, released, Bool.not_true, Bool.or_self, Bool.false_eq_true, if_false]
  generalize hw : State.writeRange _ _ _ _ _ = w
  have zeroed := State.zeroNow_rennet (s.advanceTo (ctOf (q.endFine s.rennet.arm.pre g.len)))
  rw [State.advanceTo_rennet] at zeroed
  have kept : w.rennet = (s.advanceTo (ctOf (q.endFine s.rennet.arm.pre g.len))).zeroNow.rennet := by
    rw [← hw]
    exact (congrArg Rest.rennet (State.writeRange_rest _ _ _ _ _)).trans ((apply_ite State.rennet _ _ _).trans (ite_self _))
  have complete (x : Record) : (w.setRennet fun r => { r with records := r.records.dropLast ++ [x] }).rennet =
      { s.rennet with zeroTo := w.rennet.zeroTo, seg := some g, records := s.rennet.records.dropLast ++ [x] } := by
    rw [State.setRennet, kept, zeroed, ← seg]
  refine ⟨_, _, w.rennet.zeroTo, complete _, ?_, ?_, ?_, rfl⟩
  all_goals rfl

/-- A read-out entry at its start: whatever it finds there, the read-outs that are ready leave the list (R228, R229). -/
theorem exec_transientBufferReadout {entry : Nat} {e : Entry} {s u : State} (found : List Finding) (starts : s.atStart entry 6 = some e)
    (advanced : s.advanceTo (s.tickCt.plus (e.start * 512)) = u) (distinct : s.rennet.readouts.Nodup) :
    ∃ t, exec (.transientBufferReadout entry found) s = .next t ∧ entry ∈ t.sched.begun ∧
      (∀ x, x ∈ t.rennet.readouts ↔ x ∈ s.rennet.readouts ∧ x ∉ u.readyReadouts u.time.ct) ∧
      (s.time.infForce = false → s.rel 11 = true → e.idx / 4 < s.res.clusters → (s.dmaCh e.idx).busy = false →
        entry ∈ t.sched.running ∧ (t.dmaCh e.idx).busy = true ∧ (t.dmaCh e.idx).next = fld e.w3 8 0) := by
  have arm : exec (.transientBufferReadout entry found) s = execTransientBufferReadout entry found s := rfl
  simp only [arm, execTransientBufferReadout, starts]
  rw [show s.advanceTo (s.tickCt.plus (e.start * ns)) = u from advanced]
  refine ⟨_, rfl, ?_⟩
  have zeroed := State.zeroNow_rest (u.setBegun entry)
  have rennet := State.zeroNow_rennet (u.setBegun entry)
  generalize (u.setBegun entry).zeroNow = v at zeroed rennet
  have time : v.time = u.time := congrArg Rest.time zeroed
  have begun : entry ∈ v.sched.begun := by
    rw [show v.sched = (u.setBegun entry).sched from congrArg Rest.sched zeroed]
    exact List.mem_cons_self
  have waits : v.rennet.readouts = s.rennet.readouts := by
    rw [rennet, ← advanced, ← State.advanceTo_rennet s (s.tickCt.plus (e.start * 512))]
    rfl
  have ready : v.readyReadouts v.time.ct = u.readyReadouts u.time.ct := by
    rw [State.readyReadouts, waits, time, State.readyReadouts, ← advanced, State.advanceTo_rennet]
  rw [ready]
  have left_ (x : Readout) := mem_foldl_erase (u.readyReadouts u.time.ct) s.rennet.readouts distinct x
  rw [← waits] at left_
  split
  · next held =>
    obtain ⟨rennet', begun', -, -⟩ := State.plan_parts (State.loseReadouts_plan v.skip (u.readyReadouts u.time.ct))
    rw [begun', rennet', State.skip, State.bump_sched, State.bump_rennet]
    refine ⟨begun, fun x => by rw [← waits]; exact left_ x, fun forced released below idle => ?_⟩
    have same : v.time.infForce = s.time.infForce ∧ v.power = s.power ∧ v.boot = s.boot ∧ v.fuses = s.fuses ∧
        v.engines.dma = s.engines.dma := by
      have frame : u.time.infForce = s.time.infForce ∧ u.power = s.power ∧ u.boot = s.boot ∧ u.fuses = s.fuses ∧ u.engines = s.engines := by
        rw [← advanced, State.advanceTo_frame]
        exact ⟨rfl, rfl, rfl, rfl, rfl⟩
      obtain ⟨forced', power, boot, fuses, engines⟩ := frame
      exact ⟨by rw [time, forced'], (congrArg Rest.power zeroed).trans power, (congrArg Rest.boot zeroed).trans boot,
        (congrArg Rest.fuses zeroed).trans fuses, (congrArg Rest.dma zeroed).trans (congrArg Engines.dma engines)⟩
    obtain ⟨forced', power, boot, fuses, dma⟩ := same
    have resources : v.res = s.res := by rw [State.res, boot, fuses, State.res]
    have channel : v.dmaCh e.idx = s.dmaCh e.idx := by rw [State.dmaCh, dma, State.dmaCh]
    have released' : v.rel 11 = true := by rw [State.rel, power]; exact released
    rw [forced', forced, released', resources, channel, idle, decide_eq_false (Nat.not_le.mpr below)] at held
    exact absurd held (by decide)
  · obtain ⟨rennet', begun', running', dma'⟩ := State.plan_parts (State.formReadouts_plan (some entry) found (u.readyReadouts u.time.ct)
      ((v.setDma e.idx { busy := true, next := fld e.w3 8 0, entry }).setRunning entry))
    have moved : ((v.setDma e.idx { busy := true, next := fld e.w3 8 0, entry }).setRunning entry).rennet = v.rennet ∧
        ((v.setDma e.idx { busy := true, next := fld e.w3 8 0, entry }).setRunning entry).sched.begun = v.sched.begun ∧
        entry ∈ ((v.setDma e.idx { busy := true, next := fld e.w3 8 0, entry }).setRunning entry).sched.running ∧
        ((v.setDma e.idx { busy := true, next := fld e.w3 8 0, entry }).setRunning entry).engines.dma =
          SMap.set {} v.engines.dma e.idx { busy := true, next := fld e.w3 8 0, entry } := by
      rw [State.setRunning]
      split
      · next runs => exact ⟨rfl, rfl, runs, rfl⟩
      · exact ⟨rfl, rfl, List.mem_cons_self, rfl⟩
    obtain ⟨same, begun'', runs, dma''⟩ := moved
    rw [begun', rennet', begun'', same]
    refine ⟨begun, fun x => by rw [← waits]; exact left_ x, fun _ _ _ _ => ⟨by rw [running']; exact runs, ?_⟩⟩
    rw [State.dmaCh, dma', dma'', SMap.get_set, if_pos rfl]
    exact ⟨rfl, rfl⟩

/-- Settles O46: the arms as they take effect, the words of a record, and the read-outs that a read-out entry takes. -/
theorem armsAndRecordsTakeEffect : Obligations.ArmsAndRecordsTakeEffect := by
  intro r a q g i k entry e found u s
  refine ⟨fun acc time arms free timeout w5 w6 w7 unarmed none_ => ?_, fun settled now due => ?_, fun acc time => ?_,
    fun settled now due shut => ?_, fun last seg open_ released => ?_, fun rearming last seg => ?_,
    fun acc released names seg here done chan at_ some_ upto fits closed => ?_, fun starts advanced distinct => ?_⟩
  · subst arms
    exact exec_trigArm acc time free timeout w5 w6 w7 unarmed none_
  · have arm : exec .trigArmTakesEffect s = .next u.takeArm := by
      have run : exec .trigArmTakesEffect s = execTrigArmTakesEffect s := rfl
      have settled' : execRwfTakeEffect s = .next u := settled
      simp only [run, execTrigArmTakesEffect, settled', after, now, if_true]
    refine ⟨_, arm, ?_⟩
    simp only [State.takeArm, due]
    exact ⟨rfl, rfl, rfl, rfl, rfl, rfl, rfl, rfl⟩
  · exact congrArg Host.Outcome.next (runOp_of_answer acc (needStep_of_released _ (show (s.startCmd 0x402 r).rel 7 = true from time)))
  · have arm : exec .trigDisarmTakesEffect s = .next u.takeDisarm := by
      have run : exec .trigDisarmTakesEffect s = execTrigDisarmTakesEffect s := rfl
      have settled' : execRwfTakeEffect s = .next u := settled
      simp only [run, execTrigDisarmTakesEffect, settled', after, now, if_true]
    refine ⟨_, arm, ?_⟩
    simp only [State.takeDisarm, due, shut, Bool.not_true, Bool.false_eq_true, if_false]
    exact ⟨rfl, rfl, rfl⟩
  · obtain ⟨v, x, z, rennet, t, num, final, run⟩ := exec_recordComplete last seg open_ released
    have count : (s.rennet.records.dropLast ++ [x]).length = s.rennet.records.length := by
      obtain ⟨init, records⟩ : ∃ init, s.rennet.records = init ++ [q] := List.getLast?_eq_some_iff.mp last
      rw [records, List.dropLast_concat, List.length_append, List.length_append]
      rfl
    have listed : v.rennet.records = s.rennet.records.dropLast ++ [x] := by rw [rennet]
    have limit : v.rennet.arm = s.rennet.arm := by rw [rennet]
    have closing : v.rennet.closing = s.rennet.closing := by rw [rennet]
    rw [limit, listed, count] at run
    refine ⟨_, run, ?_⟩
    by_cases full : s.rennet.arm.records ≤ s.rennet.records.length
    · rw [if_pos full]
      have closed : v.closeSegment.rennet.records = v.rennet.records ∧ v.closeSegment.rennet.segClosed = true ∧
          v.closeSegment.rennet.armed = false := by
        rw [State.closeSegment, State.raise_rennet]
        exact ⟨rfl, rfl, rfl⟩
      obtain ⟨records, shut, unarmed⟩ := closed
      rw [records, listed]
      exact ⟨count, ⟨x, List.getLast?_concat, final, t, num⟩, fun _ room => absurd full (Nat.not_le.mpr room), fun _ => ⟨shut, unarmed⟩⟩
    · rw [if_neg full]
      have more := State.tryClose_records (v.setRennet fun r => { r with rearming := true })
      rw [more]
      refine ⟨(congrArg List.length listed).trans count, ⟨x, (congrArg List.getLast? listed).trans List.getLast?_concat, final, t, num⟩,
        fun idle room => ?_, fun over_ => absurd over_ full⟩
      rw [State.tryClose_of_not_closing (s := v.setRennet fun r => { r with rearming := true }) (closing.trans idle)]
      rfl
  · have arm : exec .rearmComplete s = execRearmComplete s := rfl
    simp only [arm, execRearmComplete, rearming, last, seg, Bool.not_true, Bool.false_eq_true, if_false]
    exact ⟨_, rfl, rfl, rfl, rfl, rfl⟩
  · subst names
    have released' : (s.startCmd 0x403 r).rel 9 = true := released
    have seg' : (s.startCmd 0x403 r).rennet.seg = some g := seg
    have here' : (s.startCmd 0x403 r).rennet.records[fld (r.w 0) 15 0]? = some q := here
    have closed' : (s.startCmd 0x403 r).rennet.segClosed = true := closed
    have fields : ¬ ((s.startCmd 0x403 r).res.channels ≤ fld (r.w 1) 5 0 ∨ fld (r.w 1) 15 8 = 0 ∨ 42 < fld (r.w 1) 15 8) := by
      have below : fld (r.w 1) 5 0 < (s.startCmd 0x403 r).res.channels := chan
      omega
    have shape : ¬ ((!q.done) = true ∨ g.len < fld (r.w 1) 29 16 + fld (r.w 1) 15 8) := by
      rw [done]
      rintro (no_ | past_)
      · exact Bool.false_ne_true no_
      · omega
    generalize hw : Seg.blockAddrs g (fld (r.w 0) 15 0) k (q.firstOf s.rennet.arm.pre k + fld (r.w 1) 29 16) (fld (r.w 1) 15 8) = addrs
    have count : addrs.length = fld (r.w 1) 15 8 := by rw [← hw, Seg.blockAddrs, List.length_map, List.length_range]
    generalize hu : (s.startCmd 0x403 r).readRecord g (fld (r.w 0) 15 0) addrs found = u
    refine ⟨u, if u.anyBlockPoison g addrs then .poisoned else .ok, u.recordRead g (fld (r.w 0) 15 0) q addrs,
      congrArg Host.Outcome.next (runOp_of_answer acc ((if_neg fields).trans ((needStep_of_released _ released').trans ?_))), ?_, ?_, ?_, ?_⟩
    · rw [← hu, ← hw]
      simp only [seg', here', at_]
      exact (if_neg shape).trans (if_neg (by rw [closed']; decide))
    · split
      · exact Or.inr rfl
      · exact Or.inl rfl
    · rw [recordRead_length, count]
    · rw [State.recordRead]
      cases u.anyBlockPoison g addrs <;> rfl
    · rw [← hu]
      exact congrArg Rest.rennet (State.readRecord_rest _ _ _ _ _)
  · exact exec_transientBufferReadout found starts advanced distinct

end Sys2Proof.Claims
end

section
/-!
SUPPORT. What the checks of memory leave of its bytes: no check changes a byte but one that finds a miscorrected block (R328).
-/
open Sys2Proof
namespace Sys2Proof.Machine
open Sys2Proof.Claims

/-- The bytes of the window space and of the vat space. -/
def State.mems (s : State) : List Host.Cell × List Host.Cell := (s.window, s.vatMem)

@[simp] theorem State.mems_mk (a b c d e f g h i j k l m n o p q r s t u v w x y z a' b' c' d' e') :
    (State.mk a b c d e f g h i j k l m n o p q r s t u v w x y z a' b' c' d' e').mems = (w, x) := (rfl)

@[simp] theorem State.mems_eta (s : State) : (s.window, s.vatMem) = s.mems := (rfl)

@[simp] theorem State.mems_ite (c : Prop) [Decidable c] (s t : State) : (if c then s else t).mems = if c then s.mems else t.mems :=
  apply_ite State.mems c s t

theorem State.mem_of_mems {s t : State} (same : t.mems = s.mems) (vat : Bool) : t.mem vat = s.mem vat := by
  obtain ⟨window, vatMem⟩ := Prod.mk.inj same
  rw [State.mem, window, vatMem, State.mem]

theorem mems_foldl {α : Type} {f : State → α → State} (step : ∀ s x, (f s x).mems = s.mems) (l : List α) :
    ∀ s : State, (l.foldl f s).mems = s.mems := by
  induction l with
  | nil => exact fun _ => rfl
  | cons x xs ih => exact fun s => (ih _).trans (step s x)

@[simp] theorem State.raise_mems (s : State) (block code : Nat) (w : Word) : (s.raise block code w).mems = s.mems := by
  rw [State.raise_frame]
  rfl

@[simp] theorem State.bump_mems (s : State) (a n : Nat) : (s.bump a n).mems = s.mems := by
  rw [State.bump_frame]
  rfl

@[simp] theorem State.notifyPorts_mems (s : State) (ps : List Nat) (block code : Nat) (w : Word) :
    (s.notifyPorts ps block code w).mems = s.mems := by
  rw [State.notifyPorts_frame]
  rfl

@[simp] theorem State.setPoison_mems (s : State) (vat : Bool) (p : SMap Bool) : (s.setPoison vat p).mems = s.mems := by
  simp [State.setPoison]

@[simp] theorem State.logErr_mems (s : State) (kind : Nat) (vat : Bool) (a : Nat) (src : Nat) (denied : Bool) (spare : Option Nat) :
    (s.logErr kind vat a src denied spare).1.mems = s.mems := by
  simp [State.logErr]

@[simp] theorem State.setTracks_mems (s : State) (t : Nat) (l : List Track) : (s.setTracks t l).mems = s.mems := by
  simp [State.setTracks]

@[simp] theorem State.freeTrack_mems (s : State) (vat : Bool) (a : Nat) : (s.freeTrack vat a).mems = s.mems := by
  simp [State.freeTrack]

@[simp] theorem State.touchTrack_mems (s : State) (t : Track) : (s.touchTrack t).mems = s.mems := by
  simp [State.touchTrack]

@[simp] theorem State.queueMove_mems (s : State) (m : RowMove) : (s.queueMove m).mems = s.mems := by
  simp [State.queueMove, Vat.take]

@[simp] theorem State.hardSuspect_mems (s : State) (vat : Bool) (a : Nat) (src : Nat) : (s.hardSuspect vat a src).mems = s.mems := by
  simp only [State.hardSuspect]
  split <;> simp

@[simp] theorem State.corrected_mems (s : State) (vat : Bool) (a : Nat) (src : Nat) : (s.corrected vat a src).mems = s.mems := by
  simp only [State.corrected]
  split <;> simp

@[simp] theorem State.uncorrectable_mems (s : State) (vat : Bool) (a : Nat) (src : Nat) (kind : Nat) :
    (s.uncorrectable vat a src kind).mems = s.mems := by
  simp [State.uncorrectable]

@[simp] theorem State.retag_mems (s : State) (vat : Bool) (lo : Nat) (hi : Nat) : (s.retag vat lo hi).mems = s.mems := by
  simp [State.retag]

theorem State.meetCells_mems (s : State) (vat : Bool) (a : Nat) {found : List Finding} (keeps : KeepsCells found) :
    (s.meetCells vat a found).mems = s.mems := by
  simp only [State.meetCells]
  split
  · next f listed =>
    have kind := keeps f (List.mem_of_find?_eq_some listed)
    split
    · next miscorrected => exact absurd miscorrected kind
    · split <;> simp
    · rfl
  · rfl

theorem State.rmwRead_mems (s : State) (vat : Bool) (a : Nat) {found : List Finding} (keeps : KeepsCells found) :
    (s.rmwRead vat a found).mems = s.mems := by
  have met := (State.meetCells_mems (s.bump 0x420060 1) vat a keeps).trans (State.bump_mems s 0x420060 1)
  simp only [State.rmwRead]
  repeat' split
  all_goals simp [met]

@[simp] theorem State.clearOvf_mems (s : State) (vat : Bool) (lo : Nat) (hi : Nat) : (s.clearOvf vat lo hi).mems = s.mems := by
  simp [State.clearOvf]

@[simp] theorem State.clearPoison_mems (s : State) (vat : Bool) (lo : Nat) (hi : Nat) : (s.clearPoison vat lo hi).mems = s.mems := by
  simp [State.clearPoison]

theorem State.rmwReads_mems (vat : Bool) {found : List Finding} (keeps : KeepsCells found) (l : List Nat) : ∀ s : State,
    (s.rmwReads vat found l).mems = s.mems := by
  induction l with
  | nil => exact fun _ => rfl
  | cons b bs ih => exact fun s => (ih _).trans (s.rmwRead_mems vat b keeps)

@[simp] theorem State.freeRange_mems (s : State) (vat : Bool) (lo : Nat) (hi : Nat) : (s.freeRange vat lo hi).mems = s.mems := by
  simp [State.freeRange]

theorem State.readUnit_mems (s : State) (vat : Bool) (a src : Nat) {found : List Finding} (keeps : KeepsCells found) :
    (s.readUnit vat a src found).mems = s.mems := by
  have met := State.meetCells_mems s vat a keeps
  simp only [State.readUnit]
  repeat' split
  all_goals simp [met]

theorem State.readUnits_mems (vat : Bool) (src : Nat) {found : List Finding} (keeps : KeepsCells found) (l : List Nat) : ∀ s : State,
    (s.readUnits vat src found l).mems = s.mems := by
  induction l with
  | nil => exact fun _ => rfl
  | cons a l ih => exact fun s => (ih _).trans (s.readUnit_mems vat a src keeps)

theorem State.readRange_mems (s : State) (vat : Bool) (lo hi src : Nat) {found : List Finding} (keeps : KeepsCells found) :
    (s.readRange vat lo hi src found).mems = s.mems := State.readUnits_mems vat src keeps _ s

theorem keepsCells_nil : KeepsCells [] := fun _ none_ => absurd none_ List.not_mem_nil

theorem State.mem_setMem (s : State) (vat v : Bool) (m : List Host.Cell) : (s.setMem vat m).mem v = if v = vat then m else s.mem v := by
  cases vat <;> cases v <;> rfl

/-- A write's bytes, whatever its reads of partial blocks find (R332). -/
theorem State.writeRange_mem (s : State) (vat v : Bool) (a : Nat) (bytes : List Byte) {found : List Finding} (keeps : KeepsCells found) :
    (s.writeRange vat a bytes found).mem v = if v = vat then wrBytes (s.mem vat) a bytes else s.mem v := by
  simp only [State.writeRange]
  split
  · next none_ =>
    subst none_
    split
    · next same =>
      subst same
      rfl
    · rfl
  · have read := State.rmwReads_mems vat keeps (s.partials vat a (a + bytes.length)) s
    have cleared := (State.clearPoison_mems ((s.rmwReads vat found (s.partials vat a (a + bytes.length))).freeRange vat a (a + bytes.length))
      vat a (a + bytes.length)).trans ((State.freeRange_mems _ vat a (a + bytes.length)).trans read)
    rw [State.mem_setMem, State.mem_of_mems cleared, State.mem_of_mems cleared]

/-- The same write leaves every byte outside its range. -/
theorem State.rdByte_writeRange (s : State) (vat v : Bool) (a i : Nat) (bytes : List Byte) {found : List Finding} (keeps : KeepsCells found)
    (out : v = vat → i < a ∨ a + bytes.length ≤ i) : rdByte ((s.writeRange vat a bytes found).mem v) i = rdByte (s.mem v) i := by
  rw [State.writeRange_mem s vat v a bytes keeps]
  split
  · next same =>
    subst same
    rw [rdByte_wrBytes, if_neg (by have := out rfl; omega)]
  · rfl

end Sys2Proof.Machine
end

section
/-!
SUPPORT. The last instructions of the engines, with the statement on moves, results and triggers (R250 to R263, R271).
-/
open Sys2Proof

namespace Sys2Proof.Machine
open Sys2Proof.Claims

-- moves ---------------------------------------------------------------------------------------------------------------------------------------

/-- Registers written one behind the other. -/
theorem foldl_setReg (d : Nat) (mk : Flit → VReg) (l : List Flit) : ∀ (g : Engine) (n : Nat),
    (∀ i, i < l.length → (((l.zipIdx n).foldl (fun g q => g.setReg (d + q.2) (mk q.1)) g).reg (d + n + i)) = mk (l.getD i 0)) ∧
    (∀ k, (k < d + n ∨ d + n + l.length ≤ k) → ((l.zipIdx n).foldl (fun g q => g.setReg (d + q.2) (mk q.1)) g).reg k = g.reg k) ∧
    ((l.zipIdx n).foldl (fun g q => g.setReg (d + q.2) (mk q.1)) g).banks = g.banks ∧
    ((l.zipIdx n).foldl (fun g q => g.setReg (d + q.2) (mk q.1)) g).flags = g.flags := by
  induction l with
  | nil => exact fun g n => ⟨fun i below => absurd below (Nat.not_lt_zero i), fun _ _ => rfl, rfl, rfl⟩
  | cons v l ih =>
    intro g n
    obtain ⟨written, kept, banks, flags⟩ := ih (g.setReg (d + n) (mk v)) (n + 1)
    rw [List.zipIdx_cons, List.foldl_cons]
    refine ⟨fun i below => ?_, fun k out => ?_, banks, flags⟩
    · cases i with
      | zero =>
        exact (kept _ (Or.inl (by omega))).trans (Engine.reg_setReg_self _ _ _)
      | succ i =>
        rw [List.length_cons] at below
        rw [show d + n + (i + 1) = d + (n + 1) + i by omega, written i (by omega), List.getD_cons_succ]
    · rw [List.length_cons] at out
      rw [kept k (by omega), Engine.reg_setReg_of_ne _ _ (by omega)]

theorem Engine.flag_regs (g : Engine) (i : Nat) (on : Bool) : (g.flag i on).regs = g.regs ∧ (g.flag i on).banks = g.banks := by
  cases on <;> exact ⟨rfl, rfl⟩

/-- The flag of a saturated move, which the flag of an overflow does not touch. -/
theorem Engine.flags_saturated (g : Engine) (a b : Bool) : ((g.flag 1 a).flag 0 b).flags.getLsbD 1 = (g.flags.getLsbD 1 || a) := by
  cases a <;> cases b <;> simp [Engine.flag]

theorem State.cluster_setCluster_self (s : State) (c : Nat) (k : Cluster) : (s.setCluster c k).cluster c = k := by
  rw [State.cluster, State.setCluster, SMap.get_set, if_pos rfl]

theorem State.cluster_setCluster_of_ne (s : State) (k : Cluster) {c n : Nat} (other : n ≠ c) : (s.setCluster c k).cluster n = s.cluster n := by
  rw [State.cluster, State.setCluster, SMap.get_set, if_neg other, State.cluster]

@[simp] theorem State.readUnit_core (s : State) (vat : Bool) (a src : Nat) (found : List Finding) : (s.readUnit vat a src found).core = s.core := by
  simp only [State.readUnit]
  repeat' split
  all_goals simp

@[simp] theorem State.readUnits_core (vat : Bool) (src : Nat) (found : List Finding) (l : List Nat) : ∀ s : State,
    (s.readUnits vat src found l).core = s.core := by
  induction l with
  | nil => exact fun _ => rfl
  | cons a l ih => exact fun s => (ih _).trans (s.readUnit_core vat a src found)

@[simp] theorem State.readRange_core (s : State) (vat : Bool) (lo hi src : Nat) (found : List Finding) :
    (s.readRange vat lo hi src found).core = s.core := State.readUnits_core vat src found _ s

/-- The budget registers of the clusters are no event registers: none of those stands at 0x0808 of its block. -/
theorem quiet_resBudget (c : Nat) : Reg.key (.eaCResBudget c) ∉ eventRegs.map Reg.key := by
  have blocks : ∀ k ∈ eventRegs.map Reg.key, k % 0x10000 ≠ 0x808 := by decide
  intro listed
  have there : (0x200808 + c * 0x10000) % 0x10000 ≠ 0x808 := blocks _ listed
  omega

theorem Engine.sc_unheld (g : Engine) (n : Nat) : ({ g with held := false } : Engine).sc n = g.sc n := rfl

-- results -------------------------------------------------------------------------------------------------------------------------------------

theorem quiet_pathCfg : ∀ p, p < 64 → Reg.key (.scPathCfg p) ∉ eventRegs.map Reg.key ∧ Reg.key (.scPathMatch p) ∉ eventRegs.map Reg.key := by
  decide

theorem find?_of_same {α : Type} {l : List α} {f g : α → Bool} (same : ∀ x ∈ l, f x = g x) : l.find? f = l.find? g := by
  rw [← List.head?_filter, ← List.head?_filter, List.filter_congr same]

/-- The path of a type depends on the paths' registers. -/
theorem State.pathOf_congr {s t : State} (same : t.core = s.core) (type : Nat) : t.pathOf type = s.pathOf type := by
  refine find?_of_same fun p listed => ?_
  obtain ⟨cfg, match_⟩ := quiet_pathCfg p (List.mem_range.mp listed)
  rw [State.b_congr (reg_of_core same cfg), State.f_congr (reg_of_core same match_)]

/-- What the admission point has read of a result, before it judges it (R254, R271). -/
def State.resultRead (s : State) (c : Nat) (q : EmitReq) (qs : List EmitReq) : State :=
  (s.setCluster c { s.cluster c with emits := qs }).readRange false (0x40000000 + c * 0x200000 + (q.addr - 0x20000) * 16)
    (0x40000000 + c * 0x200000 + (q.addr - 0x20000) * 16 + 16 * q.len) 5 []

theorem State.resultRead_frame (s : State) (c : Nat) (q : EmitReq) (qs : List EmitReq) :
    (s.resultRead c q qs).core = s.core ∧ (s.resultRead c q qs).time = s.time ∧ (s.resultRead c q qs).sched = s.sched ∧
    (s.resultRead c q qs).cluster c = { s.cluster c with emits := qs } ∧ (s.resultRead c q qs).window = s.window := by
  have rest := State.readRange_rest (s.setCluster c { s.cluster c with emits := qs }) false
    (0x40000000 + c * 0x200000 + (q.addr - 0x20000) * 16) (0x40000000 + c * 0x200000 + (q.addr - 0x20000) * 16 + 16 * q.len) 5 []
  have mems := State.readRange_mems (s.setCluster c { s.cluster c with emits := qs }) false
    (0x40000000 + c * 0x200000 + (q.addr - 0x20000) * 16) (0x40000000 + c * 0x200000 + (q.addr - 0x20000) * 16 + 16 * q.len) 5 keepsCells_nil
  refine ⟨State.readRange_core _ _ _ _ _ _, congrArg Rest.time rest, congrArg Rest.sched rest, ?_, congrArg Prod.fst mems⟩
  have clusters : (s.resultRead c q qs).engines.cl = (s.setCluster c { s.cluster c with emits := qs }).engines.cl := congrArg Rest.cl rest
  rw [State.cluster, clusters]
  exact State.cluster_setCluster_self s c _

/-- A result's admission is judged on what its cluster has used and its budget. -/
theorem State.resultRead_admits (s : State) (c : Nat) (q : EmitReq) (qs : List EmitReq) (user : Bool) (type len : Nat) :
    (s.resultRead c q qs).admitsResult c user type len = s.admitsResult c user type len := by
  obtain ⟨core, time, -, cluster, -⟩ := s.resultRead_frame c q qs
  have budget : (s.resultRead c q qs).f (.eaCResBudget c) 15 0 = s.f (.eaCResBudget c) 15 0 := State.f_congr (reg_of_core core (quiet_resBudget c)) 15 0
  simp only [State.admitsResult, time, cluster, budget]

theorem exec_resultAdmission {c : Nat} {x : Run} {q : EmitReq} {qs : List EmitReq} {s : State} (running : (s.cluster c).run = some x)
    (waits : (s.cluster c).emits = q :: qs) (ok : Bool)
    (judged : s.admitsResult c (decide (0x100 ≤ x.handle.toNat)) q.type.toNat q.len = ok) :
    ∃ bad, exec (.resultAdmission c) s = .next ((if ok then (s.resultRead c q qs).takeResult c q.type.toNat q.len x.fn
        (rdFlits s.window (0x40000000 + c * 0x200000 + (q.addr - 0x20000) * 16) q.len) (fun x => { x with poisoned := bad }) (some x.entry)
      else (s.resultRead c q qs).resultWhey c q.engine q.len).modEng q.engine
        fun g => { g.setSc q.dest.toNat (if ok then 1 else 0) q.poison with held := false }) := by
  obtain ⟨-, -, -, -, window⟩ := s.resultRead_frame c q qs
  have admits := s.resultRead_admits c q qs (decide (0x100 ≤ x.handle.toNat)) q.type.toNat q.len
  have arm : exec (.resultAdmission c) s = execResultAdmission c s := rfl
  refine ⟨(s.resultRead c q qs).anyPoison false (0x40000000 + c * 0x200000 + (q.addr - 0x20000) * 16)
    (0x40000000 + c * 0x200000 + (q.addr - 0x20000) * 16 + 16 * q.len), ?_⟩
  simp only [arm, execResultAdmission, running, waits]
  rw [show State.readRange _ _ _ _ _ _ = s.resultRead c q qs by simp only [State.resultRead, running], admits, judged, window]

/-- A result that is taken waits on its path as a curd (R254, R271). -/
theorem takeResult_of_path {v : State} {c type p : Nat} {k : Cluster} (routed : v.pathOf type = some p) (cluster : v.cluster c = k) (len : Nat)
    (fn : FN) (payload : List Flit) (bad : Bool) (dep : Option Nat) :
    (v.takeResult c type len fn payload (fun x => { x with poisoned := bad }) dep).cluster c = { k with resUsed := k.resUsed + len + 2 } ∧
    ∃ h : Held, (v.takeResult c type len fn payload (fun x => { x with poisoned := bad }) dep).sched.held = v.sched.held ++ [h] ∧
      h.path = p ∧ h.curd.rind.type = BitVec.ofNat 8 type ∧ h.curd.payload = payload ∧ h.ready = false := by
  subst cluster
  have noted : (((v.setCluster c { v.cluster c with resUsed := (v.cluster c).resUsed + len + 2 }).nextSeq type).setFormed type
      (fn.setWidth 32)).pathOf type = some p ∧ (((v.setCluster c { v.cluster c with resUsed := (v.cluster c).resUsed + len + 2 }).nextSeq
      type).setFormed type (fn.setWidth 32)).cluster c = { v.cluster c with resUsed := (v.cluster c).resUsed + len + 2 } ∧
      (((v.setCluster c { v.cluster c with resUsed := (v.cluster c).resUsed + len + 2 }).nextSeq type).setFormed type
      (fn.setWidth 32)).sched.held = v.sched.held :=
    ⟨routed, State.cluster_setCluster_self v c { v.cluster c with resUsed := (v.cluster c).resUsed + len + 2 }, rfl⟩
  simp only [State.takeResult, State.formCurd]
  generalize ((v.setCluster c { v.cluster c with resUsed := (v.cluster c).resUsed + len + 2 }).nextSeq type).setFormed type
    (fn.setWidth 32) = u at noted
  obtain ⟨there, used, held⟩ := noted
  simp only [there]
  exact ⟨used, _, congrArg (· ++ _) held, rfl, rfl, rfl, rfl⟩

theorem resultWhey_frame (v : State) (c e len : Nat) : (v.resultWhey c e len).cluster c = v.cluster c ∧
    (v.resultWhey c e len).sched = v.sched := by
  have counted : ((v.bump (0x200840 + c * 0x10000) 1).bump (0x200848 + c * 0x10000) (len + 2)).engines = v.engines ∧
      ((v.bump (0x200840 + c * 0x10000) 1).bump (0x200848 + c * 0x10000) (len + 2)).sched = v.sched := by
    simp only [State.bump_engines, State.bump_sched, and_self]
  simp only [State.resultWhey]
  generalize (v.bump (0x200840 + c * 0x10000) 1).bump (0x200848 + c * 0x10000) (len + 2) = u at counted
  obtain ⟨engines, sched⟩ := counted
  split
  · exact ⟨by rw [State.cluster, engines, State.cluster], sched⟩
  · rw [State.cluster, State.raise_engines, State.raise_sched, State.cluster, ← engines]
    exact ⟨rfl, sched⟩

-- triggers of the engines -----------------------------------------------------------------------------------------------------------------------

theorem State.trigsOf_setTrigs (s : State) (c k : Nat) (l : List CT) : (s.setTrigs c l).trigsOf k = if k = c then l else s.trigsOf k := by
  rw [State.trigsOf, State.setTrigs, SMap.get_set, State.trigsOf]
  exact apply_ite Cluster.trigs _ _ _

/-- The instant at which a TRIG reaches its FIFO (R263). -/
def State.trigInstant (s : State) (e : Nat) : CT :=
  match SMap.find s.engines.trigAt e with | some l => if 0 ≤ ctDiff l s.time.ct then l.plus 256 else s.time.ct | none => s.time.ct

/-- The state from which a TRIG queues its candidate: the FIFOs have handed out what is due. -/
def State.trigDrained (s : State) (e : Nat) (apart : Bool) : State :=
  let t : State := { s with engines := { s.engines with trigAt := SMap.put s.engines.trigAt e (s.trigInstant e) } }
  t.drainTrigs (if apart then t.engines.trigRan.plus (t.trigsWaiting * 256) else s.trigInstant e)

/-- The turns of the FIFOs begin at an instant. -/
def State.turnFrom (s : State) (at_ : CT) : State := { s with engines := { s.engines with trigRan := at_ } }

/-- Where the FIFO is full, nothing more changes; otherwise the candidate stands last in it, and where all were empty the turns begin at
its instant. -/
theorem State.queueTrig_eq (s : State) (e : Nat) (t : CT) (apart : Bool) : s.queueTrig e t apart =
    if 8 ≤ ((s.trigDrained e apart).trigsOf (e / 16)).length then (s.trigDrained e apart, true)
    else ((if (List.range 16).all fun c => (s.trigDrained e apart).trigsOf c == [] then (s.trigDrained e apart).turnFrom (s.trigInstant e)
      else s.trigDrained e apart).setTrigs (e / 16) ((s.trigDrained e apart).trigsOf (e / 16) ++ [t]), false) := by
  unfold State.queueTrig State.trigDrained State.trigInstant State.turnFrom
  cases SMap.find s.engines.trigAt e <;> dsimp only

theorem State.queueTrig_queued {s u : State} {e : Nat} {t : CT} {apart : Bool} (queued : s.queueTrig e t apart = (u, false)) :
    ∃ l, u.trigsOf (e / 16) = l ++ [t] := by
  have eq := s.queueTrig_eq e t apart
  rw [eq] at queued
  split at queued
  · exact nomatch (Prod.mk.inj queued).2
  · rw [← (Prod.mk.inj queued).1, State.trigsOf_setTrigs, if_pos rfl]
    exact ⟨_, rfl⟩

theorem State.queueTrig_full {s u : State} {e : Nat} {t : CT} {apart : Bool} (full : s.queueTrig e t apart = (u, true)) :
    8 ≤ (u.trigsOf (e / 16)).length := by
  have eq := s.queueTrig_eq e t apart
  rw [eq] at full
  split at full
  · next eight => exact (Prod.mk.inj full).1 ▸ eight
  · exact nomatch (Prod.mk.inj full).2

theorem State.drainTrigs_of_empty {s : State} (empty : ∀ k, s.trigsOf k = []) (until_ : CT) : s.drainTrigs until_ = s := by
  have none_ : s.trigsWaiting = 0 := by
    rw [State.trigsWaiting]
    simp only [empty, List.length_nil, List.map_const', List.sum_replicate_nat, Nat.mul_zero]
  simp only [State.drainTrigs, none_, true_or, if_true]

/-- With every FIFO empty there is nothing to hand out. -/
theorem State.queueTrig_empty {s : State} (e : Nat) (t : CT) (apart : Bool) (empty : ∀ k, s.trigsOf k = []) :
    ∃ u, s.queueTrig e t apart = (u, false) ∧ u.engines.eng = s.engines.eng ∧ u.rennet = s.rennet ∧
      ∀ k, u.trigsOf k = if k = e / 16 then [t] else [] := by
  have drained : (s.trigDrained e apart).trigsOf = s.trigsOf ∧ (s.trigDrained e apart).engines.eng = s.engines.eng ∧
      (s.trigDrained e apart).rennet = s.rennet := by
    rw [State.trigDrained]
    dsimp only
    rw [State.drainTrigs_of_empty]
    · exact ⟨rfl, rfl, rfl⟩
    · exact empty
  obtain ⟨trigs, eng, rennet⟩ := drained
  have eq := s.queueTrig_eq e t apart
  rw [if_neg (by rw [trigs, empty]; decide)] at eq
  generalize s.trigDrained e apart = d at eq trigs eng rennet
  generalize hv : (if ((List.range 16).all fun c => d.trigsOf c == []) = true then d.turnFrom (s.trigInstant e) else d) = v at eq
  have turned : v.trigsOf = d.trigsOf ∧ v.engines.eng = d.engines.eng ∧ v.rennet = d.rennet := by
    rw [← hv]
    split <;> exact ⟨rfl, rfl, rfl⟩
  obtain ⟨vTrigs, vEng, vRennet⟩ := turned
  refine ⟨_, eq, vEng.trans eng, vRennet.trans rennet, fun k => ?_⟩
  rw [State.trigsOf_setTrigs, vTrigs, trigs, empty, empty]
  rfl

/-- The only FIFO that is not empty has its turn. -/
theorem find_turn {s : State} {c : Nat} {t : CT} {ts : List CT} (turn : Nat) (below : c < 16) (waits : s.trigsOf c = t :: ts)
    (alone : ∀ k, k ≠ c → s.trigsOf k = []) :
    (((List.range 16).map fun i => (turn + i) % 16).find? fun c => s.trigsOf c != []) = some c := by
  cases found : ((List.range 16).map fun i => (turn + i) % 16).find? fun c => s.trigsOf c != [] with
  | none =>
    have here : c ∈ (List.range 16).map fun i => (turn + i) % 16 :=
      List.mem_map.mpr ⟨(c + 16 - turn % 16) % 16, List.mem_range.mpr (Nat.mod_lt _ (by decide)), by omega⟩
    exact absurd (List.find?_eq_none.mp found c here) (by rw [waits]; simp)
  | some k =>
    by_cases same : k = c
    · rw [same]
    · have some_ := List.find?_some found
      rw [alone k same] at some_
      exact absurd some_ (by decide)

theorem State.flushTrigs_frame (s : State) (n : Nat) : s.flushTrigs n = { s with link := (s.flushTrigs n).link, out := (s.flushTrigs n).out } := by
  simp only [State.flushTrigs]
  split <;> rfl

theorem State.putTrig_frame (s : State) (n : Nat) (x : BitVec 16 × BitVec 10 × CT) :
    s.putTrig n x = { s with link := (s.putTrig n x).link, out := (s.putTrig n x).out } := by
  simp only [State.putTrig]
  repeat' split
  · rw [State.flushTrigs_frame]
  · rw [State.flushTrigs_frame]
  · rfl
  · rfl

/-- TRIG flits leave on lanes. -/
theorem State.sendTrig_frame (origin : BitVec 16) (sources : BitVec 10) (t : CT) (except : Nat) (l : List Nat) : ∀ s : State,
    s.sendTrig origin sources t except l =
      { s with link := (s.sendTrig origin sources t except l).link, out := (s.sendTrig origin sources t except l).out } := by
  induction l with
  | nil => exact fun _ => rfl
  | cons n l ih =>
    intro s
    rw [State.sendTrig, ih]
    split
    · rw [State.putTrig_frame]
    · rfl

/-- A candidate that comes in time stands among the others in the order of T (R218, R220). -/
theorem State.offerAt_rennet {s : State} {bit : Nat} {t at_ : CT} (coarse ovf : Bool) (released : s.rel 5 = true) (on : s.b .trSrcEn bit = true)
    (early : ctDiff at_ (t.plus s.decide_) < 0) : (s.offerAt at_ bit t coarse ovf).engines = s.engines ∧
      (s.offerAt at_ bit t coarse ovf).rennet.cands =
        insertCand { t, sources := BitVec.ofNat 10 (2 ^ bit), origin := s.ports.nodeId, coarse, ovf } s.rennet.cands := by
  simp only [State.offerAt, released, on, Bool.not_true, Bool.or_self, Bool.false_eq_true, if_false]
  generalize hv : (if (s.b .trSrcEn (16 + bit) && decide (bit < 8)) = true then _ else s : State) = v
  have same : v.engines = s.engines ∧ v.rennet = s.rennet ∧ v.reg .trCfg = s.reg .trCfg := by
    rw [← hv]
    split
    · have sent := State.sendTrig_frame s.ports.nodeId (BitVec.ofNat 10 (2 ^ bit)) t 48 (List.range 48) s
      generalize s.sendTrig s.ports.nodeId (BitVec.ofNat 10 (2 ^ bit)) t 48 (List.range 48) = w at sent
      have kept : w.engines = s.engines ∧ w.rennet = s.rennet ∧ w.csr = s.csr ∧ w.boot = s.boot ∧ w.fuses = s.fuses := by
        rw [sent]
        exact ⟨rfl, rfl, rfl, rfl, rfl⟩
      obtain ⟨engines, rennet, csr, boot, fuses⟩ := kept
      exact ⟨engines, rennet, State.reg_congr s (w.rememberTrig s.ports.nodeId t) _ (congrArg Csr.inForce csr) (congrArg Boot.passed boot) fuses⟩
    · exact ⟨rfl, rfl, rfl⟩
  obtain ⟨engines, rennet, cfg⟩ := same
  have decide_ : v.decide_ = s.decide_ := by rw [State.decide_, State.f_congr cfg, State.decide_]
  rw [State.arbiterAt, if_neg (by rw [decide_]; exact Int.not_le.mpr early)]
  exact ⟨engines, congrArg (fun r : Rennet => insertCand _ r.cands) rennet⟩

end Sys2Proof.Machine

namespace Sys2Proof.Claims
open Sys2Proof.Machine

/-- MOVS: its words in consecutive registers under one tag (R250 to R252). -/
theorem movs_writes {e words : Nat} {w : EngWord} {r : Scaled} {src : List (List Int × Nat)} {bad ovf : Bool} {s : State}
    (issues : Issues s e 0x58 w) (fields : w.only 31 31 0 0x1F 0x3F0000FF = true)
    (form : (if w.f.getLsbD 3 then (convOf (w.fm 2 0)).regs else (convOf (w.fm 2 0)).banks) = true)
    (inside : w.a.toNat + (w.im 29 24 + 1) ≤ (if w.f.getLsbD 3 then 32 else 8))
    (count : (if w.f.getLsbD 3 then w.im 29 24 + 1 else 8 * (w.im 29 24 + 1)) = words) (whole : words % (convOf (w.fm 2 0)).per = 0)
    (fits : w.d.toNat + words / (convOf (w.fm 2 0)).per ≤ 32)
    (block : (s.eng e).block w (convOf (w.fm 2 0)).src (w.im 29 24 + 1) = (src, bad, ovf))
    (scaled : scaleBlock (convOf (w.fm 2 0)).dst ((src.map (·.2)).foldl max 0) (if w.f.getLsbD 4 then some (sx 8 (w.im 7 0)) else none)
      (src.flatMap fun q => q.1.map fun v => shiftBy v (((src.map (·.2)).foldl max 0 - q.2 : Nat) : Int)) s.free = r) :
    ∃ t, exec (.movs e w) s = .next t ∧ (∀ i, i < (packAll (convOf (w.fm 2 0)).dst r.out).length → (t.eng e).reg (w.d.toNat + i) =
        { val := (packAll (convOf (w.fm 2 0)).dst r.out).getD i 0, tag := BitVec.ofNat 4 r.exp, poison := bad, ovf }) ∧
      (∀ n, (n < w.d.toNat ∨ w.d.toNat + (packAll (convOf (w.fm 2 0)).dst r.out).length ≤ n) → (t.eng e).reg n = (s.eng e).reg n) ∧
      (t.eng e).banks = (s.eng e).banks ∧ (t.eng e).flags.getLsbD 1 = ((s.eng e).flags.getLsbD 1 || r.sat) ∧ t.window = s.window := by
  have listed : (w.only 31 31 0 0x1F 0x3F0000FF &&
      (if w.f.getLsbD 3 then (convOf (w.fm 2 0)).regs else (convOf (w.fm 2 0)).banks) &&
      decide (w.a.toNat + (w.im 29 24 + 1) ≤ (if w.f.getLsbD 3 then 32 else 8)) &&
      decide (words % (convOf (w.fm 2 0)).per = 0) && decide (w.d.toNat + words / (convOf (w.fm 2 0)).per ≤ 32)) = true := by
    rw [fields, form, decide_eq_true inside, decide_eq_true whole, decide_eq_true fits]
    rfl
  subst count
  refine ⟨_, congrArg Host.Outcome.next (issue_of_issues issues rfl listed _), ?_⟩
  have own := State.eng_setEng_self s e (past s e)
  have block' : (past s e).block w (convOf (w.fm 2 0)).src (w.im 29 24 + 1) = (src, bad, ovf) := block
  rw [own, block']
  dsimp only
  rw [show scaleBlock _ _ _ _ (s.setEng e (past s e)).free = r from scaled]
  generalize hv : (if r.open_ = true then _ else s.setEng e (past s e)) = v
  have moved : v.eng e = past s e ∧ v.window = s.window := by
    rw [← hv]
    split <;> exact ⟨own, rfl⟩
  obtain ⟨mine, window⟩ := moved
  generalize ht : (if r.sat = true then _ else v.modEng e _) = t
  have wrote : t.eng e = (((packAll (convOf (w.fm 2 0)).dst r.out).zipIdx.foldl (fun g q => g.setReg (w.d.toNat + q.2)
      { val := q.1, tag := BitVec.ofNat 4 r.exp, poison := bad, ovf }) (past s e)).flag 1 r.sat).flag 0 (ovf && !w.f.getLsbD 3) ∧
      t.window = s.window := by
    rw [← ht]
    split
    · rw [State.eng, State.raise_engines, State.raise_window, ← mine]
      exact ⟨State.eng_setEng_self v e _, window⟩
    · rw [← mine]
      exact ⟨State.eng_setEng_self v e _, window⟩
  obtain ⟨engine, same⟩ := wrote
  obtain ⟨written, kept, banks, flags⟩ := foldl_setReg w.d.toNat (fun v => { val := v, tag := BitVec.ofNat 4 r.exp, poison := bad, ovf })
    (packAll (convOf (w.fm 2 0)).dst r.out) (past s e) 0
  have regs (g : Engine) (a b : Bool) (n : Nat) : ((g.flag 1 a).flag 0 b).reg n = g.reg n := by
    rw [Engine.reg, (Engine.flag_regs _ 0 b).1, (Engine.flag_regs _ 1 a).1, Engine.reg]
  rw [engine]
  refine ⟨fun i below => (regs _ _ _ _).trans (written i below), fun n out => (regs _ _ _ n).trans (kept n out), ?_, ?_, same⟩
  · rw [(Engine.flag_regs _ 0 _).2, (Engine.flag_regs _ 1 _).2]
    exact banks
  · rw [Engine.flags_saturated]
    exact congrArg (fun f : BitVec 4 => f.getLsbD 1 || r.sat) flags

/-- EMIT: its engine is held, and its request waits at the cluster's admission point (R253). -/
theorem emit_holds {e : Nat} {w : EngWord} {s : State} (issues : Issues s e 0x60 w) (fields : w.only 31 31 0 0 0xFFFF = true)
    (some_ : w.im 7 0 ≠ 0) (low_ : 0x20000 ≤ ((s.eng e).sc w.a.toNat).toNat) (high : ((s.eng e).sc w.a.toNat).toNat + w.im 7 0 ≤ 0x40000) :
    ∃ t, exec (.emit e w) s = .next t ∧ t.eng e = { past s e with held := true } ∧ t.window = s.window ∧
      ∃ q : EmitReq, (t.cluster (e / 16)).emits = (s.cluster (e / 16)).emits ++ [q] ∧ q.engine = e ∧ q.dest = w.d ∧
        q.addr = ((s.eng e).sc w.a.toNat).toNat ∧ q.type = BitVec.ofNat 8 (w.im 15 8) ∧ q.len = w.im 7 0 ∧
        q.poison = ((s.eng e).reg w.a.toNat).poison := by
  have listed : (w.only 31 31 0 0 0xFFFF && decide (w.im 7 0 ≠ 0)) = true := by
    rw [fields, decide_eq_true some_]
    rfl
  have own := State.eng_setEng_self s e (past s e)
  have inside : ¬ (((past s e).sc w.a.toNat).toNat < 0x20000 ∨ 0x40000 < ((past s e).sc w.a.toNat).toNat + w.im 7 0) := by
    have low' : 0x20000 ≤ ((past s e).sc w.a.toNat).toNat := low_
    have high' : ((past s e).sc w.a.toNat).toNat + w.im 7 0 ≤ 0x40000 := high
    omega
  refine ⟨_, congrArg Host.Outcome.next (issue_of_issues issues rfl listed _), ?_⟩
  rw [own]
  dsimp only
  rw [if_neg inside]
  refine ⟨(State.eng_setEng_self _ e _).trans ?_, rfl,
    { engine := e, dest := w.d, addr := ((s.eng e).sc w.a.toNat).toNat, type := BitVec.ofNat 8 (w.im 15 8), len := w.im 7 0,
      poison := ((s.eng e).reg w.a.toNat).poison }, ?_, rfl, rfl, rfl, rfl, rfl, rfl⟩
  · exact congrArg (fun g : Engine => { g with held := true }) own
  · exact congrArg Cluster.emits (State.cluster_setCluster_self _ _ _)

/-- A result within its cluster's budget is taken and waits on its path (R254). -/
theorem result_taken {c p : Nat} {x : Run} {q : EmitReq} {qs : List EmitReq} {s : State} (running : (s.cluster c).run = some x)
    (waits : (s.cluster c).emits = q :: qs)
    (admitted : s.admitsResult c (decide (0x100 ≤ x.handle.toNat)) q.type.toNat q.len = true) (path : s.pathOf q.type.toNat = some p) :
    ∃ t, exec (.resultAdmission c) s = .next t ∧ (t.cluster c).emits = qs ∧ (t.cluster c).resUsed = (s.cluster c).resUsed + q.len + 2 ∧
      (t.eng q.engine).sc q.dest.toNat = 1 ∧ (t.eng q.engine).held = false ∧ ∃ h : Held, t.sched.held = s.sched.held ++ [h] ∧
      h.path = p ∧ h.curd.payload = rdFlits s.window (0x40000000 + c * 0x200000 + (q.addr - 0x20000) * 16) q.len ∧
      h.curd.rind.type = q.type ∧ h.ready = false := by
  obtain ⟨bad, run⟩ := exec_resultAdmission running waits true admitted
  obtain ⟨core, -, sched, cluster, -⟩ := s.resultRead_frame c q qs
  rw [if_pos rfl, if_pos rfl] at run
  have routed : (s.resultRead c q qs).pathOf q.type.toNat = some p := (State.pathOf_congr core _).trans path
  obtain ⟨taken, h, held, same, type, payload, waiting⟩ := takeResult_of_path routed cluster q.len x.fn
    (rdFlits s.window (0x40000000 + c * 0x200000 + (q.addr - 0x20000) * 16) q.len) bad (some x.entry)
  generalize (s.resultRead c q qs).takeResult c q.type.toNat q.len x.fn _ _ _ = u at run taken held
  have own := State.eng_setEng_self u q.engine { (u.eng q.engine).setSc q.dest.toNat 1 q.poison with held := false }
  refine ⟨_, run, ?_, ?_, ?_, ?_, h, ?_, same, payload, ?_, waiting⟩
  · exact congrArg Cluster.emits taken
  · exact congrArg Cluster.resUsed taken
  · rw [State.modEng, own, Engine.sc_unheld, Engine.sc_setSc_self]
  · rw [State.modEng, own]
  · exact held.trans (by rw [sched])
  · rw [type, BitVec.ofNat_toNat, BitVec.setWidth_eq]

/-- A result that does not fit is refused. -/
theorem result_refused {c : Nat} {x : Run} {q : EmitReq} {qs : List EmitReq} {s : State} (running : (s.cluster c).run = some x)
    (waits : (s.cluster c).emits = q :: qs)
    (refused : s.admitsResult c (decide (0x100 ≤ x.handle.toNat)) q.type.toNat q.len = false) :
    ∃ t, exec (.resultAdmission c) s = .next t ∧ (t.cluster c).emits = qs ∧ (t.cluster c).resUsed = (s.cluster c).resUsed ∧
      (t.eng q.engine).sc q.dest.toNat = 0 ∧ (t.eng q.engine).held = false ∧ t.sched.held = s.sched.held := by
  obtain ⟨bad, run⟩ := exec_resultAdmission running waits false refused
  obtain ⟨-, -, sched, cluster, -⟩ := s.resultRead_frame c q qs
  obtain ⟨kept, held⟩ := resultWhey_frame (s.resultRead c q qs) c q.engine q.len
  rw [if_neg Bool.false_ne_true, if_neg Bool.false_ne_true] at run
  generalize (s.resultRead c q qs).resultWhey c q.engine q.len = u at run kept held
  have own := State.eng_setEng_self u q.engine { (u.eng q.engine).setSc q.dest.toNat 0 q.poison with held := false }
  refine ⟨_, run, ?_, ?_, ?_, ?_, ?_⟩
  · exact congrArg Cluster.emits (kept.trans cluster)
  · exact (congrArg Cluster.resUsed (kept.trans cluster)).trans rfl
  · rw [State.modEng, own, Engine.sc_unheld, Engine.sc_setSc_self]
  · rw [State.modEng, own]
  · exact (congrArg Sched.held held).trans (by rw [sched])

/-- TRIG with a clean operand: its candidate is queued, or lost to a full FIFO (R263). -/
theorem exec_trig {e : Nat} {w : EngWord} {T : CT} {apart : Bool} {s : State} (issues : Issues s e 0x61 w)
    (fields : w.only 0 31 0 0 0 = true) (clean : ((s.eng e).reg w.a.toNat).poison = false)
    (time : BitVec.ofNat 64 (((s.eng e).reg w.a.toNat).val.toNat / 2 ^ 64) = T) : exec (.trig e w apart) s = .next (
      if ((s.setEng e (past s e)).queueTrig e T apart).2 then
        (((s.setEng e (past s e)).queueTrig e T apart).1.bump (0x200850 + e / 16 * 0x10000) 1).raise 10 5 (eaDetail e)
      else ((s.setEng e (past s e)).queueTrig e T apart).1) := by
  have own := State.eng_setEng_self s e (past s e)
  have clean' : ((past s e).reg w.a.toNat).poison = false := clean
  have time' : BitVec.ofNat 64 (((past s e).reg w.a.toNat).val.toNat / 2 ^ 64) = T := time
  refine congrArg Host.Outcome.next ((issue_of_issues issues rfl fields _).trans ?_)
  simp only [own, clean', time', Bool.false_eq_true, if_false]

/-- Settles O53: each of the four instructions, the admission point both ways, and the turns of the FIFOs. -/
theorem engineMovesResultsAndTriggers : Obligations.EngineMovesResultsAndTriggers := by
  intro e c words w g r src bad ovf s engine
  subst engine
  refine ⟨fun issues fields => ?_, fun issues fields form inside count whole fits block scaled => ?_,
    fun issues fields some_ low_ high => ?_, fun x q qs p running waits => ⟨fun admitted path => ?_, fun refused => ?_⟩,
    fun T apart u issues fields clean time => ⟨fun queued => ?_, fun full => ?_, fun empty => ?_⟩,
    fun T at_ ts below waits alone released on early => ?_⟩
  · exact issueEng_onlyEngine (fun g => { g with state := 0 }) issues rfl fields
  · exact movs_writes issues fields form inside count whole fits block scaled
  · exact emit_holds issues fields some_ low_ high
  · exact result_taken running waits admitted path
  · exact result_refused running waits refused
  · obtain ⟨l, last⟩ := State.queueTrig_queued queued
    refine ⟨?_, l, last⟩
    rw [exec_trig issues fields clean time, queued]
    rfl
  · rw [exec_trig issues fields clean time, full, if_pos rfl]
    refine ⟨_, rfl, ?_, ?_, State.queueTrig_full full, ?_, State.reg_raise_own_bit _ 10 5 5 _ _ rfl (by decide)⟩
    · rw [State.eng, State.raise_engines, State.bump_engines, State.eng]
    · rw [State.trigsOf, State.raise_engines, State.bump_engines, State.trigsOf]
    · rw [State.raise_rennet, State.bump_rennet]
  · obtain ⟨v, queued, eng, rennet, trigs⟩ := State.queueTrig_empty (s := s.setEng e (past s e)) e T apart empty
    refine ⟨v, by rw [exec_trig issues fields clean time, queued]; rfl, ?_, rennet, ?_, fun k other => ?_⟩
    · rw [State.eng, eng]
      exact State.eng_setEng_self s e (past s e)
    · rw [trigs, if_pos rfl]
    · rw [trigs, if_neg other]
  · have first := find_turn s.engines.trigTurn below waits alone
    have offered := State.offerAt_rennet (s := { s.setTrigs c ts with engines := { (s.setTrigs c ts).engines with trigTurn := (c + 1) % 16 } })
      (bit := 7) false false released on early
    obtain ⟨engines, cands⟩ := offered
    simp only [State.drainTrig, first, waits, List.headD_cons, List.tail_cons]
    refine ⟨?_, cands⟩
    rw [State.trigsOf, engines]
    exact (State.trigsOf_setTrigs s c c ts).trans (if_pos rfl)

end Sys2Proof.Claims
end

section
/-!
SUPPORT. The statement on loads and stores: its clause on LDP takes the poison of the second word from the state before the first access.
The check of the first word may poison a block that the second word lies in: where a region of class S begins 16 bytes into its block, the
word before it is a word of its own that still carries an old tag (R328), and the mark it gets stands at the block's address.
-/
open Sys2Proof

namespace Sys2Proof.Claims
open Sys2Proof.Machine

/-- LDP of words 0 and 1 of the data space into registers 0 and 1. -/
def pairWord : EngWord := { pred := 0, d := 0, a := 0, b := 0, f := 0, imm := 0, poisoned := false }

/-- Engine 0 runs from its ROM; a class-S region begins at word 1, and word 0 carries the tag of a region that was moved away. -/
def staleBeforeRegion : State :=
  { power := { released := 11 }, engines := { eng := [(0, { state := 1, pc := 0x1000 })] },
    vat := { regions := [(0, { base := 0x10000010, size := 64, sram := true, state := 2 })], stale := [(0x10000000, 0x10000010)] } }

/-- The second word is loaded with poison. -/
theorem ldp_poisons_second :
    (((after (exec (.ldp 0 pairWord []) staleBeforeRegion) staleBeforeRegion).eng 0).reg 1).poison = true := by decide

/-- Refutes O50: the first word's check poisons the block of the second, which was clean before and holds no old tag. -/
theorem not_engineLoadsAndStores : ¬ Obligations.EngineLoadsAndStores := by
  intro all
  obtain ⟨-, pair, -⟩ := all 0 0 0x10000000 0x10000010 pairWord [] staleBeforeRegion rfl
  obtain ⟨t, run, loaded, -⟩ := pair ⟨by decide, rfl, Or.inr (by decide), by decide⟩ (by decide) (by decide) (by decide) _ rfl
  have poisoned := ldp_poisons_second
  rw [run] at poisoned
  have clean : ((t.eng 0).reg 1).poison = false := by
    rw [loaded]
    decide
  exact Bool.false_ne_true (clean.symm.trans poisoned)

end Sys2Proof.Claims
end

section
/-!
SUPPORT. The statement on the housekeeping monitor (R400 to R414).
-/
open Sys2Proof

namespace Sys2Proof.Machine
open Sys2Proof.Claims

theorem getLsbD_bit32 {i : Nat} (small : i < 32) (v : Bool) (j : Nat) : (bit32 i v).getLsbD j = (decide (j = i) && v) := by
  cases v with
  | false => rw [Bool.and_false]; exact BitVec.getLsbD_zero
  | true =>
    have power : bit32 i true = BitVec.twoPow 32 i := BitVec.eq_of_toNat_eq (by rw [BitVec.toNat_twoPow]; rfl)
    rw [power, BitVec.getLsbD_twoPow, Bool.and_true, decide_eq_true small, Bool.true_and]
    exact decide_eq_decide.mpr eq_comm

theorem State.reg_orReg_bit (s : State) (q : Reg) (m : Word) {j : Nat} (set : m.getLsbD j = true) : ((s.orReg q m).reg q).getLsbD j = true := by
  rw [State.orReg, State.reg_setReg, BitVec.getLsbD_or, set, Bool.or_true]

@[simp] theorem State.advanceLt_house (s : State) (a : Nat) : (s.advanceLt a).house = s.house := by
  simp only [State.advanceLt]
  split
  · rw [State.advance_frame]
  · rfl

@[simp] theorem State.advanceTo_house (s : State) (c : CT) : (s.advanceTo c).house = s.house := by rw [State.advanceTo_frame]

theorem State.reg_advanceLt_of_ne (s : State) (a : Nat) (q : Reg) (other : q.key ≠ Reg.key .tcEvents) : (s.advanceLt a).reg q = s.reg q := by
  simp only [State.advanceLt]
  split
  · exact State.reg_advance_of_ne s _ q other
  · rfl

/-- The entries of a load, one after the other (R409). -/
theorem hkW_load (s : State) (first : Nat) (w0 w1 : Nat → Word) (j : Nat) : ∀ n : Nat,
    (((List.range n).map fun i => (first + i, w0 i, w1 i)).foldl (fun s e => s.setHouse fun h =>
      { h with w0 := SMap.set 0 h.w0 e.1 e.2.1, w1 := SMap.set 0 h.w1 e.1 e.2.2 }) s).hkW0 j =
        (if first ≤ j ∧ j < first + n then w0 (j - first) else s.hkW0 j) ∧
    (((List.range n).map fun i => (first + i, w0 i, w1 i)).foldl (fun s e => s.setHouse fun h =>
      { h with w0 := SMap.set 0 h.w0 e.1 e.2.1, w1 := SMap.set 0 h.w1 e.1 e.2.2 }) s).hkW1 j =
        (if first ≤ j ∧ j < first + n then w1 (j - first) else s.hkW1 j) := by
  intro n
  induction n with
  | zero => exact ⟨(if_neg (by omega)).symm, (if_neg (by omega)).symm⟩
  | succ n ih =>
    rw [List.range_succ, List.map_append, List.foldl_append]
    generalize List.foldl _ s _ = u at ih
    obtain ⟨word0, word1⟩ := ih
    simp only [List.map_cons, List.map_nil, List.foldl_cons, List.foldl_nil, State.hkW0, State.hkW1, State.setHouse_house, SMap.get_set]
    rw [State.hkW0, State.hkW0] at word0
    rw [State.hkW1, State.hkW1] at word1
    rw [word0, word1]
    by_cases last : j = first + n
    · subst last
      have inside : first ≤ first + n ∧ first + n < first + (n + 1) := by omega
      rw [if_pos rfl, if_pos rfl, if_pos inside, if_pos inside, Nat.add_sub_cancel_left]
      exact ⟨rfl, rfl⟩
    · have same : (first ≤ j ∧ j < first + (n + 1)) ↔ (first ≤ j ∧ j < first + n) := by omega
      simp only [if_neg last, same, and_self]

/-- The triples of a read-out lie one after the other (R412). -/
theorem getD_triples (f g h : Nat → Word) (n : Nat) : ∀ k, k < n →
    ((List.range n).flatMap fun i => [f i, g i, h i]).getD (3 * k) 0 = f k ∧
    ((List.range n).flatMap fun i => [f i, g i, h i]).getD (3 * k + 1) 0 = g k ∧
    ((List.range n).flatMap fun i => [f i, g i, h i]).getD (3 * k + 2) 0 = h k := by
  induction n generalizing f g h with
  | zero => intro k none_; omega
  | succ n ih =>
    intro k inside
    rw [List.range_succ_eq_map, List.flatMap_cons, List.flatMap_map]
    cases k with
    | zero => exact ⟨rfl, rfl, rfl⟩
    | succ k => exact ih (fun i => f (i + 1)) (fun i => g (i + 1)) (fun i => h (i + 1)) k (by omega)

theorem length_triples (f g h : Nat → Word) (n : Nat) : ((List.range n).flatMap fun i => [f i, g i, h i]).length = 3 * n := by
  rw [List.length_flatMap]
  simp only [List.length_cons, List.length_nil, List.map_const', List.sum_replicate_nat, List.length_range]
  exact Nat.mul_comm n 3

/-- The bias cut-off leaves the monitor, and writes no register but its enables and the two event registers (R407). -/
theorem State.biasCut_frame (s : State) (cut : Nat) : (s.biasCut cut).house = s.house ∧
    (∀ q : Reg, q.key ≠ Reg.key .hkEvents → q.key ≠ Reg.key .caEvents → q.key ≠ Reg.key .caBiasCtrl → (s.biasCut cut).reg q = s.reg q) ∧
    ∀ i, (s.reg .hkEvents).getLsbD i = true → ((s.biasCut cut).reg .hkEvents).getLsbD i = true := by
  simp only [State.biasCut]
  generalize raised : s.raise 17 3 (at32 0 s.house.entry) = u
  have house : u.house = s.house := raised ▸ State.raise_house _ _ _ _
  have regs (q : Reg) (other : q.key ≠ Reg.key .hkEvents) : u.reg q = s.reg q := raised ▸ reg_raise_of_ne s 17 3 _ rfl other
  have bits (i : Nat) (set : (s.reg .hkEvents).getLsbD i = true) : (u.reg .hkEvents).getLsbD i = true :=
    raised ▸ State.reg_raise_of_set s 17 3 3 i _ _ rfl set
  split
  · exact ⟨house, fun q notHk _ _ => regs q notHk, bits⟩
  · refine ⟨?_, fun q notHk notCa notBias => ?_, fun i set => ?_⟩
    · rw [State.raise_house, State.setReg_house, house]
    · rw [reg_raise_of_ne _ 6 2 0 rfl notCa, State.reg_setReg_of_ne _ _ notBias, regs q notHk]
    · rw [reg_raise_of_ne _ 6 2 0 rfl (by decide), State.reg_setReg_of_ne _ _ (by decide)]
      exact bits i set

end Sys2Proof.Machine

namespace Sys2Proof.Claims
open Sys2Proof.Machine

theorem exec_hkSeqLoad {r : Req} {s : State}
    (acc : Accepts s 0x800 r (decide (1 ≤ fld (r.w 0) 13 8 ∧ fld (r.w 0) 13 8 ≤ 32 ∧ r.len = 1 + 2 * fld (r.w 0) 13 8)))
    (fits : fld (r.w 0) 4 0 + fld (r.w 0) 13 8 ≤ 32) (reserved : r.w 0 &&& 0xFFFFC0E0 = 0) (released : s.rel 10 = true)
    (still : s.house.running = false) (good : ∀ j, j < fld (r.w 0) 13 8 → s.hkEntryOk (r.w (1 + 2 * j)) (r.w (2 + 2 * j)) = true) :
    exec (.hkSeqLoad r) s = .next (ran 0x800 r { status := .ok }
      (((List.range (fld (r.w 0) 13 8)).map fun i => (fld (r.w 0) 4 0 + i, r.w (1 + 2 * i), r.w (2 + 2 * i))).foldl
        (fun s e => s.setHouse fun h => { h with w0 := SMap.set 0 h.w0 e.1 e.2.1, w1 := SMap.set 0 h.w1 e.1 e.2.2 })
        (s.startCmd 0x800 r))) := by
  refine congrArg Host.Outcome.next (runOp_of_answer acc ((if_neg ?_).trans ((if_neg ?_).trans (if_neg ?_))))
  · rintro (past | marked | bad)
    · omega
    · exact marked reserved
    · refine Bool.false_ne_true ((congrArg (!·) (List.all_eq_true.mpr fun e listed => ?_)).symm.trans bad)
      obtain ⟨j, inside, rfl⟩ := List.mem_map.mp listed
      exact good j (List.mem_range.mp inside)
  · rw [show (s.startCmd 0x800 r).rel 10 = true from released]
    decide
  · rw [show (s.startCmd 0x800 r).house.running = false from still]
    decide

theorem hkSeqStart_from_still {r : Req} {s : State} (acc : Accepts s 0x801 r true) (released : s.rel 10 = true) (start : r.p 0 0 = 1)
    (still : s.house.running = false) (stepped : hasHkStep s.sched.active = true)
    (feasible : (s.sched.commit && s.sched.swapDue && !hasHkStep s.sched.shadow) = false) : ∃ u : State,
    exec (.hkSeqStart r) s = .next (ran 0x801 r { status := .ok } u) ∧ u.house.running = true ∧ u.house.phase = .idle ∧ u.house.next = 0 := by
  refine ⟨(s.startCmd 0x801 r).setHouse fun h =>
    { h with running := true, stopping := false, phase := .idle, next := 0,
             results := h.results.map fun c => (c.1, { c.2 with stat := c.2.stat &&& 0x7FFFFFFF }) }, ?_, rfl, rfl, rfl⟩
  refine congrArg Host.Outcome.next (runOp_of_answer acc ((if_neg ?_).trans ((if_pos start).trans ((if_neg ?_).trans (if_neg ?_)))))
  · rw [show (s.startCmd 0x801 r).rel 10 = true from released]
    decide
  · rw [show (s.startCmd 0x801 r).house.running = false from still,
      show hasHkStep (s.startCmd 0x801 r).sched.active = true from stepped]
    decide
  · exact fun bars => Bool.false_ne_true (feasible.symm.trans bars)

theorem hkSeqStart_zero {r : Req} {s : State} (acc : Accepts s 0x801 r true) (released : s.rel 10 = true) (off : r.p 0 0 = 0) : ∃ u : State,
    exec (.hkSeqStart r) s = .next (ran 0x801 r { status := .ok } u) ∧
    (s.house.running = true → s.house.phase = .discarding ∨ s.house.phase = .keeping ∨ s.house.phase = .kept →
      u.house = { s.house with stopping := true }) ∧
    (s.house.running = true → s.house.phase = .idle ∨ s.house.phase = .begun ∨ s.house.phase = .connected →
      u.house = { s.house with running := false, stopping := false, phase := .idle, excOn := 0 }) ∧
    (s.house.running = false → u = s.startCmd 0x801 r) := by
  have released' : ¬((!(s.startCmd 0x801 r).rel 10) = true) := by
    rw [show (s.startCmd 0x801 r).rel 10 = true from released]
    decide
  have off' : ¬(r.p 0 0 = 1) := by rw [off]; decide
  cases running : s.house.running with
  | false =>
    refine ⟨s.startCmd 0x801 r, congrArg Host.Outcome.next (runOp_of_answer acc ((if_neg released').trans ((if_neg off').trans (if_pos ?_)))),
      fun on => absurd on Bool.false_ne_true, fun on => absurd on Bool.false_ne_true, fun _ => rfl⟩
    rw [show (s.startCmd 0x801 r).house.running = false from running]
    rfl
  | true =>
    have running' : ¬((!(s.startCmd 0x801 r).house.running) = true) := by
      rw [show (s.startCmd 0x801 r).house.running = true from running]
      decide
    by_cases converts : s.house.phase = .discarding ∨ s.house.phase = .keeping ∨ s.house.phase = .kept
    · refine ⟨_, congrArg Host.Outcome.next (runOp_of_answer acc ((if_neg released').trans ((if_neg off').trans ((if_neg running').trans
        (if_pos converts))))), fun _ _ => rfl, fun _ early => ?_, fun still => absurd still.symm Bool.false_ne_true⟩
      rcases converts with h | h | h <;> rw [h] at early <;> simp at early
    · exact ⟨_, congrArg Host.Outcome.next (runOp_of_answer acc ((if_neg released').trans ((if_neg off').trans ((if_neg running').trans
        (if_neg converts))))), fun _ late => absurd late converts, fun _ _ => rfl, fun still => absurd still.symm Bool.false_ne_true⟩

theorem hkRead_answers {r : Req} {s : State} (k : Nat) (acc : Accepts s 0x802 r true) (released : s.rel 10 = true) :
    ∃ ws : List Word, exec (.hkRead r) s = .next (ran 0x802 r { status := .ok, payload := ws } (s.startCmd 0x802 r)) ∧
      ws.length = 3 * s.seqLen + 4 ∧ ws.getD 0 0 = hkStatus s ∧
      (k ≤ s.seqLen → ∀ q, SMap.get {} s.house.results k = q → ws.getD (3 * k + 1) 0 = q.value ∧ ws.getD (3 * k + 2) 0 = q.stat ∧
        ws.getD (3 * k + 3) 0 = q.time) := by
  refine ⟨_, congrArg Host.Outcome.next (runOp_of_answer acc (if_neg ?_)), ?_, rfl, fun inside q result => ?_⟩
  · rw [show (s.startCmd 0x802 r).rel 10 = true from released]
    decide
  · rw [List.length_cons, length_triples]
    change 3 * (s.seqLen + 1) + 1 = _
    omega
  · subst result
    simp only [List.getD_cons_succ]
    exact getD_triples _ _ _ _ k (Nat.lt_succ_of_le inside)

/-- A step of the schedule begins the next entry (R404, R405, R408). -/
theorem housekeepingStep_begins {i k : Nat} {e : Entry} {s : State} (starts : s.atStart i 3 = some e) (clear : s.time.infForce = false)
    (released : s.rel 10 = true) (running : s.house.running = true) (idle : s.house.phase = .idle) (next : s.house.next = k)
    (lets : e.w3 = 0 ∨ e.w3.getLsbD k = true) : ∃ t, exec (.housekeepingStep i) s = .next t ∧ t.house.phase = .begun ∧
      t.house.entry = k ∧ t.house.began = t.time.ltUnits ∧ t.house.excOn = s.excMask k &&& ~~~s.house.excOff ∧
      t.house.prev = some (s.hkW0 k &&& 0xFFF70000, s.excMask k) := by
  have arm : exec (.housekeepingStep i) s = execHousekeepingStep i s := rfl
  rw [arm, execHousekeepingStep, State.runEntry, starts]
  dsimp only
  generalize advanced : (s.advanceTo (s.tickCt + BitVec.ofNat 64 (e.start * 512))).setBegun i = u
  have house : u.house = s.house := advanced ▸ State.advanceTo_house s _
  have clear' : u.time.infForce = false := by
    rw [← advanced, State.advanceTo_frame]
    exact clear
  have released' : u.rel 10 = true := advanced ▸ (State.advanceTo_rel s _ 10).trans released
  have begins : (u.house.running && decide (u.house.phase = .idle) && (decide (e.w3 = 0) || e.w3.getLsbD u.house.next)) = true := by
    rw [house, running, idle, next, decide_eq_true rfl, Bool.true_and, Bool.true_and, Bool.or_eq_true, decide_eq_true_eq]
    exact lets
  rw [clear', if_neg Bool.false_ne_true, released', if_neg (by decide), if_pos begins]
  have mask : u.excMask u.house.next = s.excMask k := by rw [State.excMask, State.hkW1, house, next]; rfl
  have word : u.hkW0 u.house.next = s.hkW0 k := by rw [State.hkW0, house, next]; rfl
  refine ⟨_, rfl, rfl, by rw [house, next]; rfl, rfl, ?_, ?_⟩
  · simp only [State.hkBegin, State.setHouse_house, house]
    rw [← mask, house]
  · simp only [State.hkBegin, State.setHouse_house, mask, word]

theorem hkSettleEnd_starts {s : State} (connected : s.house.phase = .connected) : ∃ t, exec .hkSettleEnd s = .next t ∧
    t = { s.advanceLt s.hkFirstAt with house := t.house } ∧ t.house.convFrom = t.time.ltUnits ∧ t.house.tint = tintClocks (s.f .hkCfg 1 0) ∧
    t.house.phase = if s.house.changes = true ∧ fld (s.hkW0 s.house.entry) 15 8 < s.f .hkCfg 15 8 then .discarding else .keeping := by
  have arm : exec .hkSettleEnd s = execHkSettleEnd s := rfl
  rw [arm, execHkSettleEnd, if_pos connected]
  refine ⟨_, rfl, rfl, rfl, ?_, ?_⟩
  · exact congrArg (fun w => tintClocks (fld w 1 0)) (State.reg_advanceLt_of_ne s _ .hkCfg (by decide))
  · simp only [State.startConversion, State.setHouse_house, State.hkW0, State.f, State.advanceLt_house,
      State.reg_advanceLt_of_ne s _ .hkCfg (by decide), Bool.and_eq_true, decide_eq_true_eq]
    rfl

theorem hkConversionEnd_discarding {s : State} (v : Int) (phase : s.house.phase = .discarding) : ∃ t, exec (.hkConversionEnd v) s = .next t ∧
    t.house.phase = .keeping ∧ t.house.discarded = true ∧ t.house.results = s.house.results := by
  have arm : exec (.hkConversionEnd v) s = execHkConversionEnd v s := rfl
  rw [arm, execHkConversionEnd, phase]
  refine ⟨_, rfl, rfl, rfl, ?_⟩
  simp only [State.startConversion, State.setHouse_house, State.bump_house, State.advanceLt_house]

theorem hkConversionEnd_keeping {s : State} (v : Int) (phase : s.house.phase = .keeping) : ∃ t, exec (.hkConversionEnd v) s = .next t ∧
    t.house.phase = .kept ∧ t.house.endHt = (s.advanceLt s.hkEndAt).ht ∧
    t.house.code = sat 24 (v * ((2 ^ fld (s.hkW0 s.house.entry) 18 16 : Nat) : Int) / 2500000) := by
  have arm : exec (.hkConversionEnd v) s = execHkConversionEnd v s := rfl
  rw [arm, execHkConversionEnd, phase]
  refine ⟨_, rfl, rfl, ?_, rfl⟩
  simp only [State.setHouse_house, State.ht, State.bump_time]

/-- The flags of a result (R412). -/
theorem resultStat_bits (valid exc discarded limit ovr filter fallback open_ short drive : Bool) :
    (bit32 31 valid ||| bit32 30 exc ||| bit32 29 discarded ||| bit32 28 limit ||| bit32 27 ovr ||| bit32 26 filter ||| bit32 25 fallback |||
      bit32 24 open_ ||| bit32 23 short ||| bit32 22 drive).getLsbD 31 = valid ∧
    (bit32 31 valid ||| bit32 30 exc ||| bit32 29 discarded ||| bit32 28 limit ||| bit32 27 ovr ||| bit32 26 filter ||| bit32 25 fallback |||
      bit32 24 open_ ||| bit32 23 short ||| bit32 22 drive).getLsbD 29 = discarded := by
  simp only [BitVec.getLsbD_or, getLsbD_bit32, Nat.reduceLT, Nat.reduceEqDiff, decide_true, decide_false, Bool.true_and, Bool.false_and,
    Bool.or_false, Bool.false_or, and_self]

theorem hkResultPublish_publishes {k : Nat} {s : State} (phase : s.house.phase = .kept) (entry : s.house.entry = k) :
    ∃ t, exec .hkResultPublish s = .next t ∧ t.house.phase = .idle ∧
      (SMap.get {} t.house.results k).value = w32 s.house.code ∧ (SMap.get {} t.house.results k).time = s.house.endHt ∧
      (SMap.get {} t.house.results k).stat.getLsbD 31 = (decide (s.house.faults = 0) && !s.house.filterBad) ∧
      (SMap.get {} t.house.results k).stat.getLsbD 29 = s.house.discarded ∧
      (s.house.stopping = true → t.house.running = false) ∧
      (s.house.stopping = false → k < s.seqLen → t.house.running = s.house.running ∧ t.house.next = k + 1) ∧
      (s.house.stopping = false → s.seqLen ≤ k → s.b .hkCfg 24 = true → t.house.running = s.house.running ∧ t.house.next = 0) ∧
      (s.house.stopping = false → s.seqLen ≤ k → s.b .hkCfg 24 = false → t.house.running = false ∧ (t.reg .hkEvents).getLsbD 0 = true) := by
  subst entry
  have arm : exec .hkResultPublish s = execHkResultPublish s := rfl
  rw [arm, execHkResultPublish, if_neg (not_not_intro phase)]
  dsimp only
  generalize shown : ({ value := w32 s.house.code, stat := _, time := s.house.endHt } : HkResult) = q
  obtain ⟨valid, discarded⟩ := resultStat_bits (decide (s.house.faults = 0) && !s.house.filterBad) s.house.excChanged s.house.discarded
    (decide (s.house.faults = 0) && !s.house.filterBad && (s.hkW1 s.house.entry).getLsbD 8 &&
      decide (s.house.code < sx 24 (s.f (.hkEntLo s.house.entry) 23 0) ∨ sx 24 (s.f (.hkEntHi s.house.entry) 23 0) < s.house.code))
    s.house.ovr s.house.filterBad s.house.fallbackSeen (s.house.faults.getLsbD 0) (s.house.faults.getLsbD 1) (s.house.faults.getLsbD 2)
  have value : q.value = w32 s.house.code := shown ▸ rfl
  have time : q.time = s.house.endHt := shown ▸ rfl
  have stat31 : q.stat.getLsbD 31 = (decide (s.house.faults = 0) && !s.house.filterBad) := shown ▸ valid
  have stat29 : q.stat.getLsbD 29 = s.house.discarded := shown ▸ discarded
  clear shown valid discarded
  generalize limited : (decide (s.house.faults = 0) && !s.house.filterBad && (s.hkW1 s.house.entry).getLsbD 8 &&
    decide (s.house.code < sx 24 (s.f (.hkEntLo s.house.entry) 23 0) ∨ sx 24 (s.f (.hkEntHi s.house.entry) 23 0) < s.house.code)) = limit
  generalize published : (s.setHouse fun h => { h with results := SMap.set {} h.results s.house.entry q, phase := .idle }) = u
  have house : u.house = { s.house with results := SMap.set {} s.house.results s.house.entry q, phase := .idle } := published ▸ rfl
  have cfg : u.reg .hkCfg = s.reg .hkCfg := published ▸ rfl
  clear published limited
  generalize raised : (if limit = true then u.raise 17 2 (at32 0 s.house.entry) else u) = v
  have house' : v.house = u.house := by
    rw [← raised]
    split
    · exact State.raise_house _ _ _ _
    · rfl
  have cfg' : v.reg .hkCfg = u.reg .hkCfg := by
    rw [← raised]
    split
    · exact reg_raise_of_ne _ 17 2 _ rfl (by decide)
    · rfl
  clear raised
  generalize cut : (if (limit && v.hkCut != 0) = true then v.biasCut v.hkCut else v) = w
  have house'' : w.house = { s.house with results := SMap.set {} s.house.results s.house.entry q, phase := .idle } := by
    rw [← house, ← house', ← cut]
    split
    · exact (State.biasCut_frame v _).1
    · rfl
  have cfg'' : w.reg .hkCfg = s.reg .hkCfg := by
    rw [← cfg, ← cfg', ← cut]
    split
    · exact (State.biasCut_frame v _).2.1 .hkCfg (by decide) (by decide) (by decide)
    · rfl
  clear cut house cfg house' cfg'
  have len : w.seqLen = s.seqLen := congrArg (fun r => fld r 20 16) cfg''
  have repeats : w.b .hkCfg 24 = s.b .hkCfg 24 := congrArg (·.getLsbD 24) cfg''
  have results (h : House) (kept : h.results = w.house.results) : SMap.get {} h.results s.house.entry = q := by
    rw [kept, house'', SMap.get_set, if_pos rfl]
  have fields (h : House) (kept : h.results = w.house.results) : (SMap.get {} h.results s.house.entry).value = w32 s.house.code ∧
      (SMap.get {} h.results s.house.entry).time = s.house.endHt ∧
      (SMap.get {} h.results s.house.entry).stat.getLsbD 31 = (decide (s.house.faults = 0) && !s.house.filterBad) ∧
      (SMap.get {} h.results s.house.entry).stat.getLsbD 29 = s.house.discarded := by
    rw [results h kept]
    exact ⟨value, time, stat31, stat29⟩
  have idle : w.house.phase = .idle := by rw [house'']
  have running : w.house.running = s.house.running := by rw [house'']
  cases s.house.stopping with
  | true =>
    rw [if_pos rfl]
    obtain ⟨r1, r2, r3, r4⟩ := fields w.hkStop.house rfl
    exact ⟨_, rfl, rfl, r1, r2, r3, r4, fun _ => rfl, fun go => absurd go.symm Bool.false_ne_true, fun go => absurd go.symm Bool.false_ne_true,
      fun go => absurd go.symm Bool.false_ne_true⟩
  | false =>
    rw [if_neg Bool.false_ne_true]
    by_cases more : s.house.entry < s.seqLen
    · rw [if_pos (len ▸ more)]
      obtain ⟨r1, r2, r3, r4⟩ := fields { w.house with next := s.house.entry + 1 } rfl
      exact ⟨_, rfl, idle, r1, r2, r3, r4, fun stop => absurd stop Bool.false_ne_true, fun _ _ => ⟨running, rfl⟩,
        fun _ last => absurd more (by omega), fun _ last => absurd more (by omega)⟩
    · rw [if_neg (len ▸ more)]
      by_cases again : w.b .hkCfg 24 = true
      · rw [if_pos again]
        obtain ⟨r1, r2, r3, r4⟩ := fields { w.house with next := 0 } rfl
        exact ⟨_, rfl, idle, r1, r2, r3, r4, fun stop => absurd stop Bool.false_ne_true, fun _ lower => absurd lower more,
          fun _ _ _ => ⟨running, rfl⟩, fun _ _ once => absurd (once.symm.trans (repeats.symm.trans again)) Bool.false_ne_true⟩
      · rw [if_neg again]
        have ended : (w.hkStop.raise 17 0 (at32 0 s.house.entry)).house = w.hkStop.house := State.raise_house _ _ _ _
        obtain ⟨r1, r2, r3, r4⟩ := fields (w.hkStop.raise 17 0 (at32 0 s.house.entry)).house (by rw [ended]; rfl)
        exact ⟨_, rfl, congrArg House.phase ended, r1, r2, r3, r4, fun stop => absurd stop Bool.false_ne_true,
          fun _ lower => absurd lower more, fun _ _ on => absurd (repeats.trans on) again,
          fun _ _ _ => ⟨congrArg House.running ended, State.reg_raise_own_bit _ 17 0 0 _ _ rfl (by decide)⟩⟩

/-- A source's bit among the ten. -/
theorem getLsbD_source {i : Nat} (small : i < 10) : (BitVec.ofNat 10 (2 ^ i)).getLsbD i = true := by
  revert i
  decide

theorem getLsbD_fault {k : Nat} (small : k < 3) : (BitVec.ofNat 3 (2 ^ k)).getLsbD k = true := by
  revert k
  decide

theorem sensorFault_recorded {i k : Nat} {s : State} (source : i < 10) (kind : k < 3)
    (phase : s.house.phase = .begun ∨ s.house.phase = .connected ∨ s.house.phase = .discarding ∨ s.house.phase = .keeping)
    (on : s.house.excOn.getLsbD i = true) (watched : ¬(k = 1 ∧ i < 8 ∧ fld (SMap.get 0 s.house.excCfg i) 2 0 < 3)) :
    ∃ t, exec (.sensorFault i k) s = .next t ∧ (t.reg .hkFault).getLsbD (10 * k + i) = true ∧ (t.reg .hkEvents).getLsbD 1 = true ∧
      t.house.faults.getLsbD k = true ∧ t.house.excOn.getLsbD i = !(SMap.get 0 s.house.excCfg i).getLsbD 16 ∧
      t.house.excOff.getLsbD i = (s.house.excOff.getLsbD i || (SMap.get 0 s.house.excCfg i).getLsbD 16) := by
  have arm : exec (.sensorFault i k) s = execSensorFault i k s := rfl
  have busy : s.house.phase ≠ .idle ∧ s.house.phase ≠ .kept := by
    rcases phase with h | h | h | h <;> rw [h] <;> decide
  have counts : ¬((!(decide (s.house.phase ≠ .idle ∧ s.house.phase ≠ .kept) && s.house.excOn.getLsbD i && decide (i < 10 ∧ k < 3)) ||
      (k == 1 && decide (i < 8) && decide (fld (SMap.get 0 s.house.excCfg i) 2 0 < 3))) = true) := by
    rw [decide_eq_true busy, on, decide_eq_true ⟨source, kind⟩]
    simp only [Bool.and_self, Bool.not_true, Bool.false_or, Bool.and_eq_true, beq_iff_eq, decide_eq_true_eq, and_assoc]
    exact watched
  rw [arm, execSensorFault]
  dsimp only
  rw [if_neg counts]
  generalize (SMap.get 0 s.house.excCfg i).getLsbD 16 = off
  generalize raised : ((s.orReg .hkFault (bit32 (10 * k + i) true)).bump 0x600090 1).raise 17 1 (at32 8 i ||| at32 0 s.house.entry) = u
  have house : u.house = s.house := by rw [← raised, State.raise_house, State.bump_house, State.orReg_house]
  have fault : (u.reg .hkFault).getLsbD (10 * k + i) = true := by
    rw [← raised, reg_raise_of_ne _ 17 1 _ rfl (by decide), reg_bump_of_ne _ _ _ (by decide)]
    exact State.reg_orReg_bit _ _ _ (by rw [getLsbD_bit32 (by omega), decide_eq_true rfl, Bool.true_and])
  have event : (u.reg .hkEvents).getLsbD 1 = true := by
    rw [← raised]
    exact State.reg_raise_own_bit _ 17 1 1 _ _ rfl (by decide)
  clear raised
  generalize noted : (u.setHouse fun h => { h with
    faults := h.faults ||| BitVec.ofNat 3 (2 ^ k), excOn := if off = true then h.excOn &&& ~~~BitVec.ofNat 10 (2 ^ i) else h.excOn,
    excOff := if off = true then h.excOff ||| BitVec.ofNat 10 (2 ^ i) else h.excOff }) = v
  have fault' : (v.reg .hkFault).getLsbD (10 * k + i) = true := noted ▸ fault
  have event' : (v.reg .hkEvents).getLsbD 1 = true := noted ▸ event
  have result : v.house.faults.getLsbD k = true ∧ v.house.excOn.getLsbD i = !off ∧ v.house.excOff.getLsbD i = (s.house.excOff.getLsbD i || off) := by
    rw [← noted, State.setHouse_house, house]
    refine ⟨?_, ?_, ?_⟩
    · rw [BitVec.getLsbD_or, getLsbD_fault kind, Bool.or_true]
    · cases off with
      | true =>
        rw [if_pos rfl, BitVec.getLsbD_and, BitVec.getLsbD_not, getLsbD_source source, Bool.not_true, Bool.and_false, Bool.and_false]
      | false => exact on
    · cases off with
      | true => simp only [if_true, BitVec.getLsbD_or, getLsbD_source source]
      | false => exact (Bool.or_false _).symm
  clear noted
  split
  · obtain ⟨same, regs, bits⟩ := State.biasCut_frame v v.hkCut
    refine ⟨_, rfl, ?_, bits 1 event', ?_⟩
    · rw [regs .hkFault (by decide) (by decide) (by decide)]
      exact fault'
    · rw [same]
      exact result
  · exact ⟨_, rfl, fault', event', result⟩

/-- The eight sensors, one after the other (R413). -/
theorem get_die (values : List (BitVec 16)) (m : SMap (BitVec 16)) (j : Nat) : ∀ n, j < n →
    SMap.get 0 ((List.range n).foldl (fun m i => SMap.set 0 m i (values.getD i 0)) m) j = values.getD j 0 := by
  intro n
  induction n with
  | zero => intro none_; omega
  | succ n ih =>
    intro inside
    rw [List.range_succ, List.foldl_append]
    simp only [List.foldl_cons, List.foldl_nil, SMap.get_set]
    by_cases last : j = n
    · rw [if_pos last, last]
    · rw [if_neg last]
      exact ih (by omega)

theorem dieSensorRead_stores {s : State} (values : List (BitVec 16)) (released : s.rel 10 = true) :
    ∃ t, exec (.dieSensorRead values) s = .next t ∧ (∀ j, j < 8 → SMap.get 0 t.house.die j = values.getD j 0) ∧
      t.house.results = s.house.results ∧ (sx 16 (s.f .hkDieLimit 15 0) = 0 → t.house.dieHot = s.house.dieHot) := by
  have arm : exec (.dieSensorRead values) s = execDieSensorRead values s := rfl
  rw [arm, execDieSensorRead, released, if_neg (by decide)]
  dsimp only
  generalize read : (s.setHouse fun h => { h with die := (List.range 8).foldl (fun m i => SMap.set 0 m i (values.getD i 0)) h.die }) = u
  have die : u.house.die = (List.range 8).foldl (fun m i => SMap.set 0 m i (values.getD i 0)) s.house.die := read ▸ rfl
  have results : u.house.results = s.house.results := read ▸ rfl
  have hot : u.house.dieHot = s.house.dieHot := read ▸ rfl
  have limit : sx 16 (u.f .hkDieLimit 15 0) = sx 16 (s.f .hkDieLimit 15 0) := read ▸ rfl
  have sensors (t : State) (kept : t.house.die = u.house.die) (j : Nat) (inside : j < 8) : SMap.get 0 t.house.die j = values.getD j 0 := by
    rw [kept, die]
    exact get_die values _ j 8 inside
  rw [limit]
  clear read die limit
  by_cases none_ : sx 16 (s.f .hkDieLimit 15 0) = 0
  · rw [if_pos none_]
    exact ⟨_, rfl, sensors u rfl, results, fun _ => hot⟩
  · rw [if_neg none_]
    split
    · generalize raised : State.raise _ 17 4 _ = w
      have house : w.house = { u.house with dieHot := true } := raised ▸ State.raise_house _ _ _ _
      exact ⟨_, rfl, sensors w (by rw [house]), by rw [house]; exact results, fun zero => absurd zero none_⟩
    · split
      · exact ⟨_, rfl, sensors _ rfl, results, fun zero => absurd zero none_⟩
      · exact ⟨_, rfl, sensors u rfl, results, fun zero => absurd zero none_⟩

/-- Settles O57: one theorem for each step of the sequence. -/
theorem housekeepingRunsItsSequence : Obligations.HousekeepingRunsItsSequence := by
  intro r i k v values s
  refine ⟨fun acc fits reserved released still good => ?_, fun acc released => ⟨hkSeqStart_from_still acc released,
    hkSeqStart_zero acc released⟩, hkRead_answers k, fun e starts clear released running idle atNext lets =>
    housekeepingStep_begins starts clear released running idle atNext lets, fun begun => ?_, hkSettleEnd_starts,
    hkConversionEnd_discarding v, hkConversionEnd_keeping v, hkResultPublish_publishes, sensorFault_recorded, dieSensorRead_stores values⟩
  · refine ⟨_, exec_hkSeqLoad acc fits reserved released still good, fun j inside => ?_, fun j outside => ?_⟩
    · obtain ⟨word0, word1⟩ := hkW_load (s.startCmd 0x800 r) (fld (r.w 0) 4 0) (fun i => r.w (1 + 2 * i)) (fun i => r.w (2 + 2 * i))
        (fld (r.w 0) 4 0 + j) (fld (r.w 0) 13 8)
      rw [if_pos (by omega), Nat.add_sub_cancel_left] at word0 word1
      exact ⟨word0, word1⟩
    · obtain ⟨word0, word1⟩ := hkW_load (s.startCmd 0x800 r) (fld (r.w 0) 4 0) (fun i => r.w (1 + 2 * i)) (fun i => r.w (2 + 2 * i))
        j (fld (r.w 0) 13 8)
      rw [if_neg (by omega)] at word0 word1
      exact ⟨word0, word1⟩
  · exact congrArg Host.Outcome.next (if_pos begun)

end Sys2Proof.Claims
end

section
/-!
SUPPORT. The statement on the uplink and its PTP client (R387 to R398).
-/
open Sys2Proof

namespace Sys2Proof.Machine
open Sys2Proof.Claims

theorem mem_out_bump {o : Out} (s : State) (a n : Nat) (left : o ∈ s.out) : o ∈ (s.bump a n).out := by
  simp only [State.bump]
  split
  · exact mem_out_notify _ _ _ _ left
  · exact left

@[simp] theorem State.lose_uplink (s : State) (p : Nat) (c : Curd) : (s.lose p c).uplink = s.uplink := by
  simp only [State.lose]
  split
  · exact State.bump_uplink _ _ _
  · exact (State.raise_uplink _ _ _ _).trans (State.bump_uplink _ _ _)

/-- A loss raises an event of the schedule and counts: it writes the register of no other event (R33). -/
theorem reg_lose_of_ne (s : State) (p : Nat) (c : Curd) {q : Reg} (notSc : q.key ≠ Reg.key .scEvents) (notSat : q.key ≠ Reg.key .gsCntSat) :
    (s.lose p c).reg q = s.reg q := by
  have counted := reg_bump_of_ne s (0x301008 + p * 0x10) 1 notSat
  simp only [State.lose]
  generalize s.bump (0x301008 + p * 0x10) 1 = u at counted
  split
  · exact counted
  · rw [reg_raise_of_ne _ 11 0 _ rfl notSc]
    exact counted

@[simp] theorem State.loseAll_uplink (l : List Held) : ∀ s : State, (s.loseAll l).uplink = s.uplink := by
  induction l with
  | nil => exact fun _ => rfl
  | cons h l ih => exact fun s => (ih _).trans (State.lose_uplink s _ _)

theorem State.queue_of_desk {s t : State} (same : t.desk = s.desk) : t.ports.queue = s.ports.queue :=
  show t.desk.queue = s.desk.queue by rw [same]

theorem reg_loseAll_of_ne (l : List Held) {q : Reg} (notSc : q.key ≠ Reg.key .scEvents) (notSat : q.key ≠ Reg.key .gsCntSat) :
    ∀ s : State, (s.loseAll l).reg q = s.reg q := by
  induction l with
  | nil => exact fun _ => rfl
  | cons h l ih => exact fun s => (ih _).trans (reg_lose_of_ne s _ _ notSc notSat)

theorem State.reg_setNow (s : State) (q : Reg) (v : Word) : (s.setNow q v).reg q = v := by
  simp only [State.reg, State.setNow, SMap.find_put, if_true, Option.getD_some]

/-- Lanes given to the uplink (R388). -/
theorem lane_giveLanes (b : Bool) (k : Nat) (ns : List Nat) : ∀ s : State,
    (s.giveLanes b ns).lane k = if k ∈ ns then { s.lane k with uplink := b } else s.lane k := by
  induction ns with
  | nil => exact fun _ => rfl
  | cons n ns ih =>
    intro s
    rw [State.giveLanes, ih, State.modLane, State.lane_setLane]
    by_cases first : k = n
    · subst first
      rw [if_pos rfl, if_pos List.mem_cons_self]
      split <;> rfl
    · rw [if_neg first]
      simp only [List.mem_cons, or_iff_right first]

theorem sendNotices_frame (xs : List Notice) : ∀ s : State, (s.sendNotices xs).uplink = s.uplink ∧ (s.sendNotices xs).ports = s.ports ∧
    (∀ q : Reg, (s.sendNotices xs).reg q = s.reg q) ∧ ∀ o, o ∈ s.out → o ∈ (s.sendNotices xs).out := by
  induction xs with
  | nil => exact fun _ => ⟨rfl, rfl, fun _ => rfl, fun _ => id⟩
  | cons x xs ih =>
    intro s
    obtain ⟨uplink, ports, regs, out⟩ := ih (s.sendDatagram s.ports.noticePeer (noticeWords s.ports.nodeId x))
    exact ⟨uplink.trans rfl, ports.trans rfl, fun q => (regs q).trans rfl, fun o left => out o (List.mem_append_left _ left)⟩

end Sys2Proof.Machine

namespace Sys2Proof.Claims
open Sys2Proof.Machine

/-- Bits of EU_CFG that a write keeps (R388). -/
theorem fld_euCfg (value : Word) : fld (value &&& 0xFE3F0FFF) 30 29 = fld value 30 29 ∧ fld (value &&& 0xFE3F0FFF) 21 16 = fld value 21 16 ∧
    (value &&& 0xFE3F0FFF).getLsbD 31 = value.getLsbD 31 :=
  ⟨fld_and_of_covered rfl, fld_and_of_covered rfl, by rw [BitVec.getLsbD_and]; exact Bool.and_true _⟩

theorem uplinkEnable_takes {port : Nat} {value : Word} {s : State} (can : canWrite s port 8 = true) (on : value.getLsbD 31 = true)
    (listed : fld value 30 29 ≠ 3) (low : s.upGroup ≤ fld value 21 16) (high : fld value 21 16 < s.upGroup + 4)
    (four : fld value 30 29 = 2 → fld value 21 16 = s.upGroup) (off : s.b .euCfg 31 = false) (pends : s.bw .euCfg 31 = false)
    (root : s.b .lkRefCfg 0 = false) (free : ∀ k, k ∈ euLanes value → s.laneEn k = false ∧ s.bw (.lkLCfg k) 31 = false)
    (still : s.placesTicks = false)
    (kept : s.protected ((s.applyEu (value &&& 0xFE3F0FFF)).setNow .euCfg (value &&& 0xFE3F0FFF)) = true) :
    ∃ t, exec (.uplinkEnable port value) s = .next t ∧ t.reg .euCfg = value &&& 0xFE3F0FFF ∧
      (∀ k, k ∈ euLanes value → t.lane k = { s.lane k with uplink := true }) ∧ ∀ k, k ∉ euLanes value → t.lane k = s.lane k := by
  obtain ⟨lanes, first, enable⟩ := fld_euCfg value
  have same : euLanes (value &&& 0xFE3F0FFF) = euLanes value := by simp only [euLanes, lanes, first]
  have any : ((euLanes value).any fun k => s.laneEn k || s.bw (.lkLCfg k) 31) = false := by
    rw [List.any_eq_false]
    intro k listed
    rw [(free k listed).1, (free k listed).2]
    decide
  have placed : ¬((true && decide (fld value 21 16 < s.upGroup ∨ s.upGroup + 4 ≤ fld value 21 16 ∨
      (fld value 30 29 = 2 ∧ fld value 21 16 ≠ s.upGroup))) = true) := by
    rw [Bool.true_and, decide_eq_true_eq]
    rintro (under | above | ⟨two, apart⟩)
    · omega
    · omega
    · exact apart (four two)
  have written : wrEuCfg s value = .ok ((s.applyEu (value &&& 0xFE3F0FFF)).setNow .euCfg (value &&& 0xFE3F0FFF)) := by
    simp only [wrEuCfg, lanes, first, enable, on, same, any, off, pends, root, still]
    rw [if_neg listed, if_neg placed]
    rfl
  have runs : (canWrite s port 8 && value.getLsbD 31) = true := by rw [can, on]; rfl
  have arm : exec (.uplinkEnable port value) s = execUplinkEnable port value s := rfl
  rw [arm, execUplinkEnable, if_pos runs, written, guarded, if_pos kept]
  refine ⟨_, rfl, ?_, fun k inside => ?_, fun k outside => ?_⟩
  · exact State.reg_setNow _ _ _
  all_goals
    have given : (s.applyEu (value &&& 0xFE3F0FFF)).lane k = ((s.setReg .euCfg (value &&& 0xFE3F0FFF)).giveLanes true (euLanes value)).lane k := by
      have off' : (s.reg .euCfg).getLsbD 31 = false := off
      rw [State.applyEu, enable, on, off', if_pos (by decide), same]
    refine given.trans ((lane_giveLanes _ _ _ _).trans ?_)
  · rw [if_pos inside]; rfl
  · rw [if_neg outside]; rfl

theorem euUp_announces {s : State} (runs : s.euRuns = true) (down : s.uplink.up = false) :
    ∃ t, exec .euUp s = .next t ∧ t.uplink = { s.uplink with up := true, fecLock := true } ∧
      Out.gratuitousArp ∈ t.out ∧ (t.port 4).notices = [] ∧ (t.reg .euEvents).getLsbD 0 = true := by
  have arm : exec .euUp s = execEuUp s := rfl
  rw [arm, execEuUp, runs, down, if_neg (by decide)]
  dsimp only
  generalize raised : (s.setUp fun u => { u with up := true, fecLock := true }).raise 16 0 0 = u
  have uplink : u.uplink = { s.uplink with up := true, fecLock := true } := raised ▸ State.raise_uplink _ _ _ _
  have event : (u.reg .euEvents).getLsbD 0 = true := raised ▸ State.reg_raise_own_bit _ 16 0 0 0 _ rfl (by decide)
  clear raised
  generalize sent : ({ u with out := u.out ++ [Out.gratuitousArp] } : State).bump 0x580108 1 = v
  have uplink' : v.uplink = u.uplink := by rw [← sent, State.bump_uplink]
  have event' : v.reg .euEvents = u.reg .euEvents := by
    rw [← sent]
    exact reg_bump_of_ne _ _ _ (by decide)
  have arp : Out.gratuitousArp ∈ v.out := by
    rw [← sent]
    exact mem_out_bump _ _ _ (List.mem_append_right _ (List.mem_singleton.mpr rfl))
  clear sent
  obtain ⟨uplink'', ports, regs, out⟩ := sendNotices_frame (v.port 4).notices (v.setPort 4 { v.port 4 with notices := [] })
  refine ⟨_, rfl, ?_, out _ arp, ?_, ?_⟩
  · rw [uplink'', State.setPort_uplink, uplink', uplink]
  · rw [State.port, ports, State.setPort, SMap.get_set, if_pos rfl]
  · rw [regs]
    exact (congrArg (·.getLsbD 0) event').trans event

theorem euDown_ends {s : State} (up : s.uplink.up = true) :
    ∃ t, exec .euDown s = .next t ∧ t.uplink = { s.uplink with up := false, fecLock := false, flight := none } ∧
      (t.reg .euEvents).getLsbD 1 = true := by
  have arm : exec .euDown s = .next s.uplinkDown := rfl
  rw [arm, State.uplinkDown, up, if_neg (by decide)]
  dsimp only
  generalize raised : (s.setUp fun u => { u with up := false, fecLock := false, flight := none }).raise 16 1 0 = u
  have uplink : u.uplink = { s.uplink with up := false, fecLock := false, flight := none } := raised ▸ State.raise_uplink _ _ _ _
  have event : (u.reg .euEvents).getLsbD 1 = true := raised ▸ State.reg_raise_own_bit _ 16 1 1 0 _ rfl (by decide)
  clear raised
  cases s.uplink.flight with
  | none => exact ⟨_, rfl, uplink, event⟩
  | some flight =>
    obtain ⟨seq, first, flits, curds⟩ := flight
    refine ⟨_, rfl, ?_, ?_⟩
    · rw [State.loseAll_uplink, State.raise_uplink, State.bump_uplink, uplink]
    · rw [reg_loseAll_of_ne _ (by decide) (by decide)]
      refine State.reg_raise_of_set _ 16 2 2 1 0 _ rfl ?_
      rw [reg_bump_of_ne _ _ _ (by decide)]
      exact event

theorem ethFrame_damaged {f : EthFrame} {s : State} (up : s.uplink.up = true) (damaged : f.fcsOk = false) :
    ∃ t, exec (.ethFrameReceive f) s = .next t ∧ t.ports.queue = s.ports.queue ∧ t.uplink = s.uplink ∧ t.time = s.time := by
  have arm : exec (.ethFrameReceive f) s = execEthFrameReceive f s := rfl
  rw [arm, execEthFrameReceive, up, if_neg (by decide), damaged]
  dsimp only
  rw [Bool.not_false, if_pos rfl]
  refine ⟨_, rfl, ?_, ?_, ?_⟩
  · exact State.queue_of_desk ((State.bump_desk _ _ _).trans ((State.bump_desk _ _ _).trans (State.bump_desk s _ _)))
  · rw [State.euDiscard, State.bump_uplink, State.bump_uplink, State.bump_uplink]
  · rw [State.euDiscard, State.bump_time, State.bump_time, State.bump_time]

/-- A frame that passes R389, with its counter, as what it carries (R390 to R393). -/
theorem exec_ethFrame {f : EthFrame} {s u : State} (up : s.uplink.up = true) (sound : f.fcsOk = true) (untagged : s.b .euCfg 28 = false)
    (vlan : f.vlan = none) (counted : s.bump 0x580100 1 = u) :
    (∀ target ip mac, f.body = .arpRequest target ip mac → exec (.ethFrameReceive f) s = .next
      (if (!(f.dst == u.euMac) && !(f.dst == 0xFFFFFFFFFFFF)) = true then u.euDiscard
        else if target ≠ u.reg .euIp then u
        else ({ u with out := u.out ++ [Out.arpReply { mac, ip }] } : State).bump 0x580108 1)) ∧
    ∀ srcIp dstIp srcPort dstPort ipOk udpOk ws, f.body = .udp srcIp dstIp srcPort dstPort ipOk udpOk ws →
      exec (.ethFrameReceive f) s = .next
      (if (!(f.dst == u.euMac) || !ipOk || !udpOk || dstIp != u.reg .euIp) = true then u.euDiscard
        else u.datagram { mac := f.src, ip := srcIp, port := srcPort } dstPort ws) := by
  have arm : exec (.ethFrameReceive f) s = execEthFrameReceive f s := rfl
  have untagged' : u.b .euCfg 28 = false := by
    rw [State.b, ← counted, reg_bump_of_ne _ _ _ (by decide)]
    exact untagged
  rw [arm, execEthFrameReceive, up, if_neg (by decide), counted, sound]
  dsimp only
  rw [untagged', vlan]
  constructor
  · intro target ip mac body
    rw [body]
    rfl
  · intro srcIp dstIp srcPort dstPort ipOk udpOk ws body
    rw [body]
    rfl

/-- The addresses and ports that a counter leaves (R390, R392). -/
theorem euAddresses_bump (s : State) (a n : Nat) : (s.bump a n).euMac = s.euMac ∧ (s.bump a n).reg .euIp = s.reg .euIp ∧
    (s.bump a n).f .euPorts 31 16 = s.f .euPorts 31 16 := by
  have regs (q : Reg) (other : q.key ≠ Reg.key .gsCntSat) := reg_bump_of_ne s a n other
  refine ⟨?_, regs .euIp (by decide), ?_⟩
  · rw [State.euMac, regs .euMacHi (by decide), regs .euMacLo (by decide)]
    rfl
  · rw [State.f, regs .euPorts (by decide)]
    rfl

theorem ethFrame_arp {f : EthFrame} {s : State} (up : s.uplink.up = true) (sound : f.fcsOk = true) (untagged : s.b .euCfg 28 = false)
    (vlan : f.vlan = none) (ip : Word) (mac : BitVec 48) (body : f.body = .arpRequest (s.reg .euIp) ip mac)
    (mine : f.dst = s.euMac ∨ f.dst = 0xFFFFFFFFFFFF) :
    ∃ t, exec (.ethFrameReceive f) s = .next t ∧ t.uplink = s.uplink ∧ ∃ d : EthPeer, d.mac = mac ∧ d.ip = ip ∧ Out.arpReply d ∈ t.out := by
  obtain ⟨ownMac, ownIp, -⟩ := euAddresses_bump s 0x580100 1
  have uplink : (s.bump 0x580100 1).uplink = s.uplink := State.bump_uplink _ _ _
  have exec_ := (exec_ethFrame up sound untagged vlan rfl).1 _ _ _ body
  generalize s.bump 0x580100 1 = u at exec_ ownMac ownIp uplink
  have heard : ¬((!(f.dst == u.euMac) && !(f.dst == 0xFFFFFFFFFFFF)) = true) := by
    rw [ownMac, Bool.and_eq_true, Bool.not_eq_true', Bool.not_eq_true', beq_eq_false_iff_ne, beq_eq_false_iff_ne]
    rintro ⟨notMac, notAll⟩
    exact mine.elim notMac notAll
  rw [exec_, if_neg heard, if_neg (not_not_intro ownIp.symm)]
  refine ⟨_, rfl, (State.bump_uplink _ _ _).trans uplink, { mac, ip }, rfl, rfl, mem_out_bump _ _ _ ?_⟩
  exact List.mem_append_right _ (List.mem_singleton.mpr rfl)

theorem ethFrame_command {f : EthFrame} {s : State} (up : s.uplink.up = true) (sound : f.fcsOk = true) (untagged : s.b .euCfg 28 = false)
    (vlan : f.vlan = none) (ip : Word) (port : BitVec 16) (ws : List Word)
    (body : f.body = .udp ip (s.reg .euIp) port (BitVec.ofNat 16 (s.f .euPorts 31 16)) true true ws) (mine : f.dst = s.euMac)
    (long : 4 ≤ ws.length) (magic : fld (ws.getD 0 0) 31 8 = 0x4B5512) (serves : s.portUp = true) :
    ∃ u : State, exec (.ethFrameReceive f) s = .next (u.takePacket 4 0 (ws.drop 4)) ∧
      SMap.find u.ports.peers (fld ((ws.drop 4).getD 0 0) 15 0) = some { mac := f.src, ip, port } ∧ u.time = s.time ∧ u.link = s.link := by
  obtain ⟨ownMac, ownIp, ownPort⟩ := euAddresses_bump s 0x580100 1
  have time : (s.bump 0x580100 1).time = s.time := State.bump_time _ _ _
  have link : (s.bump 0x580100 1).link = s.link := State.bump_link _ _ _
  have serves' : (s.bump 0x580100 1).portUp = true := by
    simp only [State.portUp, State.rel, State.bump_power, State.bump_boot]
    exact serves
  have exec_ := (exec_ethFrame up sound untagged vlan rfl).2 _ _ _ _ _ _ _ body
  generalize s.bump 0x580100 1 = u at exec_ ownMac ownIp ownPort time link serves'
  have heard : ¬((!(f.dst == u.euMac) || !true || !true || s.reg .euIp != u.reg .euIp) = true) := by
    rw [ownMac, mine, ownIp, beq_self_eq_true, bne_self_eq_false]
    decide
  have small : u.f .euPorts 31 16 < 2 ^ 16 := fld_lt _ 31 16
  have good : ¬((BitVec.ofNat 16 (s.f .euPorts 31 16)).toNat ≠ u.f .euPorts 31 16 ∨ ws.length < 4 ∨ fld (ws.getD 0 0) 31 8 ≠ 0x4B5512) := by
    rw [← ownPort, BitVec.toNat_ofNat, Nat.mod_eq_of_lt small]
    rintro (apart | short | strange)
    · exact apart rfl
    · omega
    · exact strange magic
  rw [exec_, if_neg heard, State.datagram]
  dsimp only
  rw [if_neg good]
  refine ⟨_, congrArg Host.Outcome.next (if_pos serves'), ?_, time, link⟩
  exact (SMap.find_put _ _ _ _).trans (if_pos rfl)

/-- An estimate reaches the time core (R397, R398). -/
theorem exec_ptpEstimate {s : State} (off : Int) (n : Nat) (released : s.rel 7 = true) (client : s.ptpOn = true) (up : s.uplink.up = true)
    (ptp : s.mode = 2) (runs : s.time.state ≠ 0) :
    (512000 < off.natAbs → s.time.ticking = true → exec (.ptpOffsetEstimate off n) s = .next
      (((s.setTime fun t => { t with ptpGood := 0 }).setTime fun t =>
        { t with state := 1, waitHost := true, holding := false }).clearAligned)) ∧
    (512000 < off.natAbs → s.time.ticking = false → exec (.ptpOffsetEstimate off n) s = .next
      ((s.setTime fun t => { t with ptpGood := 0 }).stepCt (BitVec.ofNat 64 (n * 512)) (BitVec.ofNat 32 (n / 2 ^ 55)))) ∧
    (off.natAbs ≤ 512000 → ∀ u, u = (s.setTime fun t =>
      { t with ptpGood := if off.natAbs ≤ 51200 then t.ptpGood + 1 else 0, steer := steerFree s.freeVal }).draw →
        exec (.ptpOffsetEstimate off n) s = .next (if u.time.state = 3 ∨ (u.time.state = 1 ∧ 16 ≤ u.time.ptpGood) then u.lock else u)) := by
  have arm : exec (.ptpOffsetEstimate off n) s = execPtpOffsetEstimate off n s := rfl
  have counts : ¬((!s.rel 7 || !s.ptpOn || !s.uplink.up || decide (s.mode ≠ 2) || s.time.state == 0) = true) := by
    rw [released, client, up, decide_eq_false (not_not_intro ptp), beq_eq_false_iff_ne.mpr runs]
    decide
  rw [arm, execPtpOffsetEstimate, if_neg counts]
  refine ⟨fun large ticking => ?_, fun large still => ?_, fun small u steered => ?_⟩
  · rw [if_pos (show usFine < off.natAbs from large)]
    exact congrArg Host.Outcome.next (if_pos ticking)
  · rw [if_pos (show usFine < off.natAbs from large)]
    exact congrArg Host.Outcome.next (if_neg (by rw [Bool.not_eq_true]; exact still))
  · rw [if_neg (show ¬usFine < off.natAbs by simp only [usFine]; omega), steered]

/-- An estimate by its size (R397, R398). -/
theorem ptpEstimate {s : State} (off : Int) (n : Nat) (released : s.rel 7 = true) (client : s.ptpOn = true) (up : s.uplink.up = true)
    (ptp : s.mode = 2) (runs : s.time.state ≠ 0) :
    (512000 < off.natAbs → s.time.ticking = true → ∃ t, exec (.ptpOffsetEstimate off n) s = .next t ∧ t.time.state = 1 ∧
      t.time.aligned = false ∧ t.time.ct = s.time.ct) ∧
    (512000 < off.natAbs → s.time.ticking = false → ∃ t, exec (.ptpOffsetEstimate off n) s = .next t ∧
      t.time.ct = BitVec.ofNat 64 (n * 512) ∧ t.time.epoch = BitVec.ofNat 32 (n / 2 ^ 55) ∧ (t.reg .tcEvents).getLsbD 8 = true) ∧
    (off.natAbs ≤ 51200 → s.time.state = 1 → s.time.ptpGood = 15 → ∃ t, exec (.ptpOffsetEstimate off n) s = .next t ∧
      t.time.state = 2 ∧ t.time.ct = s.time.ct ∧ (t.reg .tcEvents).getLsbD 1 = true) ∧
    (51200 < off.natAbs → off.natAbs ≤ 512000 → s.time.state = 1 → ∃ t, exec (.ptpOffsetEstimate off n) s = .next t ∧
      t.time.state = 1 ∧ t.time.ptpGood = 0 ∧ t.time.ct = s.time.ct) := by
  obtain ⟨apart, steps, steers⟩ := exec_ptpEstimate off n released client up ptp runs
  refine ⟨fun large ticking => ?_, fun large still => ?_, fun small acquiring good => ?_, fun large small acquiring => ?_⟩
  · rw [apart large ticking]
    generalize moved : State.setTime _ (fun t => { t with state := 1, waitHost := true, holding := false }) = u
    have state : u.time.state = 1 := moved ▸ rfl
    have ct : u.time.ct = s.time.ct := moved ▸ rfl
    obtain ⟨time, -, -⟩ := clearAligned_time u
    exact ⟨_, rfl, by rw [time]; exact state, by rw [time], by rw [time]; exact ct⟩
  · rw [steps large still]
    obtain ⟨time, event, -, -⟩ := State.stepCt_frame (s.setTime fun t => { t with ptpGood := 0 }) (BitVec.ofNat 64 (n * 512))
      (BitVec.ofNat 32 (n / 2 ^ 55))
    exact ⟨_, rfl, by rw [time], by rw [time], event⟩
  · have ran_ := steers (by omega) _ rfl
    simp only [if_pos small] at ran_
    rw [ran_]
    generalize steered : (s.setTime fun t => { t with ptpGood := t.ptpGood + 1, steer := steerFree s.freeVal }).draw = u
    have state : u.time.state = 1 := steered ▸ acquiring
    have count : u.time.ptpGood = 16 := steered ▸ congrArg (· + 1) good
    have ct : u.time.ct = s.time.ct := steered ▸ rfl
    rw [if_pos (Or.inr ⟨state, Nat.le_of_eq count.symm⟩)]
    obtain ⟨time, event, -⟩ := lock_frame u
    exact ⟨_, rfl, by rw [time], by rw [time]; exact ct, event (by rw [state]; decide)⟩
  · have ran_ := steers small _ rfl
    simp only [if_neg (show ¬off.natAbs ≤ 51200 by omega)] at ran_
    rw [ran_]
    generalize steered : (s.setTime fun t => { t with ptpGood := 0, steer := steerFree s.freeVal }).draw = u
    have state : u.time.state = 1 := steered ▸ acquiring
    have count : u.time.ptpGood = 0 := steered ▸ rfl
    have ct : u.time.ct = s.time.ct := steered ▸ rfl
    refine ⟨_, congrArg Host.Outcome.next (if_neg ?_), state, count, ct⟩
    rw [state, count]
    decide

theorem ptpSilence {s : State} (client : s.ptpOn = true) (ptp : s.mode = 2) (heard : s.uplink.lost = false) :
    ∃ t, exec .ptpSyncTimeout s = .next t ∧ t.uplink = { s.uplink with lost := true } ∧
      (t.reg .euEvents).getLsbD 3 = true ∧ t.time.state = (if s.time.state = 2 then 3 else s.time.state) ∧ t.time.ct = s.time.ct := by
  have arm : exec .ptpSyncTimeout s = execPtpSyncTimeout s := rfl
  have counts : ¬((!s.ptpOn || decide (s.mode ≠ 2) || s.uplink.lost) = true) := by
    rw [client, decide_eq_false (not_not_intro ptp), heard]
    decide
  rw [arm, execPtpSyncTimeout, if_neg counts]
  dsimp only
  generalize raised : (s.setUp fun u => { u with lost := true }).raise 16 3 0 = u
  have uplink : u.uplink = { s.uplink with lost := true } := raised ▸ State.raise_uplink _ _ _ _
  have time : u.time = s.time := raised ▸ State.raise_time _ _ _ _
  have event : (u.reg .euEvents).getLsbD 3 = true := raised ▸ State.reg_raise_own_bit _ 16 3 3 0 _ rfl (by decide)
  clear raised
  rw [← time]
  by_cases locked : u.time.state = 2
  · rw [if_pos locked, if_pos locked]
    obtain ⟨held, -⟩ := enterHoldover_frame u
    refine ⟨_, rfl, ?_, ?_, by rw [held], by rw [held]⟩
    · exact (State.raise_uplink _ _ _ _).trans uplink
    · rw [State.enterHoldover, reg_raise_of_ne _ 5 2 0 rfl (by decide)]
      exact event
  · rw [if_neg locked, if_neg locked]
    exact ⟨_, rfl, uplink, event, rfl, rfl⟩

theorem ptpRequest {s : State} (client : s.ptpOn = true) (up : s.uplink.up = true) (master : s.uplink.selected.isSome = true) :
    ∃ t, exec .ptpDelayReq s = .next t ∧
      t.uplink = { s.uplink with delaySeq := s.uplink.delaySeq + 1, delayT3 := some s.time.ct } ∧ Out.delayReq s.uplink.delaySeq ∈ t.out := by
  have arm : exec .ptpDelayReq s = execPtpDelayReq s := rfl
  rw [arm, execPtpDelayReq, client, up, master, if_pos (by decide)]
  refine ⟨_, rfl, State.bump_uplink _ _ _, mem_out_bump _ _ _ ?_⟩
  exact List.mem_append_right _ (List.mem_singleton.mpr rfl)

/-- Settles O58: one theorem for each clause. -/
theorem uplinkAndPtpTakeEffect : Obligations.UplinkAndPtpTakeEffect := by
  intro port value f off n s
  exact ⟨uplinkEnable_takes, euUp_announces, euDown_ends, fun up => ⟨ethFrame_damaged up, fun sound untagged vlan =>
    ⟨ethFrame_arp up sound untagged vlan, fun ip port ws body mine long magic serves =>
      ethFrame_command up sound untagged vlan ip port ws body mine long magic serves⟩⟩, ptpEstimate off n, ptpSilence, ptpRequest⟩

end Sys2Proof.Claims
end

section
/-!
SUPPORT. What lanes do as they train, fall back and sleep, with the statement on them (R359 to R386).
-/
open Sys2Proof

namespace Sys2Proof.Machine
open Sys2Proof.Claims

theorem rel_of_power {s t : State} (same : t.power = s.power) (n : Nat) : t.rel n = s.rel n := by rw [State.rel, same, State.rel]

@[simp] theorem enterHoldover_desk (s : State) : s.enterHoldover.desk = s.desk := (State.raise_desk _ _ _ _).trans rfl

theorem reg_enterHoldover_of_ne (s : State) {q : Reg} (other : q.key ≠ Reg.key .tcEvents) : s.enterHoldover.reg q = s.reg q :=
  (reg_raise_of_ne _ 5 2 0 rfl other).trans rfl

/-- The state of a trained lane that is lost, before a follower falls to holdover. -/
def State.untrainedAt (s : State) (n : Nat) : State :=
  ((if (s.lane n).sending.isSome then s.bump (laneCnt n 11) 1 else s).setLane n (untrained (s.lane n))).raise 15 1 (at32 0 n)

theorem untrain_eq {s : State} {n : Nat} (on : (s.lane n).trained = true) : s.untrain n =
    if n = 0 ∧ (s.untrainedAt n).follower = true ∧ (s.untrainedAt n).time.state = 2 then (s.untrainedAt n).enterHoldover else s.untrainedAt n := by
  simp only [State.untrain, on]
  rfl

theorem untrain_of_off {s : State} {n : Nat} (off : (s.lane n).trained = false) : s.untrain n = s := by
  simp only [State.untrain, off]
  rfl

/-- What the loss of a trained lane leaves, and its event (R366). -/
theorem untrainedAt_frame (s : State) (n : Nat) : (s.untrainedAt n).desk = s.desk ∧ (s.untrainedAt n).time = s.time ∧
    (s.untrainedAt n).power = s.power ∧ ((s.untrainedAt n).reg .lkEvents).getLsbD 1 = true ∧
    ∀ q : Reg, q.key ≠ Reg.key .lkEvents → q.key ≠ Reg.key .gsCntSat → (s.untrainedAt n).reg q = s.reg q := by
  unfold State.untrainedAt
  have counted : (if (s.lane n).sending.isSome = true then s.bump (laneCnt n 11) 1 else s).desk = s.desk ∧
      (if (s.lane n).sending.isSome = true then s.bump (laneCnt n 11) 1 else s).time = s.time ∧
      (if (s.lane n).sending.isSome = true then s.bump (laneCnt n 11) 1 else s).power = s.power ∧
      ∀ q : Reg, q.key ≠ Reg.key .gsCntSat → (if (s.lane n).sending.isSome = true then s.bump (laneCnt n 11) 1 else s).reg q = s.reg q := by
    split
    · exact ⟨State.bump_desk _ _ _, State.bump_time _ _ _, State.bump_power _ _ _, fun q other => reg_bump_of_ne _ _ _ other⟩
    · exact ⟨rfl, rfl, rfl, fun _ _ => rfl⟩
  generalize (if (s.lane n).sending.isSome = true then s.bump (laneCnt n 11) 1 else s) = u at counted
  obtain ⟨desk, time, power, regs⟩ := counted
  exact ⟨(State.raise_desk _ _ _ _).trans desk, (State.raise_time _ _ _ _).trans time, (State.raise_power _ _ _ _).trans power,
    State.reg_raise_own_bit _ 15 1 1 _ _ rfl (by decide), fun q notEvents notSat =>
      ((reg_raise_of_ne _ 15 1 _ rfl notEvents).trans rfl).trans (regs q notSat)⟩

@[simp] theorem untrain_desk (s : State) (n : Nat) : (s.untrain n).desk = s.desk := by
  obtain ⟨desk, -⟩ := untrainedAt_frame s n
  cases on : (s.lane n).trained with
  | false => rw [untrain_of_off on]
  | true =>
    rw [untrain_eq on]
    split
    · rw [enterHoldover_desk, desk]
    · exact desk

theorem reg_untrain_of_ne (s : State) (n : Nat) {q : Reg} (notEvents : q.key ≠ Reg.key .lkEvents) (notSat : q.key ≠ Reg.key .gsCntSat)
    (notTime : q.key ≠ Reg.key .tcEvents) : (s.untrain n).reg q = s.reg q := by
  obtain ⟨-, -, -, -, regs⟩ := untrainedAt_frame s n
  cases on : (s.lane n).trained with
  | false => rw [untrain_of_off on]
  | true =>
    rw [untrain_eq on]
    split
    · rw [reg_enterHoldover_of_ne _ notTime, regs q notEvents notSat]
    · exact regs q notEvents notSat

theorem follower_congr {s t : State} (power : t.power = s.power) (mode : t.reg .tcSrcCfg = s.reg .tcSrcCfg) : t.follower = s.follower := by
  simp only [State.follower, State.mode, State.f, State.rel, power, mode]

/-- The loss of a trained lane: its event, and the holdover of a locked follower that loses lane 0 (R150, R366). -/
theorem untrain_events {s : State} {n : Nat} (on : (s.lane n).trained = true) : ((s.untrain n).reg .lkEvents).getLsbD 1 = true ∧
    (n = 0 → s.follower = true → s.time.state = 2 → (s.untrain n).time.state = 3) := by
  obtain ⟨-, time, power, event, regs⟩ := untrainedAt_frame s n
  have follower : (s.untrainedAt n).follower = s.follower := follower_congr power (regs _ (by decide) (by decide))
  rw [untrain_eq on]
  refine ⟨?_, fun zero follows locked => ?_⟩
  · split
    · rw [reg_enterHoldover_of_ne _ (by decide)]
      exact event
    · exact event
  · rw [if_pos ⟨zero, follower.trans follows, by rw [time]; exact locked⟩]
    obtain ⟨held, -⟩ := enterHoldover_frame (s.untrainedAt n)
    rw [held]

/-- The lane that is lost, and the others. -/
theorem lane_untrain (s : State) (n k : Nat) :
    (s.untrain n).lane k = if k = n ∧ (s.lane n).trained = true then untrained (s.lane n) else s.lane k := by
  by_cases on : (s.lane n).trained = true
  · rw [lane_congr ((untrain_link s n).trans (if_pos on)), State.lane_setLane]
    simp only [and_iff_left on]
  · rw [lane_congr ((untrain_link s n).trans (if_neg on)), if_neg fun both => on both.2]

theorem uplink_untrain (s : State) (n : Nat) : ((s.untrain n).lane n).uplink = (s.lane n).uplink := by
  rw [lane_untrain]
  split <;> rfl

theorem refclk_untrain (s : State) (n : Nat) : (s.untrain n).link.refclk = s.link.refclk := by
  rw [untrain_link]
  split <;> rfl

theorem lane_startLane (s : State) (n k : Nat) : (s.startLane n).lane k = if k = n then (if s.laneEn n && !(s.lane n).uplink then
    (s.lane n).atStep1 false else { s.lane n with step := 0, cap := none, wake := false, deep := false }) else s.lane k := by
  rw [State.startLane, State.modLane, State.lane_setLane]

theorem laneCfg_ne (n : Nat) : Reg.key (.lkLCfg n) ≠ Reg.key .gsCntSat ∧ Reg.key (.lkLCfg n) ≠ Reg.key .tcEvents ∧
    (n ≠ 48 → Reg.key (.lkLCfg n) ≠ Reg.key .lkEvents) := by
  have key : Reg.key (.lkLCfg n) = 0x500000 + n * 0x800 := rfl
  have sat : Reg.key .gsCntSat = 0x30 := rfl
  have time : Reg.key .tcEvents = 0x80004 := rfl
  have events : Reg.key .lkEvents = 0x518000 := rfl
  omega

theorem laneEn_untrain (s : State) {n : Nat} (k : Nat) (low : n ≠ 48) : (s.untrain k).laneEn n = s.laneEn n := by
  obtain ⟨notSat, notTime, notEvents⟩ := laneCfg_ne n
  exact congrArg (·.getLsbD 31) (reg_untrain_of_ne s k (notEvents low) notSat notTime)

/-- Bring-up starts again (R364). -/
theorem lane_retrain {s : State} {n : Nat} (low : n ≠ 48) (enabled : s.laneEn n = true) (own : (s.lane n).uplink = false) :
    ((s.retrain n).lane n).step = 1 ∧ ((s.retrain n).lane n).trained = false := by
  have started : (s.retrain n).lane n = ((s.untrain n).lane n).atStep1 false := by
    rw [State.retrain, lane_congr (State.bump_link _ _ _), lane_startLane, if_pos rfl, laneEn_untrain s n low, uplink_untrain, enabled, own]
    rfl
  rw [started]
  exact ⟨rfl, (trained_untrain s n n).trans (if_pos rfl)⟩

theorem desk_retrain (s : State) (n : Nat) : (s.retrain n).desk = s.desk := by
  rw [State.retrain, State.bump_desk]
  exact untrain_desk s n

/-- A set bit of a register that shares its address with an event register stays set. -/
theorem bit_raise_of_shared (s : State) (block code j : Nat) (w : Word) {p q : Reg} {i : Nat} (own : eventReg block code = some (q, i))
    (shared : p.key = q.key) (low : (p.resetIn s).getLsbD j = false) (set : (s.reg p).getLsbD j = true) :
    ((s.raise block code w).reg p).getLsbD j = true := by
  cases stored : SMap.find s.csr.inForce p.key with
  | none =>
    rw [State.reg, stored] at set
    exact absurd (low.symm.trans set) Bool.false_ne_true
  | some v =>
    have before : s.reg q = v := by rw [State.reg, ← shared, stored]; rfl
    have set' : v.getLsbD j = true := by
      rw [State.reg, stored] at set
      exact set
    have after_ : SMap.find (s.raise block code w).csr.inForce p.key = some (v ||| bit32 i true) := by
      simp only [State.raise, own]
      rw [State.notify_inForce, State.orReg, before, State.setReg, SMap.find_put, if_pos shared]
    rw [State.reg, after_, Option.getD_some, BitVec.getLsbD_or, set', Bool.true_or]

theorem laneEn_untrain_on {s : State} {n : Nat} (enabled : s.laneEn n = true) : (s.untrain n).laneEn n = true := by
  by_cases other : n = 48
  · subst other
    cases on : (s.lane 48).trained with
    | false => rw [untrain_of_off on]; exact enabled
    | true =>
      rw [untrain_eq on, if_neg fun all => absurd all.1 (by decide), State.untrainedAt]
      refine bit_raise_of_shared _ 15 1 31 _ rfl (by decide) (show ((Reg.lkLCfg 48).info.reset).getLsbD 31 = false by decide) ?_
      have before : ((if (s.lane 48).sending.isSome = true then s.bump (laneCnt 48 11) 1 else s).setLane 48 (untrained (s.lane 48))).reg
          (.lkLCfg 48) = s.reg (.lkLCfg 48) := by
        split
        · exact reg_bump_of_ne s _ _ (by decide)
        · rfl
      rw [before]
      exact enabled
  · exact (laneEn_untrain s n other).trans enabled

/-- A lane that is dropped restarts where it may (R366). -/
theorem lane_dropLane {s : State} {n : Nat} (enabled : s.laneEn n = true) (own : (s.lane n).uplink = false) :
    ((s.dropLane n).lane n).step = 1 := by
  rw [State.dropLane, lane_startLane, if_pos rfl, laneEn_untrain_on enabled, uplink_untrain, own]
  rfl

theorem refclk_retrain (s : State) (n : Nat) : (s.retrain n).link.refclk = s.link.refclk := by
  rw [State.retrain, State.bump_link]
  exact refclk_untrain s n

theorem refclk_refclkRetrain (ns : List Nat) : ∀ s : State, (s.refclkRetrain ns).link.refclk = s.link.refclk := by
  induction ns with
  | nil => exact fun _ => rfl
  | cons n ns ih =>
    intro s
    rw [State.refclkRetrain, ih]
    split
    · exact refclk_retrain s n
    · rfl

theorem refclk_dropLanes (ns : List Nat) : ∀ s : State, (s.dropLanes ns).link.refclk = s.link.refclk := by
  induction ns with
  | nil => exact fun _ => rfl
  | cons n ns ih =>
    intro s
    rw [State.dropLanes, ih]
    split
    · exact refclk_untrain s n
    · rfl

/-- A lane that bring-up may take: enabled, not the uplink's, not trained, not asleep (R360). -/
def State.mayStart (s : State) (n : Nat) : Prop :=
  s.laneEn n = true ∧ (s.lane n).uplink = false ∧ (s.lane n).trained = false ∧ (s.lane n).deep = false

theorem mayStart_startLane {s : State} {n : Nat} (k : Nat) (may : s.mayStart n) : (s.startLane k).mayStart n ∧
    ((s.lane n).step = 1 ∨ k = n → ((s.startLane k).lane n).step = 1) := by
  obtain ⟨enabled, own, off, awake⟩ := may
  have enabled' : (s.startLane k).laneEn n = true := enabled
  by_cases same : n = k
  · subst same
    have started : (s.startLane n).lane n = (s.lane n).atStep1 false := by
      rw [lane_startLane, if_pos rfl, enabled, own]
      rfl
    exact ⟨⟨enabled', by rw [started]; exact own, by rw [started]; exact off, by rw [started]; rfl⟩, fun _ => by rw [started]; rfl⟩
  · have kept : (s.startLane k).lane n = s.lane n := by rw [lane_startLane, if_neg same]
    exact ⟨⟨enabled', by rw [kept]; exact own, by rw [kept]; exact off, by rw [kept]; exact awake⟩,
      fun either => by rw [kept]; exact either.resolve_right fun h => same h.symm⟩

/-- The lanes that start again when LANE_REFCLK returns (R360). -/
theorem startLanes_frame (n : Nat) (ns : List Nat) : ∀ s : State, (s.startLanes ns).link.refclk = s.link.refclk ∧
    ((s.lane n).trained = true → (s.startLanes ns).lane n = s.lane n) ∧
    (s.mayStart n → (s.lane n).step = 1 ∨ n ∈ ns → ((s.startLanes ns).lane n).step = 1) := by
  induction ns with
  | nil => exact fun s => ⟨rfl, fun _ => rfl, fun _ started => started.resolve_right List.not_mem_nil⟩
  | cons k ns ih =>
    intro s
    rw [State.startLanes]
    by_cases skips : ((s.lane k).trained || (s.lane k).deep || !s.laneEn k) = true
    · rw [if_pos skips]
      obtain ⟨refclk, trained, started⟩ := ih s
      refine ⟨refclk, trained, fun may either => started may (either.imp_right fun listed => ?_)⟩
      refine (List.mem_cons.mp listed).resolve_left fun same => ?_
      subst same
      obtain ⟨enabled, -, off, awake⟩ := may
      rw [enabled, off, awake] at skips
      exact absurd skips (by decide)
    · rw [if_neg skips]
      obtain ⟨refclk, trained, started⟩ := ih (s.startLane k)
      refine ⟨refclk, fun on => ?_, fun may either => ?_⟩
      · have other : n ≠ k := by
          rintro rfl
          exact skips (by rw [on]; rfl)
        have kept : (s.startLane k).lane n = s.lane n := by rw [lane_startLane, if_neg other]
        rw [trained (by rw [kept]; exact on), kept]
      · obtain ⟨may', step⟩ := mayStart_startLane k may
        refine started may' ?_
        rcases either with one | listed
        · exact Or.inl (step (Or.inl one))
        · rcases List.mem_cons.mp listed with same | later
          · exact Or.inl (step (Or.inr same.symm))
          · exact Or.inr later

@[simp] theorem State.lose_link (s : State) (p : Nat) (c : Curd) : (s.lose p c).link = s.link := by
  simp only [State.lose]
  split
  · exact State.bump_link _ _ _
  · exact (State.raise_link _ _ _ _).trans (State.bump_link _ _ _)

/-- What a delivery may change: a lane's waiting carriage, ports, counters and outputs. -/
def OnlyCarriage (s t : State) : Prop :=
  (∀ k, ∃ cs, t.lane k = { s.lane k with carriage := cs }) ∧ (∀ q : Reg, t.reg q = s.reg q) ∧ t.time = s.time

theorem OnlyCarriage.refl (s : State) : OnlyCarriage s s := ⟨fun k => ⟨(s.lane k).carriage, rfl⟩, fun _ => rfl, rfl⟩

theorem OnlyCarriage.trans {s t u : State} (first : OnlyCarriage s t) (second : OnlyCarriage t u) : OnlyCarriage s u := by
  obtain ⟨lanes, regs, time⟩ := first
  obtain ⟨lanes', regs', time'⟩ := second
  refine ⟨fun k => ?_, fun q => (regs' q).trans (regs q), time'.trans time⟩
  obtain ⟨cs, here⟩ := lanes k
  obtain ⟨cs', there⟩ := lanes' k
  exact ⟨cs', by rw [there, here]⟩

theorem pushCarriage_only (s : State) (n type part parts count : Nat) (ws : List Word) :
    OnlyCarriage s (s.pushCarriage n type part parts count ws) := by
  refine ⟨fun k => ?_, fun _ => rfl, rfl⟩
  rw [State.pushCarriage, State.lane_setLane]
  by_cases same : k = n
  · rw [if_pos same, same]
    exact ⟨_, rfl⟩
  · rw [if_neg same]
    exact ⟨(s.lane k).carriage, rfl⟩

theorem sendCarriage_only (s : State) (n type : Nat) (ws : List Word) : OnlyCarriage s (s.sendCarriage n type ws) := by
  unfold State.sendCarriage
  split
  · exact pushCarriage_only _ _ _ _ _ _ _
  · exact (pushCarriage_only _ _ _ _ _ _ _).trans (pushCarriage_only _ _ _ _ _ _ _)

theorem deliver_only (s : State) (port n : Nat) (tag : BitVec 16) (ws : List Word) : OnlyCarriage s (s.deliver port n tag ws) := by
  unfold State.deliver
  split
  · unfold State.deliverNow
    split
    · exact sendCarriage_only _ _ _ _
    · exact sendCarriage_only _ _ _ _
    · split
      · exact ⟨fun k => ⟨(s.lane k).carriage, rfl⟩, fun _ => rfl, rfl⟩
      · exact OnlyCarriage.refl s
    · exact ⟨fun k => ⟨(s.lane k).carriage, rfl⟩, fun _ => rfl, rfl⟩
  · exact ⟨fun k => ⟨(s.lane k).carriage, rfl⟩, fun _ => rfl, rfl⟩

/-- A reply of OK. -/
theorem reply_ok_only (s : State) (op : BitVec 12) (r : Req) (a : Answer) (ok : a.status = .ok) : OnlyCarriage s (s.reply op r a) := by
  have notRefused : ¬(a.status = .classRefused) := by rw [ok]; decide
  rw [State.reply, if_neg notRefused]
  by_cases broad : r.broadcast = true
  · rw [if_pos broad, if_pos ok]
    exact OnlyCarriage.refl s
  · rw [if_neg broad]
    split
    · exact OnlyCarriage.refl s
    · exact deliver_only _ _ _ _ _

theorem endTrain_only (s : State) (n : Nat) : OnlyCarriage s (s.endTrain n) := by
  unfold State.endTrain
  split
  · exact OnlyCarriage.refl s
  · exact OnlyCarriage.trans ⟨fun k => ⟨(s.lane k).carriage, rfl⟩, fun _ => rfl, rfl⟩ (reply_ok_only _ _ _ _ rfl)

/-- A lane's curd in transmission leaves; no other lane changes (R372). -/
theorem flushLane_frame (s : State) (n : Nat) : (∀ k, (s.flushLane n).lane k = if k = n then { s.lane n with sending := none } else s.lane k) ∧
    (s.flushLane n).time = s.time ∧ (s.flushLane n).power = s.power ∧ (s.flushLane n).sched = s.sched ∧
    ∀ q : Reg, q.key ≠ Reg.key .gsCntSat → (s.flushLane n).reg q = s.reg q := by
  simp only [State.flushLane]
  split
  · next idle =>
    refine ⟨fun k => ?_, rfl, rfl, rfl, fun _ _ => rfl⟩
    split
    · next same => rw [same, ← idle]
    · rfl
  · refine ⟨fun k => ?_, ?_, ?_, ?_, fun q other => ?_⟩
    · exact (lane_congr (State.bump_link _ _ _) k).trans (State.lane_setLane s n k _)
    · exact State.bump_time _ _ _
    · exact State.bump_power _ _ _
    · exact State.bump_sched _ _ _
    · exact reg_bump_of_ne _ _ _ other

/-- A write of DEEP: the lane but for its held value, and the bit (R367). -/
theorem setDeep_frame (s : State) (n : Nat) (b : Bool) :
    (∃ v, (s.setDeep n b).lane n = { s.lane n with heldCfg := v }) ∧ ((s.setDeep n b).reg (.lkLCfg n)).getLsbD 28 = b ∧
      (s.setDeep n b).out = s.out := by
  refine ⟨⟨(s.lane n).heldCfg.map fun v => if b then v ||| deepBit else v &&& ~~~deepBit, ?_⟩, ?_, rfl⟩
  · rw [State.setDeep, State.modLane, State.lane_setLane, if_pos rfl]
    rfl
  · have wrote : (s.setDeep n b).reg (.lkLCfg n) =
        if b then s.reg (.lkLCfg n) ||| deepBit else s.reg (.lkLCfg n) &&& ~~~deepBit := State.reg_setReg _ _ _
    rw [wrote]
    cases b with
    | true => rw [if_pos rfl, BitVec.getLsbD_or]; exact Bool.or_true _
    | false => rw [if_neg Bool.false_ne_true, BitVec.getLsbD_and]; exact Bool.and_false _

end Sys2Proof.Machine

namespace Sys2Proof.Claims
open Sys2Proof.Machine

theorem below_of_hasLane {s : State} {n : Nat} (has : s.hasLane n = true) : n < 48 :=
  of_decide_eq_true (Bool.and_eq_true_iff.mp has).1

theorem exec_enumerate {r : Req} {s t : State} (acc : Accepts s 0x004 r true) (some_ : r.p 15 0 ≠ 0) (own : r.p 15 0 ≠ 0xFFFF)
    (fresh : ¬(r.len = 1 ∧ s.ports.nodeId ≠ 0))
    (named : t = { s.startCmd 0x004 r with ports := { (s.startCmd 0x004 r).ports with nodeId := BitVec.ofNat 16 (r.p 15 0) } })
    (fits : (s.startCmd 0x004 r).protected t = true) : exec (.enumerate r) s = .next (ran 0x004 r { status := .ok } t.sendCaps) := by
  subst named
  refine congrArg Host.Outcome.next (runOp_of_answer acc ((if_neg ?_).trans ((if_neg fresh).trans (if_neg ?_))))
  · exact not_or.mpr ⟨some_, own⟩
  · rw [fits]
    decide

theorem mem_sendCaps {s : State} {n : Nat} (low : n < 48) (carries : s.carries n = true) : Out.cap n (s.ownCap n) ∈ s.sendCaps.out :=
  List.mem_append_right _ (List.mem_map.mpr ⟨n, List.mem_filter.mpr ⟨List.mem_range.mpr low, carries⟩, rfl⟩)

theorem featureEpoch_prepare {r : Req} {s : State} (acc : Accepts s 0x005 r true) (released : s.rel 8 = true) (op : r.p 1 0 = 0)
    (next_ : BitVec.ofNat 16 (fld (r.w 0) 15 0) = s.link.inForce + 1) (none_ : s.epochCauses (maskFeatures (r.payload.drop 2)) = []) :
    exec (.featureEpoch r) s = .next (ran 0x005 r { status := .ok } ((s.startCmd 0x005 r).setLink fun l =>
      { l with prepared := s.link.inForce + 1, featuresPrep := r.payload.drop 2 })) := by
  refine congrArg Host.Outcome.next (runOp_of_answer acc ?_)
  have released' : (s.startCmd 0x005 r).rel 8 = true := released
  have next' : BitVec.ofNat 16 (fld (r.w 0) 15 0) = (s.startCmd 0x005 r).link.inForce + 1 := next_
  have none' : (s.startCmd 0x005 r).epochCauses (maskFeatures (r.payload.drop 2)) = [] := none_
  rw [← next_]
  generalize s.startCmd 0x005 r = u at released' next' none'
  rw [op]
  refine Eq.trans (b := if BitVec.ofNat 16 (fld (r.w 0) 15 0) ≠ u.link.inForce + 1 then no u .outOfRange else needStep u 8 <|
    match u.epochCauses (maskFeatures (r.payload.drop 2)) with
    | [] => yes (u.setLink fun l => { l with prepared := BitVec.ofNat 16 (fld (r.w 0) 15 0), featuresPrep := r.payload.drop 2 })
    | ws => (u, some { status := .epochRefused, payload := ws })) rfl ?_
  rw [if_neg (not_not_intro next'), needStep_of_released _ released', none']
  rfl

theorem featureEpoch_commit {r : Req} {s : State} (acc : Accepts s 0x005 r true) (released : s.rel 8 = true) (op : r.p 1 0 = 1)
    (later : 1024 ≤ sdiff 32 (r.w 1).toNat s.time.fn.toNat) (prepared : s.link.prepared = BitVec.ofNat 16 (fld (r.w 0) 15 0)) :
    exec (.featureEpoch r) s = .next (ran 0x005 r { status := .ok } ((s.startCmd 0x005 r).setLink fun l =>
      { l with commitFn := some (r.w 1) })) := by
  refine congrArg Host.Outcome.next (runOp_of_answer acc ?_)
  have released' : (s.startCmd 0x005 r).rel 8 = true := released
  have later' : 1024 ≤ sdiff 32 (r.w 1).toNat (s.startCmd 0x005 r).time.fn.toNat := by
    rw [State.startCmd_time]
    exact later
  have prepared' : (s.startCmd 0x005 r).link.prepared = BitVec.ofNat 16 (fld (r.w 0) 15 0) := prepared
  generalize s.startCmd 0x005 r = u at released' later' prepared'
  dsimp only
  split
  · next other => exact absurd (op.symm.trans other) (by decide)
  · rw [if_neg (Int.not_lt.mpr later'), needStep_of_released _ released', if_neg (not_not_intro prepared'), yes]
  · next other => exact absurd (op.symm.trans other) (by decide)
  · next other _ => exact absurd op other

theorem featureEpoch_cancel {r : Req} {s : State} (acc : Accepts s 0x005 r true) (released : s.rel 8 = true) (op : r.p 1 0 = 2) :
    ∃ u : State, exec (.featureEpoch r) s = .next (ran 0x005 r { status := .ok } u) ∧
      u.link.prepared = s.link.inForce ∧ u.link.commitFn = none ∧ u.link.inForce = s.link.inForce := by
  refine ⟨(s.startCmd 0x005 r).setLink fun l => { l with prepared := l.inForce, commitFn := none, epochNow := false },
    congrArg Host.Outcome.next (runOp_of_answer acc ?_), rfl, rfl, rfl⟩
  have released' : (s.startCmd 0x005 r).rel 8 = true := released
  generalize s.startCmd 0x005 r = u at released'
  rw [op]
  exact needStep_of_released _ released'

theorem epochSwitch_switches {s : State} (now : s.link.epochNow = true) (due : s.link.commitFn.isSome = true) :
    ∃ t, exec .epochSwitch s = .next t ∧ t.link.inForce = s.link.prepared ∧ t.link.features = s.link.featuresPrep ∧ t.link.commitFn = none ∧
      t.link.epochNow = false ∧ t.link.lane = s.link.lane :=
  ⟨_, congrArg Host.Outcome.next (if_pos (by rw [now, due]; rfl)), rfl, rfl, rfl, rfl, rfl⟩

theorem linkTrain_restarts {r : Req} {n : Nat} {s : State} (released : s.rel 8 = true) (acc : Accepts s 0x500 r true)
    (names : fld (r.w 0) 5 0 = n) (has : s.hasLane n = true) (enabled : s.laneEn n = true) (own : (s.lane n).uplink = false)
    (free : s.trainRun n = none) : ∃ t, exec (.linkTrain r) s = .next t ∧ (t.lane n).step = 1 ∧ (t.lane n).trained = false ∧
      (t.lane n).lastStep = 0 ∧ t.trainRun n = some { op := 0x500, res := n, req := r } := by
  subst names
  have arm : exec (.linkTrain r) s = execLinkTrain r s := rfl
  have below := below_of_hasLane has
  have has' : (s.startCmd 0x500 r).hasLane (fld (r.w 0) 5 0) = true := has
  have released' : (s.startCmd 0x500 r).rel 8 = true := released
  have enabled' : (s.startCmd 0x500 r).laneEn (fld (r.w 0) 5 0) = true := enabled
  have own' : ((s.startCmd 0x500 r).lane (fld (r.w 0) 5 0)).uplink = false := own
  have free' : (s.startCmd 0x500 r).trainRun (fld (r.w 0) 5 0) = none := free
  have runs : exec (.linkTrain r) s = .next (State.endCmd { ((s.startCmd 0x500 r).retrain (fld (r.w 0) 5 0)).modLane (fld (r.w 0) 5 0)
      fun l => { l with lastStep := 0 } with ports := { (((s.startCmd 0x500 r).retrain (fld (r.w 0) 5 0)).modLane (fld (r.w 0) 5 0)
        fun l => { l with lastStep := 0 }).ports with long := (((s.startCmd 0x500 r).retrain (fld (r.w 0) 5 0)).modLane (fld (r.w 0) 5 0)
          fun l => { l with lastStep := 0 }).ports.long ++ [{ op := 0x500, res := fld (r.w 0) 5 0, req := r }] } } true) :=
    congrArg Host.Outcome.next (runOp_of_silent acc ((if_neg (by rw [has']; decide)).trans ((needStep_of_released _ released').trans
      ((if_neg (by rw [enabled', own']; decide)).trans (if_neg (by rw [free']; decide))))))
  rw [runs]
  clear runs has' released' arm
  generalize s.startCmd 0x500 r = u at enabled' own' free'
  obtain ⟨step, trained⟩ := lane_retrain (by omega) enabled' own'
  have desk := desk_retrain u (fld (r.w 0) 5 0)
  generalize u.retrain (fld (r.w 0) 5 0) = v at step trained desk
  have long : v.ports.long = u.ports.long := State.long_of_desk desk
  have lane : ((v.modLane (fld (r.w 0) 5 0) fun l => { l with lastStep := 0 }).lane (fld (r.w 0) 5 0)) =
      { v.lane (fld (r.w 0) 5 0) with lastStep := 0 } := by
    rw [State.modLane, State.lane_setLane, if_pos rfl]
  have long' : (v.modLane (fld (r.w 0) 5 0) fun l => { l with lastStep := 0 }).ports.long = u.ports.long := long
  generalize v.modLane (fld (r.w 0) 5 0) (fun l => { l with lastStep := 0 }) = x at lane long'
  have link (w : State) : (w.endCmd true).link = w.link := by rw [State.endCmd_frame]
  refine ⟨_, rfl, ?_, ?_, ?_, ?_⟩
  · rw [lane_congr (link _)]
    exact (congrArg Lane.step lane).trans step
  · rw [lane_congr (link _)]
    exact (congrArg Lane.trained lane).trans trained
  · rw [lane_congr (link _)]
    exact congrArg Lane.lastStep lane
  · rw [State.trainRun, State.long_of_desk (State.endCmd_desk _ true), long']
    have none_ : u.ports.long.find? (fun l => l.op == 0x500 && l.res == fld (r.w 0) 5 0) = none := free'
    rw [List.find?_append, none_, Option.none_or, List.find?_cons_of_pos (by simp)]

theorem linkTrainTimeout_replies {n : Nat} {s : State} (l : Long) (runs : s.trainRun n = some l) : ∃ u : State,
    exec (.linkTrainTimeout n) s = .next (u.reply 0x500 l.req { status := .ok, param := (s.lane n).lastStep }) ∧
      u.ports.long = s.ports.long.erase l ∧ u.link = s.link := by
  have arm : exec (.linkTrainTimeout n) s = .next (s.endTrain n) := rfl
  rw [arm, State.endTrain, runs]
  exact ⟨{ s with ports := { s.ports with long := s.ports.long.erase l } }, rfl, rfl, rfl⟩

theorem rosterLoad_waits {r : Req} {n : Nat} {s : State} (released : s.rel 8 = true)
    (acc : Accepts s 0x502 r (r.len == 2 || r.len == 3 + cdiv (fld (r.w 1) 31 24 + 1) 2)) (names : fld (r.w 0) 5 0 = n)
    (has : s.hasLane n = true) (free : s.sched.commit = false) (good : r.len ≠ 2 → 16 ≤ (rosterOfWords r.payload).slotFlits ∧
      rosterFits (s.genOf n) s.time.period.toNat (rosterOfWords r.payload) = true) :
    ∃ u : State, exec (.rosterLoad r) s = .next (ran 0x502 r { status := .ok } u) ∧
      SMap.find u.sched.rosterDue (2 * n + fld (r.w 0) 8 8) = some (if r.len = 2 then none else some (rosterOfWords r.payload)) ∧
      u.link = s.link := by
  subst names
  refine ⟨(s.startCmd 0x502 r).setSched fun q =>
    { q with rosterDue := SMap.put q.rosterDue (2 * fld (r.w 0) 5 0 + fld (r.w 0) 8 8)
               (if r.len = 2 then none else some (rosterOfWords r.payload)) }, congrArg Host.Outcome.next (runOp_of_answer acc ?_), ?_, rfl⟩
  · have has' : (s.startCmd 0x502 r).hasLane (fld (r.w 0) 5 0) = true := has
    have released' : (s.startCmd 0x502 r).rel 8 = true := released
    have free' : (s.startCmd 0x502 r).sched.commit = false := free
    have good' : r.len ≠ 2 → 16 ≤ (rosterOfWords r.payload).slotFlits ∧ rosterFits ((s.startCmd 0x502 r).genOf (fld (r.w 0) 5 0))
      (s.startCmd 0x502 r).time.period.toNat (rosterOfWords r.payload) = true := good
    generalize s.startCmd 0x502 r = u at has' released' free' good'
    refine (if_neg ?_).trans ((needStep_of_released _ released').trans (if_neg (by rw [free']; decide)))
    rintro (absent | ⟨some_, short | wide⟩)
    · exact Bool.false_ne_true (absent.symm.trans has')
    · exact absurd (good' some_).1 (by omega)
    · exact Bool.false_ne_true (wide.symm.trans (good' some_).2)
  · exact (SMap.find_put _ _ _ _).trans (if_pos rfl)

theorem rosterRead_tells {r : Req} {s : State} (released : s.rel 8 = true) (ro : Option Roster) (acc : Accepts s 0x503 r true)
    (has : s.hasLane (r.p 5 0) = true) (bank : ro = (if r.p 8 8 = 0 then (s.lane (r.p 5 0)).tx else (s.lane (r.p 5 0)).rx)) :
    exec (.rosterRead r) s = .next (ran 0x503 r { status := .ok, payload := rosterWords (r.p 5 0) (r.p 8 8) ro } (s.startCmd 0x503 r)) := by
  subst bank
  refine congrArg Host.Outcome.next (runOp_of_answer acc ((if_neg ?_).trans
    (needStep_of_released _ (show (s.startCmd 0x503 r).rel 8 = true from released))))
  rw [show (s.startCmd 0x503 r).hasLane (r.p 5 0) = true from has]
  decide

theorem deepIdleEnter_sleeps {port n : Nat} {s : State} (can : canWrite s port 8 = true) (has : s.hasLane n = true)
    (on : (s.lane n).trained = true) (revised : 2 ≤ (s.lane n).rev.toNat) (notUp : ¬(n = 0 ∧ s.mode = 3))
    (unforwarded : ∀ k, k < 48 → s.f (.lkLCfg k) 21 16 ≠ n ∧ s.fw (.lkLCfg k) 21 16 ≠ n) (quiet : s.emitsOn n = false) :
    ∃ t, exec (.deepIdleEnter port n) s = .next t ∧ (t.lane n).deep = true ∧ (t.lane n).step = 6 ∧ (t.lane n).trained = false ∧
      Out.sleep n ∈ t.out ∧ (t.reg (.lkLCfg n)).getLsbD 28 = true := by
  have arm : exec (.deepIdleEnter port n) s = execDeepIdleEnter port n s := rfl
  have runs : (canWrite s port 8 && s.hasLane n) = true := by rw [can, has]; rfl
  have none_ : ((List.range 48).any fun k => s.f (.lkLCfg k) 21 16 == n || s.fw (.lkLCfg k) 21 16 == n) = false := by
    rw [List.any_eq_false]
    intro k listed
    obtain ⟨inForce, written⟩ := unforwarded k (List.mem_range.mp listed)
    rw [beq_eq_false_iff_ne.mpr inForce, beq_eq_false_iff_ne.mpr written]
    decide
  have allowed : ¬(((s.lane n).trained = true ∧ (s.lane n).rev.toNat < 2) ∨ (n = 0 ∧ s.mode = 3) ∨
      ((List.range 48).any fun k => s.f (.lkLCfg k) 21 16 == n || s.fw (.lkLCfg k) 21 16 == n) = true) := by
    rintro (⟨-, old⟩ | up | forwards)
    · omega
    · exact notUp up
    · exact Bool.false_ne_true (none_.symm.trans forwards)
  rw [arm, execDeepIdleEnter, if_pos runs, wrDeep, if_pos rfl, State.goDeep]
  dsimp only
  rw [if_neg allowed, quiet, if_neg Bool.false_ne_true, on, if_neg (by decide)]
  generalize flushed : State.modLane _ n _ = u
  have lane : (u.lane n).deep = true ∧ (u.lane n).step = 6 ∧ (u.lane n).trained = false := by
    rw [← flushed, State.modLane, State.lane_setLane, if_pos rfl]
    exact ⟨rfl, rfl, rfl⟩
  have sent : Out.sleep n ∈ u.out := by
    rw [← flushed]
    exact List.mem_append_right _ (List.mem_singleton.mpr rfl)
  clear flushed
  obtain ⟨⟨v, same⟩, bit, out⟩ := setDeep_frame u n true
  refine ⟨_, rfl, ?_, ?_, ?_, out ▸ sent, bit⟩
  · exact (congrArg Lane.deep same).trans lane.1
  · exact (congrArg Lane.step same).trans lane.2.1
  · exact (congrArg Lane.trained same).trans lane.2.2

theorem deepIdleWake_wakes {port n : Nat} {s : State} (can : canWrite s port 8 = true) (has : s.hasLane n = true)
    (deep : (s.lane n).deep = true) : ∃ t, exec (.deepIdleWake port n) s = .next t ∧ (t.lane n).deep = false ∧ (t.lane n).step = 1 ∧
      (t.lane n).wake = true ∧ (t.reg (.lkLCfg n)).getLsbD 28 = false := by
  have arm : exec (.deepIdleWake port n) s = execDeepIdleWake port n s := rfl
  have runs : (canWrite s port 8 && s.hasLane n) = true := by rw [can, has]; rfl
  rw [arm, execDeepIdleWake, if_pos runs, wrDeep, if_neg Bool.false_ne_true, State.wakeLane, if_pos deep]
  generalize woken : s.modLane n (·.atStep1 true) = u
  have lane : u.lane n = (s.lane n).atStep1 true := by rw [← woken, State.modLane, State.lane_setLane, if_pos rfl]
  clear woken
  obtain ⟨⟨v, same⟩, bit, -⟩ := setDeep_frame u n false
  refine ⟨_, rfl, ?_, ?_, ?_, bit⟩
  · exact (congrArg Lane.deep same).trans (congrArg Lane.deep lane)
  · exact (congrArg Lane.step same).trans (congrArg Lane.step lane)
  · exact (congrArg Lane.wake same).trans (congrArg Lane.wake lane)

theorem sleep_follows {n : Nat} {s : State} (carries : s.carries n = true) (revised : 2 ≤ (s.lane n).rev.toNat) :
    ∃ t, exec (.sleep n) s = .next t ∧ (t.lane n).deep = true ∧ (t.lane n).step = 6 ∧ (t.lane n).trained = false := by
  have arm : exec (.sleep n) s = execSleep n s := rfl
  rw [arm, execSleep]
  dsimp only
  rw [carries, if_neg (by decide), if_neg (by omega)]
  generalize fell : State.modLane _ n _ = u
  have lane : (u.lane n).deep = true ∧ (u.lane n).step = 6 ∧ (u.lane n).trained = false := by
    rw [← fell, State.modLane, State.lane_setLane, if_pos rfl]
    exact ⟨rfl, rfl, rfl⟩
  clear fell
  split
  · refine ⟨_, rfl, ?_⟩
    rw [lane_congr (enterHoldover_link u)]
    exact lane
  · exact ⟨_, rfl, lane⟩

/-- A step of bring-up that is not the last (R364). -/
theorem bringupStep_advances {n : Nat} {s : State} (released : s.rel 8 = true) (clock : s.link.refclk = true)
    (scan : scanCode s.test.ir = false) (has : s.hasLane n = true) (own : (s.lane n).uplink = false) (low : 1 ≤ (s.lane n).step)
    (high : (s.lane n).step ≤ 4) (more : (s.lane n).step ≠ 4)
    (met : (s.lane n).step = 3 → ∃ c, (s.lane n).cap = some c ∧ c.seen = true) : ∃ t, exec (.bringupStepComplete n) s = .next t ∧
      t.link = (s.modLane n fun l => { l with step := l.step + 1, lastStep := l.step }).link ∧
      (n ≠ 0 ∨ (s.lane n).step ≠ 3 → t.time = s.time) ∧
      (n = 0 → (s.lane n).step = 3 → s.follower = true → s.clocks.fallback = false → s.time.state = 0 → t.time.state = 1) := by
  have arm : exec (.bringupStepComplete n) s = execBringupStepComplete n s := rfl
  have runs : ¬((!s.rel 8 || !s.link.refclk || scanCode s.test.ir || !s.hasLane n || (s.lane n).uplink ||
      decide ((s.lane n).step < 1 ∨ 4 < (s.lane n).step)) = true) := by
    rw [released, clock, scan, has, own, decide_eq_false (by omega)]
    decide
  have seen : ¬((s.lane n).step = 3 ∧ ((s.lane n).cap.any (·.seen)) = false) := by
    rintro ⟨three, blind⟩
    obtain ⟨c, cap, sees⟩ := met three
    rw [cap] at blind
    exact Bool.false_ne_true (blind.symm.trans sees)
  rw [arm, execBringupStepComplete]
  dsimp only
  rw [if_neg runs, if_neg seen, if_neg more]
  by_cases last : n = 0 ∧ (s.lane n).step = 3
  · rw [if_pos last, State.acquire]
    refine ⟨_, rfl, ?_, fun elsewhere => absurd last (by omega), fun _ _ follows apart idle => ?_⟩
    · split <;> rfl
    · rw [if_pos ⟨follows, idle, apart⟩]
      rfl
  · rw [if_neg last]
    exact ⟨_, rfl, rfl, fun _ => rfl, fun zero three => absurd ⟨zero, three⟩ last⟩

theorem bringupStep_trains {n : Nat} {s : State} (released : s.rel 8 = true) (clock : s.link.refclk = true)
    (scan : scanCode s.test.ir = false) (has : s.hasLane n = true) (own : (s.lane n).uplink = false) (last : (s.lane n).step = 4) :
    ∃ t, exec (.bringupStepComplete n) s = .next t ∧ (t.lane n).trained = true ∧ (t.lane n).step = 5 ∧
      (t.reg .lkEvents).getLsbD 0 = true := by
  have arm : exec (.bringupStepComplete n) s = execBringupStepComplete n s := rfl
  have runs : ¬((!s.rel 8 || !s.link.refclk || scanCode s.test.ir || !s.hasLane n || (s.lane n).uplink ||
      decide ((s.lane n).step < 1 ∨ 4 < (s.lane n).step)) = true) := by
    rw [released, clock, scan, has, own, decide_eq_false (by omega)]
    decide
  rw [arm, execBringupStepComplete]
  dsimp only
  rw [if_neg runs, if_neg (by omega), if_pos last, State.trainLane]
  dsimp only
  generalize risen : State.raise _ 15 0 (at32 0 n) = u
  have lane : (u.lane n).trained = true ∧ (u.lane n).step = 5 := by
    rw [← risen, lane_congr (State.raise_link _ _ _ _), State.modLane, State.lane_setLane, if_pos rfl]
    exact ⟨rfl, rfl⟩
  have event : (u.reg .lkEvents).getLsbD 0 = true := by
    rw [← risen]
    exact State.reg_raise_own_bit _ 15 0 0 _ _ rfl (by decide)
  clear risen
  obtain ⟨lanes, regs, -⟩ := endTrain_only u n
  obtain ⟨cs, same⟩ := lanes n
  refine ⟨_, rfl, ?_, ?_, ?_⟩
  · rw [same]; exact lane.1
  · rw [same]; exact lane.2
  · rw [regs]; exact event

theorem bringup_restarts {n : Nat} {s : State} (released : s.rel 8 = true) (has : s.hasLane n = true) (own : (s.lane n).uplink = false)
    (high : (s.lane n).step ≤ 4) (enabled : s.laneEn n = true) :
    (1 ≤ (s.lane n).step → ∃ t, exec (.bringupTimeout n) s = .next t ∧ (t.lane n).step = 1 ∧ (t.lane n).trained = false) ∧
    (2 ≤ (s.lane n).step → ∃ t, exec (.bringupSignalLoss n) s = .next t ∧ (t.lane n).step = 1 ∧ (t.lane n).trained = false) := by
  have again := lane_retrain (s := s) (n := n) (by have := below_of_hasLane has; omega) enabled own
  refine ⟨fun low => ⟨_, congrArg Host.Outcome.next (if_pos ?_), again⟩, fun low => ⟨_, congrArg Host.Outcome.next (if_pos ?_), again⟩⟩
  · rw [released, decide_eq_true ⟨low, high⟩]
    rfl
  · rw [released, decide_eq_true ⟨low, high⟩]
    rfl

theorem laneDown_drops {n : Nat} {s : State} (on : (s.lane n).trained = true) : ∃ t, exec (.laneDown n) s = .next t ∧
    (t.lane n).trained = false ∧ (t.reg .lkEvents).getLsbD 1 = true ∧
    (s.laneEn n = true → (s.lane n).uplink = false → (t.lane n).step = 1) ∧
    (n = 0 → s.follower = true → s.time.state = 2 → t.time.state = 3) := by
  obtain ⟨event, held⟩ := untrain_events on
  refine ⟨s.dropLane n, congrArg Host.Outcome.next (if_pos on), ?_, event, lane_dropLane, held⟩
  rw [State.dropLane, trained_startLane, trained_untrain, if_pos rfl]

theorem laneRefclkLost_drops {s : State} (released : s.rel 8 = true) : ∃ t, exec .laneRefclkLost s = .next t ∧ t.link.refclk = false ∧
    (∀ k, k < 48 → (t.lane k).trained = false) ∧ (t.reg .lkEvents).getLsbD 6 = true := by
  refine ⟨_, congrArg Host.Outcome.next (if_neg (by rw [show State.rel (s.setLink _) 8 = true from released]; decide)), ?_,
    fun k low => ?_, State.reg_raise_own_bit _ 15 6 6 _ _ rfl (by decide)⟩
  · rw [State.raise_link, refclk_dropLanes, refclk_refclkRetrain]
    rfl
  · rw [lane_congr (State.raise_link _ _ _ _), (trained_dropLanes _ _ k).1, if_pos (List.mem_range.mpr low)]

theorem laneRefclkReturn_starts (n : Nat) {s : State} (released : s.rel 8 = true) : ∃ t, exec .laneRefclkReturn s = .next t ∧
    t.link.refclk = true ∧ (n < s.res.lanes → s.laneEn n = true → (s.lane n).uplink = false → (s.lane n).trained = false →
      (s.lane n).deep = false → (t.lane n).step = 1) ∧ ((s.lane n).trained = true → t.lane n = s.lane n) := by
  obtain ⟨refclk, trained, started⟩ := startLanes_frame n (List.range s.res.lanes) (s.setLink fun l => { l with refclk := true })
  refine ⟨_, congrArg Host.Outcome.next (if_neg (by rw [show State.rel (s.setLink _) 8 = true from released]; decide)), refclk,
    fun low enabled own off awake => started ⟨enabled, own, off, awake⟩ (Or.inr (List.mem_range.mpr low)), trained⟩

theorem linkUnknown_counts {n : Nat} {b : Byte} {s : State} (released : s.rel 8 = true) (has : s.hasLane n = true)
    (own : (s.lane n).uplink = false) (strange : b.toNat = 0 ∨ 10 < b.toNat) :
    exec (.linkUnknown n b) s = .next (s.bump (laneCnt n 14) 1) := by
  have notTen : (b == 0x0A) = false := beq_eq_false_iff_ne.mpr fun ten => by
    have : b.toNat = 10 := by rw [ten]; rfl
    omega
  refine congrArg Host.Outcome.next (if_pos ?_)
  rw [released, has, own, notTen, decide_eq_false (by omega)]
  rfl

theorem cap_kept_in_step3 {n : Nat} {q : Cap} {s : State} (released : s.rel 8 = true) (own : (s.lane n).uplink = false)
    (off : (s.lane n).trained = false) (three : (s.lane n).step = 3) :
    exec (.cap n q) s = .next (s.modLane n fun l => { l with cap := some q, farNode := q.node }) :=
  congrArg Host.Outcome.next ((if_neg (by rw [released, own]; decide)).trans ((if_neg (by rw [off]; decide)).trans (if_pos three)))

theorem cdcDrop_carriage {n : Nat} {s : State} (stopped : s.laneStopped n = true) :
    ∃ t, exec (.cdcDrop n true) s = .next t ∧ (t.lane n).carriage = dropPacket (s.lane n).carriage := by
  refine ⟨_, congrArg Host.Outcome.next ((if_neg (by rw [stopped]; decide)).trans (if_pos rfl)), ?_⟩
  rw [State.modLane, State.lane_setLane, if_pos rfl, lane_congr (State.bump_link s 0x48 1)]

theorem cdcDrop_curd {n : Nat} {s : State} (stopped : s.laneStopped n = true) :
    ∃ t, exec (.cdcDrop n false) s = .next t ∧ (t.lane n).sending = none ∧ (t.lane n).carriage = (s.lane n).carriage := by
  have arm : exec (.cdcDrop n false) s = execCdcDrop n false s := rfl
  rw [arm, execCdcDrop, stopped, if_neg (by decide)]
  have link : (s.bump 0x48 1).link = s.link := State.bump_link _ _ _
  dsimp only
  rw [if_neg Bool.false_ne_true]
  generalize s.bump 0x48 1 = u at link
  have lane : u.lane n = s.lane n := lane_congr link n
  cases sends : (u.lane n).sending with
  | none => exact ⟨_, rfl, sends, congrArg Lane.carriage lane⟩
  | some c =>
    dsimp only
    have cleared : (u.modLane n fun l => { l with sending := none }).lane n = { s.lane n with sending := none } := by
      rw [State.modLane, State.lane_setLane, if_pos rfl, lane]
    generalize u.modLane n (fun l => { l with sending := none }) = v at cleared
    cases v.pathOf c.rind.stream with
    | none => exact ⟨_, rfl, by rw [cleared], by rw [cleared]⟩
    | some p =>
      refine ⟨_, rfl, ?_, ?_⟩
      · rw [lane_congr (State.lose_link v p c)]
        rw [cleared]
      · rw [lane_congr (State.lose_link v p c)]
        rw [cleared]

/-- Settles O59: one theorem for each clause. -/
theorem lanesTrainSleepAndTakeTheirSettings : Obligations.LanesTrainSleepAndTakeTheirSettings := by
  intro r n port s released
  refine ⟨fun acc some_ own fresh t named fits => ?_, fun acc => ⟨featureEpoch_prepare acc released, featureEpoch_commit acc released,
    featureEpoch_cancel acc released⟩, epochSwitch_switches, linkTrain_restarts released, linkTrainTimeout_replies, fun acc => ?_,
    fun ws acc values => ?_, rosterLoad_waits released, rosterRead_tells released, fun can has => ⟨deepIdleEnter_sleeps can has,
    deepIdleWake_wakes can has⟩, sleep_follows, fun clock deep => ?_, fun clock scan has own low high => ?_, laneDown_drops,
    laneRefclkLost_drops released, laneRefclkReturn_starts n released, fun b has own strange => linkUnknown_counts released has own strange,
    fun q own off three => cap_kept_in_step3 released own off three, fun stopped => ⟨cdcDrop_carriage stopped, cdcDrop_curd stopped⟩⟩
  · refine ⟨exec_enumerate acc some_ own fresh named fits, fun low carries => ⟨mem_sendCaps low ?_, ?_⟩⟩
    · rw [named]
      exact carries
    · rw [named]
      rfl
  · exact congrArg Host.Outcome.next (runOp_of_answer acc (needStep_of_released _ (show (s.startCmd 0x501 r).rel 8 = true from released)))
  · rw [values]
    exact congrArg Host.Outcome.next (runOp_of_answer acc (needStep_of_released _ (show (s.startCmd 0x504 r).rel 8 = true from released)))
  · exact congrArg Host.Outcome.next ((if_pos (by rw [released, clock]; rfl)).trans (if_pos deep))
  · exact ⟨bringupStep_advances released clock scan has own low high, bringupStep_trains released clock scan has own,
      fun enabled => (bringup_restarts released has own high enabled).1 low, fun enabled => (bringup_restarts released has own high enabled).2⟩

end Sys2Proof.Claims
end

section
/-!
SUPPORT. What arriving flits do, with the statement on them (R363, R369 to R384).
-/
open Sys2Proof

namespace Sys2Proof.Machine
open Sys2Proof.Claims

-- counters --------------------------------------------------------------------------------------------------------------------------------

/-- A counter that no notice counts: not a port's dropped notices, not the uplink's datagrams. -/
def Unnoticed (a : Nat) : Prop := (∀ p, p < 5 → a ≠ 0x50020 + p * 0x40) ∧ a ≠ 0x580108

theorem cnt_bumpRaw (s : State) (a b n : Nat) : (s.bumpRaw b n).cnt a = if a = b then (s.cnt b).add n else s.cnt a := by
  rw [State.cnt, State.bumpRaw, SMap.get_set]
  rfl

theorem cnt_notifyPort {a : Nat} (plain : Unnoticed a) (s : State) {p : Nat} (low : p < 5) (block code : Nat) (w : Word) (ct : CT) :
    (s.notifyPort p block code w ct).cnt a = s.cnt a := by
  obtain ⟨notPort, notUplink⟩ := plain
  simp only [State.notifyPort]
  split
  · rfl
  · split
    · exact (cnt_bumpRaw _ a 0x580108 1).trans (if_neg notUplink)
    · split
      · exact (cnt_bumpRaw _ a _ 1).trans (if_neg (notPort p low))
      · rfl

theorem cnt_notify {a : Nat} (plain : Unnoticed a) (s : State) (block code : Nat) (w : Word) : (s.notify block code w).cnt a = s.cnt a := by
  have each (ct : CT) (l : List Nat) (low : ∀ p, p ∈ l → p < 5) : ∀ t : State,
      (l.foldl (fun s p => s.notifyPort p block code w ct) t).cnt a = t.cnt a := by
    induction l with
    | nil => exact fun _ => rfl
    | cons p l ih =>
      exact fun t => (ih (fun q listed => low q (List.mem_cons_of_mem _ listed)) _).trans
        (cnt_notifyPort plain t (low p List.mem_cons_self) block code w ct)
  have ports (q : Nat → Bool) (p : Nat) (listed : p ∈ [0, 1, 2, 3, 4].filter q) : p < 5 := by
    have := (List.mem_filter.mp listed).1
    simp only [List.mem_cons, List.not_mem_nil, or_false] at this
    omega
  unfold State.notify
  split
  · rfl
  · simp only [State.notifyPorts]
    split
    · exact each _ _ (ports _) s
    · rfl

theorem cnt_raise {a : Nat} (plain : Unnoticed a) (s : State) (block code : Nat) (w : Word) : (s.raise block code w).cnt a = s.cnt a := by
  rw [State.raise, cnt_notify plain]
  split <;> rfl

theorem cnt_bump {a : Nat} (plain : Unnoticed a) (s : State) (b n : Nat) : (s.bump b n).cnt a = if a = b then (s.cnt b).add n else s.cnt a := by
  simp only [State.bump]
  split
  · rw [cnt_notify plain]
    exact cnt_bumpRaw s a b n
  · exact cnt_bumpRaw s a b n

theorem Counter.add_one_value {c : Counter} (room : c.value < cntMax) : (c.add 1).value = c.value + 1 := by
  have below : c.value.toNat < 2 ^ 48 - 1 := by
    have := BitVec.lt_def.mp room
    rwa [BitVec.natCast_eq_ofNat, BitVec.toNat_ofNat, Nat.mod_eq_of_lt (by decide)] at this
  have one : (1 : BitVec 48).toNat = 1 := rfl
  have top : cntMax = 2 ^ 48 - 1 := rfl
  rw [Counter.add]
  apply BitVec.eq_of_toNat_eq
  rw [BitVec.toNat_add, one]
  split
  · rw [BitVec.toNat_ofNat]
    omega
  · rw [BitVec.toNat_ofNat]

-- the stream numbers ------------------------------------------------------------------------------------------------------------------------

/-- What the check of a sequence number leaves: all but the streams that a lane tracks and counters (R370). -/
structure TracksOnly (s t : State) : Prop where
  lanes : ∀ k, ∃ l, t.lane k = { s.lane k with streams := l }
  regs : ∀ q : Reg, q.key ≠ Reg.key .gsCntSat → t.reg q = s.reg q
  time : t.time = s.time
  sched : t.sched = s.sched
  power : t.power = s.power
  unpathed : (t.cnt 0x300020) = (s.cnt 0x300020)

theorem TracksOnly.trans {s t u : State} (first : TracksOnly s t) (second : TracksOnly t u) : TracksOnly s u where
  lanes k := by
    obtain ⟨l, here⟩ := first.lanes k
    obtain ⟨l', there⟩ := second.lanes k
    exact ⟨l', by rw [there, here]⟩
  regs q other := (second.regs q other).trans (first.regs q other)
  time := second.time.trans first.time
  sched := second.sched.trans first.sched
  power := second.power.trans first.power
  unpathed := second.unpathed.trans first.unpathed

theorem unnoticed_unpathed : Unnoticed 0x300020 := ⟨fun p low => by omega, by decide⟩

theorem tracksOnly_bump (s : State) (n k m : Nat) : TracksOnly s (s.bump (laneCnt n k) m) where
  lanes j := ⟨(s.lane j).streams, lane_congr (State.bump_link _ _ _) j⟩
  regs q other := reg_bump_of_ne _ _ _ other
  time := State.bump_time _ _ _
  sched := State.bump_sched _ _ _
  power := State.bump_power _ _ _
  unpathed := (cnt_bump unnoticed_unpathed _ _ _).trans (if_neg (by simp only [laneCnt]; omega))

theorem tracksOnly_streams (s : State) (n : Nat) (l : List (Nat × BitVec 16)) : TracksOnly s (s.modLane n fun x => { x with streams := l }) where
  lanes k := by
    rw [State.modLane, State.lane_setLane]
    by_cases same : k = n
    · rw [if_pos same, same]
      exact ⟨l, rfl⟩
    · rw [if_neg same]
      exact ⟨(s.lane k).streams, rfl⟩
  regs _ _ := rfl
  time := rfl
  sched := rfl
  power := rfl
  unpathed := rfl

theorem tracksOnly_trackSeq (s : State) (n : Nat) (c : Curd) : TracksOnly s (s.trackSeq n c).1 := by
  have streams := tracksOnly_streams s n (noteSeq (s.lane n).streams c.key c.rind.seq).2
  unfold State.trackSeq
  split
  next g l noted =>
  rw [noted] at streams
  dsimp only
  split
  · exact streams
  · split
    · exact streams
    · split
      · exact streams.trans (tracksOnly_bump _ _ _ _)
      · exact streams.trans (tracksOnly_bump _ _ _ _)

section
variable {s t : State} (tracks : TracksOnly s t)
include tracks

theorem TracksOnly.carries (n : Nat) : t.carries n = s.carries n := by
  obtain ⟨l, lane⟩ := tracks.lanes n
  rw [State.carries, State.carries, rel_of_power tracks.power, lane]

theorem TracksOnly.fwdLane (n : Nat) : t.fwdLane n = s.fwdLane n := by
  rw [State.fwdLane, State.fwdLane, State.f, State.f, tracks.regs _ (laneCfg_ne n).1]

theorem TracksOnly.stranger (n : Nat) (c : Curd) : t.stranger n c = s.stranger n c := by
  obtain ⟨l, lane⟩ := tracks.lanes n
  have roster : t.rosterNow n 1 = s.rosterNow n 1 := by
    simp only [State.rosterNow, State.rosterOf, State.f, tracks.regs _ (laneCfg_ne n).1, tracks.time, lane]
    rfl
  simp only [State.stranger, roster, lane]

theorem TracksOnly.pathOf (type : Nat) : t.pathOf type = s.pathOf type := by
  have cfg (p : Nat) : t.reg (.scPathCfg p) = s.reg (.scPathCfg p) := tracks.regs _ fun h => by
    have h' : 0x301000 + p * 0x10 = 0x30 := h
    omega
  have match_ (p : Nat) : t.reg (.scPathMatch p) = s.reg (.scPathMatch p) := tracks.regs _ fun h => by
    have h' : 0x301004 + p * 0x10 = 0x30 := h
    omega
  simp only [State.pathOf, State.b, State.f, cfg, match_]

theorem TracksOnly.isMerged (p : Nat) : t.isMerged p = s.isMerged p := by
  simp only [State.isMerged, State.mergeBit, State.b, tracks.regs .scMergeCfg (by decide), tracks.regs .scMergePathsLo (by decide),
    tracks.regs .scMergePathsHi (by decide)]

theorem TracksOnly.isLate (p : Nat) (c : Curd) : t.isLate p c = s.isLate p c := by
  have cfg : t.reg (.scPathCfg p) = s.reg (.scPathCfg p) := tracks.regs _ fun h => by
    have h' : 0x301000 + p * 0x10 = 0x30 := h
    omega
  simp only [State.isLate, State.pathL, State.pathRemain, State.age, State.f, cfg, tracks.time]
  rfl

theorem TracksOnly.kernelType (type : Nat) : t.kernelType type = s.kernelType type := by
  simp only [State.kernelType, State.ctn, State.fxClusters, State.params, tracks.sched]

theorem TracksOnly.relay {n p : Nat} {c : Curd} (fits : s.relayed + curdBytes c ≤ s.f .lkRelay 28 16 * 4096) :
    (t.relay n p c).sched.held = s.sched.held ++ [{ curd := c, path := p, kind := 1, lane := n, bytes := curdBytes c }] := by
  have room : ¬(t.f .lkRelay 28 16 * 4096 < t.relayed + curdBytes c) := by
    rw [State.f, tracks.regs .lkRelay (by decide), State.relayed, tracks.sched]
    exact Nat.not_lt.mpr fits
  rw [State.relay, if_neg room, State.hold, tracks.sched]

end

-- lanes ---------------------------------------------------------------------------------------------------------------------------------------

theorem lane_modLane (s : State) (n k : Nat) (f : Lane → Lane) : (s.modLane n f).lane k = if k = n then f (s.lane n) else s.lane k :=
  State.lane_setLane s n k _

/-- A curd begins on a lane: it is the one in transmission, and nothing else of the schedule changes. -/
theorem transmit_frame (s : State) (n : Nat) (c : Curd) : ((s.transmit n c).lane n) = { s.lane n with sending := some c } ∧
    (s.transmit n c).sched = s.sched := by
  obtain ⟨lanes, -, -, sched, -⟩ := flushLane_frame s n
  refine ⟨?_, sched⟩
  rw [State.transmit]
  dsimp only
  rw [State.lane_setLane, if_pos rfl, lanes n, if_pos rfl]

theorem unpathed_frame (s : State) (c : Curd) (n : Nat) : (s.unpathed c n).sched = s.sched ∧
    ((s.unpathed c n).reg .scEvents).getLsbD 1 = true ∧
    ((s.cnt 0x300020).value < cntMax → ((s.unpathed c n).cnt 0x300020).value = (s.cnt 0x300020).value + 1) := by
  rw [State.unpathed]
  refine ⟨(State.raise_sched _ _ _ _).trans (State.bump_sched _ _ _), State.reg_raise_own_bit _ 11 1 1 _ _ rfl (by decide), fun room => ?_⟩
  rw [cnt_raise unnoticed_unpathed, cnt_bump unnoticed_unpathed, if_pos rfl]
  exact Counter.add_one_value room

-- slots and triggers --------------------------------------------------------------------------------------------------------------------------

/-- A slot at the transmitter sends its SLOT flit, with FREE 0 where it came with FREE 0 (R372). -/
theorem mem_passSlot (s : State) (n : Nat) (b : Byte) (bit : Bool) (node : BitVec 16) (fn : FN) :
    ∃ f, Out.slot n b f node fn ∈ (s.passSlot n b bit node fn).out ∧ (bit = false → f = false) := by
  simp only [State.passSlot]
  split
  · exact ⟨bit, List.mem_append_right _ (List.mem_singleton.mpr rfl), id⟩
  · split
    · exact ⟨false, List.mem_append_right _ (List.mem_singleton.mpr rfl), fun _ => rfl⟩
    · next free =>
      simp only [State.sendOwned]
      refine ⟨_, List.mem_append_left _ (List.mem_append_right _ (List.mem_singleton.mpr rfl)), fun taken => ?_⟩
      rw [taken] at free
      exact absurd rfl free

theorem mem_slotAt (s : State) (n : Nat) (b : Byte) (bit : Bool) (node : BitVec 16) (fn : FN) :
    ∃ f, Out.slot n b f node fn ∈ (s.slotAt n b bit node fn).out ∧ (bit = false → f = false) := by
  obtain ⟨f, sent, taken⟩ := mem_passSlot s n b bit node fn
  refine ⟨f, ?_, taken⟩
  simp only [State.slotAt]
  split
  · exact sent
  · exact List.mem_append_left _ sent

/-- The TRIG flits that wait leave; the lane is otherwise as it was. -/
theorem flushTrigs_lane (s : State) (n : Nat) : (∀ k, k ≠ n → (s.flushTrigs n).lane k = s.lane k) ∧
    ((s.flushTrigs n).lane n = { s.lane n with trigWait := ((s.flushTrigs n).lane n).trigWait }) ∧ ∀ o, o ∈ s.out → o ∈ (s.flushTrigs n).out := by
  simp only [State.flushTrigs]
  split
  · exact ⟨fun _ _ => rfl, rfl, fun _ => id⟩
  · refine ⟨fun k other => (State.lane_setLane s n k _).trans (if_neg other), ?_, fun o left => List.mem_append_left _ left⟩
    have here : ({ s.setLane n { s.lane n with trigWait := [] } with out := s.out ++ trigOuts n (s.lane n).trigWait } : State).lane n =
      { s.lane n with trigWait := [] } := (State.lane_setLane s n n _).trans (if_pos rfl)
    rw [here]

theorem putTrig_others (s : State) (n : Nat) (x : BitVec 16 × BitVec 10 × CT) : (∀ k, k ≠ n → (s.putTrig n x).lane k = s.lane k) ∧
    ∀ o, o ∈ s.out → o ∈ (s.putTrig n x).out := by
  obtain ⟨others, -, kept⟩ := flushTrigs_lane s n
  simp only [State.putTrig]
  split
  · exact ⟨others, fun o left => List.mem_append_left _ (kept o left)⟩
  · split
    · exact ⟨others, fun o left => List.mem_append_left _ (kept o left)⟩
    · split
      · exact ⟨fun k other => (State.lane_setLane s n k _).trans (if_neg other), fun _ => id⟩
      · exact ⟨fun k other => (State.lane_setLane s n k _).trans (if_neg other), fun o left => List.mem_append_left _ left⟩

/-- A TRIG flit on a lane: it leaves now, or waits where the slot under way takes no more (R372). -/
theorem putTrig_sends (s : State) (n : Nat) (x : BitVec 16 × BitVec 10 × CT) :
    ((s.lane n).slotTrig = none → Out.trig n x.1 x.2.1 x.2.2 ∈ (s.putTrig n x).out) ∧
    ∀ (e : CT) (j : Nat), (s.lane n).slotTrig = some (e, j) →
      ((0 ≤ ctDiff s.time.ct e ∨ 0 < j) → Out.trig n x.1 x.2.1 x.2.2 ∈ (s.putTrig n x).out) ∧
      (ctDiff s.time.ct e < 0 → j = 0 → x ∈ ((s.putTrig n x).lane n).trigWait) := by
  have sent (l : List Out) : Out.trig n x.1 x.2.1 x.2.2 ∈ l ++ trigOuts n [x] := List.mem_append_right _ (List.mem_singleton.mpr rfl)
  refine ⟨fun none_ => ?_, fun e j some_ => ⟨fun room => ?_, fun early full => ?_⟩⟩
  · simp only [State.putTrig, none_]
    exact sent _
  · simp only [State.putTrig, some_]
    by_cases over_ : 0 ≤ ctDiff s.time.ct e
    · rw [if_pos over_]
      exact sent _
    · rw [if_neg over_, if_neg (by omega)]
      exact sent _
  · simp only [State.putTrig, some_]
    rw [if_neg (by omega), if_pos full, State.lane_setLane, if_pos rfl]
    exact List.mem_append_right _ (List.mem_singleton.mpr rfl)

/-- A broadcast over lanes leaves what it does not name, and the outputs. -/
theorem sendTrig_others (origin : BitVec 16) (sources : BitVec 10) (t : CT) (except k : Nat) (ns : List Nat) : ∀ s : State,
    (k ∉ ns → (s.sendTrig origin sources t except ns).lane k = s.lane k) ∧
    ∀ o, o ∈ s.out → o ∈ (s.sendTrig origin sources t except ns).out := by
  induction ns with
  | nil => exact fun _ => ⟨fun _ => rfl, fun _ => id⟩
  | cons n ns ih =>
    intro s
    rw [State.sendTrig]
    split
    · obtain ⟨lanes, out⟩ := putTrig_others s n (origin, sources, t)
      obtain ⟨lanes', out'⟩ := ih (s.putTrig n (origin, sources, t))
      exact ⟨fun absent => (lanes' fun later => absent (List.mem_cons_of_mem _ later)).trans
        (lanes k fun same => absent (same ▸ List.mem_cons_self)), fun o left => out' o (out o left)⟩
    · obtain ⟨lanes', out'⟩ := ih s
      exact ⟨fun absent => lanes' fun later => absent (List.mem_cons_of_mem _ later), out'⟩

/-- What a broadcast does on one of its lanes (R384). -/
theorem sendTrig_sends (origin : BitVec 16) (sources : BitVec 10) (t : CT) {except k : Nat} (apart : k ≠ except) (ns : List Nat) :
    ns.Nodup → k ∈ ns → ∀ s : State, s.carries k = true → s.b (.lkLCfg k) 24 = true →
    ((s.lane k).slotTrig = none → Out.trig k origin sources t ∈ (s.sendTrig origin sources t except ns).out) ∧
    ∀ (e : CT) (j : Nat), (s.lane k).slotTrig = some (e, j) →
      ((0 ≤ ctDiff s.time.ct e ∨ 0 < j) → Out.trig k origin sources t ∈ (s.sendTrig origin sources t except ns).out) ∧
      (ctDiff s.time.ct e < 0 → j = 0 → (origin, sources, t) ∈ ((s.sendTrig origin sources t except ns).lane k).trigWait) := by
  induction ns with
  | nil => exact fun _ listed => absurd listed List.not_mem_nil
  | cons n ns ih =>
    intro distinct listed s live takes
    obtain ⟨fresh, distinct'⟩ := List.nodup_cons.mp distinct
    rw [State.sendTrig]
    by_cases same : n = k
    · subst same
      rw [if_pos ⟨apart, live, takes⟩]
      obtain ⟨now, slot⟩ := putTrig_sends s n (origin, sources, t)
      obtain ⟨kept, left⟩ := sendTrig_others origin sources t except n ns (s.putTrig n (origin, sources, t))
      refine ⟨fun none_ => left _ (now none_), fun e j some_ => ?_⟩
      obtain ⟨leaves, waits⟩ := slot e j some_
      exact ⟨fun room => left _ (leaves room), fun early full => by rw [kept fresh]; exact waits early full⟩
    · have later : k ∈ ns := (List.mem_cons.mp listed).resolve_left fun h => same h.symm
      split
      · have lane : (s.putTrig n (origin, sources, t)).lane k = s.lane k := (putTrig_others s n _).1 k fun h => same h.symm
        have time : (s.putTrig n (origin, sources, t)).time = s.time := by rw [State.putTrig_frame]
        have live' : (s.putTrig n (origin, sources, t)).carries k = true := by
          rw [State.carries, lane, rel_of_power (by rw [State.putTrig_frame])]
          exact live
        have takes' : (s.putTrig n (origin, sources, t)).b (.lkLCfg k) 24 = true := by
          rw [State.putTrig_frame]
          exact takes
        have there := ih distinct' later (s.putTrig n (origin, sources, t)) live' takes'
        rw [lane, time] at there
        exact there
      · exact ih distinct' later s live takes

theorem lane_setTime (s : State) (f : Time → Time) (k : Nat) : (s.setTime f).lane k = s.lane k := rfl

theorem lane_raise (s : State) (block code : Nat) (w : Word) (k : Nat) : (s.raise block code w).lane k = s.lane k :=
  lane_congr (State.raise_link _ _ _ _) k

theorem lane_clearAligned (s : State) (k : Nat) : s.clearAligned.lane k = s.lane k := by
  simp only [State.clearAligned]
  split
  · rw [lane_raise, lane_setTime, lane_setTime]
  · exact lane_setTime _ _ _

theorem lane_lock (s : State) (k : Nat) : s.lock.lane k = s.lane k := by
  unfold State.lock
  split
  · rfl
  · rw [lane_raise, lane_setTime]

theorem lane_stepPulses (old new : CT) (k : Nat) (ks : List Nat) : ∀ s : State, (s.stepPulses old new ks).lane k = s.lane k := by
  induction ks with
  | nil => exact fun _ => rfl
  | cons j ks ih =>
    intro s
    simp only [State.stepPulses]
    rw [ih]
    split
    · rw [lane_raise, lane_setTime]
    · rw [lane_setTime]

theorem lane_stepCompare (s : State) (c : CT) (k : Nat) : (s.stepCompare c).lane k = s.lane k := by
  refine lane_congr ?_ k
  simp only [State.stepCompare]
  split
  · rfl
  · split
    · rw [State.raise_link]
    · rfl

theorem lane_shiftChans (s : State) (d : CT) (k : Nat) : (s.shiftChans d).lane k = s.lane k := by
  rw [State.shiftChans, State.lane, State.lane]

theorem lane_stepCt (s : State) (c : CT) (epoch : Word) (k : Nat) : (s.stepCt c epoch).lane k = s.lane k := by
  simp only [State.stepCt]
  rw [lane_stepCompare, lane_stepPulses, lane_raise, lane_setTime, lane_shiftChans]

theorem lane_dropCommit (s : State) (k : Nat) : s.dropCommit.lane k = s.lane k := rfl

theorem lane_takeFrame (s : State) (k : Nat) : s.takeFrame.lane k = s.lane k := by
  have drawn (c : Prop) [Decidable c] : (if c then s else s.draw).lane k = s.lane k := by
    split <;> rfl
  unfold State.takeFrame
  dsimp only
  split
  · rfl
  · rw [lane_dropCommit, lane_setTime, drawn]

/-- The servo steers the time core and touches no lane (R149). -/
theorem lane_servo (s : State) (k : Nat) : s.servo.lane k = s.lane k := by
  simp only [State.servo]
  split
  · rfl
  · generalize averaged : State.draw _ = u
    have lane : u.lane k = s.lane k := averaged ▸ rfl
    clear averaged
    rw [← lane]
    split
    · split
      · rw [lane_setTime, lane_takeFrame, lane_stepCt]
      · split
        · split
          · rw [lane_lock, lane_setTime]
          · rw [lane_setTime]
        · rw [lane_setTime]
    · split
      · rw [lane_clearAligned, lane_setTime]
      · rfl
    · split
      · rw [lane_clearAligned, lane_setTime]
      · rw [lane_lock]
    · rfl

/-- The servo waits for its averages (R149). -/
theorem servo_waits {s : State} (few : s.time.thetas.length < 2 ^ s.f .tcSrcCfg 11 8) : s.servo = s := by
  simp only [State.servo]
  rw [decide_eq_true few, Bool.or_true, if_pos rfl]

/-- The frame taken afresh from upstream: its period, its origin in the present frame and FN (R13, R453). -/
theorem takeFrame_takes {s : State} (seen : s.time.upSeen = true) (positive : 0 < s.time.upPeriod.toNat) :
    s.takeFrame.time.taken = true ∧ s.takeFrame.time.period = s.time.upPeriod ∧ ∃ o : Nat, o < 2 ^ 87 ∧
      s.takeFrame.time.org = BitVec.ofNat 87 o ∧ s.takeFrame.time.fn = s.time.upFn +
        BitVec.ofInt 48 (((s.time.e : Int) - o) / s.time.upPeriod.toNat - ((s.frameSent : Int) - o) / s.time.upPeriod.toNat) := by
  have small := s.time.upPeriod.isLt
  have whole : max s.time.upPeriod.toNat 1 = s.time.upPeriod.toNat := by omega
  have kept (u : State) : u.dropCommit.time = u.time := rfl
  simp only [State.takeFrame, seen, whole]
  generalize decide (sdiff 48 s.time.upFn.toNat (s.frameSent / s.time.upPeriod.toNat) = 0) = near
  cases near
  · simp only [Bool.not_true, Bool.false_eq_true, if_false, kept, State.setTime_time, State.draw_time]
    refine ⟨trivial, trivial, s.freeVal % s.time.upPeriod.toNat, ?_, rfl, rfl⟩
    have := Nat.mod_lt s.freeVal positive
    omega
  · simp only [Bool.not_true, Bool.false_eq_true, if_false, if_true, kept, State.setTime_time]
    exact ⟨trivial, trivial, 0, by decide, rfl, rfl⟩

/-- What upstream said stays as it came. -/
theorem takeFrame_upstream (s : State) : s.takeFrame.time.upPeriod = s.time.upPeriod ∧ s.takeFrame.time.upFn = s.time.upFn ∧
    s.takeFrame.time.upEpoch = s.time.upEpoch ∧ s.takeFrame.time.upAligned = s.time.upAligned := by
  have kept (u : State) : u.dropCommit.time = u.time := rfl
  have drawn (c : Prop) [Decidable c] : (if c then s else s.draw).time = s.time := by split <;> rfl
  unfold State.takeFrame
  dsimp only
  split
  · exact ⟨rfl, rfl, rfl, rfl⟩
  · simp only [kept, State.setTime_time, drawn, and_self]

/-- The arbiter leaves the link and what was sent. -/
theorem arbiter_frame (s : State) (c : Cand) : (s.arbiter c).link = s.link ∧ ∀ o, o ∈ s.out → o ∈ (s.arbiter c).out := by
  simp only [State.arbiter, State.arbiterAt]
  split
  · exact ⟨(State.raise_link _ _ _ _).trans (State.bump_link _ _ _), fun o left => mem_out_raise _ _ _ _ (mem_out_bump _ _ _ left)⟩
  · exact ⟨rfl, fun _ => id⟩

end Sys2Proof.Machine

namespace Sys2Proof.Claims
open Sys2Proof.Machine

/-- A curd that passes the checks of R369, with its number tracked, is forwarded or settled. -/
theorem exec_curdReceive {n : Nat} {c : Curd} {s : State} (carries : s.carries n = true) (hears : (s.lane n).deaf = false)
    (some_ : c.rind.length ≠ 0) (whole : c.payload.length = c.rind.length.toNat) (plain : isCarriage c = false) :
    ∃ t g, TracksOnly s t ∧
      (∀ k, s.fwdLane n = some k → s.carries k = true → exec (.curdReceive n c true) s = .next (t.transmit k c)) ∧
      (s.fwdLane n = none → exec (.curdReceive n c true) s = .next (t.settleCurd n c g)) := by
  have tracks := (tracksOnly_bump s n 0 1).trans (tracksOnly_trackSeq (s.bump (laneCnt n 0) 1) n c)
  have arm : exec (.curdReceive n c true) s = execCurdReceive n c true s := rfl
  have good : ¬((!true || c.rind.length == 0 || decide (c.payload.length ≠ c.rind.length.toNat)) = true) := by
    rw [beq_eq_false_iff_ne.mpr some_, decide_eq_false (not_not_intro whole)]
    decide
  rw [arm, execCurdReceive, if_neg (by rw [carries, hears]; decide), if_neg good]
  dsimp only
  generalize (s.bump (laneCnt n 0) 1).trackSeq n c = x at tracks
  obtain ⟨u, g⟩ := x
  refine ⟨u, g, tracks, fun k forwards live => ?_, fun ends => ?_⟩
  · dsimp only
    rw [tracks.fwdLane, forwards]
    dsimp only
    rw [plain, if_neg Bool.false_ne_true, tracks.carries, live, if_pos rfl]
  · dsimp only
    rw [tracks.fwdLane, ends]
    dsimp only
    rw [plain, if_neg Bool.false_ne_true]

theorem curdReceive_damaged {n : Nat} {c : Curd} {s : State} (carries : s.carries n = true) (hears : (s.lane n).deaf = false) :
    exec (.curdReceive n c false) s = .next (s.bump (laneCnt n 3) 1) :=
  congrArg Host.Outcome.next ((if_neg (by rw [carries, hears]; decide)).trans (if_pos rfl))

theorem curdReceive_forwards {n k : Nat} {c : Curd} {s : State} (carries : s.carries n = true) (hears : (s.lane n).deaf = false)
    (some_ : c.rind.length ≠ 0) (whole : c.payload.length = c.rind.length.toNat) (plain : isCarriage c = false)
    (forwards : s.fwdLane n = some k) (live : s.carries k = true) :
    ∃ t, exec (.curdReceive n c true) s = .next t ∧ (t.lane k).sending = some c ∧ t.sched = s.sched := by
  obtain ⟨t, g, tracks, forward, -⟩ := exec_curdReceive carries hears some_ whole plain
  obtain ⟨lane, sched⟩ := transmit_frame t k c
  exact ⟨_, forward k forwards live, by rw [lane], sched.trans tracks.sched⟩

theorem curdReceive_pathless {n : Nat} {c : Curd} {s : State} (carries : s.carries n = true) (hears : (s.lane n).deaf = false)
    (some_ : c.rind.length ≠ 0) (whole : c.payload.length = c.rind.length.toNat) (plain : isCarriage c = false)
    (ends : s.fwdLane n = none) (known : s.stranger n c = false) (none_ : s.pathOf c.rind.stream = none) :
    ∃ t, exec (.curdReceive n c true) s = .next t ∧ t.sched = s.sched ∧ (t.reg .scEvents).getLsbD 1 = true ∧
      ((s.cnt 0x300020).value < cntMax → (t.cnt 0x300020).value = (s.cnt 0x300020).value + 1) := by
  obtain ⟨t, g, tracks, -, settle⟩ := exec_curdReceive carries hears some_ whole plain
  obtain ⟨sched, event, count⟩ := unpathed_frame t c n
  refine ⟨t.unpathed c n, (settle ends).trans (congrArg Host.Outcome.next ?_), sched.trans tracks.sched, event, tracks.unpathed ▸ count⟩
  simp only [State.settleCurd, tracks.stranger, known, tracks.pathOf, none_, Bool.false_eq_true, if_false, false_and]

theorem curdReceive_holds {n k : Nat} {c : Curd} {s : State} (carries : s.carries n = true) (hears : (s.lane n).deaf = false)
    (some_ : c.rind.length ≠ 0) (whole : c.payload.length = c.rind.length.toNat) (plain : isCarriage c = false)
    (ends : s.fwdLane n = none) (known : s.stranger n c = false) (path : s.pathOf c.rind.stream = some k) (apart : s.isMerged k = false)
    (early : s.isLate k c = false) (notKernel : s.kernelType c.rind.stream = false)
    (fits : s.relayed + curdBytes c ≤ s.f .lkRelay 28 16 * 4096) :
    ∃ t, exec (.curdReceive n c true) s = .next t ∧
      t.sched.held = s.sched.held ++ [{ curd := c, path := k, kind := 1, lane := n, bytes := curdBytes c }] := by
  obtain ⟨t, g, tracks, -, settle⟩ := exec_curdReceive carries hears some_ whole plain
  refine ⟨t.relay n k c, (settle ends).trans (congrArg Host.Outcome.next ?_), tracks.relay fits⟩
  simp only [State.settleCurd, tracks.stranger, known, tracks.pathOf, path, State.onPath, tracks.isMerged, apart, tracks.isLate, early,
    tracks.kernelType, notKernel, Bool.false_eq_true, if_false, false_and]

theorem damagedCodeword_deafens {n : Nat} {s : State} (bit : Bool) (carries : s.carries n = true) :
    ∃ t, exec (.damagedCodeword n bit) s = .next t ∧ (t.lane n).deaf = true ∧ (bit = true → (t.reg .lkEvents).getLsbD 2 = true) ∧
      t.sched = s.sched := by
  have arm : exec (.damagedCodeword n bit) s = execDamagedCodeword n bit s := rfl
  rw [arm, execDamagedCodeword, carries, if_neg (by decide)]
  dsimp only
  generalize deafened : State.modLane _ n _ = u
  have lane : (u.lane n).deaf = true := by rw [← deafened, lane_modLane, if_pos rfl]
  have sched : u.sched = s.sched := by rw [← deafened, State.modLane_sched, State.bump_sched]
  clear deafened
  cases bit with
  | false => exact ⟨_, rfl, lane, fun no_ => absurd no_ Bool.false_ne_true, sched⟩
  | true =>
    rw [if_pos rfl]
    refine ⟨_, rfl, ?_, fun _ => State.reg_raise_own_bit _ 15 2 2 _ _ rfl (by decide), ?_⟩
    · rw [lane_congr ((State.raise_link _ _ _ _).trans (State.bump_link _ _ _)), lane]
    · rw [State.raise_sched, State.bump_sched, sched]

theorem on_of_carries {s : State} {n : Nat} (carries : s.carries n = true) :
    s.rel 8 = true ∧ (s.lane n).trained = true ∧ (s.lane n).uplink = false := by
  obtain ⟨both, own⟩ := Bool.and_eq_true_iff.mp carries
  obtain ⟨released, on⟩ := Bool.and_eq_true_iff.mp both
  exact ⟨released, on, by simpa using own⟩

theorem exec_cap_trained {n : Nat} {q o : Cap} {s : State} (carries : s.carries n = true) (known : (s.lane n).cap = some o) :
    exec (.cap n q) s = .next (if { q with node := o.node, epoch := o.epoch } = o then
      s.setLane n { s.lane n with cap := some q, farNode := q.node }
      else (s.untrain n).modLane n fun l => { l with step := 3, cap := some q, farNode := q.node, lastStep := 2 }) := by
  obtain ⟨released, on, own⟩ := on_of_carries carries
  have arm : exec (.cap n q) s = execCap n q s := rfl
  rw [arm, execCap]
  dsimp only
  rw [released, own, if_neg (by decide), on, if_pos rfl, known]

/-- Two capability flits that agree but for node ID and epoch (R365). -/
theorem cap_agrees {q o : Cap} : ({ q with node := o.node, epoch := o.epoch } : Cap) = o ↔ q = { o with node := q.node, epoch := q.epoch } := by
  cases q
  cases o
  simp only [Cap.mk.injEq]

theorem cap_on_trained {n : Nat} {q o : Cap} {s : State} (carries : s.carries n = true) (known : (s.lane n).cap = some o) :
    (q = { o with node := q.node, epoch := q.epoch } → exec (.cap n q) s = .next (s.modLane n fun l => { l with cap := some q, farNode := q.node })) ∧
    (q ≠ { o with node := q.node, epoch := q.epoch } → ∃ t, exec (.cap n q) s = .next t ∧ (t.lane n).step = 3 ∧ (t.lane n).trained = false ∧
      (t.lane n).cap = some q) := by
  obtain ⟨-, on, -⟩ := on_of_carries carries
  rw [exec_cap_trained carries known]
  refine ⟨fun same => congrArg Host.Outcome.next (if_pos (cap_agrees.mpr same)), fun apart => ?_⟩
  refine ⟨_, congrArg Host.Outcome.next (if_neg fun same => apart (cap_agrees.mp same)), ?_, ?_, ?_⟩
  all_goals rw [lane_modLane, if_pos rfl]
  exact (trained_untrain s n n).trans (if_pos rfl)

theorem slot_ends_loss {n : Nat} {s : State} (b : Byte) (bit : Bool) (node : BitVec 16) (fn : FN) (carries : s.carries n = true)
    (ends : s.fwdLane n = none) :
    exec (.slot n b bit node fn) s = .next (s.modLane n fun l => { l with deaf := false, slotSeen := true }) := by
  have arm : exec (.slot n b bit node fn) s = execSlot n b bit node fn s := rfl
  rw [arm, execSlot, carries, if_neg (by decide)]
  dsimp only
  generalize seen : s.modLane n (fun l => { l with deaf := false, slotSeen := true }) = u
  have ends' : u.fwdLane n = none := seen ▸ ends
  rw [ends']

theorem slot_forwards {n k : Nat} {s : State} (b : Byte) (bit : Bool) (node : BitVec 16) (fn : FN) (carries : s.carries n = true)
    (forwards : s.fwdLane n = some k) (live : s.carries k = true) (hands : (s.lane k).takeover = false) :
    ∃ t f, exec (.slot n b bit node fn) s = .next t ∧ Out.slot k b f node fn ∈ t.out ∧ (bit = false → f = false) := by
  have arm : exec (.slot n b bit node fn) s = execSlot n b bit node fn s := rfl
  rw [arm, execSlot, carries, if_neg (by decide)]
  dsimp only
  generalize seen : s.modLane n (fun l => { l with deaf := false, slotSeen := true }) = u
  have forwards' : u.fwdLane n = some k := seen ▸ forwards
  have lane : (u.lane k).trained = (s.lane k).trained ∧ (u.lane k).uplink = (s.lane k).uplink ∧ (u.lane k).takeover = (s.lane k).takeover := by
    rw [← seen, lane_modLane]
    split
    · next same => rw [same]; exact ⟨rfl, rfl, rfl⟩
    · exact ⟨rfl, rfl, rfl⟩
  have live' : u.carries k = true := by
    rw [State.carries, lane.1, lane.2.1, rel_of_power (s := s) (by rw [← seen, State.modLane_power])]
    exact live
  clear seen
  rw [forwards']
  dsimp only
  rw [live', lane.2.2, hands, if_neg (by decide)]
  obtain ⟨f, sent, taken⟩ := mem_slotAt (if b = 0 then u.modLane k fun l =>
    { l with slotOfs := BitVec.ofNat 21 (ctDiff u.time.ct u.tickCt / 512).toNat } else u) k b bit node fn
  exact ⟨_, f, rfl, sent, taken⟩

theorem slotOpen_opens {n k : Nat} {ro : Roster} {s : State} (carries : s.carries n = true) (places : s.placesTicks = true)
    (source : (∀ j, j < 48 → s.f (.lkLCfg j) 21 16 ≠ n) ∨ (s.lane n).takeover = true) (roster : s.rosterNow n 0 = some ro) (inside : k < ro.slots) :
    ∃ t f, exec (.slotOpen n k) s = .next t ∧ Out.slot n (BitVec.ofNat 8 k) f s.ports.nodeId s.time.fn ∈ t.out := by
  have arm : exec (.slotOpen n k) s = execSlotOpen n k s := rfl
  have opens : ((!(List.range 48).any fun j => s.f (.lkLCfg j) 21 16 == n) || (s.lane n).takeover) = true := by
    rcases source with none_ | takes
    · have absent : ((List.range 48).any fun j => s.f (.lkLCfg j) 21 16 == n) = false := by
        rw [List.any_eq_false]
        intro j listed
        rw [beq_eq_false_iff_ne.mpr (none_ j (List.mem_range.mp listed))]
        decide
      rw [absent]
      rfl
    · rw [takes, Bool.or_true]
  rw [arm, execSlotOpen]
  dsimp only
  rw [carries, places, opens, if_neg (by decide), roster]
  dsimp only
  rw [if_neg (Nat.not_le.mpr inside)]
  generalize State.advanceTo _ _ = u
  obtain ⟨f, sent, -⟩ := mem_slotAt u n (BitVec.ofNat 8 k) true s.ports.nodeId s.time.fn
  exact ⟨_, f, rfl, sent⟩

theorem takeover_takes {n k : Nat} {s : State} (carries : s.carries n = true) (hands : (s.lane n).takeover = false)
    (roster : (s.rosterNow n 0).isSome = true) (low : k < 48) (forwards : s.f (.lkLCfg k) 21 16 = n) (silent : 2 ≤ (s.lane k).slotQuiet) :
    ∃ t, exec (.takeover n) s = .next t ∧ (t.lane n).takeover = true ∧ (t.reg .lkEvents).getLsbD 5 = true := by
  have quiet : ((List.range 48).any fun j => s.f (.lkLCfg j) 21 16 == n && decide (2 ≤ (s.lane j).slotQuiet)) = true := by
    rw [List.any_eq_true]
    exact ⟨k, List.mem_range.mpr low, by rw [forwards, beq_self_eq_true, decide_eq_true silent]; rfl⟩
  refine ⟨_, congrArg Host.Outcome.next (if_pos (by rw [carries, hands, roster, quiet]; rfl)), ?_,
    State.reg_raise_own_bit _ 15 5 5 _ _ rfl (by decide)⟩
  rw [lane_congr (State.raise_link _ _ _ _), lane_modLane, if_pos rfl]

theorem timeExchange_starts {n : Nat} {s : State} (carries : s.carries n = true) : ∃ t, exec (.timeExchangeStart n) s = .next t ∧
    (t.lane n).exT1 = some s.time.ct ∧ (t.lane n).exSeq = (s.lane n).exSeq + 1 ∧ Out.tsSync n (t.lane n).exSeq ∈ t.out ∧
    Out.frame n s.time.period s.time.fn s.time.epoch s.time.aligned s.time.switch.isSome ∈ t.out ∧
    ∀ w, s.time.switch = some w → Out.frameSw n w.fn (BitVec.ofNat 21 (s.switchPeriod w)) ∈ t.out := by
  have arm : exec (.timeExchangeStart n) s = execTimeExchangeStart n s := rfl
  rw [arm, execTimeExchangeStart, carries, if_neg (by decide)]
  dsimp only
  obtain ⟨lanes, time, power, -, regs⟩ := flushLane_frame s n
  obtain ⟨-, flushed, -⟩ := flushTrigs_lane (s.flushLane n) n
  have time' : ((s.flushLane n).flushTrigs n).time = s.time := by rw [State.flushTrigs_frame, time]
  have seq : (((s.flushLane n).flushTrigs n).lane n).exSeq = (s.lane n).exSeq := by rw [flushed, lanes, if_pos rfl]
  have period (w : Switch) : ((s.flushLane n).flushTrigs n).switchPeriod w = s.switchPeriod w := by
    have regs' (q : Reg) (other : q.key ≠ Reg.key .gsCntSat) : ((s.flushLane n).flushTrigs n).reg q = s.reg q := by
      rw [State.flushTrigs_frame]
      exact regs q other
    have follower : ((s.flushLane n).flushTrigs n).follower = s.follower :=
      follower_congr (by rw [State.flushTrigs_frame]; exact power) (regs' _ (by decide))
    simp only [State.switchPeriod, State.f, follower, regs' .tcFrameNext (by decide)]
    rfl
  generalize (s.flushLane n).flushTrigs n = u at time' seq period
  generalize changed : State.modLane u n _ = v
  have lane : (v.lane n).exT1 = some s.time.ct ∧ (v.lane n).exSeq = (s.lane n).exSeq + 1 := by
    rw [← changed, lane_modLane, if_pos rfl, time', ← seq]
    exact ⟨rfl, rfl⟩
  have mine : (v.lane n).exSeq = (u.lane n).exSeq + 1 := by rw [lane.2, seq]
  clear changed
  refine ⟨_, rfl, lane.1, lane.2, ?_, ?_, fun w pending => ?_⟩
  · refine List.mem_append_left _ (List.mem_append_right _ (List.mem_cons.mpr (Or.inl ?_)))
    exact congrArg (Out.tsSync n) mine
  · refine List.mem_append_left _ (List.mem_append_right _ (List.mem_cons_of_mem _ ?_))
    rw [time']
    exact List.mem_singleton.mpr rfl
  · refine List.mem_append_right _ ?_
    rw [time', pending]
    dsimp only
    rw [period]
    exact List.mem_singleton.mpr rfl

theorem tsSync_answers {n : Nat} {b : Byte} {t0 : CT} {s : State} (carries : s.carries n = true) : ∃ t, exec (.tsSync n b t0) s = .next t ∧
    Out.tsReq n b ∈ t.out ∧ (t.lane n).rxSeq = b ∧ (t.lane n).exT2 = some t0 ∧ (t.lane n).exT3 = some t.time.ct := by
  have arm : exec (.tsSync n b t0) s = execTsSync n b t0 s := rfl
  rw [arm, execTsSync, carries, if_neg (by decide)]
  dsimp only
  generalize s.advanceTo t0 = u
  generalize changed : State.modLane u n _ = v
  have lane : (v.lane n).rxSeq = b ∧ (v.lane n).exT2 = some t0 ∧ (v.lane n).exT3 = some v.time.ct := by
    rw [← changed, lane_modLane, if_pos rfl]
    exact ⟨rfl, rfl, rfl⟩
  exact ⟨_, rfl, List.mem_append_right _ (List.mem_singleton.mpr rfl), lane⟩

theorem tsReq_answers {n : Nat} {b : Byte} {t0 t1 : CT} {s : State} (carries : s.carries n = true) (sent : (s.lane n).exT1 = some t1)
    (mine : (s.lane n).exSeq = b) : ∃ t, exec (.tsReq n b t0) s = .next t ∧
      Out.tsData n b t1 (BitVec.ofInt 32 (ctDiff t0 t1)) ∈ t.out ∧ (t.lane n).exT1 = none := by
  have arm : exec (.tsReq n b t0) s = execTsReq n b t0 s := rfl
  rw [arm, execTsReq, sent]
  dsimp only
  rw [carries, mine, if_pos (by rw [beq_self_eq_true]; rfl)]
  generalize changed : State.modLane _ n _ = v
  have lane : (v.lane n).exT1 = none := by rw [← changed, lane_modLane, if_pos rfl]
  exact ⟨_, rfl, List.mem_append_right _ (List.mem_singleton.mpr rfl), lane⟩

theorem frameSw_holds {n : Nat} {fn : FN} {per : BitVec 21} {s : State} (carries : s.carries n = true) (first : n = 0)
    (follows : s.follower = true) (taken : s.time.taken = true) (ahead : 0 < sdiff 48 fn.toNat s.time.fn.toNat) :
    ∃ t, exec (.frameSw n fn per) s = .next t ∧ t.time.switch = some { fn, period := per } ∧ t.time.aligned = s.time.aligned := by
  have arm : exec (.frameSw n fn per) s = execFrameSw n fn per s := rfl
  rw [arm, execFrameSw, carries, decide_eq_false (not_not_intro first), follows, taken, if_neg (by decide)]
  by_cases known : s.time.switch = some { fn, period := per }
  · rw [if_pos known]
    exact ⟨s, rfl, known, rfl⟩
  · rw [if_neg known, if_neg (by omega)]
    dsimp only
    generalize noted : s.setTime _ = u
    have time : u.time.switch = some { fn, period := per } ∧ u.time.aligned = s.time.aligned := by
      rw [← noted]
      exact ⟨rfl, rfl⟩
    split
    · exact ⟨u, rfl, time⟩
    · refine ⟨_, rfl, ?_⟩
      rw [State.raise_time]
      exact time

theorem trigFlit_spreads {n : Nat} {node : BitVec 16} {t0 : CT} {s : State} (src : BitVec 10) (carries : s.carries n = true)
    (fresh : s.link.trigSeen.contains (node, t0) = false) : ∃ t, exec (.trigFlit n node src t0) s = .next t ∧ (node, t0) ∈ t.link.trigSeen ∧
      ∀ k, k ≠ n → k < 48 → s.carries k = true → s.b (.lkLCfg k) 24 = true →
        ((s.lane k).slotTrig = none → Out.trig k node src t0 ∈ t.out) ∧
        ∀ (e : CT) (j : Nat), (s.lane k).slotTrig = some (e, j) →
          ((0 ≤ ctDiff s.time.ct e ∨ 0 < j) → Out.trig k node src t0 ∈ t.out) ∧
          (ctDiff s.time.ct e < 0 → j = 0 → (node, src, t0) ∈ (t.lane k).trigWait) := by
  have arm : exec (.trigFlit n node src t0) s = execTrigFlit n node src t0 s := rfl
  rw [arm, execTrigFlit, carries, fresh, if_neg (by decide)]
  dsimp only
  have sends (k : Nat) (apart : k ≠ n) (low : k < 48) := sendTrig_sends node src t0 apart (List.range 48) List.nodup_range
    (List.mem_range.mpr low) s
  generalize s.sendTrig node src t0 n (List.range 48) = u at sends
  have seen : (node, t0) ∈ (u.rememberTrig node t0).link.trigSeen := List.mem_cons_self
  have same : ∀ k, (u.rememberTrig node t0).lane k = u.lane k := fun _ => rfl
  have out : (u.rememberTrig node t0).out = u.out := rfl
  generalize u.rememberTrig node t0 = v at seen same out
  have result (t : State) (link : t.link = v.link) (kept : ∀ o, o ∈ v.out → o ∈ t.out) : (node, t0) ∈ t.link.trigSeen ∧
      ∀ k, k ≠ n → k < 48 → s.carries k = true → s.b (.lkLCfg k) 24 = true →
        ((s.lane k).slotTrig = none → Out.trig k node src t0 ∈ t.out) ∧
        ∀ (e : CT) (j : Nat), (s.lane k).slotTrig = some (e, j) →
          ((0 ≤ ctDiff s.time.ct e ∨ 0 < j) → Out.trig k node src t0 ∈ t.out) ∧
          (ctDiff s.time.ct e < 0 → j = 0 → (node, src, t0) ∈ (t.lane k).trigWait) := by
    refine ⟨by rw [link]; exact seen, fun k apart low live takes => ?_⟩
    obtain ⟨now, slot⟩ := sends k apart low live takes
    refine ⟨fun none_ => kept _ (out ▸ now none_), fun e j some_ => ?_⟩
    obtain ⟨leaves, waits⟩ := slot e j some_
    exact ⟨fun room => kept _ (out ▸ leaves room), fun early full => by rw [lane_congr link, same]; exact waits early full⟩
  split
  · obtain ⟨link, kept⟩ := arbiter_frame v { t := t0, sources := src ||| 0x100, origin := node }
    exact ⟨_, rfl, result _ link kept⟩
  · exact ⟨_, rfl, result v rfl fun _ => id⟩

theorem carriageSend_sends {n : Nat} {c : Curd} {cs : List Curd} {s : State} (carries : s.carries n = true)
    (waits : (s.lane n).carriage = c :: cs) (idle : s.emitting n = []) : ∃ t, exec (.carriageSend n) s = .next t ∧
      (t.lane n).carriage = cs ∧ (t.lane n).sending = some c := by
  have arm : exec (.carriageSend n) s = execCarriageSend n s := rfl
  rw [arm, execCarriageSend, carries, idle, if_neg (by decide)]
  dsimp only
  rw [if_pos (by rw [waits]; exact List.cons_ne_nil _ _), waits]
  dsimp only
  obtain ⟨lane, -⟩ := transmit_frame (s.modLane n fun l => { l with carriage := cs }) n c
  refine ⟨_, rfl, ?_, ?_⟩
  · rw [lane, lane_modLane, if_pos rfl]
  · rw [lane]

theorem tsData_completes {n : Nat} {b : Byte} {t0 t2 t3 : CT} {s : State} (d41 : Word) (carries : s.carries n = true)
    (second : (s.lane n).exT2 = some t2) (third : (s.lane n).exT3 = some t3) (mine : (s.lane n).rxSeq = b) :
    ∃ t, exec (.tsData n b t0 d41) s = .next t ∧ (t.lane n).rtt = w32 ((d41.toNat : Int) - ctDiff t3 t2) ∧ (t.lane n).exT2 = none ∧
      (n = 0 → s.follower = true → s.time.state ≠ 0 → s.time.thetas.length < 2 ^ s.f .tcSrcCfg 11 8 → t.time.thetas = s.time.thetas ++
        [ctDiff t2 t0 - ((d41.toNat : Int) - ctDiff t3 t0) - (s.reg (.lkLAsym n)).toInt]) := by
  have arm : exec (.tsData n b t0 d41) s = execTsData n b t0 d41 s := rfl
  have counts : ¬((!s.carries n || (s.lane n).rxSeq != b) = true) := by rw [carries, mine, bne_self_eq_false]; decide
  rw [arm, execTsData, second, third]
  dsimp only
  rw [if_neg counts]
  generalize noted : State.modLane s n _ = u
  have lane : (u.lane n).rtt = w32 ((d41.toNat : Int) - ctDiff t3 t2) ∧ (u.lane n).exT2 = none := by
    rw [← noted, lane_modLane, if_pos rfl]
    exact ⟨rfl, rfl⟩
  have time : u.time = s.time := noted ▸ rfl
  have follower : u.follower = s.follower := noted ▸ rfl
  have log : u.f .tcSrcCfg 11 8 = s.f .tcSrcCfg 11 8 := noted ▸ rfl
  clear noted
  by_cases servos : n = 0 ∧ u.follower = true ∧ u.time.state ≠ 0
  · rw [if_pos servos]
    refine ⟨_, rfl, ?_, ?_, fun _ _ _ few => ?_⟩
    · exact (congrArg Lane.rtt (lane_servo u n)).trans lane.1
    · exact (congrArg Lane.exT2 (lane_servo u n)).trans lane.2
    · rw [servo_waits (by rw [time, log]; exact few), ← time]
      rfl
  · rw [if_neg servos]
    exact ⟨u, rfl, lane.1, lane.2, fun first follows runs => absurd ⟨first, follower.trans follows, by rw [time]; exact runs⟩ servos⟩

theorem frame_elsewhere {n : Nat} {per : BitVec 21} {fn : FN} {e : Word} {bit : Bool} {s : State} (carries : s.carries n = true)
    (apart : n ≠ 0 ∨ s.follower = false) :
    exec (.frame n per fn e bit false) s = .next (s.modLane n fun l => { l with deaf := false }) := by
  have arm : exec (.frame n per fn e bit false) s = execFrame n per fn e bit false s := rfl
  rw [arm, execFrame, carries, if_neg (by decide)]
  exact congrArg Host.Outcome.next (if_pos apart)

theorem frame_taken {n : Nat} {per : BitVec 21} {fn : FN} {e : Word} {bit : Bool} {s : State} (carries : s.carries n = true)
    (first : n = 0) (follows : s.follower = true) : ∃ t, exec (.frame n per fn e bit false) s = .next t ∧ t.time.upPeriod = per ∧
      t.time.upFn = fn ∧ t.time.upEpoch = e ∧ t.time.upAligned = bit ∧ (bit = false → t.time.aligned = false ∧ t.time.switch = none) ∧
      (bit = true → s.time.state ≠ 0 → s.time.taken = false → 0 < per.toNat → t.time.taken = true ∧ t.time.period = per ∧
        t.time.fn = fn + BitVec.ofInt 48 (((s.time.e : Int) - t.time.org.toNat) / per.toNat -
          (((s.time.e - (s.lane 0).rtt.toNat / 1024 : Nat) : Int) - t.time.org.toNat) / per.toNat)) := by
  subst first
  have arm : exec (.frame 0 per fn e bit false) s = execFrame 0 per fn e bit false s := rfl
  rw [arm, execFrame, carries, if_neg (by decide)]
  dsimp only
  generalize heard : s.modLane 0 (fun l => { l with deaf := false }) = u
  have time : u.time = s.time := heard ▸ rfl
  have follower : u.follower = true := heard ▸ follows
  have rtt : (u.lane 0).rtt = (s.lane 0).rtt := by rw [← heard, lane_modLane, if_pos rfl]
  clear heard
  rw [if_neg (by rw [follower]; decide)]
  generalize noted : u.setTime (fun t => { t with upSeen := true, upPeriod := per, upFn := fn, upEpoch := e, upAligned := bit, upLt := t.lt }) = v
  have time' : v.time = { s.time with upSeen := true, upPeriod := per, upFn := fn, upEpoch := e, upAligned := bit, upLt := s.time.lt } := by
    rw [← noted, ← time]
    rfl
  have rtt' : (v.lane 0).rtt = (s.lane 0).rtt := noted ▸ rtt
  clear noted time rtt
  cases bit with
  | false =>
    obtain ⟨cleared, -, -⟩ := clearAligned_time v
    rw [if_pos (by decide)]
    refine ⟨_, rfl, ?_, ?_, ?_, ?_, fun _ => ⟨?_, rfl⟩, fun on => absurd on Bool.false_ne_true⟩
    · exact (show v.clearAligned.time.upPeriod = per by rw [cleared, time'])
    · exact (show v.clearAligned.time.upFn = fn by rw [cleared, time'])
    · exact (show v.clearAligned.time.upEpoch = e by rw [cleared, time'])
    · exact (show v.clearAligned.time.upAligned = false by rw [cleared, time'])
    · exact (show v.clearAligned.time.aligned = false by rw [cleared])
  | true =>
    rw [if_neg (by decide)]
    by_cases takes : v.time.state ≠ 0 ∧ (v.time.taken = false ∨ (v.time.fresh = false ∧ v.time.aligned = false))
    · rw [if_pos takes]
      obtain ⟨upPeriod, upFn, upEpoch, upAligned⟩ := takeFrame_upstream v
      have period : v.time.upPeriod = per := by rw [time']
      refine ⟨_, rfl, upPeriod.trans period, ?_, ?_, ?_, fun off => absurd off.symm Bool.false_ne_true, fun _ _ _ positive => ?_⟩
      · rw [upFn, time']
      · rw [upEpoch, time']
      · rw [upAligned, time']
      · obtain ⟨taken, now, o, below, org, number⟩ := takeFrame_takes (s := v) (by rw [time']) (by rw [period]; exact positive)
        have origin : v.takeFrame.time.org.toNat = o := by rw [org, BitVec.toNat_ofNat, Nat.mod_eq_of_lt below]
        have elapsed : v.time.e = s.time.e := by rw [time']; rfl
        have sent : v.frameSent = s.time.e - (s.lane 0).rtt.toNat / 1024 := by
          rw [State.frameSent, elapsed, rtt', time']
          simp only [BitVec.sub_self, BitVec.toNat_zero, Nat.zero_add]
        refine ⟨taken, now.trans period, ?_⟩
        rw [number, origin, period, elapsed, sent, time']
    · rw [if_neg takes]
      refine ⟨_, rfl, ?_, ?_, ?_, ?_, fun off => absurd off.symm Bool.false_ne_true, fun _ runs untaken _ => absurd ?_ takes⟩
      · rw [time']
      · rw [time']
      · rw [time']
      · rw [time']
      · rw [time']
        exact ⟨runs, Or.inl untaken⟩

/-- Settles O60: one theorem for each flit. -/
theorem flitsHaveTheirEffect : Obligations.FlitsHaveTheirEffect := by
  intro n k b bit node fn t0 per c s carries
  refine ⟨fun hears some_ whole => ⟨curdReceive_damaged carries hears, fun plain forwards live =>
      curdReceive_forwards carries hears some_ whole plain forwards live, fun plain ends known none_ =>
      curdReceive_pathless carries hears some_ whole plain ends known none_, fun plain ends known path apart early notKernel fits =>
      curdReceive_holds carries hears some_ whole plain ends known path apart early notKernel fits⟩,
    damagedCodeword_deafens bit carries, fun q o known => cap_on_trained carries known, slot_ends_loss b bit node fn carries,
    slot_forwards b bit node fn carries, fun ro places source roster inside => slotOpen_opens carries places source roster inside,
    takeover_takes carries, timeExchange_starts carries, tsSync_answers carries, fun t1 sent mine => tsReq_answers carries sent mine,
    fun t2 t3 d41 second third mine => tsData_completes d41 carries second third mine,
    fun e => ⟨frame_elsewhere carries, frame_taken carries⟩, frameSw_holds carries, fun src => ⟨fun seen => ?_, fun fresh => ?_⟩,
    fun cs waits idle => carriageSend_sends carries waits idle⟩
  · exact congrArg Host.Outcome.next (if_pos (by rw [seen, Bool.or_true]))
  · obtain ⟨t, run, seen, spread⟩ := trigFlit_spreads src carries fresh
    exact ⟨t, run, seen, spread k⟩

end Sys2Proof.Claims
end

section
/-!
SUPPORT. The transport of items in the hit builder, and the statements on hits and the close of a frame (R193 to R211).
-/
open Sys2Proof

namespace Sys2Proof.Machine
open Sys2Proof.Claims

theorem hitChan_setHitChan (s : State) (n k : Nat) (h : HitChan) : (s.setHitChan n h).hitChan k = if k = n then h else s.hitChan k := by
  rw [State.hitChan, State.setHitChan, SMap.get_set]
  rfl

/-- What the transport of items leaves: the channels, the frames that a hit builder has open, and all but the hit builder and events. -/
structure Transports (s t : State) : Prop where
  chans : t.chans = s.chans
  frames : ∀ k, (t.hitChan k).frames = (s.hitChan k).frames
  time : t.time = s.time
  fuses : t.fuses = s.fuses

theorem Transports.refl (s : State) : Transports s s := ⟨rfl, fun _ => rfl, rfl, rfl⟩

theorem Transports.trans {s t u : State} (first : Transports s t) (second : Transports t u) : Transports s u :=
  ⟨second.chans.trans first.chans, fun k => (second.frames k).trans (first.frames k), second.time.trans first.time,
    second.fuses.trans first.fuses⟩

theorem transports_setHitChan (s : State) (n : Nat) (h : HitChan) (same : h.frames = (s.hitChan n).frames) :
    Transports s (s.setHitChan n h) := by
  refine ⟨rfl, fun k => ?_, rfl, rfl⟩
  rw [hitChan_setHitChan]
  split
  · next at_ => rw [at_, same]
  · rfl

theorem transports_foldl {α : Type} {f : State → α → State} (step : ∀ s x, Transports s (f s x)) (l : List α) :
    ∀ s : State, Transports s (l.foldl f s) := by
  induction l with
  | nil => exact Transports.refl
  | cons x l ih => exact fun s => (step s x).trans (ih _)

theorem writeCycle_frames (h : HitChan) : h.writeCycle.frames = h.frames := by
  simp only [HitChan.writeCycle]
  split
  · rfl
  · split <;> rfl

theorem transports_coreCycle (s : State) : Transports s s.coreCycle := by
  simp only [State.coreCycle]
  generalize synced : List.foldl _ s _ = u
  have moved : Transports s u := by
    rw [← synced]
    refine transports_foldl (fun t k => ?_) _ s
    split
    · exact Transports.refl t
    · exact transports_setHitChan t k _ rfl
  clear synced
  split
  · exact moved
  · next k _ =>
    split
    · exact moved
    · next w ws _ =>
      have read := transports_setHitChan u k { u.hitChan k with fifo := ws, rd := (u.hitChan k).rd + 1, mid := !w.last } rfl
      generalize u.setHitChan k _ = v at read
      have staged : Transports v { v with hits := { v.hits with
          turn := (k + 1) % max s.res.channels 1, items := stageWord k (decide (parityOf w.data ≠ w.parity)) v.hits.items } } :=
        ⟨rfl, fun _ => rfl, rfl, rfl⟩
      refine moved.trans (read.trans ?_)
      generalize ({ v with hits := _ } : State) = x at staged ⊢
      split
      · refine staged.trans ⟨State.raise_chans _ _ _ _, fun j => ?_, State.raise_time _ _ _ _, State.raise_fuses _ _ _ _⟩
        rw [State.hitChan, State.raise_hits]
        rfl
      · exact staged

theorem transports_cycles : ∀ (n : Nat) (s : State), Transports s (s.transportCycles n)
  | 0, s => Transports.refl s
  | n + 1, s => by
    rw [State.transportCycles]
    refine Transports.trans ?_ ((transports_coreCycle _).trans (transports_cycles n _))
    split
    · exact Transports.refl s
    · refine transports_foldl (fun t k => ?_) _ s
      dsimp only
      split
      · exact Transports.refl t
      · exact transports_setHitChan t k _ (writeCycle_frames _)

theorem transports_transport (s : State) : Transports s s.transport := by
  unfold State.transport
  dsimp only
  generalize moved : s.transportCycles _ = u
  have run : Transports s u := moved ▸ transports_cycles _ s
  exact run.trans ⟨rfl, fun _ => rfl, rfl, rfl⟩

/-- A budget that has been used is the one that its frame has from then on (R30, R202). -/
theorem useBudget_frame (s : State) (ch : Nat) (f : HitFrame) :
    ((s.useBudget ch f).hitChan ch).frames.find? (fun g => g.fn == f.fn) = some f ∧
    ((s.useBudget ch f).hitChan ch).queue = (s.hitChan ch).queue ∧ (s.useBudget ch f).chans = s.chans ∧
    (s.useBudget ch f).hits.items = s.hits.items := by
  have first (l : List HitFrame) (has : (l.any fun g => g.fn == f.fn) = true) :
      (l.map fun g => if g.fn == f.fn then f else g).find? (fun g => g.fn == f.fn) = some f := by
    induction l with
    | nil => exact absurd has Bool.false_ne_true
    | cons g l ih =>
      rw [List.map_cons]
      by_cases here : (g.fn == f.fn) = true
      · rw [if_pos here, List.find?_cons_of_pos (p := fun g : HitFrame => g.fn == f.fn) (beq_self_eq_true f.fn)]
      · rw [if_neg here, List.find?_cons_of_neg (p := fun g : HitFrame => g.fn == f.fn) here]
        exact ih (by rwa [List.any_cons, eq_false_of_ne_true here, Bool.false_or] at has)
  simp only [State.useBudget]
  split
  · next has =>
    refine ⟨?_, ?_, rfl, rfl⟩
    · rw [hitChan_setHitChan, if_pos rfl]
      exact first _ has
    · rw [hitChan_setHitChan, if_pos rfl]
  · next none_ =>
    refine ⟨?_, ?_, rfl, rfl⟩
    · rw [hitChan_setHitChan, if_pos rfl]
      have absent : (s.hitChan ch).frames.find? (fun g => g.fn == f.fn) = none := by
        rw [List.find?_eq_none]
        exact fun g listed same => none_ (List.any_eq_true.mpr ⟨g, listed, same⟩)
      rw [List.find?_append, absent, Option.none_or, List.find?_cons_of_pos (p := fun g : HitFrame => g.fn == f.fn) (beq_self_eq_true f.fn)]
    · rw [hitChan_setHitChan, if_pos rfl]

theorem budgetOf_of_find {s : State} {ch : Nat} {fn : FN} {f : HitFrame}
    (found : (s.hitChan ch).frames.find? (fun g => g.fn == fn) = some f) : s.budgetOf ch fn = some f := by
  rw [State.budgetOf, found]

/-- An item admitted after the transport has run: its words, its flits against the budget, the item itself (R202). -/
def State.admitItem (s : State) (ch : Nat) (it : Item) (f : HitFrame) : State :=
  let h := s.hitChan ch
  let t := s.setHitChan ch { h with queue := h.queue ++ itemWrites it.flits, adm := h.adm + it.flits.length }
  let t := t.useBudget ch { f with used := f.used + it.flits.length }
  ({ t with hits := { t.hits with items := t.hits.items ++ [it] } } : State).bump (0x140040 + ch * 0x100) 1

theorem admitItem_frame (s : State) (ch : Nat) (it : Item) (f : HitFrame) :
    (s.admitItem ch it f).hits.items = s.hits.items ++ [it] ∧ (s.admitItem ch it f).chans = s.chans ∧
    ((s.admitItem ch it f).hitChan ch).queue = (s.hitChan ch).queue ++ itemWrites it.flits ∧
    (s.admitItem ch it f).budgetOf ch f.fn = some { f with used := f.used + it.flits.length } := by
  unfold State.admitItem
  dsimp only
  generalize queued : s.setHitChan ch _ = t
  have items : t.hits.items = s.hits.items := queued ▸ rfl
  have chans : t.chans = s.chans := queued ▸ rfl
  have queue : (t.hitChan ch).queue = (s.hitChan ch).queue ++ itemWrites it.flits := by
    rw [← queued, hitChan_setHitChan, if_pos rfl]
  clear queued
  obtain ⟨found, queue', chans', items'⟩ := useBudget_frame t ch { f with used := f.used + it.flits.length }
  generalize t.useBudget ch { f with used := f.used + it.flits.length } = v at found queue' chans' items'
  have hits (w : State) (a : Nat) : (w.bump a 1).hits = w.hits := State.bump_hits w a 1
  refine ⟨?_, ?_, ?_, ?_⟩
  · rw [hits]
    exact congrArg (· ++ [it]) (items'.trans items)
  · rw [State.bump_chans]
    exact chans'.trans chans
  · rw [State.hitChan, hits]
    exact queue'.trans queue
  · refine budgetOf_of_find ?_
    rw [State.hitChan, hits]
    exact found

theorem fn_of_budgetOf {s : State} {ch : Nat} {fn : FN} {f : HitFrame} (budget : s.budgetOf ch fn = some f) : f.fn = fn := by
  unfold State.budgetOf at budget
  split at budget
  · next g found =>
    have same := List.find?_some found
    rw [Option.some.injEq] at budget
    rw [← budget]
    exact beq_iff_eq.mp same
  · split at budget
    · rw [Option.some.injEq] at budget
      rw [← budget]
      rfl
    · exact absurd budget (by simp)

theorem hitWhey_frame (s : State) (ch n : Nat) : (s.hitWhey ch n false).hits.items = s.hits.items ∧ (s.hitWhey ch n false).chans = s.chans ∧
    (s.hitWhey ch n false).hits.wheyNow = true := by
  simp only [State.hitWhey, Bool.false_eq_true, if_false]
  generalize counted : (s.bump (0x140050 + ch * 0x100) 1).bump (0x140060 + ch * 0x100) n = u
  have hits : u.hits = s.hits := by rw [← counted, State.bump_hits, State.bump_hits]
  have chans : u.chans = s.chans := by rw [← counted, State.bump_chans, State.bump_chans]
  clear counted
  split
  · next marked => exact ⟨by rw [hits], chans, marked⟩
  · refine ⟨?_, ?_, ?_⟩
    · rw [State.raise_hits]
      exact congrArg (·.items) hits
    · rw [State.raise_chans]
      exact chans
    · rw [State.raise_hits]

theorem drainStops_of_empty {s : State} {ch : Nat} (now : Option CT) (empty : (s.chan ch).fifo = []) (n : Nat) :
    s.drainStops ch now n = s := by
  cases n with
  | zero => rfl
  | succ n => rw [State.drainStops, empty]

end Sys2Proof.Machine

namespace Sys2Proof.Claims
open Sys2Proof.Machine

theorem ch_of_formItem {s : State} {ch : Nat} {h : OpenHit} {it : Item} {amp tot : Nat} {op : Bool}
    (forms : s.formItem ch h = (it, amp, tot, op)) : it.ch = ch := by
  have first := congrArg (fun x => x.1.ch) forms
  exact first.symm.trans rfl

/-- The oldest hit goes to the admission point (R178, R196). -/
theorem exec_hitForm {ch : Nat} {h : OpenHit} {rest : List OpenHit} {it : Item} {amp tot : Nat} {op : Bool} {q : State}
    (released : q.settleNow.rel 5 = true) (low : ch < q.settleNow.res.channels) (empty : (q.settleNow.chan ch).fifo = [])
    (waits : (q.settleNow.chan ch).hits = h :: rest) (forms : q.settleNow.formItem ch h = (it, amp, tot, op))
    (settled : h.settled q.settleNow.time.ct = true) (begun : sdiff 48 it.fn.toNat q.settleNow.time.fn.toNat ≤ 0) :
    exec (.hitForm ch) q = .next ((q.settleNow.setChan ch { q.settleNow.chan ch with hits := rest }).offerItem it amp tot op) := by
  have arm : exec (.hitForm ch) q = execHitForm ch q := rfl
  rw [arm, execHitForm]
  generalize q.settleNow = s at *
  dsimp only
  rw [released, decide_eq_false (by omega), if_neg (by decide), drainStops_of_empty none empty, State.formHit, waits]
  dsimp only
  rw [forms]
  dsimp only
  rw [settled, decide_eq_false (by omega), if_neg (by decide)]

section
variable {s u : State} {ch : Nat} {rest : List OpenHit} (popped : s.setChan ch { s.chan ch with hits := rest } = u)
include popped

theorem hitValues_popped (fn : FN) : u.hitValues ch fn = s.hitValues ch fn := popped ▸ rfl

theorem chan_popped {t : State} (chans : t.chans = u.chans) : (t.chan ch).hits = rest := by
  rw [State.chan_congr chans, ← popped, State.chan_setChan_self]

theorem offerItem_suppresses {it : Item} {amp tot : Nat} {op : Bool} (own : it.ch = ch)
    (fails : passes (s.hitValues ch it.fn) amp tot op = false) :
    (u.offerItem it amp tot op).hits = s.hits ∧ ((u.offerItem it amp tot op).chan ch).hits = rest := by
  have arm : u.offerItem it amp tot op = u.bump (0x140048 + ch * 0x100) 1 := by
    simp only [State.offerItem, own, hitValues_popped popped, fails, Bool.not_false, if_true]
  rw [arm]
  refine ⟨(State.bump_hits _ _ _).trans ?_, chan_popped popped (State.bump_chans _ _ _)⟩
  rw [← popped]
  rfl

theorem offerItem_refuses {it : Item} {amp tot : Nat} {op : Bool} (own : it.ch = ch)
    (holds : passes (s.hitValues ch it.fn) amp tot op = true) (apart : s.time.aligned = false) :
    (u.offerItem it amp tot op).hits.items = s.hits.items ∧ ((u.offerItem it amp tot op).chan ch).hits = rest ∧
      (u.offerItem it amp tot op).hits.wheyNow = true := by
  have none_ : u.hitBudget it = none := by
    have apart' : u.time.aligned = false := popped ▸ apart
    rw [State.hitBudget, apart', Bool.not_false, Bool.true_or, Bool.true_or, Bool.true_or, if_pos rfl]
  have arm : u.offerItem it amp tot op = u.hitWhey ch it.flits.length false := by
    simp only [State.offerItem, own, hitValues_popped popped, holds, Bool.not_true, Bool.false_eq_true, if_false, none_]
  obtain ⟨items, chans, marked⟩ := hitWhey_frame u ch it.flits.length
  rw [arm]
  refine ⟨items.trans ?_, chan_popped popped chans, marked⟩
  rw [← popped]
  rfl

theorem offerItem_admits {it : Item} {amp tot : Nat} {op : Bool} {f : HitFrame} (own : it.ch = ch)
    (holds : passes (s.hitValues ch it.fn) amp tot op = true) (budget : s.budgetOf ch it.fn = some f) (aligned : s.time.aligned = true)
    (clear_ : s.time.infForce = false) (on : s.b .hbCfg 0 = true) (path : (s.pathOf 2).isSome = true)
    (fits : f.used + it.flits.length ≤ f.budget) (room : it.flits.length ≤ (u.transport.hitChan ch).free) :
    (u.offerItem it amp tot op).hits.items = u.transport.hits.items ++ [it] ∧ ((u.offerItem it amp tot op).chan ch).hits = rest ∧
      ((u.offerItem it amp tot op).hitChan ch).queue = (u.transport.hitChan ch).queue ++ itemWrites it.flits ∧
      (u.offerItem it amp tot op).budgetOf ch it.fn = some { f with used := f.used + it.flits.length } := by
  have allowed : u.hitBudget it = some f := by
    have aligned' : u.time.aligned = true := popped ▸ aligned
    have clear' : u.time.infForce = false := popped ▸ clear_
    have on' : u.b .hbCfg 0 = true := popped ▸ on
    have path' : (u.pathOf 2).isNone = false := by
      have same : u.pathOf 2 = s.pathOf 2 := popped ▸ rfl
      rw [same, ← Option.not_isSome, path]
      rfl
    have budget' : u.budgetOf it.ch it.fn = some f := by
      rw [own]
      exact popped ▸ budget
    rw [State.hitBudget, aligned', clear', on', path', budget', if_neg (by decide)]
    exact if_neg (by omega)
  have transports := transports_transport u
  have number := fn_of_budgetOf budget
  have arm : u.offerItem it amp tot op = u.transport.admitItem ch it f := by
    simp only [State.offerItem, own, hitValues_popped popped, holds, Bool.not_true, Bool.false_eq_true, if_false, allowed,
      if_neg (show ¬(u.transport.hitChan ch).free < it.flits.length by omega)]
    rfl
  obtain ⟨items, chans, queue, left⟩ := admitItem_frame u.transport ch it f
  rw [arm, ← number]
  exact ⟨items, chan_popped popped (chans.trans transports.chans), queue, left⟩

end

theorem totWaitExpiry_closes {ch : Nat} {h : OpenHit} {rest : List OpenHit} {q : State} (released : q.settleNow.rel 5 = true)
    (low : ch < q.settleNow.res.channels) (empty : (q.settleNow.chan ch).fifo = []) (waits : (q.settleNow.chan ch).hits = h :: rest)
    (open_ : h.closed = false) : ∃ t, exec (.totWaitExpiry ch) q = .next t ∧ (t.chan ch).hits = { h with closed := true } :: rest ∧
      t.hits = q.settleNow.hits := by
  have arm : exec (.totWaitExpiry ch) q = execTotWaitExpiry ch q := rfl
  rw [arm, execTotWaitExpiry]
  generalize q.settleNow = s at *
  dsimp only
  rw [released, decide_eq_false (by omega), if_neg (by decide), drainStops_of_empty none empty]
  refine ⟨_, rfl, ?_, rfl⟩
  rw [State.chan_setChan_self, waits, endWait, open_]
  rfl

/-- Settles O42: the three judgements of the admission point, and the end of a wait. -/
theorem hitsFormItems : Obligations.HitsFormItems := by
  intro ch h rest it amp tot op q s u settled released low empty waits popped
  subst settled
  refine ⟨fun forms done begun => ?_, totWaitExpiry_closes released low empty waits⟩
  have run := exec_hitForm released low empty waits forms done begun
  have own := ch_of_formItem forms
  rw [popped] at run
  exact ⟨fun fails => ⟨_, run, offerItem_suppresses popped own fails⟩, fun f holds budget aligned clear_ on path fits room =>
    ⟨_, run, offerItem_admits popped own holds budget aligned clear_ on path fits room⟩,
    fun holds apart => ⟨_, run, offerItem_refuses popped own holds apart⟩⟩

end Sys2Proof.Claims

-- the close of a frame --------------------------------------------------------------------------------------------------------------------------

namespace Sys2Proof.Machine
open Sys2Proof.Claims

/-- What the close says of a held curd. -/
def Held.view (h : Held) : Nat × Byte × Word × List Flit := (h.path, h.curd.rind.type, h.curd.rind.fn, h.curd.payload)

/-- A curd formed for a path that there is (R208). -/
theorem formCurd_frame {s : State} {type p : Nat} (fn : Word) (payload : List Flit) (mark : Rind → Rind) (ready : Bool) (dep : Option Nat)
    (path : s.pathOf type = some p) :
    (s.formCurd type fn payload mark ready dep).sched.held = s.sched.held ++
      [{ curd := { rind := mark (mkRind s.ports.nodeId (s.seqOf type) fn type payload.length), payload }, path := p, kind := 0, ready, dep }] ∧
    s.formCurd type fn payload mark ready dep = { s with sched := (s.formCurd type fn payload mark ready dep).sched } ∧
    SMap.find (s.formCurd type fn payload mark ready dep).sched.formed (streamKey s.ports.nodeId type) = some fn := by
  have path' : ((s.nextSeq type).setFormed type fn).pathOf type = some p := path
  simp only [State.formCurd, path']
  exact ⟨rfl, rfl, (SMap.find_put _ _ _ _).trans (if_pos rfl)⟩

/-- What the press marks in the rind of a HIT curd (R208). -/
def hitMark (bad : List Nat) (i : Nat) (g : List Item) (r : Rind) : Rind :=
  { r with invPresent := g.any (·.inv), rangeSwitch := g.any (·.rangeSwitch), poisoned := g.any (·.poison) || bad.contains i }

/-- Curds of HIT formed one after the other: what they hold, and the stream's last frame (R207, R208). -/
theorem formHits_frame {p : Nat} (fn : Word) (bad : List Nat) (gs : List (List Item)) : ∀ (s : State) (i : Nat), s.pathOf 2 = some p →
    ∃ l : List Held, (s.formHits fn bad gs i).sched.held = s.sched.held ++ l ∧
      l.map Held.view = gs.map (fun g => (p, 2, fn, g.flatMap (·.flits))) ∧
      s.formHits fn bad gs i = { s with sched := (s.formHits fn bad gs i).sched } ∧
      (gs ≠ [] ∨ SMap.find s.sched.formed (streamKey s.ports.nodeId 2) = some fn →
        SMap.find (s.formHits fn bad gs i).sched.formed (streamKey s.ports.nodeId 2) = some fn) := by
  induction gs with
  | nil => exact fun s i _ => ⟨[], (List.append_nil _).symm, rfl, rfl, fun known => known.resolve_left fun none_ => none_ rfl⟩
  | cons g gs ih =>
    intro s i path
    have step : s.formHits fn bad (g :: gs) i =
        (s.formCurd 2 fn (g.flatMap (·.flits)) (hitMark bad i g) true none).formHits fn bad gs (i + 1) := rfl
    rw [step]
    obtain ⟨held, frame, known⟩ := formCurd_frame fn (g.flatMap (·.flits)) (hitMark bad i g) true none path
    generalize s.formCurd 2 fn _ _ true none = u at held frame known ⊢
    have path' : u.pathOf 2 = some p := by rw [frame]; exact path
    have node : u.ports = s.ports := by rw [frame]
    obtain ⟨l, held', views, frame', known'⟩ := ih u (i + 1) path'
    refine ⟨{ curd := { rind := hitMark bad i g (mkRind s.ports.nodeId (s.seqOf 2) fn 2 (g.flatMap (·.flits)).length),
                        payload := g.flatMap (·.flits) },
              path := p, kind := 0, ready := true, dep := none } :: l, ?_, ?_, ?_, fun _ => ?_⟩
    · rw [held', held, List.append_assoc]
      rfl
    · rw [List.map_cons, views]
      rfl
    · rw [frame', frame]
    · rw [node] at known'
      exact known' (Or.inr known)

/-- No EMPTY curd where a stream has formed one for the frame (R34). -/
theorem closeStream_of_formed {s : State} {type : Nat} {fn : Word} (known : SMap.find s.sched.formed (streamKey s.ports.nodeId type) = some fn) :
    s.closeStream type fn = s := by
  have self : sdiff 32 fn.toNat fn.toNat = 0 := by
    have low := fn.isLt
    rw [sdiff, Nat.mod_eq_of_lt low, Nat.add_sub_cancel_left, Nat.mod_self]
    rfl
  unfold State.closeStream
  split
  · rfl
  · refine if_pos ?_
    rw [State.needsEmpty, known]
    dsimp only
    rw [self]
    decide

theorem packItems_ne_nil (maxp : Nat) : ∀ (is cur : List Item) (n : Nat), (is ≠ [] ∨ cur ≠ []) → packItems maxp is cur n ≠ []
  | [], cur, _, some_ => by
    rw [packItems, if_neg (some_.resolve_left fun h => h rfl)]
    exact List.cons_ne_nil _ _
  | it :: is, cur, n, _ => by
    rw [packItems]
    split
    · exact List.cons_ne_nil _ _
    · exact packItems_ne_nil maxp is _ _ (Or.inr (List.append_ne_nil_of_right_ne_nil _ (List.cons_ne_nil _ _)))

/-- A channel whose budget of a frame is forgotten. -/
def State.forgetFrame (s : State) (fn : FN) (k : Nat) : State :=
  s.setHitChan k { s.hitChan k with frames := (s.hitChan k).frames.filter fun f => f.fn != fn }

/-- The close of a frame before its curds are formed: the frame leaves, with its items and its budgets (R201). -/
def State.endHitFrame (s : State) (fn : FN) (rest : List (FN × CT)) : State :=
  (List.range 48).foldl (fun s k => s.forgetFrame fn k)
    { s with hits := { s.hits with ended := rest, items := s.hits.items.filter fun i => i.fn != fn } }

theorem endHitFrame_frame (s : State) (fn : FN) (rest : List (FN × CT)) :
    (s.endHitFrame fn rest).core = s.core ∧ (s.endHitFrame fn rest).sched = s.sched ∧ (s.endHitFrame fn rest).hits.ended = rest ∧
      (s.endHitFrame fn rest).hits.items = s.hits.items.filter fun i => i.fn != fn := by
  have fold (l : List Nat) : ∀ t : State, ∃ c, l.foldl (fun s k => s.forgetFrame fn k) t = { t with hits := { t.hits with chan := c } } := by
    induction l with
    | nil => exact fun t => ⟨t.hits.chan, rfl⟩
    | cons k l ih =>
      intro t
      obtain ⟨c, eq⟩ := ih (t.forgetFrame fn k)
      exact ⟨c, by rw [List.foldl_cons, eq]; rfl⟩
  obtain ⟨c, eq⟩ := fold (List.range 48) { s with hits := { s.hits with ended := rest, items := s.hits.items.filter fun i => i.fn != fn } }
  unfold State.endHitFrame
  rw [eq]
  exact ⟨rfl, rfl, rfl, rfl⟩

/-- The curds of a closed frame: formed from the groups of its items, and all ready at one instant (R207, R208). -/
def State.leaveAsCurds (v : State) (fn : Word) (stage : List Nat) (gs : List (List Item)) (ready : CT) : State :=
  (if (v.formHits fn stage gs 0).b .hbCfg 0 then (v.formHits fn stage gs 0).closeStream 2 fn else v.formHits fn stage gs 0).readyFrom
    v.sched.held.length ready

/-- The close of a frame from the state with its late items formed, with the event of a parity error (R201, R208). -/
def State.closeFrame (u : State) (fn : FN) (close : CT) (rest : List (FN × CT)) (parity stage : List Nat) : State :=
  (if parity.any fun i => decide (i < (closedItems u.hits.items fn parity).length) then (u.endHitFrame fn rest).raise 8 1 0
    else u.endHitFrame fn rest).leaveAsCurds (fn.setWidth 32) stage
      (packItems (u.f .hbCfg 23 16) (closedItems u.hits.items fn parity) [] 0) (close + 32768)

theorem closeHit_of_ended {fn : FN} {close : CT} {rest : List (FN × CT)} {s : State} (parity stage : List Nat) (released : s.rel 5 = true)
    (ended : s.hits.ended = (fn, close) :: rest) :
    s.closeHit parity stage = ((s.advanceTo close).formAll (List.range s.res.channels)).transport.closeFrame fn close rest parity stage := by
  rw [State.closeHit, ended]
  refine (if_neg ?_).trans rfl
  rw [released]
  decide

end Sys2Proof.Machine

namespace Sys2Proof.Claims
open Sys2Proof.Machine

/-- The close of the oldest ended frame, from the state with its late items formed. -/
theorem exec_hitFrameClose {fn : FN} {close : CT} {rest : List (FN × CT)} {parity stage : List Nat} {s u : State} (released : s.rel 5 = true)
    (ended : s.hits.ended = (fn, close) :: rest)
    (formed : ((s.advanceTo close).formAll (List.range s.res.channels)).transport = u) :
    ∃ v : State, v.sched = u.sched ∧ v.hits = (u.endHitFrame fn rest).hits ∧ v.pathOf 2 = u.pathOf 2 ∧
      exec (.hitFrameClose parity stage) s = .next (v.leaveAsCurds (fn.setWidth 32) stage
        (packItems (u.f .hbCfg 23 16) (closedItems u.hits.items fn parity) [] 0) (close + 32768)) := by
  obtain ⟨core, kept, -, -⟩ := endHitFrame_frame u fn rest
  have path : (u.endHitFrame fn rest).pathOf 2 = u.pathOf 2 := State.pathOf_congr core 2
  have arm : exec (.hitFrameClose parity stage) s = .next (s.closeHit parity stage) := rfl
  rw [arm, closeHit_of_ended parity stage released ended, formed, State.closeFrame]
  split
  · exact ⟨_, (State.raise_sched _ 8 1 0).trans kept, State.raise_hits _ 8 1 0,
      (State.pathOf_congr (State.raise_core _ 8 1 0) 2).trans path, rfl⟩
  · exact ⟨_, kept, rfl, path, rfl⟩

/-- Settles O43: the items of the frame leave as HIT curds, packed in order and ready together. -/
theorem hitFramesCloseIntoCurds : Obligations.HitFramesCloseIntoCurds := by
  intro fn close rest p parity stage s u released ended formed path some_
  obtain ⟨v, sched, hits, same, run⟩ := exec_hitFrameClose (parity := parity) (stage := stage) released ended formed
  obtain ⟨-, -, left, items⟩ := endHitFrame_frame u fn rest
  generalize gs_eq : packItems (u.f .hbCfg 23 16) (closedItems u.hits.items fn parity) [] 0 = gs at run ⊢
  rw [State.leaveAsCurds, sched] at run
  have groups : gs ≠ [] := gs_eq ▸ packItems_ne_nil _ _ _ _ (Or.inl some_)
  obtain ⟨l, held, views, frame, known⟩ := formHits_frame (fn.setWidth 32) stage gs v 0 (same.trans path)
  generalize v.formHits (fn.setWidth 32) stage gs 0 = w at run held frame known
  have node : w.ports = v.ports := by rw [frame]
  have none_ : w.closeStream 2 (fn.setWidth 32) = w := closeStream_of_formed (by rw [node]; exact known (Or.inl groups))
  rw [none_, ite_self] at run
  rw [sched] at held
  have drop : w.sched.held.drop u.sched.held.length = l := by rw [held, List.drop_left]
  have take : w.sched.held.take u.sched.held.length = u.sched.held := by rw [held, List.take_left]
  have kept : w.hits = (u.endHitFrame fn rest).hits := by rw [frame]; exact hits
  have after_ : (w.readyFrom u.sched.held.length (close + 32768)).sched.held =
      u.sched.held ++ l.map fun h => { h with readyAt := some (close + 32768) } := by
    rw [← drop]
    exact congrArg (· ++ _) take
  refine ⟨_, run, ?_, ?_, ?_, ?_⟩
  · exact (congrArg Hits.ended kept).trans left
  · exact (congrArg Hits.items kept).trans items
  · rw [after_, List.drop_left, List.map_map]
    have split_ : (fun h : Held => (h.path, h.curd.rind.type, h.curd.rind.fn, h.curd.payload, h.readyAt)) ∘
        (fun h : Held => { h with readyAt := some (close + 32768) }) =
        (fun x : Nat × Byte × Word × List Flit => (x.1, x.2.1, x.2.2.1, x.2.2.2, some (close + 32768))) ∘ Held.view := rfl
    rw [split_, ← List.map_map, views, List.map_map]
    rfl
  · rw [after_, List.take_left]

end Sys2Proof.Claims
end

section
/-!
SUPPORT. Memory: what a read without findings leaves of the poison marks (R334 to R336), what a write leaves of the bytes (R333), the spare
rows, the scrubber and the stacks (R337 to R345), and the statement on them.
-/
open Sys2Proof

namespace Sys2Proof.Machine
open Sys2Proof.Claims

-- places of a space: its regions and its old tags ----------------------------------------------------------------------------------------------

/-- The regions, and the ranges that still carry the tag of a region moved away. -/
def State.places (s : State) : SMap Region × List (Nat × Nat) := (s.vat.regions, s.vat.stale)

theorem places_of_vat {s t : State} (same : t.vat = s.vat) : t.places = s.places := by rw [State.places, same, State.places]

theorem logErr_vat (s : State) (kind : Nat) (vat : Bool) (a src : Nat) (denied : Bool) (spare : Option Nat) :
    ∃ log full, (s.logErr kind vat a src denied spare).1.vat = { s.vat with log := log, logFull := full } := by
  unfold State.logErr
  dsimp only
  split
  · exact ⟨s.vat.log, s.vat.logFull, State.bump_vat _ _ _⟩
  · split
    · exact ⟨_, true, State.raise_vat _ _ _ _⟩
    · exact ⟨_, s.vat.logFull, rfl⟩

/-- An uncorrectable unit gets its mark, and the log may take an entry (R334, R344). -/
theorem uncorrectable_vat (s : State) (vat : Bool) (a src kind : Nat) : ∃ log full, (s.uncorrectable vat a src kind).vat =
    { (s.setPoison vat (SMap.put (s.poison vat) a true)).vat with log := log, logFull := full } := by
  obtain ⟨log, full, logged⟩ := logErr_vat ((s.setPoison vat (SMap.put (s.poison vat) a true)).bump 0x420048 1) kind vat a src false none
  refine ⟨log, full, ?_⟩
  rw [State.bump_vat] at logged
  rw [State.uncorrectable]
  dsimp only
  rw [apply_ite State.vat, State.notifyPorts_vat, ite_self, State.raise_vat, logged]

theorem freeTrack_places (s : State) (vat : Bool) (a : Nat) : (s.freeTrack vat a).places = s.places := rfl

section same_places
variable {s t : State} (same : t.places = s.places)
include same

theorem regionAt_of_places (vat : Bool) (a : Nat) : t.regionAt vat a = s.regionAt vat a := by
  rw [State.regionAt, (Prod.mk.inj same).1, State.regionAt]

theorem classAt_of_places (vat : Bool) (a : Nat) : t.classAt vat a = s.classAt vat a := by
  simp only [State.classAt, regionAt_of_places same, State.region, (Prod.mk.inj same).1]

theorem unitOf_of_places (vat : Bool) (a : Nat) : t.unitOf vat a = s.unitOf vat a := by
  rw [State.unitOf, classAt_of_places same, State.unitOf]

theorem staleTag_of_places (vat : Bool) (a : Nat) : t.staleTag vat a = s.staleTag vat a := by
  rw [State.staleTag, regionAt_of_places same, (Prod.mk.inj same).2, State.staleTag]

end same_places

theorem poison_setPoison (s : State) (vat : Bool) (p : SMap Bool) : (s.setPoison vat p).poison vat = p := by
  cases vat <;> rfl

theorem isPoisoned_of_vat {s t : State} (same : t.vat = s.vat) (vat : Bool) (u : Nat) : t.isPoisoned vat u = s.isPoisoned vat u := by
  rw [State.isPoisoned, State.poison, same, State.isPoisoned, State.poison]

/-- A mark stands at its unit. -/
theorem isPoisoned_put (s : State) (vat : Bool) (a u : Nat) :
    (s.setPoison vat (SMap.put (s.poison vat) a true)).isPoisoned vat u = (s.isPoisoned vat u || u == a) := by
  rw [State.isPoisoned, poison_setPoison, SMap.get_eq_find, SMap.find_put, State.isPoisoned, SMap.get_eq_find]
  by_cases here : u = a
  · rw [if_pos here, here, beq_self_eq_true, Bool.or_true]
    rfl
  · rw [if_neg here, beq_false_of_ne here, Bool.or_false]

/-- The marks after an uncorrectable unit, and its places. -/
theorem uncorrectable_marks (s : State) (vat : Bool) (a src kind u : Nat) : (s.uncorrectable vat a src kind).places = s.places ∧
    (s.uncorrectable vat a src kind).isPoisoned vat u = (s.isPoisoned vat u || u == a) := by
  obtain ⟨log, full, eq⟩ := uncorrectable_vat s vat a src kind
  have marks := isPoisoned_put s vat a u
  constructor
  · rw [State.places, eq]
    cases vat <;> rfl
  · rw [← marks, State.isPoisoned, State.poison, eq, State.isPoisoned, State.poison]
    rfl

theorem meetCells_nil (s : State) (vat : Bool) (a : Nat) : s.meetCells vat a [] = s := rfl

theorem outcome_nil (s : State) (vat : Bool) (a : Nat) : s.outcome vat a [] = if s.staleTag vat a then some .tag else none := rfl

/-- A unit read without findings is poisoned where it was, or where it carries an old tag (R336). -/
theorem readUnit_marks (s : State) (vat : Bool) (a src u : Nat) : (s.readUnit vat a src []).places = s.places ∧
    (s.readUnit vat a src []).isPoisoned vat u = (s.isPoisoned vat u || (u == a && s.staleTag vat u)) := by
  rw [State.readUnit, meetCells_nil, outcome_nil]
  by_cases marked : s.isPoisoned vat a = true
  · rw [if_pos marked]
    refine ⟨places_of_vat (State.bump_vat _ _ _), ?_⟩
    rw [isPoisoned_of_vat (State.bump_vat _ _ _)]
    by_cases here : u = a
    · rw [here, marked, Bool.true_or]
    · rw [beq_false_of_ne here, Bool.false_and, Bool.or_false]
  · rw [if_neg marked]
    by_cases old : s.staleTag vat a = true
    · obtain ⟨places, marks⟩ := uncorrectable_marks s vat a src 2 u
      rw [if_pos old]
      refine ⟨(places_of_vat (State.bump_vat _ _ _)).trans places, ?_⟩
      rw [isPoisoned_of_vat (State.bump_vat _ _ _), marks]
      by_cases here : u = a
      · rw [here, old, Bool.and_true]
      · rw [beq_false_of_ne here, Bool.false_and]
    · have none_ : (u == a && s.staleTag vat u) = false := by
        by_cases here : u = a
        · rw [here, eq_false_of_ne_true old, Bool.and_false]
        · rw [beq_false_of_ne here, Bool.false_and]
      rw [if_neg old, none_, Bool.or_false]
      dsimp only
      split
      · split
        · exact ⟨freeTrack_places s vat a, rfl⟩
        · exact ⟨rfl, rfl⟩
      · exact ⟨rfl, rfl⟩

theorem readUnits_marks (vat : Bool) (src u : Nat) (us : List Nat) : ∀ s : State, (s.readUnits vat src [] us).places = s.places ∧
    (s.readUnits vat src [] us).isPoisoned vat u = (s.isPoisoned vat u || (decide (u ∈ us) && s.staleTag vat u)) := by
  induction us with
  | nil => exact fun s => ⟨rfl, (Bool.or_false _).symm⟩
  | cons a us ih =>
    intro s
    obtain ⟨places, marks⟩ := readUnit_marks s vat a src u
    obtain ⟨places', marks'⟩ := ih (s.readUnit vat a src [])
    rw [State.readUnits]
    refine ⟨places'.trans places, ?_⟩
    rw [marks', marks, staleTag_of_places places]
    rw [Bool.or_assoc, ← Bool.and_or_distrib_right]
    congr 2
    by_cases here : u = a
    · rw [here, beq_self_eq_true, Bool.true_or, decide_eq_true List.mem_cons_self]
    · rw [beq_false_of_ne here, Bool.false_or]
      exact decide_eq_decide.mpr ⟨List.mem_cons_of_mem a, fun listed => (List.mem_cons.mp listed).resolve_left here⟩

-- the units of a range --------------------------------------------------------------------------------------------------------------------------

theorem mem_insertBy {α : Type} (le : α → α → Bool) (x y : α) (l : List α) : y ∈ insertBy le x l ↔ y = x ∨ y ∈ l := by
  induction l with
  | nil => simp [insertBy]
  | cons z zs ih =>
    rw [insertBy]
    split
    · simp only [List.mem_cons, ih]
      exact or_left_comm
    · exact List.mem_cons

theorem mem_sortBy {α : Type} (le : α → α → Bool) (y : α) (l : List α) : y ∈ sortBy le l ↔ y ∈ l := by
  have fold (l : List α) : ∀ acc : List α, y ∈ l.foldl (fun acc x => insertBy le x acc) acc ↔ y ∈ acc ∨ y ∈ l := by
    induction l with
    | nil => simp
    | cons x xs ih =>
      intro acc
      rw [List.foldl_cons, ih, mem_insertBy, List.mem_cons, or_assoc, or_left_comm]
  rw [sortBy, fold]
  simp

/-- An old tag has no region, so that its unit is a word of 16 bytes. -/
theorem class_of_staleTag {s : State} {vat : Bool} {a : Nat} (old : s.staleTag vat a = true) : vat = false ∧ s.classAt vat a = 1 ∧
    ∃ r ∈ s.vat.stale, r.1 ≤ a ∧ a < r.2 := by
  simp only [State.staleTag, Bool.and_eq_true, Bool.not_eq_true', Option.isNone_iff_eq_none, List.any_eq_true, decide_eq_true_eq] at old
  obtain ⟨⟨space, outside⟩, r, listed, inside⟩ := old
  exact ⟨space, by rw [State.classAt, outside], r, listed, inside⟩

/-- A unit of a range overlaps it. -/
theorem overlaps_of_mem_units {s : State} {vat : Bool} {lo hi u : Nat} {found : List Finding} (mem : u ∈ s.units vat lo hi found) :
    u < hi ∧ lo < u + s.unitSize vat u := by
  rw [State.units, mem_sortBy, List.mem_eraseDups, List.mem_filter, decide_eq_true_eq] at mem
  exact mem.2

/-- A word of the range that carries an old tag is one of its units. -/
theorem mem_units_of_stale {s : State} {vat : Bool} {lo hi a : Nat} (old : s.staleTag vat a = true) (aligned : lo % 16 = 0)
    (word : a % 16 = 0) (above : lo ≤ a) (below : a < hi) : a ∈ s.units vat lo hi [] := by
  obtain ⟨rfl, cls, r, listed, first, last⟩ := class_of_staleTag old
  have size : s.unitSize false a = 16 := by rw [State.unitSize, cls]; rfl
  rw [State.units, mem_sortBy, List.mem_eraseDups, List.mem_filter, decide_eq_true_eq, size]
  refine ⟨List.mem_append_right _ ?_, below, by omega⟩
  refine List.mem_flatMap.mpr ⟨r, listed, ?_⟩
  rw [List.mem_map]
  refine ⟨(a - max r.1 lo / 16 * 16) / 16, List.mem_range.mpr ?_, ?_⟩
  · have high : a < min r.2 hi := Nat.lt_min.mpr ⟨last, below⟩
    have low : max r.1 lo ≤ a := Nat.max_le.mpr ⟨first, above⟩
    omega
  · have low : max r.1 lo ≤ a := Nat.max_le.mpr ⟨first, above⟩
    omega

/-- What a range read without findings leaves of a word's mark: it stands where the word was marked or carried an old tag, and where it
stands newly a word of the range no later than this one carried an old tag. -/
theorem wordPoisoned_readRange {s : State} {vat : Bool} {a k n src : Nat} (aligned : a % 16 = 0) (inside : k < n / 4) :
    (s.wordPoisoned vat (a + 16 * k) = true ∨ s.staleTag vat (a + 16 * k) = true →
      (s.readRange vat a (a + 4 * n) src []).wordPoisoned vat (a + 16 * k) = true) ∧
    ((s.readRange vat a (a + 4 * n) src []).wordPoisoned vat (a + 16 * k) = true →
      s.wordPoisoned vat (a + 16 * k) = true ∨ ∃ j ≤ k, s.staleTag vat (a + 16 * j) = true) := by
  obtain ⟨places, marks⟩ := readUnits_marks vat src (s.unitOf vat (a + 16 * k)) (s.units vat a (a + 4 * n) []) s
  rw [State.wordPoisoned, State.wordPoisoned, State.readRange, unitOf_of_places places, marks, Bool.or_eq_true, Bool.and_eq_true,
    decide_eq_true_eq]
  refine ⟨Or.imp_right fun old => ?_, Or.imp_right fun new => ?_⟩
  · obtain ⟨-, cls, -⟩ := class_of_staleTag old
    have self : s.unitOf vat (a + 16 * k) = a + 16 * k := by
      rw [State.unitOf, cls, if_neg (by decide)]
      omega
    rw [self]
    exact ⟨mem_units_of_stale old aligned (by omega) (by omega) (by omega), old⟩
  · obtain ⟨listed, old⟩ := new
    obtain ⟨-, cls, -⟩ := class_of_staleTag old
    obtain ⟨-, reach⟩ := overlaps_of_mem_units listed
    rw [State.unitSize, cls, if_neg (by decide)] at reach
    have place : s.unitOf vat (a + 16 * k) % 16 = 0 ∧ s.unitOf vat (a + 16 * k) ≤ a + 16 * k := by
      rw [State.unitOf]
      split <;> omega
    generalize s.unitOf vat (a + 16 * k) = u at old reach place
    refine ⟨(u - a) / 16, by omega, ?_⟩
    rw [show a + 16 * ((u - a) / 16) = u by omega]
    exact old

-- what a read-modify-write leaves --------------------------------------------------------------------------------------------------------------

theorem meetCells_other (s : State) (vat : Bool) (a : Nat) (found : List Finding) : (s.meetCells vat a found).mem (!vat) = s.mem (!vat) := by
  simp only [State.meetCells]
  split
  · split
    · split
      · rfl
      · exact (State.mem_setMem s vat (!vat) _).trans (if_neg (by cases vat <;> decide))
    · split
      · exact State.mem_of_mems (State.setPoison_mems _ _ _) _
      · rfl
    · rfl
  · rfl

/-- The read before a write keeps the bytes of the other space, whatever it finds. -/
theorem rmwRead_other (s : State) (vat : Bool) (a : Nat) (found : List Finding) : (s.rmwRead vat a found).mem (!vat) = s.mem (!vat) := by
  have met := (meetCells_other (s.bump 0x420060 1) vat a found).trans (State.mem_of_mems (State.bump_mems s 0x420060 1) _)
  simp only [State.rmwRead]
  split
  · exact met
  · split
    · exact (State.mem_of_mems (State.corrected_mems _ _ _ _) _).trans met
    · exact (State.mem_of_mems (State.uncorrectable_mems _ _ _ _ _) _).trans met
    · exact met

theorem rmwReads_other (vat : Bool) (found : List Finding) (l : List Nat) : ∀ s : State,
    (s.rmwReads vat found l).mem (!vat) = s.mem (!vat) := by
  induction l with
  | nil => exact fun _ => rfl
  | cons b bs ih => exact fun s => (ih _).trans (rmwRead_other s vat b found)

/-- A write has its bytes where it writes and keeps the other space, whatever its reads find (R333, R335). -/
theorem writeRange_writes (s : State) (vat : Bool) (a : Nat) (bytes : List Byte) (found : List Finding) :
    (s.writeRange vat a bytes found).mem (!vat) = s.mem (!vat) ∧
    ∀ x, a ≤ x → x < a + bytes.length → rdByte ((s.writeRange vat a bytes found).mem vat) x = bytes.getD (x - a) 0 := by
  unfold State.writeRange
  split
  · next none_ =>
    refine ⟨rfl, fun x low high => ?_⟩
    rw [none_] at high
    exact absurd high (Nat.not_lt.mpr low)
  · have other : ((((s.rmwReads vat found (s.partials vat a (a + bytes.length))).freeRange vat a (a + bytes.length)).clearPoison vat a
        (a + bytes.length)).mem (!vat)) = s.mem (!vat) :=
      (State.mem_of_mems ((State.clearPoison_mems _ _ _ _).trans (State.freeRange_mems _ _ _ _)) _).trans (rmwReads_other vat found _ s)
    dsimp only
    generalize ((s.rmwReads vat found (s.partials vat a (a + bytes.length))).freeRange vat a (a + bytes.length)).clearPoison vat a
      (a + bytes.length) = u at other ⊢
    constructor
    · rw [State.mem_setMem, if_neg (by cases vat <;> decide), other]
    · intro x low high
      rw [State.mem_setMem, if_pos rfl, rdByte_wrBytes, if_pos ⟨low, high⟩]

/-- The read before a write leaves a poisoned block of class S as it is (R333). -/
theorem rmwRead_of_poisoned {s : State} {vat : Bool} {a : Nat} (found : List Finding) (cls : s.classAt vat a = 0)
    (marked : s.isPoisoned vat a = true) : s.rmwRead vat a found = s.bump 0x420060 1 := by
  have same : (s.bump 0x420060 1).vat = s.vat := State.bump_vat _ _ _
  have marked' : (s.bump 0x420060 1).isPoisoned vat a = true := (isPoisoned_of_vat same vat a).trans marked
  have cls' : (s.bump 0x420060 1).classAt vat a = 0 := (classAt_of_places (places_of_vat same) vat a).trans cls
  generalize bumped : s.bump 0x420060 1 = u at marked' cls' same
  have met : u.meetCells vat a found = u := by
    simp only [State.meetCells]
    split
    · split
      · exact if_pos (Or.inr marked')
      · exact if_neg (by rw [cls']; decide)
      · rfl
    · rfl
  simp only [State.rmwRead]
  rw [bumped, met, if_pos marked']

theorem writtenUnit_mems (s : State) (vat : Bool) (a : Nat) : (s.writtenUnit vat a).mems = s.mems := rfl

theorem isPoisoned_writtenUnit (s : State) (vat v : Bool) (a u : Nat) : (s.writtenUnit vat a).isPoisoned v u = s.isPoisoned v u := by
  cases v <;> rfl

theorem isPoisoned_setMem (s : State) (vat v : Bool) (m : List Host.Cell) (u : Nat) : (s.setMem vat m).isPoisoned v u = s.isPoisoned v u := by
  cases vat <;> rfl

-- the tracker -----------------------------------------------------------------------------------------------------------------------------------

theorem tracks_setTracks (s : State) (k : Nat) (l : List Track) : (s.setTracks k l).tracks k = l := by
  rw [State.tracks, State.setTracks, SMap.get_set, if_pos rfl]

/-- The entry of an address after it was touched. -/
theorem track_touchTrack (s : State) (t : Track) : (s.touchTrack t).track t.vat t.addr = some t := by
  rw [State.track, State.touchTrack]
  rw [tracks_setTracks, State.freeTrack]
  rw [tracks_setTracks, List.find?_append, List.find?_eq_none.mpr, Option.none_or, List.find?_cons_of_pos]
  · rw [beq_self_eq_true, beq_self_eq_true]
    rfl
  · intro q listed
    have kept := (List.mem_filter.mp listed).2
    rw [Bool.not_eq_true'] at kept
    rw [kept]
    decide

-- row moves and the scrubber -------------------------------------------------------------------------------------------------------------------

theorem foldl_of_fixed {α β : Type} {f : α → β → α} {a : α} (fixed : ∀ b, f a b = a) (l : List β) : l.foldl f a = a := by
  induction l with
  | nil => rfl
  | cons b l ih => rw [List.foldl_cons, fixed, ih]

/-- Rows copied without findings: nothing to note (R339). -/
theorem copyUnits_nil (bs : List Nat) : ∀ s : State, s.copyUnits [] bs = s := by
  induction bs with
  | nil => exact fun _ => rfl
  | cons b bs ih =>
    intro s
    refine Eq.trans ?_ (ih s)
    exact congrArg (fun u => State.copyUnits u [] bs) (foldl_of_fixed (fun u => ite_self (c := s.isPoisoned true u = true) s) _)

theorem freeRanges_frame (bs : List Nat) : ∀ s : State, ∃ tr wb, bs.foldl (fun s b => s.freeRange true b (b + 64)) s =
    { s with vat := { s.vat with tracker := tr, writeBacks := wb } } := by
  induction bs with
  | nil => exact fun s => ⟨s.vat.tracker, s.vat.writeBacks, rfl⟩
  | cons b bs ih =>
    intro s
    obtain ⟨tr, wb, eq⟩ := ih (s.freeRange true b (b + 64))
    exact ⟨tr, wb, by rw [List.foldl_cons, eq]; rfl⟩

theorem scrubUnit_mems (s : State) (vat : Bool) (a : Nat) {found : List Finding} (keeps : KeepsCells found) :
    (s.scrubUnit vat found a).mems = s.mems := by
  have met := State.meetCells_mems s vat a keeps
  simp only [State.scrubUnit]
  split
  · exact met
  · split
    · split
      · next t _ =>
        rw [State.touchTrack_mems, State.mems_mk, State.mems_eta, State.mems_ite, State.bump_mems, ite_self, State.corrected_mems, met]
      · rw [State.mems_mk, State.mems_eta, State.mems_ite, State.bump_mems, ite_self, State.corrected_mems, met]
    · exact (State.uncorrectable_mems _ _ _ _ _).trans met
    · exact (State.uncorrectable_mems _ _ _ _ _).trans met
    · split
      · rw [State.mems_ite, State.freeTrack_mems, ite_self, met]
      · exact met

theorem scrubPieces_mems {found : List Finding} (keeps : KeepsCells found) (ps : List (Nat × Nat)) : ∀ s : State,
    (s.scrubPieces found ps).mems = s.mems := by
  induction ps with
  | nil => exact fun _ => rfl
  | cons p ps ih =>
    intro s
    rw [State.scrubPieces]
    exact (ih _).trans (mems_foldl (fun s u => scrubUnit_mems s _ u keeps) _ s)

/-- One bit of a set of stacks. -/
theorem getLsbD_stackBit {i : Nat} (small : i < 4) (k : Nat) : (BitVec.ofNat 4 (2 ^ i)).getLsbD k = decide (k = i) := by
  rw [BitVec.getLsbD_ofNat, Nat.testBit_two_pow]
  by_cases here : k = i
  · rw [here, decide_eq_true small, decide_eq_true rfl, Bool.and_self]
  · rw [decide_eq_false here, decide_eq_false (p := i = k) fun same => here same.symm, Bool.and_false]

end Sys2Proof.Machine

namespace Sys2Proof.Claims
open Sys2Proof.Machine

/-- What MEM_READ answers from the state that its reads leave (R120). -/
def readAnswer (u : State) (vat : Bool) (a n : Nat) : Answer :=
  match (List.range (n / 4)).find? fun i => u.wordPoisoned vat (a + 16 * i) with
  | some i => { status := .poisoned, param := i, payload := rdWords (u.mem vat) a n }
  | none => { status := .ok, payload := rdWords (u.mem vat) a n }

theorem exec_memRead {s : State} {r : Req} {vat : Bool} {a n : Nat} (found : List Finding) (acc : Accepts s 0x200 r true)
    (addr : memAddr r = some (vat, a)) (words : (r.w 2).toNat = n) (clear : s.memStop vat a n = none) :
    exec (.memRead r found) s = .next (ran 0x200 r (readAnswer ((s.startCmd 0x200 r).readRange vat a (a + 4 * n) 1 found) vat a n)
      ((s.startCmd 0x200 r).readRange vat a (a + 4 * n) 1 found)) := by
  have arm : exec (.memRead r found) s = execMemRead r found s := rfl
  rw [arm, execMemRead]
  refine congrArg Host.Outcome.next (runOp_of_answer acc ?_)
  have clear' : (s.startCmd 0x200 r).memStop vat a n = none := clear
  rw [addr]
  dsimp only
  rw [words, clear', readAnswer]
  generalize (s.startCmd 0x200 r).readRange vat a (a + 4 * n) 1 found = u
  cases (List.range (n / 4)).find? fun i => u.wordPoisoned vat (a + 16 * i) <;> rfl

theorem readAnswer_payload (u : State) (vat : Bool) (a n : Nat) : (readAnswer u vat a n).payload = rdWords (u.mem vat) a n := by
  rw [readAnswer]
  split <;> rfl

theorem aligned_of_memStop {s : State} {vat : Bool} {a n : Nat} (clear : s.memStop vat a n = none) : a % 16 = 0 := by
  refine Decidable.byContradiction fun off => ?_
  rw [State.memStop] at clear
  rw [if_pos (Or.inl off)] at clear
  exact absurd clear (Option.some_ne_none _)

/-- MEM_READ: the words as stored, and the first of them that is poisoned or carries an old tag (R120, R336). -/
theorem memRead_answers {s : State} {r : Req} {vat : Bool} {a n i : Nat} {found : List Finding} (acc : Accepts s 0x200 r true)
    (addr : memAddr r = some (vat, a)) (words : (r.w 2).toNat = n) (clear : s.memStop vat a n = none) : ∃ (ans : Answer) (u : State),
    exec (.memRead r found) s = .next (ran 0x200 r ans u) ∧ ans.payload = rdWords (u.mem vat) a n ∧
    (KeepsCells found → u.window = s.window ∧ u.vatMem = s.vatMem) ∧ (found = [] → (∀ k, k < n / 4 →
      s.wordPoisoned vat (a + 16 * k) = false ∧ s.staleTag vat (a + 16 * k) = false) → ans.status = .ok) ∧
    (found = [] → i < n / 4 → (s.wordPoisoned vat (a + 16 * i) = true ∨ s.staleTag vat (a + 16 * i) = true) →
      (∀ k, k < i → s.wordPoisoned vat (a + 16 * k) = false ∧ s.staleTag vat (a + 16 * k) = false) →
      ans.status = .poisoned ∧ ans.param = i) := by
  have aligned := aligned_of_memStop clear
  have mems : (s.startCmd 0x200 r).mems = s.mems := rfl
  have marks (k : Nat) (inside : k < n / 4) := wordPoisoned_readRange (s := s.startCmd 0x200 r) (vat := vat) (n := n) (src := 1) aligned inside
  have same (x : Nat) : (s.startCmd 0x200 r).wordPoisoned vat x = s.wordPoisoned vat x ∧
      (s.startCmd 0x200 r).staleTag vat x = s.staleTag vat x := ⟨rfl, rfl⟩
  have clean (k : Nat) (inside : k < n / 4)
      (before : ∀ j, j ≤ k → s.wordPoisoned vat (a + 16 * j) = false ∧ s.staleTag vat (a + 16 * j) = false) :
      ((s.startCmd 0x200 r).readRange vat a (a + 4 * n) 1 []).wordPoisoned vat (a + 16 * k) = false := by
    refine eq_false_of_ne_true fun marked => ?_
    rcases (marks k inside).2 marked with own | ⟨j, first, old⟩
    · exact absurd (((same _).1.symm.trans own).symm.trans (before k (Nat.le_refl k)).1) (by decide)
    · exact absurd (((same _).2.symm.trans old).symm.trans (before j first).2) (by decide)
  refine ⟨_, _, exec_memRead found acc addr words clear, readAnswer_payload _ vat a n, fun keeps => ?_, ?_, ?_⟩
  · exact Prod.mk.inj ((State.readRange_mems _ vat a (a + 4 * n) 1 keeps).trans mems)
  · rintro rfl all
    rw [readAnswer, List.find?_eq_none.mpr]
    intro k inside
    have low := List.mem_range.mp inside
    rw [clean k low fun j first => all j (Nat.lt_of_le_of_lt first low)]
    decide
  · rintro rfl inside bad before
    have hit := (marks i inside).1 (by rw [(same _).1, (same _).2]; exact bad)
    have first : (List.range (n / 4)).find? (fun k =>
        ((s.startCmd 0x200 r).readRange vat a (a + 4 * n) 1 []).wordPoisoned vat (a + 16 * k)) = some i := by
      refine List.find?_range_eq_some.mpr ⟨hit, List.mem_range.mpr inside, fun k below => ?_⟩
      rw [clean k (Nat.lt_trans below inside) fun j upTo => before j (Nat.lt_of_le_of_lt upTo below)]
      rfl
    rw [readAnswer, first]
    exact ⟨rfl, rfl⟩

/-- MEM_WRITE: the bytes of its words, and no other (R120, R333, R335). -/
theorem memWrite_writes {s : State} {r : Req} {vat : Bool} {a : Nat} {found : List Finding} {bytes : List Byte}
    (acc : Accepts s 0x201 r true) (addr : memAddr r = some (vat, a)) (clear : s.memStop vat a (r.len - 2) = none)
    (data : bytes = (r.payload.drop 2).flatMap (fun w => leBytes 4 w.toNat)) : ∃ u : State,
    exec (.memWrite r found) s = .next (ran 0x201 r { status := .ok } u) ∧ u.mem (!vat) = s.mem (!vat) ∧
    (∀ x, a ≤ x → x < a + bytes.length → rdByte (u.mem vat) x = bytes.getD (x - a) 0) ∧
    (KeepsCells found → ∀ x, (x < a ∨ a + bytes.length ≤ x) → rdByte (u.mem vat) x = rdByte (s.mem vat) x) := by
  have arm : exec (.memWrite r found) s = execMemWrite r found s := rfl
  have clear' : (s.startCmd 0x201 r).memStop vat a (r.len - 2) = none := clear
  obtain ⟨other, written⟩ := writeRange_writes (s.startCmd 0x201 r) vat a bytes found
  rw [arm, execMemWrite]
  refine ⟨(s.startCmd 0x201 r).writeRange vat a bytes found, congrArg Host.Outcome.next (runOp_of_answer acc ?_), other, written,
    fun keeps x out => ?_⟩
  · rw [addr]
    dsimp only
    rw [clear', ← data]
    rfl
  · exact State.rdByte_writeRange _ vat vat a x bytes keeps fun _ => out

/-- READ_MODIFY_WRITE of one byte of a ready block of class S (R333). -/
theorem readModifyWrite_writes {s : State} {vat : Bool} {a n i : Nat} {v : Byte} {found : List Finding}
    (cls : s.classAt vat (a / 64 * 64) = 0) (at_ : s.regionAt vat (a / 64 * 64) = some n) (ready : (s.region n).state = 2) :
    ∃ t, exec (.readModifyWrite vat a [(i, v)] found) s = .next t ∧ t.mem (!vat) = s.mem (!vat) ∧
      rdByte (t.mem vat) (a / 64 * 64 + i % 64) = v ∧
      (KeepsCells found → ∀ x, x ≠ a / 64 * 64 + i % 64 → rdByte (t.mem vat) x = rdByte (s.mem vat) x) ∧
      (s.isPoisoned vat (a / 64 * 64) = true → t.isPoisoned vat (a / 64 * 64) = true) := by
  have arm : exec (.readModifyWrite vat a [(i, v)] found) s = execReadModifyWrite vat a [(i, v)] found s := rfl
  have run : exec (.readModifyWrite vat a [(i, v)] found) s =
      .next (((s.rmwRead vat (a / 64 * 64) found).writtenUnit vat (a / 64 * 64)).setMem vat
        (wrByte (((s.rmwRead vat (a / 64 * 64) found).writtenUnit vat (a / 64 * 64)).mem vat) (a / 64 * 64 + i % 64) v)) := by
    rw [arm, execReadModifyWrite]
    dsimp only
    rw [if_neg]
    · rfl
    · rw [cls, at_, State.regionTag, at_, Option.getD_some, ready]
      simp
  refine ⟨_, run, ?_, ?_, fun keeps x apart => ?_, fun marked => ?_⟩
  · rw [State.mem_setMem, if_neg (by cases vat <;> decide), State.mem_of_mems (writtenUnit_mems _ _ _), rmwRead_other]
  · rw [State.mem_setMem, if_pos rfl, rdByte_wrByte, if_pos rfl]
  · rw [State.mem_setMem, if_pos rfl, rdByte_wrByte, if_neg apart, State.mem_of_mems (writtenUnit_mems _ _ _),
      State.mem_of_mems (State.rmwRead_mems s vat _ keeps)]
  · rw [isPoisoned_setMem, isPoisoned_writtenUnit, rmwRead_of_poisoned found cls marked, isPoisoned_of_vat (State.bump_vat s 0x420060 1),
      marked]

/-- WRITE_BACK: the waiting write-back is made, and its entry is marked (R337). -/
theorem writeBack_marks {s : State} {vat : Bool} {a : Nat} (waits : (vat, a) ∈ s.vat.writeBacks) : ∃ t, exec (.writeBack vat a) s = .next t ∧
    (vat, a) ∉ t.vat.writeBacks ∧ t.window = s.window ∧ t.vatMem = s.vatMem ∧ (s.track vat a = none → t.track vat a = none) ∧
    ∀ q, s.track vat a = some q → t.track vat a = some { q with written := true } := by
  have arm : exec (.writeBack vat a) s = execWriteBack vat a s := rfl
  rw [arm, execWriteBack, if_pos waits]
  dsimp only
  have made : ∃ u : State, (if ({ s with vat := { s.vat with writeBacks := s.vat.writeBacks.filter (· ≠ (vat, a)) } } : State).classAt vat a = 0
      then ({ s with vat := { s.vat with writeBacks := s.vat.writeBacks.filter (· ≠ (vat, a)) } } : State).bump 0x420060 1
      else { s with vat := { s.vat with writeBacks := s.vat.writeBacks.filter (· ≠ (vat, a)) } }) = u ∧
      u.vat = { s.vat with writeBacks := s.vat.writeBacks.filter (· ≠ (vat, a)) } ∧ u.mems = s.mems := by
    refine ⟨_, rfl, ?_, ?_⟩
    · rw [apply_ite State.vat, State.bump_vat, ite_self]
    · rw [State.mems_ite, State.bump_mems, ite_self]
      rfl
  obtain ⟨u, eq, memory, mems⟩ := made
  rw [eq]
  have gone : (vat, a) ∉ u.vat.writeBacks := by
    rw [memory]
    exact fun listed => absurd rfl (of_decide_eq_true (List.mem_filter.mp listed).2)
  have track : u.track vat a = s.track vat a := by
    rw [State.track, State.tracks, memory, State.track, State.tracks]
  obtain ⟨window, vatMem⟩ := Prod.mk.inj mems
  cases found : s.track vat a with
  | none =>
    rw [track, found]
    exact ⟨u, rfl, gone, window, vatMem, fun _ => track.trans found, fun q held => absurd held.symm (Option.some_ne_none q)⟩
  | some q =>
    rw [track, found]
    obtain ⟨window', vatMem'⟩ := Prod.mk.inj (State.touchTrack_mems u { q with written := true })
    have named := List.find?_some found
    rw [Bool.and_eq_true, beq_iff_eq, beq_iff_eq] at named
    have touched := track_touchTrack u { q with written := true }
    refine ⟨_, rfl, gone, window'.trans window, vatMem'.trans vatMem, fun none_ => absurd none_ (Option.some_ne_none q), fun p held => ?_⟩
    rw [← Option.some.inj held, ← named.1, ← named.2]
    exact touched

theorem rowBase_div (a : Nat) : rowBase a / stackBytes = a / stackBytes := by
  rw [rowBase, stackBytes]
  omega

/-- SPARE_ROW starts the move of a row (R339, R340). -/
theorem spareRow_starts {s : State} {r : Req} {a n : Nat} (acc : Accepts s 0x212 r true) (addr : (r.w 1).toNat * 2 ^ 32 + (r.w 0).toNat = a)
    (low : a < 2 ^ 37) (present : a / stackBytes < s.res.vatStacks) (released : s.rel 6 = true) (up : s.stackUp (a / stackBytes) = true)
    (spare : freeSpare s.vat (bankKey a) = some n) (idle : SMap.find s.vat.moves (a / stackBytes) = none) :
    ∃ t, exec (.spareRow r) s = .next t ∧ t.window = s.window ∧ t.vatMem = s.vatMem ∧
      SMap.find t.vat.moves (a / stackBytes) = some { addr := rowBase a, spare := n, region := none, req := some r } := by
  have arm : exec (.spareRow r) s = execSpareRow r s := rfl
  have present' : a / stackBytes < (s.startCmd 0x212 r).res.vatStacks := present
  have released' : (s.startCmd 0x212 r).rel 6 = true := released
  have up' : (s.startCmd 0x212 r).stackUp (a / stackBytes) = true := up
  have memory : (s.startCmd 0x212 r).vat = s.vat := rfl
  have mems : (s.startCmd 0x212 r).mems = s.mems := rfl
  refine ⟨((s.startCmd 0x212 r).queueMove { addr := rowBase a, spare := n, region := none, req := some r }).endCmd true, ?_, ?_, ?_, ?_⟩
  · rw [arm, execSpareRow]
    refine congrArg Host.Outcome.next (runOp_of_silent acc ?_)
    dsimp only
    rw [addr, if_neg (by omega), released', up', memory, spare, idle, if_neg (by decide), if_neg (by decide)]
    rfl
  · rw [State.endCmd_window]
    exact (Prod.mk.inj ((State.queueMove_mems _ _).trans mems)).1
  · rw [State.endCmd_vatMem]
    exact (Prod.mk.inj ((State.queueMove_mems _ _).trans mems)).2
  · rw [State.endCmd_vat, State.queueMove]
    dsimp only
    rw [rowBase_div, memory, idle]
    exact (SMap.find_put _ _ _ _).trans (if_pos rfl)

/-- The end of a row move that is recorded: its event, the next move of its stack, and the reply of SPARE_ROW (R339, R340). -/
def endMove (s : State) (stack : Nat) (m : RowMove) (detail : Word) : State :=
  let s := s.raise 13 4 detail
  let s := match s.vat.waiting.find? fun w => w.addr / stackBytes == stack with
    | some w => { s with vat := { s.vat with waiting := s.vat.waiting.erase w, moves := SMap.put s.vat.moves stack w } }
    | none => s
  match m.req with
  | some q => s.reply 0x212 q { status := .ok, param := m.spare }
  | none => s

theorem endMove_keeps {u : State} {i : Nat} (m : RowMove) (detail : Word) (alone : ∀ w, w ∈ u.vat.waiting → w.addr / stackBytes ≠ i) :
    (endMove u i m detail).vat = u.vat ∧ (endMove u i m detail).mems = u.mems ∧
      ((endMove u i m detail).reg .igEvents).getLsbD 4 = true := by
  have raised := State.reg_raise_own_bit u 13 4 4 detail .igEvents rfl (by decide)
  have memory : (u.raise 13 4 detail).vat = u.vat := State.raise_vat _ _ _ _
  have mems : (u.raise 13 4 detail).mems = u.mems := State.raise_mems _ _ _ _
  have none_ : (u.raise 13 4 detail).vat.waiting.find? (fun w => w.addr / stackBytes == i) = none := by
    rw [memory]
    exact List.find?_eq_none.mpr fun w listed same => alone w listed (beq_iff_eq.mp same)
  unfold endMove
  dsimp only
  rw [none_]
  generalize u.raise 13 4 detail = x at raised memory mems ⊢
  cases m.req with
  | none => exact ⟨memory, mems, raised⟩
  | some q =>
    obtain ⟨-, regs, -⟩ := reply_ok_only x 0x212 q { status := .ok, param := m.spare } rfl
    have replied : (x.reply 0x212 q { status := .ok, param := m.spare }).mems = x.mems := Prod.ext (State.reply_window _ _ _ _)
      (State.reply_vatMem _ _ _ _)
    exact ⟨(State.reply_vat _ _ _ _).trans memory, replied.trans mems, (congrArg (BitVec.getLsbD · 4) (regs .igEvents)).trans raised⟩

/-- A region that counts a spare row. -/
def noteSpare (s : State) (r : Nat) : State :=
  if (s.region r).state = 0 then s else s.setRegion r { s.region r with spares := (s.region r).spares + 1 }

theorem noteSpare_keeps (s : State) (r a : Nat) (spare : Option Nat) : ((noteSpare s r).logErr 5 true a 3 false spare).1.mems = s.mems ∧
    ((noteSpare s r).logErr 5 true a 3 false spare).1.vat.soft = s.vat.soft ∧
    ((noteSpare s r).logErr 5 true a 3 false spare).1.vat.moves = s.vat.moves ∧
    ((noteSpare s r).logErr 5 true a 3 false spare).1.vat.waiting = s.vat.waiting := by
  obtain ⟨log, full, logged⟩ := logErr_vat (noteSpare s r) 5 true a 3 false spare
  rw [State.logErr_mems, logged, noteSpare]
  split <;> exact ⟨rfl, rfl, rfl, rfl⟩

/-- A row move that completes: the spare is recorded, and IG_SPARED raised (R339, R345). -/
theorem rowMoveDone_records {s : State} {i : Nat} {m : RowMove} (moving : SMap.find s.vat.moves i = some m)
    (alone : ∀ w, w ∈ s.vat.waiting → w.addr / stackBytes ≠ i) : ∃ t, exec (.rowMoveDone i []) s = .next t ∧
      SMap.find t.vat.moves i = none ∧ t.window = s.window ∧ t.vatMem = s.vatMem ∧ (t.reg .igEvents).getLsbD 4 = true ∧
      ∃ k, SMap.find t.vat.soft k = some ⟨i, m.addr / 64 % 16, m.addr / 2 ^ 15 % 16, m.addr / 2 ^ 19 % 65536, m.spare⟩ := by
  have arm : exec (.rowMoveDone i []) s = execRowMoveDone i [] s := rfl
  obtain ⟨tr, wb, freed⟩ := freeRanges_frame (rowBlocks m.addr) s
  generalize e_eq : (⟨i, m.addr / 64 % 16, m.addr / 2 ^ 15 % 16, m.addr / 2 ^ 19 % 65536, m.spare⟩ : SoftEntry) = e
  generalize index : softIndex s.vat.soft e = k
  have recorded : ∃ u detail, exec (.rowMoveDone i []) s = .next (endMove u i m detail) ∧ u.mems = s.mems ∧
      u.vat.soft = SMap.put s.vat.soft k e ∧ u.vat.moves = SMap.erase s.vat.moves i ∧ u.vat.waiting = s.vat.waiting := by
    rw [arm, execRowMoveDone, moving]
    dsimp only
    rw [copyUnits_nil, freed]
    dsimp only
    rw [e_eq, index]
    cases m.region with
    | none => exact ⟨_, _, rfl, rfl, rfl, rfl, rfl⟩
    | some r =>
      exact ⟨_, _, rfl, noteSpare_keeps { s with vat := { s.vat with tracker := tr, writeBacks := wb, soft := SMap.put s.vat.soft k e,
                                                                     moves := SMap.erase s.vat.moves i } } r m.addr (some m.spare)⟩
  obtain ⟨u, detail, run, mems, soft, moves, waiting⟩ := recorded
  obtain ⟨memory, mems', raised⟩ := endMove_keeps m detail (by rw [waiting]; exact alone)
  obtain ⟨window, vatMem⟩ := Prod.mk.inj (mems'.trans mems)
  refine ⟨_, run, ?_, window, vatMem, raised, k, ?_⟩
  · rw [memory, moves, SMap.find_erase, if_pos rfl]
  · rw [memory, soft, SMap.find_put, if_pos rfl]

/-- A step of a scrubber moves its cursor and changes no byte (R342, R343). -/
theorem scrubStep_walks {s : State} {i cur wraps : Nat} {e : Entry} {ps : List (Nat × Nat)} {found : List Finding}
    (starts : s.atStart i 4 = some e) (clear : s.time.infForce = false) (turn : s.time.fn.toNat % (fld e.w3 31 16 + 1) = 0)
    (walk : scrubWalk (s.scrubRanges e.idx) (2 * fld e.w3 15 0 + 4) (SMap.get 0 s.vat.cursors e.idx) (fld e.w3 15 0) = (ps, cur, wraps)) :
    ∃ t, exec (.scrubStep i found) s = .next t ∧ SMap.get 0 t.vat.cursors e.idx = cur ∧
      (KeepsCells found → t.window = s.window ∧ t.vatMem = s.vatMem) := by
  have arm : exec (.scrubStep i found) s = execScrubStep i found s := rfl
  rw [arm, execScrubStep, State.runEntry, starts]
  dsimp only
  generalize advanced : (s.advanceTo (s.tickCt + BitVec.ofNat 64 (e.start * 512))).setBegun i = u
  have frame := State.advanceTo_frame s (s.tickCt + BitVec.ofNat 64 (e.start * 512))
  have memory : u.vat = s.vat := by rw [← advanced, frame]; rfl
  have fuses : u.res = s.res := by rw [← advanced, frame]; rfl
  have clear' : u.time.infForce = false := by rw [← advanced, frame]; exact clear
  have turn' : u.time.fn.toNat % (fld e.w3 31 16 + 1) = 0 := by rw [← advanced, frame]; exact turn
  have mems : u.mems = s.mems := by rw [← advanced, frame]; rfl
  have ranges : u.scrubRanges e.idx = s.scrubRanges e.idx := by rw [State.scrubRanges, memory, fuses, State.scrubRanges]
  rw [clear', if_neg Bool.false_ne_true, if_neg (not_not_intro turn'), ranges, memory, walk]
  dsimp only
  generalize (ps.map fun p => (p.2 - p.1) / 64).sum = m
  refine ⟨_, rfl, ?_, fun keeps => ?_⟩
  · exact (SMap.get_set _ _ _ _ _).trans (if_pos rfl)
  · exact Prod.mk.inj (((State.bump_mems _ 0x420078 wraps).trans ((State.bump_mems _ 0x420070 m).trans
      (scrubPieces_mems keeps ps u))).trans mems)

/-- A stack's training ends: it is up, or it has failed (R324). -/
theorem stackTrainingDone_ends {s : State} {i : Nat} (released : s.rel 6 = true) (present : i < s.res.vatStacks) (small : i < 4)
    (untrained : s.vat.trained.getLsbD i = false) (sound : s.vat.failed.getLsbD i = false) :
    (∃ t, exec (.stackTrainingDone i true) s = .next t ∧ t = { s with vat := { s.vat with trained := t.vat.trained } } ∧
      t.vat.trained.getLsbD i = true) ∧
    ∃ t, exec (.stackTrainingDone i false) s = .next t ∧ t.vat.failed.getLsbD i = true ∧ t.vat.trained = s.vat.trained ∧
      (t.reg .vtEvents).getLsbD 0 = true := by
  have arm (ok : Bool) : exec (.stackTrainingDone i ok) s = execStackTrainingDone i ok s := rfl
  have open_ : (!s.rel 6 || decide (s.res.vatStacks ≤ i) || s.vat.trained.getLsbD i || s.vat.failed.getLsbD i) = false := by
    rw [released, decide_eq_false (by omega), untrained, sound]
    rfl
  have set_ (w : BitVec 4) : (w ||| BitVec.ofNat 4 (2 ^ i)).getLsbD i = true := by
    rw [BitVec.getLsbD_or, getLsbD_stackBit small, decide_eq_true rfl, Bool.or_true]
  have fails : exec (.stackTrainingDone i false) s =
      .next (({ s with vat := { s.vat with failed := s.vat.failed ||| BitVec.ofNat 4 (2 ^ i) } } : State).raise 12 0 0) := by
    rw [arm, execStackTrainingDone, open_]
    rfl
  have passes_ : exec (.stackTrainingDone i true) s =
      .next { s with vat := { s.vat with trained := s.vat.trained ||| BitVec.ofNat 4 (2 ^ i) } } := by
    rw [arm, execStackTrainingDone, open_]
    rfl
  refine ⟨⟨_, passes_, rfl, set_ _⟩, _, fails, ?_, ?_, State.reg_raise_own_bit _ 12 0 0 0 .vtEvents rfl (by decide)⟩
  · rw [State.raise_vat]
    exact set_ _
  · rw [State.raise_vat]

/-- A stack's temperature is kept, and its heat follows it with the hysteresis of R325. -/
theorem stackTempRead_keeps {s : State} {i : Nat} {val : BitVec 16} (released : s.rel 6 = true) (present : i < s.res.vatStacks) (small : i < 4)
    (sound : s.vat.failed.getLsbD i = false) : ∃ t, exec (.stackTempRead i val) s = .next t ∧ SMap.get 0 t.vat.temps i = val ∧
      t.vat.hot.getLsbD i = (decide (1360 < val.toInt) || (s.vat.hot.getLsbD i && decide (1280 ≤ val.toInt))) ∧
      ∀ k, k ≠ i → t.vat.hot.getLsbD k = s.vat.hot.getLsbD k := by
  have arm : exec (.stackTempRead i val) s = execStackTempRead i val s := rfl
  have up : s.hasStack i = true := by
    rw [State.hasStack, decide_eq_true present, sound]
    rfl
  have temps : SMap.get 0 (SMap.set 0 s.vat.temps i val) i = val := (SMap.get_set _ _ _ _ _).trans (if_pos rfl)
  rw [arm, execStackTempRead, released, up, if_neg (by decide)]
  dsimp only
  by_cases heats : 1360 < val.toInt ∧ s.vat.hot.getLsbD i = false
  · rw [if_pos heats]
    refine ⟨_, rfl, ?_, ?_, fun k other => ?_⟩
    · rw [State.raise_vat]
      exact temps
    · rw [State.raise_vat, decide_eq_true heats.1, Bool.true_or]
      exact (BitVec.getLsbD_or ..).trans (by rw [getLsbD_stackBit small, decide_eq_true rfl, Bool.or_true])
    · rw [State.raise_vat]
      exact (BitVec.getLsbD_or ..).trans (by rw [getLsbD_stackBit small, decide_eq_false other, Bool.or_false])
  · rw [if_neg heats]
    by_cases cools : val.toInt < 1280
    · rw [if_pos cools]
      refine ⟨_, rfl, temps, ?_, fun k other => ?_⟩
      · rw [decide_eq_false (by omega), decide_eq_false (by omega), Bool.and_false, Bool.or_false]
        refine (BitVec.getLsbD_and ..).trans ?_
        rw [BitVec.getLsbD_not, getLsbD_stackBit small, decide_eq_true rfl, Bool.not_true, Bool.and_false, Bool.and_false]
      · refine (BitVec.getLsbD_and ..).trans ?_
        rw [BitVec.getLsbD_not, getLsbD_stackBit small, decide_eq_false other, Bool.not_false, Bool.and_true]
        by_cases inside : k < 4
        · rw [decide_eq_true inside, Bool.and_true]
        · rw [BitVec.getLsbD_of_ge _ _ (by omega), Bool.false_and]
    · rw [if_neg cools]
      refine ⟨_, rfl, temps, ?_, fun k _ => rfl⟩
      rw [decide_eq_true (show 1280 ≤ val.toInt by omega), Bool.and_true]
      by_cases hot : s.vat.hot.getLsbD i = true
      · rw [hot, Bool.or_true]
      · have cold := eq_false_of_ne_true hot
        rw [cold, decide_eq_false fun warm => heats ⟨warm, cold⟩]
        rfl

/-- Settles O54: reads, writes, spare rows, the scrubber and the stacks, each by its command. -/
theorem memoryIsReadWrittenSparedAndScrubbed : Obligations.MemoryIsReadWrittenSparedAndScrubbed := by
  intro r vat a n i v val found s
  exact ⟨fun acc addr words clear => memRead_answers acc addr words clear,
    fun bytes acc addr clear data => memWrite_writes acc addr clear data,
    fun cls at_ ready => readModifyWrite_writes cls at_ ready,
    fun waits => writeBack_marks waits,
    fun acc addr low present released up spare idle => spareRow_starts acc addr low present released up spare idle,
    fun m moving alone => rowMoveDone_records moving alone,
    fun e ps cur wraps starts clear turn walk => scrubStep_walks starts clear turn walk,
    fun released present small => ⟨fun untrained sound => stackTrainingDone_ends released present small untrained sound,
      fun sound => stackTempRead_keeps released present small sound⟩⟩

end Sys2Proof.Claims
end

section
/-!
SUPPORT. Kernels and transfers: the clusters' stores and runs (R239, R255, R256), the rows a descriptor moves (R257 to R261), and the
statement on them.
-/
open Sys2Proof

namespace Sys2Proof.Machine
open Sys2Proof.Claims

-- clusters and engines ----------------------------------------------------------------------------------------------------------------------------

/-- Words stored in one cluster. -/
def State.loadStore (s : State) (first : Nat) (ws : List Word) (c : Nat) : State :=
  s.setCluster c { s.cluster c with store := storeWords (s.cluster c).store first ws }

/-- Words stored in several clusters. -/
theorem loadStores_frame (first : Nat) (ws : List Word) (ks : List Nat) : ∀ s : State, ks.Nodup →
    (∀ k, k ∈ ks → ((ks.foldl (fun s c => s.loadStore first ws c) s).cluster k).store = storeWords (s.cluster k).store first ws) ∧
    (∀ k, k ∉ ks → (ks.foldl (fun s c => s.loadStore first ws c) s).cluster k = s.cluster k) ∧
    (ks.foldl (fun s c => s.loadStore first ws c) s).engines.kernels = s.engines.kernels ∧
    (ks.foldl (fun s c => s.loadStore first ws c) s).newHandle = s.newHandle := by
  induction ks with
  | nil => exact fun s _ => ⟨fun k none_ => absurd none_ List.not_mem_nil, fun _ _ => rfl, rfl, rfl⟩
  | cons c ks ih =>
    intro s nodup
    obtain ⟨apart, nodup'⟩ := List.nodup_cons.mp nodup
    obtain ⟨stored, kept, kernels, handle⟩ := ih (s.loadStore first ws c) nodup'
    rw [List.foldl_cons]
    refine ⟨fun k listed => ?_, fun k unlisted => ?_, kernels, handle⟩
    · by_cases here : k = c
      · rw [here, kept c apart, State.loadStore, State.cluster_setCluster_self]
      · rw [stored k ((List.mem_cons.mp listed).resolve_left here), State.loadStore, State.cluster_setCluster_of_ne _ _ here]
    · rw [kept k fun listed => unlisted (List.mem_cons_of_mem c listed), State.loadStore,
        State.cluster_setCluster_of_ne _ _ (List.ne_of_not_mem_cons unlisted)]

/-- A handle defined. -/
def State.defineKernel (s : State) (h : Nat) (k : Kernel) : State :=
  { s with engines := { s.engines with kernels := SMap.put s.engines.kernels h k } }

theorem maskList_nodup (m : Nat) : (maskList m).Nodup := List.Pairwise.filter _ List.nodup_range

theorem enginesOf_nodup (c : Nat) (mask : BitVec 16) : (enginesOf c mask).Nodup :=
  List.pairwise_map.mpr (List.Pairwise.imp (fun apart same => apart (Nat.add_left_cancel same)) (List.Pairwise.filter _ List.nodup_range))

/-- The engines of a list changed, each by the same function. -/
theorem modEngs_frame (f : Engine → Engine) (es : List Nat) : ∀ s : State, es.Nodup →
    (∀ n, n ∈ es → (es.foldl (fun s i => s.modEng i f) s).eng n = f (s.eng n)) ∧
    (∀ n, n ∉ es → (es.foldl (fun s i => s.modEng i f) s).eng n = s.eng n) ∧
    (∀ c, (es.foldl (fun s i => s.modEng i f) s).cluster c = s.cluster c) ∧
    (es.foldl (fun s i => s.modEng i f) s).mems = s.mems ∧ (es.foldl (fun s i => s.modEng i f) s).sched = s.sched := by
  induction es with
  | nil => exact fun s _ => ⟨fun k none_ => absurd none_ List.not_mem_nil, fun _ _ => rfl, fun _ => rfl, rfl, rfl⟩
  | cons e es ih =>
    intro s nodup
    obtain ⟨apart, nodup'⟩ := List.nodup_cons.mp nodup
    obtain ⟨changed, kept, clusters, mems, sched⟩ := ih (s.modEng e f) nodup'
    rw [List.foldl_cons]
    refine ⟨fun n listed => ?_, fun n unlisted => ?_, clusters, mems, sched⟩
    · by_cases here : n = e
      · rw [here, kept e apart, State.modEng, State.eng_setEng_self]
      · rw [changed n ((List.mem_cons.mp listed).resolve_left here), State.modEng, State.eng_setEng_of_ne _ _ here]
    · rw [kept n fun listed => unlisted (List.mem_cons_of_mem e listed), State.modEng,
        State.eng_setEng_of_ne _ _ (List.ne_of_not_mem_cons unlisted)]

/-- Engines left halted and otherwise undefined. -/
theorem scrambleEngines_halts (es : List Nat) : ∀ s : State,
    (∀ n, n ∈ es → ((s.scrambleEngines (fun _ => (0, 0)) es).eng n).state = 0) ∧
    (∀ n, n ∉ es → (s.scrambleEngines (fun _ => (0, 0)) es).eng n = s.eng n) ∧
    (∀ c, (s.scrambleEngines (fun _ => (0, 0)) es).cluster c = s.cluster c) ∧ (s.scrambleEngines (fun _ => (0, 0)) es).mems = s.mems := by
  induction es with
  | nil => exact fun s => ⟨fun k none_ => absurd none_ List.not_mem_nil, fun _ _ => rfl, fun _ => rfl, rfl⟩
  | cons e es ih =>
    intro s
    obtain ⟨halted, kept, clusters, mems⟩ := ih { s.setEng e (Engine.scrambled 0 0 s.free) with free := s.free + 400 }
    have own : ({ s.setEng e (Engine.scrambled 0 0 s.free) with free := s.free + 400 } : State).eng e = Engine.scrambled 0 0 s.free :=
      State.eng_setEng_self s e _
    have others {n : Nat} (other : n ≠ e) :
        ({ s.setEng e (Engine.scrambled 0 0 s.free) with free := s.free + 400 } : State).eng n = s.eng n :=
      State.eng_setEng_of_ne s _ other
    rw [State.scrambleEngines]
    refine ⟨fun n listed => ?_, fun n unlisted => ?_, clusters, mems⟩
    · by_cases later : n ∈ es
      · exact halted n later
      · rw [kept n later, (List.mem_cons.mp listed).resolve_right later, own]
        rfl
    · rw [kept n fun listed => unlisted (List.mem_cons_of_mem e listed), others (List.ne_of_not_mem_cons unlisted)]

theorem mem_setRunning (s : State) (i : Nat) : i ∈ (s.setRunning i).sched.running := by
  rw [State.setRunning]
  split
  · next listed => exact listed
  · exact List.mem_cons_self

theorem setRunning_frame (s : State) (i : Nat) : (s.setRunning i).engines = s.engines ∧ (s.setRunning i).mems = s.mems := by
  rw [State.setRunning]
  split <;> exact ⟨rfl, rfl⟩

theorem not_mem_endRunning (s : State) (i : Nat) : i ∉ (s.endRunning i).sched.running :=
  fun listed => absurd rfl (of_decide_eq_true (List.mem_filter.mp listed).2)

/-- The end of a run, for the schedule and what waited for it. -/
theorem endDep_frame (s : State) (i : Nat) : ((s.settleDep i).endRunning i).engines = s.engines ∧
    ((s.settleDep i).endRunning i).mems = s.mems := ⟨rfl, rfl⟩

theorem dmaCh_setDma (s : State) (c k : Nat) (d : Dma) : (s.setDma c d).dmaCh k = if k = c then d else s.dmaCh k :=
  SMap.get_set _ _ _ _ _

/-- The run that an entry starts. -/
def State.newRun (s : State) (i : Nat) (e : Entry) : Run :=
  { entry := i, handle := BitVec.ofNat 16 (fld e.w3 15 0), mask := BitVec.ofNat 16 (fld e.w3 31 16), tickCt := s.tickCt, fn := s.time.fn,
    start := BitVec.ofNat 21 e.start }

theorem fxRun_of_user (s : State) {h : Nat} (user : 0x100 ≤ h) (c i : Nat) : s.fxRun h c i = s := by
  unfold State.fxRun
  split
  · exact absurd user (by decide)
  · exact absurd user (by decide)
  · exact absurd user (by decide)
  · exact absurd user (by decide)
  · rfl

/-- A state after the time has come to an entry's START. -/
theorem begun_frame (s : State) (ct : CT) (i : Nat) : ((s.advanceTo ct).setBegun i).engines = s.engines ∧
    ((s.advanceTo ct).setBegun i).mems = s.mems ∧ ((s.advanceTo ct).setBegun i).fuses = s.fuses ∧
    ((s.advanceTo ct).setBegun i).boot = s.boot ∧ ((s.advanceTo ct).setBegun i).power = s.power ∧
    ((s.advanceTo ct).setBegun i).time.infForce = s.time.infForce ∧ ((s.advanceTo ct).setBegun i).time.fn = s.time.fn := by
  rw [State.advanceTo_frame]
  exact ⟨rfl, rfl, rfl, rfl, rfl, rfl, rfl⟩

end Sys2Proof.Machine

namespace Sys2Proof.Claims
open Sys2Proof.Machine

/-- KERNEL_LOAD: the words in the stores of the clusters of its mask, and the handle it defines (R253, R254). -/
theorem kernelLoad_loads {s : State} {r : Req} {h : Nat} (released : s.rel 11 = true) (some_ : r.p 15 0 ≠ 0)
    (known : r.p 15 0 < 2 ^ s.res.clusters) (count : fld (r.w 0) 27 16 ≤ 512) (slots : fld (r.w 0) 10 0 + fld (r.w 0) 27 16 ≤ 2048)
    (body : fld (r.w 1) 10 0 + fld (r.w 1) 27 16 ≤ 2048) (free : s.slotsInUse (r.p 15 0) (fld (r.w 0) 10 0) (fld (r.w 0) 27 16) = false)
    (acc : Accepts s 0x310 r (decide (r.len = 2 + 2 * fld (r.w 0) 27 16)))
    (defines : (r.w 1).getLsbD 31 = true → fld (r.w 1) 27 16 ≠ 0 ∧ s.engines.kernels.length < 256 ∧ s.newHandle = h) :
    ∃ (ans : Answer) (u : State), exec (.kernelLoad r) s = .next (ran 0x310 r ans u) ∧ ans.status = .ok ∧
      (∀ k, k ∈ maskList (r.p 15 0) → (u.cluster k).store = storeWords (s.cluster k).store (fld (r.w 0) 10 0) (r.payload.drop 2)) ∧
      (∀ k, k ∉ maskList (r.p 15 0) → u.cluster k = s.cluster k) ∧
      ((r.w 1).getLsbD 31 = false → u.engines.kernels = s.engines.kernels) ∧
      ((r.w 1).getLsbD 31 = true → ans.param = h ∧ SMap.find u.engines.kernels h = some
        { mask := BitVec.ofNat 16 (r.p 15 0), entry := BitVec.ofNat 11 (fld (r.w 1) 10 0), size := BitVec.ofNat 12 (fld (r.w 1) 27 16) }) := by
  have arm : exec (.kernelLoad r) s = execKernelLoad r s := rfl
  obtain ⟨stored, kept, kernels, handle⟩ := loadStores_frame (fld (r.w 0) 10 0) (r.payload.drop 2) (maskList (r.p 15 0)) (s.startCmd 0x310 r)
    (maskList_nodup _)
  have known' : r.p 15 0 < 2 ^ (s.startCmd 0x310 r).res.clusters := known
  have released' : (s.startCmd 0x310 r).rel 11 = true := released
  have free' : (s.startCmd 0x310 r).slotsInUse (r.p 15 0) (fld (r.w 0) 10 0) (fld (r.w 0) 27 16) = false := free
  have legal (def_ : Bool) (sized : def_ = true → fld (r.w 1) 27 16 ≠ 0) :
      ¬(r.p 15 0 = 0 ∨ 2 ^ (s.startCmd 0x310 r).res.clusters ≤ r.p 15 0 ∨
      512 < fld (r.w 0) 27 16 ∨ 2048 < fld (r.w 0) 10 0 + fld (r.w 0) 27 16 ∨ 2048 < fld (r.w 1) 10 0 + fld (r.w 1) 27 16 ∨
      (def_ = true ∧ fld (r.w 1) 27 16 = 0)) := by
    rintro (none_ | above | many | out | long | ⟨on, empty⟩)
    · exact some_ none_
    · exact absurd known' (Nat.not_lt.mpr above)
    · omega
    · omega
    · omega
    · exact sized on empty
  rw [arm, execKernelLoad]
  cases defined : (r.w 1).getLsbD 31 with
  | false =>
    refine ⟨{ status := .ok }, _, congrArg Host.Outcome.next (runOp_of_answer acc ?_), rfl, stored, kept, fun _ => kernels,
      fun on => absurd on (by decide)⟩
    dsimp only
    rw [if_neg (legal false fun on => absurd on (by decide)), released', if_neg (by decide), free', if_neg (by decide),
      Bool.false_and, if_neg (by decide)]
    rfl
  | true =>
    obtain ⟨sized, room, own⟩ := defines defined
    have room' : (s.startCmd 0x310 r).engines.kernels.length < 256 := room
    have own' : (s.startCmd 0x310 r).newHandle = h := own
    refine ⟨{ status := .ok, param := h }, State.defineKernel _ h { mask := BitVec.ofNat 16 (r.p 15 0),
                                                                    entry := BitVec.ofNat 11 (fld (r.w 1) 10 0),
                                                                    size := BitVec.ofNat 12 (fld (r.w 1) 27 16) },
      congrArg Host.Outcome.next (runOp_of_answer acc ?_), rfl, stored, kept, fun off => absurd off (by decide),
      fun _ => ⟨rfl, (SMap.find_put _ _ _ _).trans (if_pos rfl)⟩⟩
    dsimp only
    rw [if_neg (legal true fun _ => sized), released', if_neg (by decide), free', if_neg (by decide),
      if_neg (by rw [Bool.true_and, decide_eq_true_eq]; omega), if_pos rfl, ← own', ← handle]
    rfl

/-- Pairs of words, one pair for each member of a list. -/
theorem getD_pairs {α : Type} (f g : α → Word) : ∀ (l : List α) (tail : List Word) (j : Nat) (x : α), l[j]? = some x →
    ((l.flatMap fun k => [f k, g k]) ++ tail).getD (2 * j) 0 = f x ∧ ((l.flatMap fun k => [f k, g k]) ++ tail).getD (2 * j + 1) 0 = g x
  | [], _, j, x, found => absurd found.symm (Option.some_ne_none x)
  | y :: l, tail, 0, x, found => by
    rw [← Option.some.inj found]
    exact ⟨rfl, rfl⟩
  | y :: l, tail, j + 1, x, found => getD_pairs f g l tail j x found

theorem drop_pairs {α : Type} (f g : α → Word) (tail : List Word) : ∀ l : List α,
    ((l.flatMap fun k => [f k, g k]) ++ tail).drop (2 * l.length) = tail
  | [] => rfl
  | _ :: l => drop_pairs f g tail l

/-- What KERNEL_INFO answers. -/
def kernelWords (s : State) : List Word :=
  (s.engines.kernels.flatMap fun k => [at32 16 k.1 ||| k.2.mask.setWidth 32, at32 16 k.2.entry.toNat ||| k.2.size.setWidth 32]) ++
    [lo32 (nSafe 0), lo32 (nSafe 1), lo32 (nSafe 2)]

/-- KERNEL_INFO: every handle, and N_safe (R254, R281). -/
theorem kernelInfo_lists {s : State} {r : Req} (released : s.rel 11 = true) (acc : Accepts s 0x311 r true) :
    ∃ ws : List Word, exec (.kernelInfo r) s = .next (ran 0x311 r { status := .ok, payload := ws } (s.startCmd 0x311 r)) ∧
      ws.drop (2 * s.engines.kernels.length) = [0xFFFF, 0xFFFFFF, 0xFFFFFFFF] ∧
      ∀ j k, s.engines.kernels[j]? = some k → ws.getD (2 * j) 0 = at32 16 k.1 ||| k.2.mask.setWidth 32 ∧
        ws.getD (2 * j + 1) 0 = at32 16 k.2.entry.toNat ||| k.2.size.setWidth 32 := by
  have arm : exec (.kernelInfo r) s = execKernelInfo r s := rfl
  have released' : (s.startCmd 0x311 r).rel 11 = true := released
  rw [arm, execKernelInfo]
  refine ⟨_, congrArg Host.Outcome.next (runOp_of_answer (a := { status := .ok, payload := kernelWords s }) acc ?_), ?_, fun j k found =>
    getD_pairs _ _ _ _ j k found⟩
  · rw [released', if_neg (by decide)]
    rfl
  · rw [kernelWords, drop_pairs]
    decide

/-- A run of a user kernel starts its engines at the handle's entry (R255). -/
theorem kernelRun_starts {s : State} {i c h : Nat} {e : Entry} {k : Kernel} (released : s.rel 11 = true) (starts : s.atStart i 1 = some e)
    (clear : s.time.infForce = false) (index : e.idx = c) (present : c < s.res.clusters) (off : s.b (.eaCCtrl c) 31 = false)
    (idle : (s.cluster c).run = none) (handle : fld e.w3 15 0 = h) (user : 0x100 ≤ h) (known : SMap.find s.engines.kernels h = some k) :
    ∃ (t : State) (q : Run), exec (.kernelRun i) s = .next t ∧ (t.cluster c).run = some q ∧ q.entry = i ∧ q.handle = BitVec.ofNat 16 h ∧
      q.fn = s.time.fn ∧ i ∈ t.sched.running ∧ t.window = s.window ∧ t.vatMem = s.vatMem ∧
      (∀ n, n ∈ enginesOf c (BitVec.ofNat 16 (fld e.w3 31 16)) →
        t.eng n = { s.eng n with state := 1, fault := 0, held := false, pc := k.entry.setWidth 13 }) ∧
      ∀ n, n ∉ enginesOf c (BitVec.ofNat 16 (fld e.w3 31 16)) → t.eng n = s.eng n := by
  have arm : exec (.kernelRun i) s = execKernelRun i s := rfl
  obtain ⟨engines, mems, fuses, boot, power, inf, fn⟩ := begun_frame s (s.tickCt + BitVec.ofNat 64 (e.start * 512)) i
  have ctrl : ((s.advanceTo (s.tickCt + BitVec.ofNat 64 (e.start * 512))).setBegun i).reg (.eaCCtrl c) = s.reg (.eaCCtrl c) :=
    State.reg_advanceTo_of_lt s _ (show 0x80004 < 0x200800 + c * 0x10000 by omega)
  rw [arm, execKernelRun, State.runEntry, starts]
  dsimp only
  generalize (s.advanceTo (s.tickCt + BitVec.ofNat 64 (e.start * 512))).setBegun i = u at engines mems fuses boot power inf fn ctrl ⊢
  have go : (!u.rel 11 || decide (u.res.clusters ≤ e.idx) || u.b (.eaCCtrl e.idx) 31 || (u.cluster e.idx).run.isSome) = false := by
    have off' : u.b (.eaCCtrl c) 31 = false := by rw [State.b, ctrl]; exact off
    have res : u.res = s.res := by rw [State.res, boot, fuses, State.res]
    rw [index, State.rel, power, ← State.rel, released, res, decide_eq_false (by omega), off', State.cluster, engines, ← State.cluster, idle]
    rfl
  have started := modEngs_frame (fun g => { g with state := 1, fault := 0, held := false, pc := u.entryPc h })
    (enginesOf c (BitVec.ofNat 16 (fld e.w3 31 16)))
    (u.setCluster c { u.cluster c with run := some (u.newRun i e) })
    (enginesOf_nodup _ _)
  have pc : u.entryPc h = k.entry.setWidth 13 := by rw [State.entryPc, engines, known]
  have run : u.startRun i e c = (enginesOf c (BitVec.ofNat 16 (fld e.w3 31 16))).foldl
      (fun s i => s.modEng i fun g => { g with state := 1, fault := 0, held := false, pc := u.entryPc h })
      (u.setCluster c { u.cluster c with run := some (u.newRun i e) }) := by
    rw [State.startRun]
    dsimp only
    rw [if_neg (by omega)]
    subst handle
    rfl
  rw [← run] at started
  obtain ⟨changed, kept, clusters, mems', -⟩ := started
  rw [inf, clear, if_neg (by decide), go, if_neg (by decide), index, handle]
  have done_ : (match h with
      | 5 => ((u.startRun i e c).setRunning i).cnEvent c i
      | h => ((u.startRun i e c).setRunning i).fxRun h c i) = (u.startRun i e c).setRunning i := by
    split
    · exact absurd user (by decide)
    · exact fxRun_of_user _ user c i
  obtain ⟨same, mems''⟩ := setRunning_frame (u.startRun i e c) i
  have eng (n : Nat) : u.eng n = s.eng n := by rw [State.eng, engines, State.eng]
  have eng' (n : Nat) : ((u.startRun i e c).setRunning i).eng n = (u.startRun i e c).eng n := by rw [State.eng, same, State.eng]
  have ran_ : (((u.startRun i e c).setRunning i).cluster c).run = some (u.newRun i e) := by
    rw [State.cluster, same, ← State.cluster, clusters, State.cluster_setCluster_self]
  obtain ⟨window, vatMem⟩ := Prod.mk.inj ((mems''.trans mems').trans mems)
  refine ⟨_, _, congrArg Host.Outcome.next done_, ran_, rfl, congrArg (BitVec.ofNat 16) handle, fn, mem_setRunning _ i, window, vatMem,
    fun n listed => ?_, fun n unlisted => ?_⟩
  · rw [eng', changed n listed, pc, ← eng n]
    rfl
  · rw [eng', kept n unlisted, ← eng n]
    rfl

/-- A run completes when its engines have halted (R255). -/
theorem kernelRunComplete_ends {s : State} {c : Nat} {q : Run} (running : (s.cluster c).run = some q)
    (halted : 0x100 ≤ q.handle.toNat → ∀ n, n ∈ enginesOf c q.mask → (s.eng n).state = 0) :
    ∃ t, exec (.kernelRunComplete c) s = .next t ∧ (t.cluster c).run = none ∧ q.entry ∉ t.sched.running ∧
      (∀ n, n ∈ enginesOf c q.mask → (t.eng n).state = 0) ∧ (∀ n, n ∉ enginesOf c q.mask → t.eng n = s.eng n) ∧
      t.window = s.window ∧ t.vatMem = s.vatMem := by
  have arm : exec (.kernelRunComplete c) s = execKernelRunComplete c s := rfl
  rw [arm, execKernelRunComplete]
  dsimp only
  rw [running]
  dsimp only
  have own : ((s.setCluster c { s.cluster c with run := none }).cluster c).run = none := by rw [State.cluster_setCluster_self]
  have ended (u : State) (mems : u.mems = s.mems) (idle : (u.cluster c).run = none)
      (halts : ∀ n, n ∈ enginesOf c q.mask → (u.eng n).state = 0) (kept : ∀ n, n ∉ enginesOf c q.mask → u.eng n = s.eng n) :
      ∃ t, (.next ((u.settleDep q.entry).endRunning q.entry) : Res) = .next t ∧ (t.cluster c).run = none ∧
        q.entry ∉ t.sched.running ∧ (∀ n, n ∈ enginesOf c q.mask → (t.eng n).state = 0) ∧
        (∀ n, n ∉ enginesOf c q.mask → t.eng n = s.eng n) ∧ t.window = s.window ∧ t.vatMem = s.vatMem := by
    obtain ⟨engines, mems'⟩ := endDep_frame u q.entry
    obtain ⟨window, vatMem⟩ := Prod.mk.inj (mems'.trans mems)
    refine ⟨_, rfl, ?_, not_mem_endRunning _ _, fun n listed => ?_, fun n unlisted => ?_, window, vatMem⟩
    · rw [State.cluster, engines, ← State.cluster, idle]
    · rw [State.eng, engines, ← State.eng, halts n listed]
    · rw [State.eng, engines, ← State.eng, kept n unlisted]
  by_cases rom : q.handle.toNat < 0x100
  · obtain ⟨halts, kept, clusters, mems⟩ := scrambleEngines_halts (enginesOf c q.mask) (s.setCluster c { s.cluster c with run := none })
    rw [decide_eq_true rom, Bool.not_true, Bool.false_and, if_neg (by decide), if_pos rfl]
    exact ended _ mems (by rw [clusters, own]) halts kept
  · have still : ((enginesOf c q.mask).any fun e => (s.eng e).state != 0) = false :=
      List.any_eq_false.mpr fun n listed => by rw [halted (by omega) n listed]; decide
    rw [decide_eq_false rom, Bool.not_false, still, Bool.and_false, if_neg (by decide), if_neg (by decide)]
    exact ended _ rfl own (halted (by omega)) fun _ _ => rfl

/-- A transfer starts its channel (R257). -/
theorem transfer_starts {s : State} {i : Nat} {e : Entry} (released : s.rel 11 = true) (starts : s.atStart i 0 = some e)
    (clear : s.time.infForce = false) (present : e.idx / 4 < s.res.clusters) (idle : (s.dmaCh e.idx).busy = false) :
    ∃ t, exec (.transfer i) s = .next t ∧ t.dmaCh e.idx = { busy := true, next := fld e.w3 8 0, entry := i } ∧ i ∈ t.sched.running ∧
      (∀ k, k ≠ e.idx → t.dmaCh k = s.dmaCh k) ∧ t.window = s.window ∧ t.vatMem = s.vatMem := by
  have arm : exec (.transfer i) s = execTransfer i s := rfl
  obtain ⟨engines, mems, fuses, boot, power, inf, -⟩ := begun_frame s (s.tickCt + BitVec.ofNat 64 (e.start * 512)) i
  rw [arm, execTransfer, State.runEntry, starts]
  dsimp only
  generalize (s.advanceTo (s.tickCt + BitVec.ofNat 64 (e.start * 512))).setBegun i = u at engines mems fuses boot power inf ⊢
  have channel (k : Nat) : u.dmaCh k = s.dmaCh k := by rw [State.dmaCh, engines, State.dmaCh]
  have go : (!u.rel 11 || decide (u.res.clusters ≤ e.idx / 4) || (u.dmaCh e.idx).busy) = false := by
    have res : u.res = s.res := by rw [State.res, boot, fuses, State.res]
    rw [State.rel, power, ← State.rel, released, res, decide_eq_false (by omega), channel, idle]
    rfl
  rw [inf, clear, if_neg (by decide), go, if_neg (by decide)]
  obtain ⟨same, mems'⟩ := setRunning_frame (u.setDma e.idx { busy := true, next := fld e.w3 8 0, entry := i }) i
  have after_ (k : Nat) : ((u.setDma e.idx { busy := true, next := fld e.w3 8 0, entry := i }).setRunning i).dmaCh k =
      if k = e.idx then { busy := true, next := fld e.w3 8 0, entry := i } else s.dmaCh k := by
    rw [State.dmaCh, same, ← State.dmaCh, dmaCh_setDma, channel]
  obtain ⟨window, vatMem⟩ := Prod.mk.inj (mems'.trans mems)
  exact ⟨_, rfl, (after_ e.idx).trans (if_pos rfl), mem_setRunning _ i, fun k other => (after_ k).trans (if_neg other), window, vatMem⟩

/-- The oldest descriptor of a channel is done; with the last one the chain ends (R257, R258). -/
theorem dmaDescriptorDone_ends {s : State} {c : Nat} {o : DmaOpen} {os : List DmaOpen} (open_ : (s.dmaCh c).open_ = o :: os) :
    ∃ t, exec (.dmaDescriptorDone c) s = .next t ∧ t.window = s.window ∧ t.vatMem = s.vatMem ∧
      (o.evt = true → (t.reg .eaEvents).getLsbD 7 = true) ∧
      ((s.dmaCh c).ended = false ∨ os ≠ [] → t.dmaCh c = { s.dmaCh c with open_ := os } ∧ t.sched = s.sched) ∧
      ((s.dmaCh c).ended = true → os = [] → t.dmaCh c = {} ∧ (s.dmaCh c).entry ∉ t.sched.running) := by
  have arm : exec (.dmaDescriptorDone c) s = execDmaDescriptorDone c s := rfl
  rw [arm, execDmaDescriptorDone]
  dsimp only
  rw [open_]
  dsimp only
  have told : ∃ u : State, (if o.evt then (s.setDma c { s.dmaCh c with open_ := os }).raise 10 7 (at32 8 (c / 4))
        else s.setDma c { s.dmaCh c with open_ := os }) = u ∧ u.mems = s.mems ∧ u.sched = s.sched ∧
      u.dmaCh c = { s.dmaCh c with open_ := os } ∧ (o.evt = true → (u.reg .eaEvents).getLsbD 7 = true) := by
    have own : (s.setDma c { s.dmaCh c with open_ := os }).dmaCh c = { s.dmaCh c with open_ := os } := (dmaCh_setDma _ _ _ _).trans (if_pos rfl)
    refine ⟨_, rfl, ?_⟩
    split
    · refine ⟨State.raise_mems _ _ _ _, State.raise_sched _ _ _ _, ?_, fun _ => State.reg_raise_own_bit _ 10 7 7 _ .eaEvents rfl (by decide)⟩
      rw [State.dmaCh, State.raise_engines]
      exact own
    · next silent => exact ⟨rfl, rfl, own, fun told => absurd told silent⟩
  obtain ⟨u, eq, mems, sched, channel, event⟩ := told
  rw [eq]
  obtain ⟨window, vatMem⟩ := Prod.mk.inj mems
  by_cases last : (s.dmaCh c).ended = true ∧ os = []
  · obtain ⟨ended, none_⟩ := last
    rw [ended, none_, if_pos (by decide)]
    refine ⟨_, rfl, window, vatMem, event, fun more => ?_, fun _ _ => ⟨(dmaCh_setDma u c c {}).trans (if_pos rfl), ?_⟩⟩
    · rcases more with more | more
      · exact absurd more (by decide)
      · exact absurd rfl more
    · have entry : (u.dmaCh c).entry = (s.dmaCh c).entry := by rw [channel]
      rw [← entry]
      exact not_mem_endRunning _ _
  · rw [if_neg (by rw [Bool.and_eq_true, beq_iff_eq]; exact last)]
    exact ⟨u, rfl, window, vatMem, event, fun _ => ⟨channel, sched⟩, fun ended none_ => absurd ⟨ended, none_⟩ last⟩

end Sys2Proof.Claims
end

section
/-!
SUPPORT. The rows that a descriptor moves (R257 to R261): what the checks of a descriptor read, the bytes of a row and its conversion, and
the statement on kernels and transfers.
-/
open Sys2Proof

namespace Sys2Proof.Machine
open Sys2Proof.Claims

-- the checks of a descriptor ----------------------------------------------------------------------------------------------------------------------

/-- What R261 checks of a descriptor depends on nothing that a read may change. -/
theorem descOk_of_rest {s t : State} (same : t.rest = s.rest) (d : Desc) : t.descOk d = s.descOk d := by
  have fuses : t.fuses = s.fuses := congrArg Rest.fuses same
  have boot : t.boot = s.boot := congrArg Rest.boot same
  have power : t.power = s.power := congrArg Rest.power same
  have failed : t.vat.failed = s.vat.failed := congrArg Rest.failed same
  have regions : t.vat.regions = s.vat.regions := congrArg Rest.regions same
  have res : t.res = s.res := by rw [State.res, fuses, boot, State.res]
  have released (n : Nat) : t.rel n = s.rel n := by rw [State.rel, power, State.rel]
  have stack (k : Nat) : t.hasStack k = s.hasStack k := by rw [State.hasStack, res, failed, State.hasStack]
  have at_ (vat : Bool) (a : Nat) : t.regionAt vat a = s.regionAt vat a := by rw [State.regionAt, regions, State.regionAt]
  have region (r : Nat) : t.region r = s.region r := by rw [State.region, regions, State.region]
  have ready (vat : Bool) (hi n : Nat) : ∀ lo, t.readyRange vat lo hi n = s.readyRange vat lo hi n := by
    induction n with
    | zero => exact fun _ => rfl
    | succ n ih =>
      intro lo
      simp only [State.readyRange, at_, region, ih]
  have init (vat : Bool) (lo hi : Nat) : t.touchesInit vat lo hi = s.touchesInit vat lo hi := by
    rw [State.touchesInit, regions, State.touchesInit]
  have step (lo hi : Nat) : t.windowStep lo hi = s.windowStep lo hi := by rw [State.windowStep, res, State.windowStep]
  have range (lo hi : Nat) : t.vatRange lo hi = s.vatRange lo hi := by simp only [State.vatRange, stack]
  have own : t.isF = s.isF := by rw [State.isF, fuses, State.isF]
  have rows (r : Rows) : t.rowsOk r = s.rowsOk r := by simp only [State.rowsOk, released, ready, init, step, range, own]
  rw [State.descOk, rows, rows, State.descOk]

-- bytes of words ----------------------------------------------------------------------------------------------------------------------------------

theorem rdBytes_length (m : List Host.Cell) (n : Nat) : ∀ a, (rdBytes m a n).length = n := by
  induction n with
  | zero => exact fun _ => rfl
  | succ n ih => exact fun a => congrArg (· + 1) (ih (a + 1))

theorem getD_rdBytes (m : List Host.Cell) (n : Nat) : ∀ a x, x < n → (rdBytes m a n).getD x 0 = rdByte m (a + x) := by
  induction n with
  | zero => exact fun a x none_ => absurd none_ (Nat.not_lt_zero x)
  | succ n ih =>
    intro a x inside
    cases x with
    | zero => rfl
    | succ x =>
      rw [rdBytes, List.getD_cons_succ, ih (a + 1) x (Nat.lt_of_succ_lt_succ inside), show a + 1 + x = a + (x + 1) by omega]

/-- Bytes read one range after another. -/
theorem rdBytes_append (m : List Host.Cell) (k n : Nat) : ∀ a, rdBytes m a k ++ rdBytes m (a + k) n = rdBytes m a (k + n) := by
  induction k with
  | zero => exact fun a => by rw [Nat.zero_add]; rfl
  | succ k ih =>
    intro a
    rw [rdBytes, List.cons_append, show a + (k + 1) = a + 1 + k by omega, ih, show k + 1 + n = k + n + 1 by omega, rdBytes]

theorem leNat_lt (bs : List Byte) : leNat bs < 256 ^ bs.length := by
  induction bs with
  | nil => decide
  | cons b bs ih =>
    have low := b.isLt
    rw [leNat, List.length_cons, Nat.pow_succ]
    omega

theorem leBytes_leNat (bs : List Byte) : leBytes bs.length (leNat bs) = bs := by
  induction bs with
  | nil => rfl
  | cons b bs ih =>
    have low := b.isLt
    have head : BitVec.ofNat 8 (b.toNat + 256 * leNat bs) = b := by
      apply BitVec.eq_of_toNat_eq
      rw [BitVec.toNat_ofNat]
      omega
    rw [leNat, List.length_cons, leBytes, head, show (b.toNat + 256 * leNat bs) / 256 = leNat bs by omega, ih]

/-- The bytes of a word as it was read. -/
theorem leBytes_rdFlit (m : List Host.Cell) (a : Nat) : leBytes 16 (rdFlit m a).toNat = rdBytes m a 16 := by
  have bound := leNat_lt (rdBytes m a 16)
  have back := leBytes_leNat (rdBytes m a 16)
  rw [rdBytes_length] at bound back
  rw [show 256 ^ 16 = 2 ^ 128 by decide] at bound
  rw [rdFlit, BitVec.toNat_ofNat, Nat.mod_eq_of_lt bound, back]

/-- The bytes of words as they were read. -/
theorem flitMem_rdFlits (m : List Host.Cell) (a n : Nat) : flitMem (rdFlits m a n) = rdBytes m a (16 * n) := by
  induction n with
  | zero => rfl
  | succ n ih =>
    rw [rdFlits, List.range_succ, List.map_append, flitMem, List.flatMap_append]
    refine (congr (congrArg (· ++ ·) ih) ?_).trans (rdBytes_append m (16 * n) 16 a)
    rw [List.map_singleton, List.flatMap_singleton, leBytes_rdFlit]

theorem flitMem_length (fs : List Flit) : (flitMem fs).length = 16 * fs.length := by
  induction fs with
  | nil => rfl
  | cons f fs ih =>
    rw [flitMem, List.flatMap_cons, List.length_append, leBytes_length, ← flitMem, ih, List.length_cons]
    omega

theorem comps_length (w : Nat) (fs : List Flit) : (fs.flatMap (comps w)).length = fs.length * (128 / w) := by
  induction fs with
  | nil => exact (Nat.zero_mul _).symm
  | cons f fs ih =>
    rw [List.flatMap_cons, List.length_append, ih, comps, List.length_map, List.length_range, List.length_cons, Nat.succ_mul, Nat.add_comm]

theorem scaleBlock_length (w eIn : Nat) (fixed : Option Int) (vs : List Int) (free : Nat) :
    (scaleBlock w eIn fixed vs free).out.length = vs.length := by
  unfold scaleBlock
  simp

/-- The words of a converted row: those of its destination (R259). -/
theorem packAll_length {conv w w' k n eIn free : Nat} {fixed : Option Int} {fs : List Flit} (known : dmaConv conv = some (w, w', k))
    (words : fs.length = n) (whole : n % k = 0) :
    (packAll w' (scaleBlock w' eIn fixed (fs.flatMap (comps w)) free).out).length = n / k := by
  rw [packAll, List.length_map, List.length_range, scaleBlock_length, comps_length, words]
  unfold dmaConv at known
  split at known
  all_goals cases known
  all_goals omega

-- rows --------------------------------------------------------------------------------------------------------------------------------------------------

theorem setDma_mem (s : State) (c : Nat) (d : Dma) (v : Bool) : (s.setDma c d).mem v = s.mem v := rfl

theorem mem_markPoison (s : State) (vat : Bool) (a : Nat) : (s.markPoison vat a).mems = s.mems := State.setPoison_mems _ _ _

theorem mem_markOvf (s : State) (vat : Bool) (a : Nat) : (s.markOvf vat a).mems = s.mems := rfl

/-- A row's words, exponent and cut after the conversion of its descriptor (R259). -/
def State.rowData (s : State) (c : Nat) (d : Desc) (i : Nat) : List Flit × Nat × Bool :=
  let ws := rdFlits (s.mem d.src.vat) (d.src.at i).toNat d.src.words
  let inByte := if d.expIn then (rdByte s.window (0x40000000 + c * 0x200000 + d.expOfs + i)).toNat else 0
  match if d.conv = 0 then none else dmaConv d.conv with
  | none => (ws, inByte % 16, false)
  | some (w, w', _) =>
    let r := scaleBlock w' (inByte % 16) none (ws.flatMap (comps w)) 0
    (packAll w' r.out, r.exp, r.sat)

/-- A row written at its place, with the marks of its words (R259, R260). -/
def State.putRow (s : State) (c : Nat) (d : Desc) (found : List Finding) (i : Nat) (out : List Flit) (bad ovs : List Nat) (cut : Bool) : State :=
  let s := s.writeRange d.dst.vat (d.dst.at i).toNat (flitMem out) found
  let s := bad.foldl (fun s j => s.markPoison d.dst.vat ((d.dst.at i).toNat + 16 * j)) s
  let s := ovs.foldl (fun s j => s.markOvf d.dst.vat ((d.dst.at i).toNat + 16 * j)) s
  if cut then s.raise 10 1 (at32 8 c) else s

/-- A row read. -/
def State.readRow (s : State) (d : Desc) (found : List Finding) (i : Nat) : State :=
  s.readRange d.src.vat (d.src.at i).toNat ((d.src.at i).toNat + 16 * d.src.words) 0 found

/-- A row read and written as its conversion has it. -/
def State.carryRow (s : State) (c : Nat) (d : Desc) (found : List Finding) (i : Nat) (bad ovs : List Nat) : State :=
  (s.readRow d found i).putRow c d found i ((s.readRow d found i).rowData c d i).1 bad ovs ((s.readRow d found i).rowData c d i).2.2

/-- A moved row has its byte in the list of exponents where its descriptor asks for one (R260). -/
def State.listRow (s : State) (c : Nat) (d : Desc) (found : List Finding) (i : Nat) (byte : Byte) : State :=
  if !d.expOut then s else s.writeRange false (0x40000000 + c * 0x200000 + d.expOfs + i) [byte] found

theorem moveRow_eq (s : State) (c : Nat) (d : Desc) (found : List Finding) (i : Nat) :
    ∃ bad ovs byte, s.moveRow c d found i = (s.carryRow c d found i bad ovs).listRow c d found i byte := by
  unfold State.moveRow State.carryRow State.readRow State.rowData State.listRow State.putRow
  dsimp only
  generalize s.readRange d.src.vat (d.src.at i).toNat ((d.src.at i).toNat + 16 * d.src.words) 0 found = u
  rcases hk : (if d.conv = 0 then none else dmaConv d.conv) with _ | ⟨w, w', n⟩
  · dsimp only
    exact ⟨_, _, _, rfl⟩
  · dsimp only
    exact ⟨_, _, _, rfl⟩

theorem rowData_of_plain {d : Desc} (plain : d.conv = 0) (s : State) (c i : Nat) :
    (s.rowData c d i).1 = rdFlits (s.mem d.src.vat) (d.src.at i).toNat d.src.words := by
  rw [State.rowData, if_pos plain]

/-- The words of a moved row: those of its destination. -/
theorem rowData_length {d : Desc} (sized : d.sized = true) (fits : d.dst.words = dstWords d.conv d.src.words) (s : State) (c i : Nat) :
    (s.rowData c d i).1.length = d.dst.words := by
  by_cases plain : d.conv = 0
  · rw [rowData_of_plain plain, rdFlits_length, fits, plain]
    rfl
  · rw [Desc.sized, if_neg plain, Bool.and_eq_true] at sized
    obtain ⟨-, sized⟩ := sized
    rw [State.rowData, if_neg plain, fits, dstWords]
    cases known : dmaConv d.conv with
    | none =>
      rw [known] at sized
      exact absurd sized Bool.false_ne_true
    | some k =>
      rw [known] at sized
      obtain ⟨-, whole⟩ := Bool.and_eq_true_iff.mp sized
      exact packAll_length known (rdFlits_length _ _ _) (of_decide_eq_true whole)

theorem putRow_mems (s : State) (c : Nat) (d : Desc) (found : List Finding) (i : Nat) (out : List Flit) (bad ovs : List Nat) (cut : Bool) :
    (s.putRow c d found i out bad ovs cut).mems = (s.writeRange d.dst.vat (d.dst.at i).toNat (flitMem out) found).mems := by
  have marked (u : State) : (ovs.foldl (fun s j => s.markOvf d.dst.vat ((d.dst.at i).toNat + 16 * j))
      (bad.foldl (fun s j => s.markPoison d.dst.vat ((d.dst.at i).toNat + 16 * j)) u)).mems = u.mems :=
    (mems_foldl (fun s j => mem_markOvf s _ _) ovs _).trans (mems_foldl (fun s j => mem_markPoison s _ _) bad u)
  rw [State.putRow]
  split
  · rw [State.raise_mems, marked]
  · rw [marked]

/-- The bytes of a moved row where no block was miscorrected. -/
theorem carryRow_mem {d : Desc} {found : List Finding} (keeps : KeepsCells found) (s : State) (c i : Nat) (bad ovs : List Nat) (v : Bool) :
    (s.carryRow c d found i bad ovs).mem v =
      if v = d.dst.vat then wrBytes (s.mem d.dst.vat) (d.dst.at i).toNat (flitMem ((s.readRow d found i).rowData c d i).1) else s.mem v := by
  have read : (s.readRow d found i).mems = s.mems := State.readRange_mems s _ _ _ _ keeps
  rw [State.carryRow, State.mem_of_mems (putRow_mems _ _ _ _ _ _ _ _ _), State.writeRange_mem _ _ _ _ _ keeps, State.mem_of_mems read,
    State.mem_of_mems read]

/-- A byte that a row's move leaves: outside the row's destination and its place in the list of exponents. -/
def Desc.spares (d : Desc) (c : Nat) (v : Bool) (x i : Nat) : Prop :=
  (v = d.dst.vat → x < (d.dst.at i).toNat ∨ (d.dst.at i).toNat + 16 * d.dst.words ≤ x) ∧
    (v = false → d.expOut = true → x ≠ 0x40000000 + c * 0x200000 + d.expOfs + i)

section moves
variable {d : Desc} {found : List Finding} (keeps : KeepsCells found) (sized : d.sized = true)
  (fits : d.dst.words = dstWords d.conv d.src.words) (c : Nat)
include keeps sized fits

theorem rdByte_moveRow (s : State) {i x : Nat} {v : Bool} (spared : d.spares c v x i) :
    rdByte ((s.moveRow c d found i).mem v) x = rdByte (s.mem v) x := by
  obtain ⟨row, list⟩ := spared
  obtain ⟨bad, ovs, byte, eq⟩ := moveRow_eq s c d found i
  have carried : rdByte ((s.carryRow c d found i bad ovs).mem v) x = rdByte (s.mem v) x := by
    rw [carryRow_mem keeps]
    split
    · next same =>
      have out := row same
      rw [rdByte_wrBytes, flitMem_length, rowData_length sized fits, if_neg (by omega), same]
    · rfl
  rw [eq, State.listRow]
  split
  · exact carried
  · next listed =>
    rw [Bool.not_eq_true', Bool.not_eq_false] at listed
    refine (State.rdByte_writeRange _ false v _ x [byte] keeps fun window => ?_).trans carried
    have apart := list window listed
    rw [List.length_singleton]
    omega

theorem rdByte_moveRows (s : State) {x : Nat} {v : Bool} (spared : ∀ i, i < d.src.rows → d.spares c v x i) :
    rdByte ((s.moveRows c d found).mem v) x = rdByte (s.mem v) x := by
  have fold (l : List Nat) (inside : ∀ i, i ∈ l → i < d.src.rows) : ∀ s : State,
      rdByte ((l.foldl (fun s i => s.moveRow c d found i) s).mem v) x = rdByte (s.mem v) x := by
    induction l with
    | nil => exact fun _ => rfl
    | cons i l ih =>
      intro s
      rw [List.foldl_cons, ih fun j listed => inside j (List.mem_cons_of_mem i listed)]
      exact rdByte_moveRow keeps sized fits c s (spared i (inside i List.mem_cons_self))
  exact fold _ (fun i listed => List.mem_range.mp listed) s

end moves

/-- Rows left undefined change no byte outside them. -/
theorem rdByte_scrambleRows (r : Rows) (s : State) {x : Nat} {v : Bool}
    (out : v = r.vat → ∀ i, i < r.rows → x < (r.at i).toNat ∨ (r.at i).toNat + 16 * r.words ≤ x) :
    rdByte ((s.scrambleRows r).mem v) x = rdByte (s.mem v) x := by
  have fold (l : List Nat) (inside : ∀ i, i ∈ l → i < r.rows) : ∀ s : State, rdByte ((l.foldl (fun s i =>
      { s.setMem r.vat (wrBytes (s.mem r.vat) (r.at i).toNat (freeBytes s.free (16 * r.words))) with free := s.free + 16 * r.words })
        s).mem v) x = rdByte (s.mem v) x := by
    induction l with
    | nil => exact fun _ => rfl
    | cons i l ih =>
      intro s
      have here : rdByte ((s.setMem r.vat (wrBytes (s.mem r.vat) (r.at i).toNat (freeBytes s.free (16 * r.words)))).mem v) x =
          rdByte (s.mem v) x := by
        rw [State.mem_setMem]
        split
        · next same =>
          have apart := out same i (inside i List.mem_cons_self)
          rw [rdByte_wrBytes, freeBytes, List.length_map, List.length_range, if_neg (by omega), same]
        · rfl
      rw [List.foldl_cons, ih fun j listed => inside j (List.mem_cons_of_mem i listed)]
      exact here
  exact fold _ (fun i listed => List.mem_range.mp listed) s

/-- One row moved as it is. -/
theorem moveRows_single {d : Desc} {found : List Finding} (keeps : KeepsCells found) (plain : d.conv = 0) (alone : d.expOut = false)
    (rows : d.src.rows = 1) (s : State) (c x : Nat) (inside : x < 16 * d.src.words) :
    rdByte ((s.moveRows c d found).mem d.dst.vat) (d.dst.base + x) = rdByte (s.mem d.src.vat) (d.src.base + x) := by
  have first (r : Rows) : (r.at 0).toNat = r.base := by
    rw [Rows.at]
    omega
  obtain ⟨bad, ovs, byte, eq⟩ := moveRow_eq s c d found 0
  have read : (s.readRow d found 0).mem d.src.vat = s.mem d.src.vat := State.mem_of_mems (State.readRange_mems s _ _ _ _ keeps) _
  have one : s.moveRows c d found = s.carryRow c d found 0 bad ovs := by
    rw [State.moveRows, rows]
    exact eq.trans (if_pos (by rw [alone]; rfl))
  rw [one, carryRow_mem keeps, if_pos rfl, rowData_of_plain plain, read, first, first, flitMem_rdFlits, rdByte_wrBytes, rdBytes_length,
    if_pos (by omega), Nat.add_sub_cancel_left, getD_rdBytes _ _ _ _ inside]

end Sys2Proof.Machine

namespace Sys2Proof.Claims
open Sys2Proof.Machine

/-- A descriptor is read and its rows are moved (R257 to R261). -/
theorem dmaDescriptor_moves {s : State} {c : Nat} {q : Dma} {d : Desc} {found : List Finding} (channel : s.dmaCh c = q) (busy : q.busy = true)
    (more : q.ended = false) (count : q.count < 512) (desc : descOf (rdWords s.window (descAddr (c / 4) q.next) 8) = d)
    (fence : d.fence = false ∨ q.open_ = []) (sound : s.descOk d = true) :
    ∃ t, exec (.dmaDescriptor c found) s = .next t ∧
      t.dmaCh c = { q with ended := d.last, next := d.next, count := q.count + 1, dests := q.dests ++ [d.dst],
                           open_ := q.open_ ++ [{ idx := q.next, evt := d.evt, src := d.src, dst := d.dst }] } ∧
      (KeepsCells found → ∀ (v : Bool) (x : Nat),
        (v = d.dst.vat → ∀ k, k < d.dst.rows → x < (d.dst.at k).toNat ∨ (d.dst.at k).toNat + 16 * d.dst.words ≤ x) →
        (v = false → d.expOut = true → x < 0x40000000 + c / 4 * 0x200000 + d.expOfs ∨
          0x40000000 + c / 4 * 0x200000 + d.expOfs + d.src.rows ≤ x) → rdByte (t.mem v) x = rdByte (s.mem v) x) ∧
      (KeepsCells found → d.conv = 0 → d.expOut = false → d.src.rows = 1 → q.open_ = [] → d.src.meets d.dst = false →
        ∀ x, x < 16 * d.src.words → rdByte (t.mem d.dst.vat) (d.dst.base + x) = rdByte (s.mem d.src.vat) (d.src.base + x)) := by
  have arm : exec (.dmaDescriptor c found) s = execDmaDescriptor c found s := rfl
  have rows : d.dst.rows = d.src.rows := by rw [← desc]; rfl
  have fits : d.dst.words = dstWords d.conv d.src.words := by rw [← desc]; rfl
  have sized : d.sized = true := by
    simp only [State.descOk, Bool.and_eq_true] at sound
    obtain ⟨⟨⟨⟨-, sized⟩, -⟩, -⟩, -⟩ := sound
    exact sized
  have passes_ : (d.fence && q.open_ != []) = false := by
    rcases fence with off | none_
    · rw [off, Bool.false_and]
    · rw [none_, bne_self_eq_false, Bool.and_false]
  rw [arm, execDmaDescriptor]
  dsimp only
  rw [channel, busy, more, if_neg (by decide), if_neg (Nat.not_le.mpr count), desc, passes_, if_neg (by decide),
    descOk_of_rest (State.readRange_rest s false _ _ 0 found) d, sound, if_neg (by decide)]
  generalize read : s.readRange false (descAddr (c / 4) q.next) (descAddr (c / 4) q.next + 32) 0 found = u
  have kept (keeps : KeepsCells found) (v : Bool) : u.mem v = s.mem v := by
    rw [← read]
    exact State.mem_of_mems (State.readRange_mems s _ _ _ _ keeps) v
  refine ⟨_, rfl, (dmaCh_setDma _ _ _ _).trans (if_pos rfl), fun keeps v x row list => ?_,
    fun keeps plain alone single idle apart x inside => ?_⟩
  · have moved : rdByte ((u.moveRows (c / 4) d found).mem v) x = rdByte (s.mem v) x := by
      rw [← kept keeps]
      refine rdByte_moveRows keeps sized fits (c / 4) u fun i inside => ⟨fun same => row same i (by omega), fun window on => ?_⟩
      have out := list window on
      omega
    refine Eq.trans ?_ moved
    refine (congrArg (fun m => rdByte m x) (setDma_mem _ _ _ _)).trans ?_
    split
    · exact rdByte_scrambleRows d.dst _ row
    · rfl
  · have clear : (d.src.meets d.dst || q.open_.any fun o => d.src.meets o.dst || d.dst.meets o.src || d.dst.meets o.dst) = false := by
      rw [apart, idle]
      rfl
    rw [clear, if_neg (by decide), setDma_mem, moveRows_single keeps plain alone single u (c / 4) x inside, kept keeps]

/-- Settles O55: the stores and runs of the clusters, and the rows and the end of a transfer. -/
theorem kernelsRunAndTransfersMoveRows : Obligations.KernelsRunAndTransfersMoveRows := by
  intro r i c h e s released
  exact ⟨fun some_ known count slots body free acc defines => kernelLoad_loads released some_ known count slots body free acc defines,
    fun acc => kernelInfo_lists released acc,
    fun k starts clear index present off idle handle user known =>
      kernelRun_starts released starts clear index present off idle handle user known,
    fun q running halted => kernelRunComplete_ends running halted,
    fun starts clear present idle => transfer_starts released starts clear present idle,
    fun q d found channel busy more count desc fence sound => dmaDescriptor_moves channel busy more count desc fence sound,
    fun o os open_ => dmaDescriptorDone_ends open_⟩

end Sys2Proof.Claims
end

section
/-!
SUPPORT. The merge and the press: the write of SC_MERGE_CFG (R314), the close of a merged frame (R308 to R312), jobs and entries of the
press (R352 to R357), and the statement on them.
-/
open Sys2Proof

namespace Sys2Proof.Machine
open Sys2Proof.Claims

-- the merge ---------------------------------------------------------------------------------------------------------------------------------------

/-- The write of EN that R314 allows: the merge is off, the slots hold every merged path, and the region its ring. -/
theorem wrMergeCfg_enables {s : State} {value : Word} (on : value.getLsbD 31 = true) (off : s.mergeOn = false) (two : 2 ≤ fld value 13 8)
    (paths : ∀ q, q < 64 → s.mergeBitW .scMergePathsLo .scMergePathsHi q = true → 3 ≤ s.closeOffsetW q ∧
      s.closeOffsetW q + 2 ≤ (fld value 13 8 : Int) ∧ s.b (.scPathCfg q) 31 = true ∧
      (s.mergeBitW .scMergeSinkLo .scMergeSinkHi q = true → s.fw (.scPathCfg q) 12 0 = 0))
    (ready : (s.region (fld value 5 0)).state = 2) (stack : (s.region (fld value 5 0)).sram = false)
    (ring : fld value 13 8 * (s.fw .scMergeSlot 19 0 * 1024) ≤ (s.region (fld value 5 0)).size)
    (own : (s.regW .scMergeInmaskLo).getLsbD 0 = false)
    (lanes : count (fun k => ((s.regW .scMergeInmaskLo).toNat + (s.regW .scMergeInmaskHi).toNat * 2 ^ 32).testBit k) (List.range 64) ≤ 40) :
    wrMergeCfg s value = .ok (s.pendReg .scMergeCfg (value &&& 0x80003F3F)) := by
  have en : (value &&& 0x80003F3F).getLsbD 31 = true := by
    rw [BitVec.getLsbD_and, on]
    decide
  have slots : fld (value &&& 0x80003F3F) 13 8 = fld value 13 8 := fld_and_of_covered (by decide)
  have region : fld (value &&& 0x80003F3F) 5 0 = fld value 5 0 := fld_and_of_covered (by decide)
  have fits : ((List.range 64).filter fun p => s.mergeBitW .scMergePathsLo .scMergePathsHi p).any (fun p =>
      decide (s.closeOffsetW p < 3 ∨ (fld value 13 8 : Int) < s.closeOffsetW p + 2)) = false := by
    refine List.any_eq_false.mpr fun q listed => ?_
    obtain ⟨inside, merged⟩ := List.mem_filter.mp listed
    obtain ⟨low, high, -, -⟩ := paths q (List.mem_range.mp inside) merged
    rw [decide_eq_true_eq]
    omega
  have enabled : ((List.range 64).filter fun p => s.mergeBitW .scMergePathsLo .scMergePathsHi p).any (fun p =>
      !s.b (.scPathCfg p) 31 || (s.mergeBitW .scMergeSinkLo .scMergeSinkHi p && decide (fld (s.regW (.scPathCfg p)) 12 0 ≠ 0))) = false := by
    refine List.any_eq_false.mpr fun q listed => ?_
    obtain ⟨inside, merged⟩ := List.mem_filter.mp listed
    obtain ⟨-, -, enabled, sink⟩ := paths q (List.mem_range.mp inside) merged
    rw [enabled, Bool.not_true, Bool.false_or, Bool.and_eq_true, decide_eq_true_eq]
    exact fun both => both.2 (sink both.1)
  have even : ((s.regW .scMergeInmaskLo).toNat + (s.regW .scMergeInmaskHi).toNat * 2 ^ 32) % 2 ≠ 1 := by
    have bit : (s.regW .scMergeInmaskLo).toNat % 2 = 0 := by
      rw [← BitVec.testBit_toNat, Nat.testBit_zero, decide_eq_false_iff_not] at own
      omega
    omega
  have ring' : ¬((s.region (fld value 5 0)).size < fld value 13 8 * (fld (s.regW .scMergeSlot) 19 0 * 1024)) := Nat.not_lt.mpr ring
  unfold wrMergeCfg
  dsimp only
  rw [en, slots, region, fits, enabled, off, ready, stack, if_neg (by decide), decide_eq_false (by omega), decide_eq_false (by decide),
    decide_eq_false ring', decide_eq_false even, decide_eq_false (Nat.not_lt.mpr lanes)]
  rfl

theorem mems_of_kept {s t : State} (same : t.kept = s.kept) : t.mems = s.mems :=
  congrArg (fun k : Kept => (k.window, k.vatMem)) same

theorem lose_merge (s : State) (p : Nat) (c : Curd) : (s.lose p c).merge = s.merge := by
  simp only [State.lose]
  split <;> simp

/-- A unit of the stacks read without findings keeps the marks. -/
theorem readUnits_poison (src : Nat) (us : List Nat) : ∀ s : State, (s.readUnits true src [] us).poison true = s.poison true := by
  have unit (s : State) (a : Nat) : (s.readUnit true a src []).poison true = s.poison true := by
    have none_ : s.outcome true a [] = none := rfl
    rw [State.readUnit, meetCells_nil, none_]
    split
    · exact congrArg Vat.poisonVat (State.bump_vat _ _ _)
    · dsimp only
      split
      · split <;> rfl
      · rfl
  induction us with
  | nil => exact fun _ => rfl
  | cons a us ih => exact fun s => (ih _).trans (unit s a)

/-- Marks of a range of the stacks after it was read without findings. -/
theorem anyPoison_readRange (s : State) (lo hi src a b : Nat) : (s.readRange true lo hi src []).anyPoison true a b = s.anyPoison true a b := by
  obtain ⟨places, -⟩ := readUnits_marks true src 0 (s.units true lo hi []) s
  have size (x : Nat) : (s.readRange true lo hi src []).unitSize true x = s.unitSize true x := by
    rw [State.unitSize, State.readRange, classAt_of_places places, State.unitSize]
  simp only [State.anyPoison, size]
  rw [State.readRange, readUnits_poison]

theorem quiet_sinks : Reg.key .scMergeSinkLo ∉ eventRegs.map Reg.key ∧ Reg.key .scMergeSinkHi ∉ eventRegs.map Reg.key := by decide

theorem isSink_of_core {s t : State} (same : t.core = s.core) (p : Nat) : t.isSink p = s.isSink p := by
  obtain ⟨low, high⟩ := quiet_sinks
  rw [State.isSink, State.mergeBit, State.b_congr (reg_of_core same low), State.b_congr (reg_of_core same high), State.isSink, State.mergeBit]

theorem setMerge_mems (s : State) (f : Merge → Merge) : (s.setMerge f).mems = s.mems := rfl

theorem setMerge_merge (s : State) (f : Merge → Merge) : (s.setMerge f).merge = f s.merge := rfl

theorem hold_frame (s : State) (h : Held) : (s.hold h).mems = s.mems ∧ (s.hold h).merge = s.merge := ⟨rfl, rfl⟩

/-- A curd of a closing frame on its way: closed, and held for its path unless that ends here (R309, R310). -/
def State.closeMerged (s : State) (p : Nat) (m : Merged) : State :=
  let s := s.setMerge fun x => { x with held := x.held.map fun y => if y = m then { m with closed := true } else y }
  if s.isSink p then s else s.hold { curd := m.curd, path := p, kind := 2, lane := m.lane }

theorem closeMerged_frame (s : State) (p : Nat) (m : Merged) : (s.closeMerged p m).mems = s.mems ∧
    (s.closeMerged p m).merge.closeDue = s.merge.closeDue ∧
    (s.closeMerged p m).merge.held = s.merge.held.map fun y => if y = m then { m with closed := true } else y := by
  rw [State.closeMerged]
  split
  · rw [setMerge_mems, setMerge_merge]
    exact ⟨rfl, rfl, rfl⟩
  · obtain ⟨mems, merge⟩ := hold_frame
      (s.setMerge fun x => { x with held := x.held.map fun y => if y = m then { m with closed := true } else y })
      { curd := m.curd, path := p, kind := 2, lane := m.lane }
    rw [mems, merge, setMerge_mems, setMerge_merge]
    exact ⟨rfl, rfl, rfl⟩

theorem mergeLose_frame (s : State) (p : Nat) (c : Curd) (gap : Bool) : (s.mergeLose p c gap).mems = s.mems ∧
    (s.mergeLose p c gap).merge.closeDue = s.merge.closeDue := by
  rw [State.mergeLose, setMerge_mems, setMerge_merge, lose_merge]
  exact ⟨mems_of_kept (State.lose_kept _ _ _), rfl⟩

/-- A poisoned curd of a closing frame, discarded (R312). -/
def State.dropMerged (s : State) (p : Nat) (m : Merged) : State :=
  (((s.mergeLose p m.curd m.gap).bump 0x302050 1).mergeEvent 2 m.lane).setMerge fun x => { x with held := x.held.erase m }

theorem dropMerged_frame (s : State) (p : Nat) (m : Merged) : (s.dropMerged p m).mems = s.mems ∧
    (s.dropMerged p m).merge.closeDue = s.merge.closeDue := by
  obtain ⟨mems, due⟩ := mergeLose_frame s p m.curd m.gap
  rw [State.dropMerged, setMerge_mems, setMerge_merge, State.mergeEvent, State.raise_mems, State.bump_mems, State.raise_merge, State.bump_merge]
  dsimp only
  rw [mems, due]
  exact ⟨rfl, rfl⟩

theorem readBack_cons (s : State) (p : Nat) (found : List Finding) (m : Merged) (ms : List Merged) : s.readBack p found (m :: ms) =
    (if (s.readRange true m.addr (m.addr + curdBytes m.curd) 4 found).anyPoison true m.addr (m.addr + curdBytes m.curd) = true then
      (s.readRange true m.addr (m.addr + curdBytes m.curd) 4 found).dropMerged p m
    else (s.readRange true m.addr (m.addr + curdBytes m.curd) 4 found).closeMerged p m).readBack p found ms := rfl

/-- The read back of a closing frame keeps the bytes and the closes that are due. -/
theorem readBack_frame (p : Nat) (ms : List Merged) : ∀ s : State,
    (s.readBack p [] ms).mems = s.mems ∧ (s.readBack p [] ms).merge.closeDue = s.merge.closeDue := by
  induction ms with
  | nil => exact fun _ => ⟨rfl, rfl⟩
  | cons m ms ih =>
    intro s
    have read : (s.readRange true m.addr (m.addr + curdBytes m.curd) 4 []).mems = s.mems := State.readRange_mems s _ _ _ _ keepsCells_nil
    have merge : (s.readRange true m.addr (m.addr + curdBytes m.curd) 4 []).merge = s.merge :=
      congrArg Rest.merge (State.readRange_rest s _ _ _ _ _)
    rw [readBack_cons]
    generalize s.readRange true m.addr (m.addr + curdBytes m.curd) 4 [] = u at read merge ⊢
    obtain ⟨mems, due⟩ := ih (if u.anyPoison true m.addr (m.addr + curdBytes m.curd) = true then u.dropMerged p m else u.closeMerged p m)
    obtain ⟨dropped, kept⟩ := dropMerged_frame u p m
    obtain ⟨closed, kept', -⟩ := closeMerged_frame u p m
    refine ⟨mems.trans ?_, due.trans ?_⟩
    · rw [State.mems_ite, dropped, closed, ite_self, read]
    · rw [apply_ite (fun s : State => s.merge.closeDue), kept, kept', ite_self, merge]

/-- A clean curd read back: closed, and on its way unless its path ends here (R309, R310). -/
theorem readBack_single {s : State} {p : Nat} {m : Merged} (alone : s.merge.held = [m])
    (clean : s.anyPoison true m.addr (m.addr + curdBytes m.curd) = false) :
    (s.readBack p [] [m]).merge.held = [{ m with closed := true }] ∧ (s.readBack p [] [m]).sched.held =
      if s.isSink p then s.sched.held else s.sched.held ++ [{ curd := m.curd, path := p, kind := 2, lane := m.lane }] := by
  have clean' := (anyPoison_readRange s m.addr (m.addr + curdBytes m.curd) 4 m.addr (m.addr + curdBytes m.curd)).trans clean
  have core : (s.readRange true m.addr (m.addr + curdBytes m.curd) 4 []).core = s.core := State.readRange_core _ _ _ _ _ _
  have merge : (s.readRange true m.addr (m.addr + curdBytes m.curd) 4 []).merge = s.merge :=
    congrArg Rest.merge (State.readRange_rest s _ _ _ _ _)
  have sched : (s.readRange true m.addr (m.addr + curdBytes m.curd) 4 []).sched = s.sched :=
    congrArg Rest.sched (State.readRange_rest s _ _ _ _ _)
  rw [readBack_cons]
  generalize s.readRange true m.addr (m.addr + curdBytes m.curd) 4 [] = u at clean' core merge sched ⊢
  obtain ⟨-, -, held⟩ := closeMerged_frame u p m
  rw [merge, alone, List.map_singleton, if_pos rfl] at held
  have sink : (u.setMerge fun x => { x with held := x.held.map fun y => if y = m then { m with closed := true } else y }).isSink p = s.isSink p :=
    (show _ = u.isSink p from rfl).trans (isSink_of_core core p)
  rw [clean', if_neg (by decide), State.readBack]
  refine ⟨held, ?_⟩
  rw [State.closeMerged]
  rw [sink, ← sched]
  cases s.isSink p <;> rfl

-- the press ---------------------------------------------------------------------------------------------------------------------------------------

theorem unit_setUnit_self (s : State) (u : Nat) (q : PressUnit) : (s.setUnit u q).unit u = q := (SMap.get_set _ _ _ _ _).trans (if_pos rfl)

theorem setUnit_mems (s : State) (u : Nat) (q : PressUnit) : (s.setUnit u q).mems = s.mems := rfl

/-- A range that nothing stops is aligned and lies in the memories that the device has. -/
theorem jobBad_of_jobStop {s : State} {vat : Bool} {lo n : Nat} (clear : s.jobStop vat lo n = none) :
    lo % 16 = 0 ∧ s.jobBad vat lo n = false := by
  rw [State.jobStop] at clear
  by_cases aligned : lo % 16 = 0
  · rw [if_neg (not_not_intro aligned)] at clear
    refine ⟨aligned, ?_⟩
    rw [State.jobBad, decide_eq_false (not_not_intro aligned), Bool.false_or]
    cases vat with
    | true =>
      rw [if_pos rfl] at clear ⊢
      cases inside : s.vatRange lo (lo + 16 * n) with
      | true => rfl
      | false =>
        rw [inside, if_pos (by decide)] at clear
        exact absurd clear (Option.some_ne_none _)
    | false =>
      rw [if_neg (by decide)] at clear ⊢
      cases inside : s.windowStep lo (lo + 16 * n) with
      | some k => rfl
      | none =>
        rw [inside] at clear
        exact absurd clear (Option.some_ne_none _)
  · rw [if_pos aligned] at clear
    exact absurd clear (Option.some_ne_none _)

/-- Words that are clean and carry no old tag stay clean when they are read (R329, R336). -/
theorem clean_readRange {s : State} {vat : Bool} {a n src : Nat} (aligned : a % 16 = 0)
    (clean : ∀ k, k < n → s.wordPoisoned vat (a + 16 * k) = false ∧ s.staleTag vat (a + 16 * k) = false) :
    (List.range n).find? (fun i => (s.readRange vat a (a + 16 * n) src []).wordPoisoned vat (a + 16 * i)) = none := by
  refine List.find?_eq_none.mpr fun k listed marked => ?_
  have inside := List.mem_range.mp listed
  obtain ⟨-, after_⟩ := wordPoisoned_readRange (s := s) (vat := vat) (n := 4 * n) (src := src) (k := k) aligned (by omega)
  rw [show a + 4 * (4 * n) = a + 16 * n by omega] at after_
  rcases after_ marked with own | ⟨j, first, old⟩
  · exact absurd (own.symm.trans (clean k inside).1) (by decide)
  · exact absurd (old.symm.trans (clean j (Nat.lt_of_le_of_lt first inside)).2) (by decide)

/-- Every byte after words were written from an address on. -/
theorem rdByte_writeFlits (s : State) (vat : Bool) (a : Nat) (fs : List Flit) :
    (∀ x, rdByte ((s.writeRange vat a (flitMem fs) []).mem vat) x =
      if a ≤ x ∧ x < a + 16 * fs.length then (flitMem fs).getD (x - a) 0 else rdByte (s.mem vat) x) ∧
    (s.writeRange vat a (flitMem fs) []).mem (!vat) = s.mem (!vat) := by
  constructor
  · intro x
    rw [State.writeRange_mem s vat vat a _ keepsCells_nil, if_pos rfl, rdByte_wrBytes, flitMem_length]
  · rw [State.writeRange_mem s vat (!vat) a _ keepsCells_nil, if_neg (by cases vat <;> decide)]

theorem readStage_mems (s : State) (h : Held) : (s.readStage h).mems = s.mems := by
  rw [State.readStage]
  split
  · exact State.raise_mems _ _ _ _
  · rfl

/-- A curd as a press entry leaves it (R354). -/
def pressedCurd (width : Nat) (c : Curd) : Curd :=
  if c.rind.poisoned then c
  else if (pressBlock width c.payload).length < c.payload.length then
    { rind := { c.rind with compressed := true, length := BitVec.ofNat 8 (pressBlock width c.payload).length },
      payload := pressBlock width c.payload }
  else { c with rind := { c.rind with rawNoGain := true } }

theorem pressCurd_frame (s : State) (u width path : Nat) (h : Held) : (s.pressCurd u width path h).1.mems = s.mems ∧
    (s.pressCurd u width path h).2 = { h with curd := pressedCurd width h.curd } := by
  have staged : (((s.readStage h).bump (pressCnt u 0) 1).bump (pressCnt u 1) h.curd.payload.length).mems = s.mems := by
    rw [State.bump_mems, State.bump_mems, readStage_mems]
  rw [State.pressCurd, pressedCurd]
  dsimp only
  generalize ((s.readStage h).bump (pressCnt u 0) 1).bump (pressCnt u 1) h.curd.payload.length = t at staged ⊢
  cases h.curd.rind.poisoned with
  | true =>
    rw [if_pos rfl, if_pos rfl]
    dsimp only
    rw [State.raise_mems, State.bump_mems, staged]
    exact ⟨rfl, rfl⟩
  | false =>
    rw [if_neg Bool.false_ne_true, if_neg Bool.false_ne_true]
    split
    · dsimp only
      rw [State.bump_mems, staged]
      exact ⟨rfl, rfl⟩
    · dsimp only
      rw [State.bump_mems, State.bump_mems, staged]
      exact ⟨rfl, rfl⟩

/-- A press entry that takes the only curd that is held. -/
theorem pressAll_single {s : State} {u width path curds flits : Nat} {h : Held} (waits : pressWaits s.time.ct path h = true)
    (some_ : 1 ≤ curds) (fits : h.curd.payload.length ≤ flits) : (s.pressAll u width path curds flits [h]).1.mems = s.mems ∧
    (s.pressAll u width path curds flits [h]).2 = [{ h with curd := pressedCurd width h.curd }] := by
  obtain ⟨mems, pressed⟩ := pressCurd_frame s u width path h
  rw [State.pressAll, waits, Bool.not_true, if_neg Bool.false_ne_true, if_pos ⟨some_, fits⟩]
  dsimp only
  rw [State.pressAll]
  dsimp only
  rw [mems, pressed]
  exact ⟨rfl, rfl⟩

end Sys2Proof.Machine

namespace Sys2Proof.Claims
open Sys2Proof.Machine

/-- A close orders the held curd of its frame for emission (R308, R309). -/
theorem mergeClose_orders {s : State} {p : Nat} (due : p ∈ s.merge.closeDue) : ∃ t, exec (.mergeClose p []) s = .next t ∧
    p ∉ t.merge.closeDue ∧ t.window = s.window ∧ t.vatMem = s.vatMem ∧
    ∀ m, s.merge.held = [m] → m.path = p → m.closed = false →
      m.curd.rind.fn = s.time.fn.setWidth 32 - BitVec.ofInt 32 (s.closeOffset p) →
      s.anyPoison true m.addr (m.addr + curdBytes m.curd) = false → t.merge.held = [{ m with closed := true }] ∧
      t.sched.held = if s.isSink p then s.sched.held else s.sched.held ++ [{ curd := m.curd, path := p, kind := 2, lane := m.lane }] := by
  have arm : exec (.mergeClose p []) s = execMergeClose p [] s := rfl
  rw [arm, execMergeClose, if_pos due]
  generalize cleared : (s.setMerge fun m => { m with closeDue := m.closeDue.filter (· ≠ p) }) = u
  have mems : u.mems = s.mems := by rw [← cleared]; rfl
  have gone : p ∉ u.merge.closeDue := by
    rw [← cleared]
    exact fun listed => absurd rfl (of_decide_eq_true (List.mem_filter.mp listed).2)
  have held : u.merge.held = s.merge.held := by rw [← cleared]; rfl
  have sched : u.sched = s.sched := by rw [← cleared]; rfl
  have core : u.core = s.core := by rw [← cleared]; rfl
  have time : u.time = s.time := by rw [← cleared]; rfl
  have offset : u.closeOffset p = s.closeOffset p := by rw [← cleared]; rfl
  have marks (a b : Nat) : u.anyPoison true a b = s.anyPoison true a b := by rw [← cleared]; rfl
  dsimp only
  rw [time, offset, held]
  obtain ⟨read, due'⟩ := readBack_frame p (sortBy closeLe (s.merge.held.filter fun m => m.path == p &&
    m.curd.rind.fn == s.time.fn.setWidth 32 - BitVec.ofInt 32 (s.closeOffset p) && !m.closed)) u
  obtain ⟨window, vatMem⟩ := Prod.mk.inj (read.trans mems)
  refine ⟨_, rfl, by rw [due']; exact gone, window, vatMem, fun m alone path open_ frame clean => ?_⟩
  have listed : sortBy closeLe (s.merge.held.filter fun m => m.path == p &&
      m.curd.rind.fn == s.time.fn.setWidth 32 - BitVec.ofInt 32 (s.closeOffset p) && !m.closed) = [m] := by
    rw [alone, List.filter_cons_of_pos (by rw [path, frame, open_, beq_self_eq_true, beq_self_eq_true]; rfl)]
    rfl
  obtain ⟨closed, out⟩ := readBack_single (s := u) (p := p) (held.trans alone) ((marks _ _).trans clean)
  rw [listed, closed, out, isSink_of_core core, sched]
  exact ⟨rfl, rfl⟩

/-- MERGE_ENABLE leaves EN pending (R314). -/
theorem mergeEnable_pends {s : State} {port : Nat} {value : Word} (writes : canWrite s port 5 = true) (on : value.getLsbD 31 = true)
    (role : s.role = 2) (allowed : wrMergeCfg s value = .ok (s.pendReg .scMergeCfg (value &&& 0x80003F3F)))
    (held : s.protected (s.pendReg .scMergeCfg (value &&& 0x80003F3F)) = true) :
    exec (.mergeEnable port value) s = .next (s.pendReg .scMergeCfg (value &&& 0x80003F3F)) := by
  have arm : exec (.mergeEnable port value) s = execMergeEnable port value s := rfl
  rw [arm, execMergeEnable, writes, on, if_pos (by decide), allowed, inMergeRole, role, stateThen, bne_self_eq_false,
    if_neg (by decide), guarded, if_pos held, writeOr]

/-- The slot whose time is over is emptied (R311). -/
theorem mergeSlotEmpty_empties {s : State} (due : s.merge.emptyDue = true) : ∃ t, exec .mergeSlotEmpty s = .next t ∧
    t = { s with merge := t.merge } ∧ t.merge.emptyDue = false ∧ SMap.find t.merge.used (s.slotOf (s.time.fn.setWidth 32)) = none ∧
    ∀ x, x ∈ t.merge.held ↔ x ∈ s.merge.held ∧ ¬(s.slotOf x.curd.rind.fn = s.slotOf (s.time.fn.setWidth 32) ∧
      sdiff 32 x.curd.rind.fn.toNat (s.time.fn.setWidth 32 - BitVec.ofNat 32 s.mergeSlots).toNat ≤ 0) := by
  have arm : exec .mergeSlotEmpty s = execMergeSlotEmpty s := rfl
  rw [arm, execMergeSlotEmpty, if_pos due]
  refine ⟨_, rfl, rfl, rfl, (SMap.find_erase _ _ _).trans (if_pos rfl), fun x => ?_⟩
  refine List.mem_filter.trans (and_congr_right fun _ => ?_)
  rw [Bool.not_eq_true', Bool.and_eq_false_iff, beq_eq_false_iff_ne, decide_eq_false_iff_not, Decidable.not_and_iff_not_or_not]

/-- What a job does once its source is read: it expands, opens or extends a block, or closes it (R352, R356, R357). -/
def endJob (t : State) (r : Req) (dst : Nat) (ws : List Flit) : State × Option Answer :=
  if (r.w 0).getLsbD 4 then
    match expandBlock ws (fld (r.w 6) 12 0) with
    | .words out => (t.writeRange ((r.w 0).getLsbD 17) dst (flitMem out) [], some { status := .ok, param := out.length })
    | .bad c => (t, some { status := .outOfRange, param := c * 2 ^ 16 })
    | .large => no t .spaceExhausted
  else if (r.w 0).getLsbD 12 then
    yes (t.setUnit (fld (r.w 0) 1 0) { open_ := true, words := ws, width := BitVec.ofNat 2 (fld (r.w 0) 9 8),
                                       dstVat := (r.w 0).getLsbD 17, dst, dstMax := fld (r.w 6) 12 0 })
  else (t.setUnit (fld (r.w 0) 1 0) {}).closeBlock (fld (r.w 0) 1 0) (fld (r.w 0) 9 8) ws ((r.w 0).getLsbD 17) dst (fld (r.w 6) 12 0) []

/-- A job on a closed unit whose ranges and source are sound comes to its end. -/
theorem exec_pressJob {r : Req} {s v : State} {src dst : Nat} {a : Answer} (acc : Accepts s 0x600 r true) (released : s.rel 5 = true)
    (from_ : jobAddr ((r.w 0).getLsbD 16) (r.w 1) (r.w 2) = some src) (to_ : jobAddr ((r.w 0).getLsbD 17) (r.w 3) (r.w 4) = some dst)
    (some_ : 1 ≤ fld (r.w 6) 12 0) (most : fld (r.w 6) 12 0 ≤ 4100)
    (readable : s.jobStop ((r.w 0).getLsbD 16) src (fld (r.w 5) 12 0) = none)
    (writable : s.jobStop ((r.w 0).getLsbD 17) dst (fld (r.w 6) 12 0) = none) (free : s.unitScheduled (fld (r.w 0) 1 0) = false)
    (closed : (s.unit (fld (r.w 0) 1 0)).open_ = false)
    (clean : ∀ k, k < fld (r.w 5) 12 0 →
      s.wordPoisoned ((r.w 0).getLsbD 16) (src + 16 * k) = false ∧ s.staleTag ((r.w 0).getLsbD 16) (src + 16 * k) = false)
    (width : (!(r.w 0).getLsbD 4 && fld (r.w 0) 9 8 == 3) = false) (mode : ((r.w 0).getLsbD 4 && (r.w 0).getLsbD 12) = false)
    (words : (if (r.w 0).getLsbD 4 then decide (fld (r.w 5) 12 0 < 2 ∨ 4100 < fld (r.w 5) 12 0)
      else decide (fld (r.w 5) 12 0 < 1 ∨ 4096 < fld (r.w 5) 12 0)) = false)
    (ends : endJob ((s.startCmd 0x600 r).readRange ((r.w 0).getLsbD 16) src (src + 16 * fld (r.w 5) 12 0) 4 []) r dst
      (rdFlits (s.mem ((r.w 0).getLsbD 16)) src (fld (r.w 5) 12 0)) = (v, some a)) :
    exec (.pressJob r []) s = .next (ran 0x600 r a v) := by
  have arm : exec (.pressJob r []) s = execPressJob r [] s := rfl
  obtain ⟨aligned, goodSrc⟩ := jobBad_of_jobStop readable
  obtain ⟨-, goodDst⟩ := jobBad_of_jobStop writable
  rw [arm, execPressJob]
  refine congrArg Host.Outcome.next (runOp_of_answer acc ?_)
  have goodSrc' : (s.startCmd 0x600 r).jobBad ((r.w 0).getLsbD 16) src (fld (r.w 5) 12 0) = false := goodSrc
  have goodDst' : (s.startCmd 0x600 r).jobBad ((r.w 0).getLsbD 17) dst (fld (r.w 6) 12 0) = false := goodDst
  have readable' : (s.startCmd 0x600 r).jobStop ((r.w 0).getLsbD 16) src (fld (r.w 5) 12 0) = none := readable
  have writable' : (s.startCmd 0x600 r).jobStop ((r.w 0).getLsbD 17) dst (fld (r.w 6) 12 0) = none := writable
  have released' : (s.startCmd 0x600 r).rel 5 = true := released
  have free' : (s.startCmd 0x600 r).unitScheduled (fld (r.w 0) 1 0) = false := free
  have closed' : ((s.startCmd 0x600 r).unit (fld (r.w 0) 1 0)).open_ = false := closed
  have clean' := clean_readRange (s := s.startCmd 0x600 r) (src := 4) aligned clean
  have bytes : ((s.startCmd 0x600 r).readRange ((r.w 0).getLsbD 16) src (src + 16 * fld (r.w 5) 12 0) 4 []).mem ((r.w 0).getLsbD 16) =
      s.mem ((r.w 0).getLsbD 16) := State.mem_of_mems ((State.readRange_mems _ _ _ _ _ keepsCells_nil).trans rfl) _
  dsimp only
  rw [from_, to_]
  dsimp only
  rw [width, mode, beq_false_of_ne (by omega), decide_eq_false (Nat.not_lt.mpr most), words, goodSrc', goodDst', if_neg (by decide),
    released', if_neg (by decide), readable', writable', Option.orElse_none]
  dsimp only
  rw [closed', Bool.and_false, Bool.false_and, if_neg (by decide), free', Bool.false_and, Bool.false_or, if_neg (by decide), clean']
  dsimp only
  rw [bytes, if_neg Bool.false_ne_true, ← ends]
  rfl

/-- The close of a block that its compression makes smaller, and of one that it does not (R352, R356). -/
theorem closeBlock_cases (s : State) (u width : Nat) (ws : List Flit) (vat : Bool) (dst dstMax : Nat) :
    ((pressBlock width ws).length ≤ min dstMax (ws.length - 1) → s.closeBlock u width ws vat dst dstMax [] =
      (s.writeRange vat dst (flitMem (pressBlock width ws)) [], some { status := .ok, param := (pressBlock width ws).length })) ∧
    (ws.length - 1 < (pressBlock width ws).length → ws.length - 1 ≤ dstMax →
      s.closeBlock u width ws vat dst dstMax [] = (s.bump (pressCnt u 3) 1, some { status := .noGain })) := by
  refine ⟨fun fits => ?_, fun large room => ?_⟩
  · rw [State.closeBlock]
    exact if_neg (Nat.not_lt.mpr fits)
  · rw [State.closeBlock]
    exact (if_pos (Nat.lt_of_le_of_lt (Nat.min_le_right _ _) large)).trans (if_pos room)

/-- What is asked of a job that comes to its end. -/
structure Sound (s : State) (r : Req) (src dst : Nat) : Prop where
  accepted : Accepts s 0x600 r true
  released : s.rel 5 = true
  source : jobAddr ((r.w 0).getLsbD 16) (r.w 1) (r.w 2) = some src
  target : jobAddr ((r.w 0).getLsbD 17) (r.w 3) (r.w 4) = some dst
  room : 1 ≤ fld (r.w 6) 12 0 ∧ fld (r.w 6) 12 0 ≤ 4100
  readable : s.jobStop ((r.w 0).getLsbD 16) src (fld (r.w 5) 12 0) = none
  writable : s.jobStop ((r.w 0).getLsbD 17) dst (fld (r.w 6) 12 0) = none
  free : s.unitScheduled (fld (r.w 0) 1 0) = false
  closed : (s.unit (fld (r.w 0) 1 0)).open_ = false
  clean : ∀ k, k < fld (r.w 5) 12 0 →
    s.wordPoisoned ((r.w 0).getLsbD 16) (src + 16 * k) = false ∧ s.staleTag ((r.w 0).getLsbD 16) (src + 16 * k) = false

/-- The state that a sound job has read its source in. -/
def sourceRead (s : State) (r : Req) (src : Nat) : State :=
  (s.startCmd 0x600 r).readRange ((r.w 0).getLsbD 16) src (src + 16 * fld (r.w 5) 12 0) 4 []

theorem sourceRead_mems (s : State) (r : Req) (src : Nat) : (sourceRead s r src).mems = s.mems :=
  (State.readRange_mems _ _ _ _ _ keepsCells_nil).trans rfl

section jobs
variable {s : State} {r : Req} {src dst : Nat} (sound : Sound s r src dst)
include sound

theorem Sound.ends {v : State} {a : Answer} (width : (!(r.w 0).getLsbD 4 && fld (r.w 0) 9 8 == 3) = false)
    (mode : ((r.w 0).getLsbD 4 && (r.w 0).getLsbD 12) = false)
    (words : (if (r.w 0).getLsbD 4 then decide (fld (r.w 5) 12 0 < 2 ∨ 4100 < fld (r.w 5) 12 0)
      else decide (fld (r.w 5) 12 0 < 1 ∨ 4096 < fld (r.w 5) 12 0)) = false)
    (ends : endJob (sourceRead s r src) r dst (rdFlits (s.mem ((r.w 0).getLsbD 16)) src (fld (r.w 5) 12 0)) = (v, some a)) :
    exec (.pressJob r []) s = .next (ran 0x600 r a v) := by
  obtain ⟨accepted, released, source, target, ⟨some_, most⟩, readable, writable, free, closed, clean⟩ := sound
  exact exec_pressJob accepted released source target some_ most readable writable free closed clean width mode words ends

/-- A job that compresses comes to its end. -/
theorem Sound.compresses {v : State} {a : Answer} (compress : (r.w 0).getLsbD 4 = false) (width : fld (r.w 0) 9 8 ≠ 3)
    (some_ : 1 ≤ fld (r.w 5) 12 0) (most : fld (r.w 5) 12 0 ≤ 4096)
    (ends : endJob (sourceRead s r src) r dst (rdFlits (s.mem ((r.w 0).getLsbD 16)) src (fld (r.w 5) 12 0)) = (v, some a)) :
    exec (.pressJob r []) s = .next (ran 0x600 r a v) := by
  refine sound.ends ?_ ?_ ?_ ends
  · rw [beq_false_of_ne width, Bool.and_false]
  · rw [compress, Bool.false_and]
  · rw [compress, if_neg (by decide)]
    exact decide_eq_false (by omega)

/-- The three ends of a job that compresses (R352, R356, R357). -/
theorem Sound.compress_ends {ws : List Flit} (data : rdFlits (s.mem ((r.w 0).getLsbD 16)) src (fld (r.w 5) 12 0) = ws)
    (compress : (r.w 0).getLsbD 4 = false) (width : fld (r.w 0) 9 8 ≠ 3) (some_ : 1 ≤ fld (r.w 5) 12 0) (most : fld (r.w 5) 12 0 ≤ 4096) :
    ((r.w 0).getLsbD 12 = true → ∃ v : State, exec (.pressJob r []) s = .next (ran 0x600 r { status := .ok } v) ∧
      v.mem ((r.w 0).getLsbD 17) = s.mem ((r.w 0).getLsbD 17) ∧
      v.unit (fld (r.w 0) 1 0) = { open_ := true, words := ws, width := BitVec.ofNat 2 (fld (r.w 0) 9 8), dstVat := (r.w 0).getLsbD 17, dst,
                                   dstMax := fld (r.w 6) 12 0 }) ∧
    ((r.w 0).getLsbD 12 = false → (pressBlock (fld (r.w 0) 9 8) ws).length ≤ min (fld (r.w 6) 12 0) (fld (r.w 5) 12 0 - 1) → ∃ v : State,
      exec (.pressJob r []) s = .next (ran 0x600 r { status := .ok, param := (pressBlock (fld (r.w 0) 9 8) ws).length } v) ∧
      (∀ x, rdByte (v.mem ((r.w 0).getLsbD 17)) x = if dst ≤ x ∧ x < dst + 16 * (pressBlock (fld (r.w 0) 9 8) ws).length then
        (flitMem (pressBlock (fld (r.w 0) 9 8) ws)).getD (x - dst) 0 else rdByte (s.mem ((r.w 0).getLsbD 17)) x) ∧
      v.mem (!(r.w 0).getLsbD 17) = s.mem (!(r.w 0).getLsbD 17)) ∧
    ((r.w 0).getLsbD 12 = false → fld (r.w 5) 12 0 - 1 < (pressBlock (fld (r.w 0) 9 8) ws).length → fld (r.w 5) 12 0 - 1 ≤ fld (r.w 6) 12 0 →
      ∃ v : State, exec (.pressJob r []) s = .next (ran 0x600 r { status := .noGain } v) ∧ v.window = s.window ∧ v.vatMem = s.vatMem) := by
  have mems := sourceRead_mems s r src
  have count : ws.length = fld (r.w 5) 12 0 := by rw [← data, rdFlits_length]
  have closes (off : (r.w 0).getLsbD 12 = false) : endJob (sourceRead s r src) r dst ws =
      ((sourceRead s r src).setUnit (fld (r.w 0) 1 0) {}).closeBlock (fld (r.w 0) 1 0) (fld (r.w 0) 9 8) ws ((r.w 0).getLsbD 17) dst
        (fld (r.w 6) 12 0) [] := by
    rw [endJob, compress, if_neg (by decide), off, if_neg (by decide)]
  obtain ⟨fits, large⟩ := closeBlock_cases ((sourceRead s r src).setUnit (fld (r.w 0) 1 0) {}) (fld (r.w 0) 1 0) (fld (r.w 0) 9 8) ws
    ((r.w 0).getLsbD 17) dst (fld (r.w 6) 12 0)
  rw [count] at fits large
  refine ⟨fun append => ?_, fun off small => ?_, fun off above room => ?_⟩
  · refine ⟨_, sound.compresses compress width some_ most (by rw [data, endJob, compress, if_neg (by decide), append, if_pos rfl]; rfl), ?_,
      unit_setUnit_self _ _ _⟩
    exact State.mem_of_mems ((setUnit_mems _ _ _).trans mems) _
  · obtain ⟨written, other⟩ := rdByte_writeFlits ((sourceRead s r src).setUnit (fld (r.w 0) 1 0) {}) ((r.w 0).getLsbD 17) dst
      (pressBlock (fld (r.w 0) 9 8) ws)
    refine ⟨_, sound.compresses compress width some_ most (by rw [data, closes off, fits small]), fun x => ?_, other.trans
      (State.mem_of_mems ((setUnit_mems _ _ _).trans mems) _)⟩
    rw [written x, State.mem_of_mems ((setUnit_mems _ _ _).trans mems)]
  · refine ⟨_, sound.compresses compress width some_ most (by rw [data, closes off, large above room]), ?_⟩
    exact Prod.mk.inj ((State.bump_mems _ _ _).trans ((setUnit_mems _ _ _).trans mems))

/-- The end of a job that expands (R350, R356). -/
theorem Sound.expand_ends {ws out : List Flit} (data : rdFlits (s.mem ((r.w 0).getLsbD 16)) src (fld (r.w 5) 12 0) = ws)
    (expand : (r.w 0).getLsbD 4 = true) (off : (r.w 0).getLsbD 12 = false) (some_ : 2 ≤ fld (r.w 5) 12 0) (most : fld (r.w 5) 12 0 ≤ 4100)
    (expanded : expandBlock ws (fld (r.w 6) 12 0) = .words out) : ∃ v : State,
    exec (.pressJob r []) s = .next (ran 0x600 r { status := .ok, param := out.length } v) ∧
    (∀ x, rdByte (v.mem ((r.w 0).getLsbD 17)) x = if dst ≤ x ∧ x < dst + 16 * out.length then (flitMem out).getD (x - dst) 0
      else rdByte (s.mem ((r.w 0).getLsbD 17)) x) ∧ v.mem (!(r.w 0).getLsbD 17) = s.mem (!(r.w 0).getLsbD 17) := by
  have mems := sourceRead_mems s r src
  obtain ⟨written, other⟩ := rdByte_writeFlits (sourceRead s r src) ((r.w 0).getLsbD 17) dst out
  refine ⟨_, sound.ends ?_ ?_ ?_ (by rw [data, endJob, expand, if_pos rfl, expanded]), fun x => ?_, other.trans (State.mem_of_mems mems _)⟩
  · rw [expand, Bool.not_true, Bool.false_and]
  · rw [off, Bool.and_false]
  · rw [expand, if_pos rfl]
    exact decide_eq_false (by omega)
  · rw [written x, State.mem_of_mems mems]

end jobs

/-- A flush closes the open block (R357). -/
theorem pressFlush_closes {s : State} {r : Req} {q : PressUnit} {out : List Flit} (acc : Accepts s 0x601 r true) (released : s.rel 5 = true)
    (unit : s.unit (r.p 1 0) = q) (open_ : q.open_ = true) (writable : s.jobStop q.dstVat q.dst q.dstMax = none)
    (block : pressBlock q.width.toNat q.words = out) (fits : out.length ≤ min q.dstMax (q.words.length - 1)) : ∃ v : State,
    exec (.pressFlush r []) s = .next (ran 0x601 r { status := .ok, param := out.length } v) ∧ v.unit (r.p 1 0) = {} ∧
    (∀ x, rdByte (v.mem q.dstVat) x = if q.dst ≤ x ∧ x < q.dst + 16 * out.length then (flitMem out).getD (x - q.dst) 0
      else rdByte (s.mem q.dstVat) x) ∧ v.mem (!q.dstVat) = s.mem (!q.dstVat) := by
  have arm : exec (.pressFlush r []) s = execPressFlush r [] s := rfl
  subst block
  have released' : (s.startCmd 0x601 r).rel 5 = true := released
  have unit' : (s.startCmd 0x601 r).unit (r.p 1 0) = q := unit
  have writable' : (s.startCmd 0x601 r).jobStop q.dstVat q.dst q.dstMax = none := writable
  have mems : ((s.startCmd 0x601 r).setUnit (r.p 1 0) {}).mems = s.mems := (setUnit_mems _ _ _).trans rfl
  obtain ⟨written, other⟩ := rdByte_writeFlits ((s.startCmd 0x601 r).setUnit (r.p 1 0) {}) q.dstVat q.dst (pressBlock q.width.toNat q.words)
  refine ⟨((s.startCmd 0x601 r).setUnit (r.p 1 0) {}).writeRange q.dstVat q.dst (flitMem (pressBlock q.width.toNat q.words)) [], ?_, ?_,
    fun x => ?_, other.trans (State.mem_of_mems mems _)⟩
  · rw [arm, execPressFlush]
    refine congrArg Host.Outcome.next (runOp_of_answer acc ?_)
    dsimp only
    rw [unit', released', if_neg (by decide), open_, if_neg (by decide), writable']
    exact (closeBlock_cases _ _ _ _ _ _ _).1 fits
  · have press := congrArg Rest.press (State.writeRange_rest ((s.startCmd 0x601 r).setUnit (r.p 1 0) {}) q.dstVat q.dst
      (flitMem (pressBlock q.width.toNat q.words)) [])
    refine Eq.trans ?_ (unit_setUnit_self (s.startCmd 0x601 r) (r.p 1 0) {})
    exact congrArg (fun m : SMap PressUnit => SMap.get {} m (r.p 1 0)) press
  · rw [written x, State.mem_of_mems mems]

/-- A press entry compresses the curd that waits (R354). -/
theorem pressEntry_compresses {s u : State} {i : Nat} {e : Entry} {h : Held} (starts : s.atStart i 5 = some e) (clear : s.time.infForce = false)
    (closed : ((s.advanceTo (s.tickCt + BitVec.ofNat 64 (e.start * 512))).setBegun i).closeHits.closeRennet = u) (alone : u.sched.held = [h])
    (waits : pressWaits u.time.ct (fld e.w3 5 0) h = true) (some_ : 1 ≤ fld e.w3 15 8) (fits : h.curd.payload.length ≤ fld e.w3 31 16) :
    ∃ t, exec (.pressEntry i) s = .next t ∧ t.window = u.window ∧ t.vatMem = u.vatMem ∧
      t.sched.held = [{ h with curd := pressedCurd (fld e.w3 7 6) h.curd }] := by
  have arm : exec (.pressEntry i) s = execPressEntry i s := rfl
  obtain ⟨-, -, -, -, -, inf, -⟩ := begun_frame s (s.tickCt + BitVec.ofNat 64 (e.start * 512)) i
  obtain ⟨mems, pressed⟩ := pressAll_single (u := e.idx) (width := fld e.w3 7 6) waits some_ fits
  rw [arm, execPressEntry, State.runEntry, starts]
  dsimp only
  rw [inf, clear, if_neg Bool.false_ne_true, closed, alone]
  obtain ⟨window, vatMem⟩ := Prod.mk.inj mems
  exact ⟨_, rfl, window, vatMem, pressed⟩

/-- Settles O56: the write of EN, the close and the emptied slot, and the ends of jobs, flushes and entries. -/
theorem mergingClosesAndPressCompresses : Obligations.MergingClosesAndPressCompresses := by
  intro r i port p value s
  refine ⟨fun writes _ on role off two paths ready stack ring own lanes held =>
      mergeEnable_pends writes on role (wrMergeCfg_enables on off two paths ready stack ring own lanes) held,
    fun due => mergeClose_orders due, fun due => mergeSlotEmpty_empties due, ?_, ?_, ?_⟩
  · rintro src dst n max u w sv dv ws acc released rfl rfl source target rfl rfl some_ most readable writable rfl rfl free closed clean data
    have sound : Sound s r src dst := ⟨acc, released, source, target, ⟨some_, most⟩, readable, writable, free, closed, clean⟩
    exact ⟨fun compress width low high => sound.compress_ends data compress width low high,
      fun expand off low high out expanded => sound.expand_ends data expand off low high expanded⟩
  · exact fun q out acc released unit open_ writable block fits => pressFlush_closes acc released unit open_ writable block fits
  · intro e h out u starts clear closed alone waits some_ fits block
    obtain ⟨t, run, window, -, held⟩ := pressEntry_compresses starts clear closed alone waits some_ fits
    subst block
    refine ⟨t, run, window, fun bad => ?_, fun clean small => ?_, fun clean large => ?_⟩
    · rw [held, pressedCurd, if_pos bad]
    · rw [held, pressedCurd, clean, if_neg Bool.false_ne_true, if_pos small]
    · rw [held, pressedCurd, clean, if_neg Bool.false_ne_true, if_neg (Nat.not_lt.mpr large)]

end Sys2Proof.Claims
end
